-- ==== Sys2Proof/Word.lean ====
section
/-! DEFINITION. The word types of the module: bytes, the words its registers hold, and the keyed tables
that hold replicated state (ports, tiles, contexts, queue pairs and so on). -/
namespace Sys2Proof

/-- One byte; every multi-byte field of the interface is little-endian (R350). -/
abbrev Byte := BitVec 8
abbrev U16 := BitVec 16
abbrev U32 := BitVec 32
abbrev U64 := BitVec 64

/-- A table of records kept by number: entries of rising number, an absent entry meaning "none" or
"at its reset value", whichever the reader of the table says. -/
abbrev Tbl (α : Type) := List (Nat × α)

end Sys2Proof
end

