-- ==== Sys2Proof/Machine/RouteState.lean ====
section
/-! DEFINITION. Packets, and the state of addressing and routing: identity, the route tables, jobs and ranks, and the
router's per-port counters (R59 to R117). -/
namespace Sys2Proof.Machine

/-- The route header of a packet (R74). `rsvd` fields are zero on every packet the module builds. -/
structure RouteHdr where
  dst : BitVec 20
  src : BitVec 20
  via : BitVec 12
  cls : BitVec 2       -- 0 LOCAL, 1 MIN, 2 NMIN, 3 DETOUR
  level : BitVec 2
  cand : BitVec 3
  hops : BitVec 4
  rsvd0 : BitVec 1
  stamp : BitVec 32
  tc : BitVec 3
  vn : BitVec 2        -- 0 REQ, 1 RSP, 2 CTL, 3 EXP
  ordered : BitVec 1
  cong : BitVec 1
  copy : BitVec 1
  rsvd1 : BitVec 2
  len : BitVec 14
  flowHash : BitVec 8
deriving DecidableEq, Repr

/-- A packet: its route header and the bytes after it. -/
structure Packet where
  hdr : RouteHdr
  body : List Byte
deriving DecidableEq, Repr

/-- The common transport header (R173). -/
structure TransHdr where
  opcode : BitVec 5
  first : BitVec 1
  last : BitVec 1
  ackReq : BitVec 1
  prot : BitVec 1
  notify : BitVec 1
  gen : BitVec 8
  dstQpn : BitVec 22
  psn : BitVec 24
  srcQpn : BitVec 22
  ssn : BitVec 16
  retry : BitVec 3
  rsvd : BitVec 3
  ledger : BitVec 20
deriving DecidableEq, Repr

/-- A job descriptor (R64). -/
structure JobDesc where
  base : Nat
  count : Nat
  policy : Nat
  prot : Bool
deriving DecidableEq, Repr

/-- A rank table entry (R65); one that is absent is all zero. -/
structure RankEntry where
  feid : BitVec 20
  pset : Nat
  valid : Bool
deriving DecidableEq, Repr

/-- A path candidate (R86). -/
structure Cand where
  cls : Nat
  via : Nat
  exitPos : Nat
  exitPin : Bool
  weight : Nat
  valid : Bool
deriving DecidableEq, Repr

/-- A group route entry (R85). -/
structure GroupRoute where
  cands : List Cand
  pair : Nat           -- TC0_PAIR byte
deriving DecidableEq, Repr


/-- One port's role (R70). -/
structure Role where
  role : Nat           -- 0 UNUSED, 1 ROW, 2 COL, 3 GLOBAL
  index : Nat
  group : Nat
  en : Bool
deriving DecidableEq, Repr

/-- Counters of one VC of one port (R113, R115). -/
structure VcCtr where
  txPkt : U64
  txFlit : U64
  txByte : U64
  rxPkt : U64
  rxFlit : U64
  rxByte : U64
  drop : U64
  replayFlit : U64
  stallNs : U64
  wmark : Nat
deriving DecidableEq, Repr

/-- Routing state of one port. -/
structure RPort where
  role : Role
  mismatch : Bool
  thresh : Nat
  drops : List U64     -- RT_DROP[0..6]
  vcs : Tbl VcCtr      -- absent: `VcCtr.reset`
deriving DecidableEq, Repr

/-- Addressing and routing of the module. `groupRoutes`, `exits`, `jobs` and `ranks` are the tables the manager writes;
every tile's cached copies are invalidated before a command that changes an entry completes (R68, R87), so a lookup is a
lookup of these. -/
structure Route where
  group : Nat
  position : Nat
  valid : Bool
  idSet : Bool             -- SET_IDENTITY was accepted since this device reset
  systemGroups : Nat
  policy : Nat
  decayUs : Nat
  decayAt : Nat            -- tick of the last CONG_DECAY
  noPath : U64
  tc0PairMissing : U64
  pset : List Nat
  ports : Tbl RPort
  exits : Tbl Nat          -- absent: 0
  groups : Tbl GroupRoute  -- absent: every candidate invalid
  jobs : Tbl JobDesc
  ranks : Tbl RankEntry
  noPathAt : Tbl Nat       -- per destination group, tick of the last ROUTE_NO_PATH event (R90)
  noticeAt : Tbl Nat       -- per source module × 4096 + group, tick of the last PATH_FAULT notice (R104)
  notices : Nat            -- PATH_FAULT notices sent (R553)
  orderKey : U64           -- order_key (R98)
deriving DecidableEq, Repr

/-- A packet in a till: the port it arrived over and its VC (R81). -/
structure TillPkt where
  pkt : Packet
  flits : Nat
  vc : Nat
  old : Bool           -- received before the last declaration: its coins are no longer counted
  blocked : Bool       -- a TC0 packet already counted as blocked (R139)
deriving DecidableEq, Repr

def Role.reset : Role := { role := 0, index := 0, group := 0, en := false }

def VcCtr.reset : VcCtr :=
  { txPkt := 0, txFlit := 0, txByte := 0, rxPkt := 0, rxFlit := 0, rxByte := 0, drop := 0, replayFlit := 0, stallNs := 0,
    wmark := 0 }

def RPort.reset : RPort :=
  { role := Role.reset, mismatch := false, thresh := 1024, drops := List.replicate 7 0, vcs := [] }

def Cand.none : Cand := { cls := 0, via := 0, exitPos := 0, exitPin := false, weight := 0, valid := false }

def GroupRoute.reset : GroupRoute := { cands := List.replicate 8 Cand.none, pair := 0 }

/-- Routing after device reset with the sampled position (R62, R117). -/
def Route.reset (position : Nat) (orderKey : U64) : Route :=
  { group := 0xFFF, position := position, valid := false, idSet := false, systemGroups := 0, policy := 2, decayUs := 20,
    decayAt := 0, noPath := 0, tc0PairMissing := 0, pset := List.replicate 16 0xFF, ports := [], exits := [], groups := [],
    jobs := [], ranks := [], noPathAt := [], noticeAt := [], notices := 0, orderKey := orderKey }

end Sys2Proof.Machine
end

