-- ==== Sys2Proof/Machine/CollState.lean ====
section
/-! DEFINITION. State of collective nodes and of ledgers (R248 to R287). -/
namespace Sys2Proof.Machine

/-- A value of an element as the clearing units hold it: its bits in the carrier, a value with its index (R268), or an exact
sum: SPECIAL (0 FINITE, 1 +INF, 2 −INF, 3 NAN), NEGZ and V in LSB units (R271). -/
inductive CVal where
  | plain (bits : Nat)
  | loc (bits idx : Nat)
  | exact (special : Nat) (negz : Bool) (v : Int)
deriving DecidableEq, Repr

/-- One accepted element of a contribution: contributor 0 is the node itself, 1 + k its child in slot k. -/
structure Contrib where
  who : Nat
  elem : Nat
  val : CVal
deriving DecidableEq, Repr

/-- Node states (R253). -/
inductive NodeSt where
  | linking | ready | busy | failed
deriving DecidableEq, Repr

/-- A payload accepted before the local entry of its instance started (R256). -/
structure EarlyPut where
  qpn : Nat                -- the local QP it came on
  elem0 : Nat
  data : List Byte
deriving DecidableEq, Repr

/-- One segment of an instance at a node. -/
structure Seg where
  parts : List Contrib     -- in the order accepted
  sentUp : Bool            -- the combined partial is on its way up, or its result on its way to the destination
  ups : Nat                -- its up PUTs not yet acknowledged
deriving DecidableEq, Repr

/-- An instance context (R256). -/
structure Inst where
  num : Nat                -- 0 to 127
  started : Bool           -- the local entry has started
  ctx : Nat                -- context and chain of the local entry; meaningful while `started`
  serial : Nat
  kind : Nat
  op : Nat
  type : Nat
  exact : Bool
  sat : Bool
  count : Nat
  slkey : Nat
  sloff : Nat
  dlkey : Nat
  dloff : Nat
  segs : Tbl Seg           -- segments in a slot, by number
  arrived : List Nat       -- children whose barrier arrival has been accepted
  arrivalSent : Bool
  release : Option U64     -- T_rel
  late : Bool
  nextOwn : Nat            -- next segment of the stripe whose own contribution, or broadcast data, is to be read
  reading : Bool           -- broadcast data is being read
  downs : Nat              -- down PUTs not yet acknowledged, and reads of the destination for them
  placing : Nat            -- placements into the destination not yet accepted
  placed : Nat             -- elements of results placed
  placedBy : Tbl Nat       -- elements of results placed, by segment, until the segment goes on to the children
  lastAt : Nat             -- tick of the last accepted contribution, result or arrival, or of the start
  early : List EarlyPut
deriving DecidableEq, Repr

/-- A collective node (R250). -/
structure Node where
  job : Nat
  owner : Nat
  tile : Nat
  rank : Nat
  members : Nat
  stripe : Nat
  stripes : Nat
  degree : Nat
  parentSlot : Nat
  root : Bool
  fixed : Bool
  prot : Bool
  accClass : Nat
  segLog2 : Nat
  slots : Nat
  st : NodeSt
  next : Nat               -- NEXT_INSTANCE
  parentQpn : Nat
  parentRkey : Nat
  childQpn : List Nat
  childRkey : List Nat
  windowRkey : Nat
  releaseDelay : Nat
  backoff : Nat
  timeoutMs : Nat
  lead : Nat               -- the member's stripe-0 node
  insts : List Inst        -- at most 2, in order of their number
  skipped : List Nat       -- numbers after NEXT_INSTANCE whose entries have ended without starting (R255)
  failRank : Nat           -- FAILED: GROUP_RANK of the detecting member (R285)
deriving DecidableEq, Repr

/-- A ledger that is allocated (R279). -/
structure Ledger where
  count : Nat              -- 0 to 2^63 − 1
  poison : Bool
  owner : Nat              -- context
  remote : Bool
  share : Bool
deriving DecidableEq, Repr

end Sys2Proof.Machine
end

