-- ==== Sys2Proof/Machine/HostState.lean ====
section
/-! DEFINITION. State of the PCI Express endpoints and of the five mailboxes (R322 to R373). -/
namespace Sys2Proof.Machine

/-- A PCI Express function: endpoint numbered as its FEID EP, and 0 for its PF or 1 to 64 for its VF. -/
structure FnId where
  ep : Fin 4
  fn : Nat
deriving DecidableEq, Repr


/-- One MSI-X vector: its table entry and its pending bit (R325, R328). -/
structure Vector where
  addr : U64
  data : U32
  masked : Bool
  pending : Bool
deriving DecidableEq, Repr

/-- What a non-posted request of the module is for (R335): the read of a piece of transfer `id`, one read of its walk, the
AtomicOp of its set_accessed, or its AtomicOp. -/
inductive TagUse where
  | xfer (id : Nat)
  | walk (id : Nat)
  | setAccessed (id : Nat)
  | atomic (id : Nat)
deriving DecidableEq, Repr

/-- An outstanding non-posted request: its tag, what it is for, its address and length, and when it was sent. -/
structure Tag where
  tag : Nat
  use : TagUse
  addr : Nat
  len : Nat
  sent : Nat
deriving DecidableEq, Repr

/-- A tag in quarantine (R336). -/
structure QTag where
  tag : Nat
  sent : Nat
deriving DecidableEq, Repr

/-- One function's configuration space bits the module reads, and its MSI-X structures. -/
structure Func where
  bme : Bool
  d3hot : Bool
  roEn : Bool
  idoEn : Bool             -- ID-Based Ordering for requests (R324)
  mps : Nat                -- Max Payload Size, bytes; the PF's applies to the endpoint (R324)
  mrrs : Nat               -- Max Read Request Size, bytes
  bars : Tbl Nat           -- BAR0/1, BAR2/3, BAR4/5, VF BAR0/1 and VF BAR2/3 as 0 to 4; absent: not assigned (R325)
  fnMask : Bool
  vectors : Tbl Vector
  ntLatch : U32            -- TIME.NT_NOW_HI latch (R57)
deriving DecidableEq, Repr

/-- One host endpoint (R322, R346). -/
structure Endpoint where
  linkUp : Bool
  dlUp : Bool
  speed : Nat
  width : Nat
  noFlit : Bool
  noFlitAt : Nat           -- tick the endpoint last gave up training (R323)
  configured : Bool        -- configuration space set up (R329)
  pool : Nat               -- × 256 tags
  poolWanted : Nat         -- POOL that SET_TAG_POOL set and that waits for OUTSTANDING (R366)
  tags : List Tag
  quar : List QTag
  waiting : List (TagUse × Nat × Nat)   -- use, address, length of requests waiting for a tag, in issue order (R334)
  ctoUs : Nat
  atomicEn : Bool          -- AtomicOp Requester Enable
  vfs : Nat                -- NumVFs while VF Enable is set
  cplTimeout : U64
  lateCpl : U64
  unexpCpl : U64
  tagStallNs : U64
  atomicRefused : U64
  intStatus : BitVec 5     -- CPL_TIMEOUT, LATE_CPL, DEPARTED, ARRIVED, NO_FLIT
  intEnable : BitVec 5
deriving DecidableEq, Repr

/-- What a host writes that no other row of the table covers: BAR0 bytes, or a configuration space control the module reads. -/
inductive RegWrite where
  /-- bytes written to BAR0 at an offset -/
  | bar0 (off : Nat) (data : List Byte)
  /-- MSI-X Function Mask -/
  | functionMask (on : Bool)
  /-- Enable Relaxed Ordering -/
  | relaxedOrdering (on : Bool)
  /-- ID-Based Ordering Request Enable -/
  | idOrdering (on : Bool)
  /-- Max Payload Size of Device Control, as its code -/
  | maxPayload (code : Fin 8)
  /-- Max Read Request Size of Device Control, as its code -/
  | maxRead (code : Fin 8)
  /-- AtomicOp Requester Enable of the PF -/
  | atomicRequester (on : Bool)
  /-- the Completion Timeout sub-range of Device Control 2 of the PF -/
  | timeoutRange (code : Fin 16)
  /-- VF Enable with NumVFs `n` -/
  | vfEnable (n : Nat)
  /-- a 64-bit BAR of a PF: BAR0/1, BAR2/3, BAR4/5, VF BAR0/1 or VF BAR2/3 as 0 to 4 -/
  | bar (i : Fin 5) (addr : U64)
deriving DecidableEq, Repr

/-- The host ports together. -/
structure HostPorts where
  eps : Tbl Endpoint       -- absent: `Endpoint.reset`
  funcs : Tbl Func         -- key 128 × endpoint + function; absent: `Func.reset`
  mgmt : Option Nat        -- endpoint of the management PF (R327)
  mgmtNamed : Option Nat   -- endpoint SET_MGMT_PF named
  dropped : U64            -- HP_WRITE_DROPPED
deriving DecidableEq, Repr

/-- A request the module has taken from a mailbox (R350, R352). -/
structure BciReq where
  cmd : Nat
  seq : U32
  len : Nat
  payload : List Byte
  dbSeq : U32             -- the value written to DOORBELL (R353)
  order : Nat := 0        -- its place among the requests that wait (R361)
  standby : Bool := false -- the standby controller took it, and answers it (R373)
deriving DecidableEq, Repr

/-- The work of an accepted long command (R356, R362). -/
inductive LongWork where
  | attest (nonce : List Byte)
  | mcrWrite (bytes : List Byte)
  | portRetrain (p : Nat)
  | ctxDestroy (c : Nat)
  | domainDestroy (c : Nat)
  | regRegister (index : Nat)
  | keyInstall (h : Nat)
  | pwrSetState
  | fwCommit (slot : Nat)
deriving DecidableEq, Repr

/-- An accepted long command whose record is not yet written or held. -/
structure LongCmd where
  token : U32
  cmd : Nat
  seq : U32
  work : LongWork
  discard : Bool          -- its endpoint departed: the record is discarded (R364)
deriving DecidableEq, Repr

/-- One mailbox (R347 to R349). -/
structure Mailbox where
  busy : Bool
  done : Bool
  overrun : Bool
  rspSeq : U32
  intEn : BitVec 2        -- DONE_EN, EVT_EN
  evtHead : Byte
  evtTail : Byte
  req : List Host.Cell    -- request area, 1 KiB; unlisted bytes read 0
  rsp : List Host.Cell    -- response area
  evt : List Host.Cell    -- event area
  taken : Option BciReq
  gone : List BciReq      -- requests taken before the endpoint departed, oldest first (R364)
  held : List (U32 × List Byte)    -- finished records waiting for a slot, oldest first, with their tokens
  long : List LongCmd
  token : U32             -- next TOKEN
  rseq : U32              -- next RSEQ
deriving DecidableEq, Repr

/-- The standby controller as I3C target and MCTP endpoint (R371, R372). -/
structure Bmc where
  dynAddr : Option Nat    -- I3C dynamic address
  eid : Byte              -- MCTP endpoint ID
deriving DecidableEq, Repr

def Endpoint.reset : Endpoint :=
  { linkUp := false, dlUp := false, speed := 0, width := 0, noFlit := false, noFlitAt := 0, configured := false,
    pool := 16, poolWanted := 16, tags := [], quar := [], waiting := [], ctoUs := 55000, atomicEn := false, vfs := 0,
    cplTimeout := 0, lateCpl := 0, unexpCpl := 0, tagStallNs := 0, atomicRefused := 0, intStatus := 0, intEnable := 0 }

/-- PCI Express resets a function with Bus Master Enable clear, Enable Relaxed Ordering set, ID-Based Ordering clear, payloads of 128 bytes
and reads of 512 (PRESUMED: PCI Express, log 12). -/
def Func.reset : Func :=
  { bme := false, d3hot := false, roEn := true, idoEn := false, mps := 128, mrrs := 512, bars := [], fnMask := false, vectors := [], ntLatch := 0 }

/-- A vector nobody has written: masked, with no address and no data (log 12, log 93). -/
def Vector.reset : Vector := { addr := 0, data := 0, masked := true, pending := false }

def HostPorts.reset : HostPorts := { eps := [], funcs := [], mgmt := none, mgmtNamed := none, dropped := 0 }

def Mailbox.reset : Mailbox :=
  { busy := false, done := false, overrun := false, rspSeq := 0, intEn := 0, evtHead := 0, evtTail := 0, req := [],
    rsp := [], evt := [], taken := none, gone := [], held := [], long := [], token := 1, rseq := 0 }

def Bmc.reset : Bmc := { dynAddr := none, eid := 0 }

end Sys2Proof.Machine
end

