-- ==== Sys2Proof/Machine/LinkState.lean ====
section
/-! DEFINITION. State of the 64 ports' links and of the 16 front connectors (R423 to R469, R476 to R478). -/
namespace Sys2Proof.Machine

/-- The port states (R423), in their numbering. -/
inductive PortSt where
  | disabled | detect | clock | slow | equalize | align | capx | active | doze | step | down | holdoff
deriving DecidableEq, Repr

/-- The causes of R457 (0: none). -/
inductive DownCause where
  | none | disabled | isolated | cableRemoved | clockLost | lockLost | creditTimeout | replayLimit | protocol
  | partnerDown | retrain | wakeFailed | power | incompatible | trainTimeout
deriving DecidableEq, Repr

/-- A link-control flit (R434, R435) as its fields. Time marks and CAP records are held as their 64 bytes. -/
inductive Lctl where
  | idle
  | mark (bytes : List Byte)
  | reply (bytes : List Byte)
  | ack (seq : U16) (freed : List U16)
  | replayReq (expect : U16) (cause : Nat)
  | replayStart (start : U16) (cause : Nat)
  | cap (bytes : List Byte)
  | align (cw : U32)
  | pstateReq (doze : Bool) (width rate : Nat)
  | pstateSwitch (doze : Bool) (width rate : Nat) (cw : U32)
  | down (cause : Nat)
deriving DecidableEq, Repr


/-- An operating point of a link (R463): DOZE, or a width and a rate code. -/
structure Point where
  doze : Bool
  width : Nat
  rate : Nat
deriving DecidableEq, Repr

/-- A data flit kept in the escrow: flit `idx` of packet `pkt` on its VC (R444). -/
structure EFlit where
  seq : U16
  vc : Nat
  pkt : Packet
  idx : Nat
deriving DecidableEq, Repr

/-- A packet in progress on a stream: its next flit (R451). -/
structure TxProg where
  pkt : Packet
  vc : Nat
  next : Nat
deriving DecidableEq, Repr

/-- A partly received packet: bytes so far and flits still to come. `drop` : its flits are consumed and it is
dropped (R451). -/
structure RxPart where
  bytes : List Byte
  left : Nat
  total : Nat
  vc : Nat
  drop : Bool
deriving DecidableEq, Repr

/-- Settings of a link written by PORT_SET (R468, R469). -/
structure LinkCfg where
  en : Bool
  maxWidth : Nat
  maxRate : Nat
  autoRetrain : Bool
  ackTimer : Nat           -- 100 ns
  creditTimeout : Nat      -- µs
  replayLimit : Nat
  res : List Nat           -- TILL_RES[0..11]
deriving DecidableEq, Repr

/-- Bring-up (R424, R439, R441). -/
structure LinkTrain where
  ckLock : Bool
  polarity : BitVec 8
  markerLock : BitVec 8
  laneOk : BitVec 8
  goodRun : List Nat       -- per lane, consecutive good blocks, saturating at 8 (block lock)
  partnerAck : BitVec 8    -- per lane, the partner's ACK bit in its last block
  goSent : Nat             -- consecutive blocks sent with GO and ACK
  goGot : Nat              -- consecutive blocks received with GO and ACK
  partnerRates : Nat
  partnerMaxWidth : Nat
  trained : Nat            -- RATES: bit r, rate code r trained and stored
  targetRate : Nat
  targetWidth : Nat
  eqRate : Nat             -- rate now being trained
  eqSelf : Bool            -- this end set EQ_DONE at the present rate
  eqPartner : Bool
  eqReq : Nat              -- last tap requests of the partner, PRE_REQ + 4 × POST_REQ
  capSent : Bool           -- a CAP with SEEN set was sent in this bring-up
  capGot : Bool            -- a CAP with SEEN set was received
  capSeen : Bool           -- a valid CAP was received
  incompatible : Bool
  switchCw : Option Nat    -- partner's SWITCH_CW
deriving DecidableEq, Repr

/-- The transmitter's line (R429 to R433): the operating point it sends at, the scrambler, and the flit slots of the codeword now being filled,
each with its code and its 512 bits as sent. -/
structure Line where
  width : Nat
  rate : Nat
  scr : BitVec 58
  slots : List (Nat × BitVec 512)
deriving DecidableEq, Repr

/-- Transmit side (R444 to R456). -/
structure LinkTx where
  next : U16               -- TX_NEXT
  escrow : List EFlit      -- oldest first
  prog : List (Option TxProg)   -- streams 0 and 1
  replay : Option U16      -- FSEQ of the next flit to replay
  replayFrom : U16         -- start of the last replay
  replayRun : Nat          -- consecutive replays from `replayFrom`
  replays : Nat            -- replays started
  ackFrom : Nat            -- tick the ack timer was last (re)started
  occ : List Nat           -- occ[0..11]
  freedSeen : List U16     -- partner's FREED[v] last received
  partnerRes : List Nat
  partnerTotal : Nat
  creditFrom : Option Nat  -- tick a packet began to wait for coins with none returned (R456)
  lctl : List Lctl         -- link-control flits waiting to be sent, in order
  slot : Nat               -- flit slots since the first codeword of ALIGN
  switchTo : Option (Point × Nat)   -- our SWITCH: the point and its SWITCH_CW, kept until the new point runs
  switched : Option Nat    -- SWITCH_CW of the last switch made (R436)
  line : Line
deriving DecidableEq, Repr

/-- Receive side. -/
structure LinkRx where
  waiting : Bool           -- REPLAY_WAIT
  expect : U16
  drop : Nat               -- after a REPLAY_START: duplicates still to be dropped
  firstAfter : Bool        -- the next accepted data flit ends a replay (R446)
  ackSince : Nat           -- advances of EXPECT since the last ACK
  due : Bool               -- an advance or a freed coin is not yet reported
  dueFrom : Nat            -- tick of the first of them
  ackAt : Nat              -- tick of the last ACK
  waitFrom : Nat           -- tick REPLAY_WAIT began or the last REPLAY_REQ was sent
  repair : Bool            -- an uncorrectable codeword awaits its replay
  injected : Option Bool   -- FULL_REACTION of an injection that made a codeword uncorrectable since the last replay (R523)
  cw : Nat                 -- CW_INDEX of the last ALIGN flit received
  freed : List U16         -- FREED[0..11]
  part : List (Option RxPart)   -- streams 0 and 1
  till : List TillPkt      -- whole packets, oldest first
  badRun : Nat             -- consecutive uncorrectable codewords
deriving DecidableEq, Repr

/-- Capability exchange (R438 to R440). -/
structure LinkCap where
  seq : U16                -- CAP_SEQ of the next CAP
  sentAt : List (Nat × Nat)     -- CAP_SEQ and tick of the CAPs sent, newest first (at most 16)
  echo : U16               -- CAP_SEQ of the latest CAP received
  gotAt : Nat              -- tick it was received
  partner : List Byte      -- PARTNER_CAP, 64 bytes; empty: none
  rttNs : Nat
  rttKnown : Bool
  repeats : Nat            -- CAPs still to be sent after an identity change (R440)
deriving DecidableEq, Repr

/-- Link counters (R469), in register order. -/
structure LinkCtr where
  cwRx : U64
  cwCorrected : U64
  cwUncorr : U64
  dataTx : U64
  dataRx : U64
  rreqTx : U64
  rreqRx : U64
  replays : U64
  dup : U64
  lctlBad : U64
  downs : U64
  linkLost : U64
  escrowFullNs : U64
  symCorr : List U64
deriving DecidableEq, Repr

/-- One port's link. -/
structure LinkPort where
  st : PortSt
  since : Nat              -- tick of entry to the state
  width : Nat
  rate : Nat
  cause : DownCause
  downs : List Nat         -- ticks of the declarations of the last 10 s (R443)
  replayAt : Option Nat    -- tick of the last LINK_REPLAY report
  badAt : List Nat         -- ticks of the uncorrectable codewords of the last second
  want : Point             -- this end's wanted point (R463)
  pwant : Point            -- the partner's
  ckPrev : Nat             -- rate code whose CK runs through DOZE and STEP (R426)
  cfg : LinkCfg
  isolated : Bool          -- a fault reaction cleared EN, and PORT_SET has not set it since (R515)
  train : LinkTrain
  tx : LinkTx
  rx : LinkRx
  cap : LinkCap
  ctr : LinkCtr
  intStatus : BitVec 6     -- LINK_UP, LINK_DOWN, CABLE_CHANGE, REPLAY, POINT_CHANGE, HOLDOFF
  intEnable : BitVec 6
deriving DecidableEq, Repr

/-- One front connector (R476 to R478). -/
structure Connector where
  present : Bool
  vcc : Bool               -- CBL_VCC on
  pg : Bool                -- CBL_PG_N asserted
  powerOk : Bool
  failed : Bool            -- power failed: the ports stay in DETECT until presence is deasserted
  rejected : Bool
  accepted : Bool          -- the identification was read and the cable accepted
  ctype : Nat
  lengthDm : Nat
  onAt : Nat               -- tick CBL_VCC was switched on
deriving DecidableEq, Repr

def LinkCfg.reset : LinkCfg :=
  { en := true, maxWidth := 8, maxRate := 0, autoRetrain := true, ackTimer := 15, creditTimeout := 20, replayLimit := 8,
    res := List.replicate 9 130 ++ List.replicate 3 256 }

def LinkTrain.reset : LinkTrain :=
  { ckLock := false, polarity := 0, markerLock := 0, laneOk := 0, goodRun := List.replicate 8 0, partnerAck := 0,
    goSent := 0, goGot := 0, partnerRates := 0, partnerMaxWidth := 0, trained := 8, targetRate := 0, targetWidth := 0,
    eqRate := 0, eqSelf := false, eqPartner := false, eqReq := 0, capSent := false, capGot := false, capSeen := false,
    incompatible := false, switchCw := none }

/-- A line that has sent nothing. -/
def Line.reset : Line := { width := 0, rate := 0, scr := BitVec.allOnes 58, slots := [] }

def LinkTx.reset : LinkTx :=
  { next := 0, escrow := [], prog := [none, none], replay := none, replayFrom := 0, replayRun := 0, replays := 0,
    ackFrom := 0, occ := List.replicate 12 0, freedSeen := List.replicate 12 0, partnerRes := List.replicate 12 0,
    partnerTotal := 0, creditFrom := none, lctl := [], slot := 0, switchTo := none, switched := none, line := Line.reset }

def LinkRx.reset : LinkRx :=
  { waiting := false, expect := 0, drop := 0, firstAfter := false, ackSince := 0, due := false, dueFrom := 0, ackAt := 0,
    waitFrom := 0, repair := false, injected := none, cw := 0,
    freed := List.replicate 12 0, part := [none, none], till := [], badRun := 0 }

def LinkCap.reset : LinkCap :=
  { seq := 0, sentAt := [], echo := 0, gotAt := 0, partner := [], rttNs := 0, rttKnown := false, repeats := 0 }

def LinkCtr.reset : LinkCtr :=
  { cwRx := 0, cwCorrected := 0, cwUncorr := 0, dataTx := 0, dataRx := 0, rreqTx := 0, rreqRx := 0, replays := 0, dup := 0,
    lctlBad := 0, downs := 0, linkLost := 0, escrowFullNs := 0, symCorr := List.replicate 8 0 }

/-- Full width and rate, no DOZE: what a module in A0 wants (R463). -/
def Point.full : Point := { doze := false, width := 8, rate := 0 }

/-- A port after device reset (R469). -/
def LinkPort.reset : LinkPort :=
  { st := .disabled, since := 0, width := 0, rate := 0, cause := .none, downs := [], replayAt := none, badAt := [],
    want := Point.full, pwant := Point.full, ckPrev := 0, cfg := LinkCfg.reset, isolated := false, train := LinkTrain.reset,
    tx := LinkTx.reset, rx := LinkRx.reset, cap := LinkCap.reset, ctr := LinkCtr.reset, intStatus := 0, intEnable := 0 }

def Connector.reset : Connector :=
  { present := false, vcc := false, pg := false, powerOk := false, failed := false, rejected := false, accepted := false,
    ctype := 0, lengthDm := 0, onAt := 0 }

end Sys2Proof.Machine
end

