-- ==== Sys2Proof/Machine/MemState.lean ====
section
/-! DEFINITION. State of HBM and regions, of the translation agents, of the atomic units, and of data on its way through the
gateways (R185, R288 to R321). -/
namespace Sys2Proof.Machine

/-- A region's kind (R297). -/
inductive RegKind where
  | hbm | host | cuWindow
deriving DecidableEq, Repr

/-- A region descriptor (R297). `owner` is a context number, bit 15 set for an engine context. -/
structure Region where
  tag : Nat
  kind : RegKind
  perm : Nat             -- PERM bits
  valid : Bool
  prot : Bool
  user : Bool
  job : Nat
  owner : Nat
  base : Nat             -- DA, virtual address, or node index
  size : Nat
  asid : Nat
  agent : Nat
  hold : Option Nat      -- tick at which a deregistered index becomes reusable (R299)
  registering : Bool     -- REG_REGISTER accepted, not yet done
deriving DecidableEq, Repr

/-- Where a piece of data lies. -/
inductive Space where
  /-- HBM, from a device address -/
  | hbm (da : Nat)
  /-- host memory, from a virtual address: agent, endpoint, ASID, user access -/
  | host (agent ep asid : Nat) (user : Bool) (va : Nat)
  /-- the window of a collective node, at its clearing unit: node and offset (R259) -/
  | unit (node off : Nat)
deriving DecidableEq, Repr

/-- Kinds of access that an agent translates (R305); a fill is made without an access (R308). -/
inductive Access where
  | fill | read | write | atomic | fetch
deriving DecidableEq, Repr

/-- A walk of an engine agent in HBM (R305): the access, and the entry being read, at `ea` of level `lvl`; `again` after one restart. -/
structure EngineWalk where
  agent : Nat
  asid : Nat
  va : Nat
  kind : Access
  user : Bool
  lvl : Nat
  ea : Nat
  again : Bool
deriving DecidableEq, Repr

/-- A cached translation (R303): one entry of a level. -/
structure TlbEntry where
  asid : Nat
  lvl : Nat
  vpn : Nat                 -- virtual address / page size
  pte : U64
deriving DecidableEq, Repr

/-- Who writes INVAL (R309): the PF of an endpoint its own set, or Balyn set 0 of engine agent 2 + `a`, from page `page` on. -/
inductive InvalBy where
  | pf (e : Fin 4)
  | balyn (a : Fin 17) (page : BitVec 36)
deriving DecidableEq, Repr

/-- What a transfer is for: what goes on when it ends. -/
inductive XferUse where
  /-- `n` submission entries of a context, at its SQ_HEAD; `tries` timeouts so far -/
  | sqFetch (c n tries : Nat)
  /-- a completion or event entry of a context -/
  | cqe (c : Nat)
  /-- the payload of the next request packet of a message -/
  | msgData (qpn slot msg : Nat)
  /-- the payload of a timed chain's first packet (R52) -/
  | prepare (c serial : Nat)
  /-- placement of the payload of a PUT or a SEND -/
  | place (qpn slot psn : Nat)
  /-- a PUT into a collective window -/
  | window (qpn slot psn : Nat)
  /-- placement of the payload of a SEND into the pool of the domain of context `c`, at offset `off` of message `msg` -/
  | stage (c msg off qpn slot psn : Nat)
  /-- copy from the pool into the receive buffer of a message of the domain of context `c` (R232) -/
  | poolCopy (c msg : Nat)
  /-- the read of its data from the pool, at message offset `off` -/
  | poolRead (c msg off : Nat)
  /-- the read of a remote GET, executed for the packet's RETRY -/
  | getExec (qpn slot psn retry : Nat)
  /-- placement of a GET response -/
  | getPlace (qpn slot rpsn : Nat)
  /-- an AtomicOp of a remote requester, and of a local entry -/
  | remoteAtomic (qpn slot psn : Nat)
  | localAtomic (c serial : Nat)
  /-- the first segment that a node of a timed COLL chain sends (R52, R276) -/
  | collPrep (c serial node : Nat)
  /-- a node's own contribution to a segment -/
  | collRead (node num seg : Nat)
  /-- placement of result elements, which are then forwarded -/
  | collPlace (node num elem0 : Nat)
  /-- data for one PUT down to every child, from element `elem0` -/
  | collSend (node num elem0 : Nat)
  /-- a spilled QP context (R205) -/
  | spill (qpn : Nat)
  /-- a slot of the tally sweep -/
  | sweep
  /-- a read or a write of the host through BAR4 of endpoint `e` -/
  | bar4 (e : Nat)
  /-- a walk of a host agent that no access asks for (R308) -/
  | fill
  /-- the read of a page-table entry by an engine agent, and its set_accessed of entry `pte` (R305) -/
  | engineRead (w : EngineWalk)
  | engineCas (w : EngineWalk) (pte : Nat)
deriving DecidableEq, Repr

/-- How a transfer ended. -/
inductive XferEnd where
  | ok (data : List Byte)
  | translation (cause level : Nat) (device : Bool)
  | noAnswer                -- a read that timed out, or was answered with an error
  | poisoned (data : List Byte)
  | noAtomic                -- AtomicOp not available (R339)
  | word (w : U64) (status : Nat)   -- RESULT and ASTATUS of an atomic unit (R317)
  | noRoom (backoff : Nat)  -- a window PUT that the node does not take (R256)
  | lost                    -- its packet went with a torus plane (R132)
deriving DecidableEq, Repr

/-- Stage of a transfer. -/
inductive XferSt where
  /-- its request is on the torus, on its way to the gateway -/
  | asking
  /-- its response is on the torus -/
  | returning
  /-- host memory: the next piece is to be translated, or waits for its function to be allowed DMA (R342) -/
  | start
  /-- a walk: the read of the entry at `ea` of level `lvl` is outstanding; `again` after one restart -/
  | walk (lvl ea : Nat) (again : Bool)
  /-- set_accessed of the leaf entry `pte` at `ea` is outstanding -/
  | accessed (lvl ea pte : Nat) (again : Bool)
  /-- a read of `n` bytes or an AtomicOp is outstanding -/
  | reading (n : Nat)
  /-- waiting for the gateway to accept it, at the address translated -/
  | ready (pa : Nat)
deriving DecidableEq, Repr

/-- An atomic operation: AOP and operands; at a memory-side unit also the master, its epoch at issue, and the key and offset of the word. -/
structure AtomicReq where
  aop : Nat
  op0 : U64
  op1 : U64
  master : Nat
  epoch : Nat
  rkey : Nat
  off : Nat
deriving DecidableEq, Repr

/-- A transfer under way. -/
structure Xfer where
  id : Nat
  use : XferUse
  home : Nat                -- tile of its requester
  express : Bool            -- it carries TC0 work (R124)
  ctx : Nat                 -- context it acts for, bit 15 set for an engine context
  dead : Bool               -- given up: its context is lost, and what is outstanding of it changes nothing
  space : Space
  write : Bool
  atomic : Option AtomicReq
  data : List Byte
  poisoned : Bool           -- data read so far holds a poisoned burst
  len : Nat
  pos : Nat
  via : Option TlbEntry     -- the leaf that translated its present piece (R310)
  st : XferSt
deriving DecidableEq, Repr

/-- One invalidation set (R309, R310). -/
structure InvalSet where
  scope : Nat
  asid : Nat
  sizeLog2 : Nat
  va : Nat
  done : Bool
  overrun : Bool
  denied : Bool
deriving DecidableEq, Repr

/-- One translation agent (R303, R307, R321). -/
structure Agent where
  prefetch : Bool
  tlb : List TlbEntry       -- newest first
  sets : List InvalSet
  fValid : Bool
  fSecond : Bool
  fDevice : Bool            -- KIND
  fCause : Nat
  fLevel : Nat
  fWrite : Bool
  fUser : Bool
  fAsid : Nat
  fCount : U32
  fVa : Nat
  hits : U64
  misses : U64
  walks : U64
  prefetches : U64
  wins : List (U64 × U64)   -- base and limit of DEV_WIN 0 to 3
  eventAt : Tbl Nat         -- per ASID, tick of the last XLT_WALK_FAULT event (R307)
deriving DecidableEq, Repr

/-- An ASID of a host agent: the endpoint whose PF owns it, and its root page number (R303). -/
structure AsidRec where
  ep : Nat
  root : Option Nat
deriving DecidableEq, Repr

/-- The atomic units (R311 to R321). -/
structure Atom where
  boostEn : Bool
  boostSent : U64
  lockBusy : U64
  lockOrphaned : U64
  lockRecovered : U64
  lockForeign : U64
  lockStale : U64
  hostAtomic : U64
  ops : Tbl U64             -- per unit
  lockOps : Tbl U64
  epochs : Tbl Nat          -- by master ID; absent: 0
  raised : Tbl Nat          -- by master ID of an engine context or a teller: the priority a boost notice raised its micro-task to (R318)
  noticed : Tbl Nat         -- by bursar: the priority of the last boost notice its scheduler was given
deriving DecidableEq, Repr

/-- HBM, its registers and everything that moves through the gateways. -/
structure Mem where
  cells : List Host.Cell    -- device address and byte; unlisted bytes read 0 (R295)
  poison : List Nat         -- poisoned 32-byte bursts, by DA / 32
  key : U16                 -- interleave key (R290)
  expose : Bool
  exposed : Bool
  ratio : Nat
  imbalPc : Nat
  imbalRatio : Nat
  imbalCount : U64
  imbalRun : Nat            -- windows in a row at or above RATIO
  imbalEventAt : Option Nat
  winFrom : Nat             -- tick the present 10 µs window began
  winReq : Tbl Nat          -- accesses of the window per pseudo-channel
  ceCount : U64
  ueCount : U64
  ueDa : Option Nat
  intStatus : BitVec 3
  intEnable : BitVec 3
  pcReq : Tbl U64
  regions : Tbl Region      -- by index
  agents : Tbl Agent        -- absent: `Agent.reset`
  asids : Tbl AsidRec       -- key 4,096 × agent + ASID
  engineGen : Nat           -- which engine roots and grants Balyn keeps (R303, R306)
  atom : Atom
  xfers : List Xfer         -- in the order they were issued
  nextXfer : Nat
  ended : List (Xfer × XferEnd)   -- ended, to be acted on before the command ends
deriving DecidableEq, Repr

def InvalSet.reset : InvalSet :=
  { scope := 0, asid := 0, sizeLog2 := 0, va := 0, done := true, overrun := false, denied := false }

def Agent.reset : Agent :=
  { prefetch := true, tlb := [], sets := [InvalSet.reset, InvalSet.reset], fValid := false, fSecond := false, fDevice := false,
    fCause := 0, fLevel := 0, fWrite := false, fUser := false, fAsid := 0, fCount := 0, fVa := 0, hits := 0, misses := 0,
    walks := 0, prefetches := 0, wins := List.replicate 4 (0, 0), eventAt := [] }

def Atom.reset : Atom :=
  { boostEn := true, boostSent := 0, lockBusy := 0, lockOrphaned := 0, lockRecovered := 0, lockForeign := 0, lockStale := 0,
    hostAtomic := 0, ops := [], lockOps := [], epochs := [], raised := [], noticed := [] }

/-- Memory after device reset, with the interleave key drawn then. -/
def Mem.reset (key : U16) : Mem :=
  { cells := [], poison := [], key := key, expose := false, exposed := false, ratio := 8, imbalPc := 0, imbalRatio := 0,
    imbalCount := 0, imbalRun := 0, imbalEventAt := none, winFrom := 0, winReq := [], ceCount := 0, ueCount := 0, ueDa := none,
    intStatus := 0, intEnable := 0, pcReq := [], regions := [], agents := [], asids := [], engineGen := 0, atom := Atom.reset, xfers := [],
    nextXfer := 0, ended := [] }

end Sys2Proof.Machine
end

