-- ==== Sys2Proof/Machine/NetState.lean ====
section
/-! DEFINITION. State of the on-chip torus: the beats in the router queues, the packets they belong to, and the packets that wait at their
source for room (R121 to R131, R139). -/
namespace Sys2Proof.Machine

/-- What a packet on the torus carries, and so where it goes at its last router. -/
inductive Cargo where
  /-- a fabric packet bound for the egress buffer of port `p` -/
  | port (p : Nat) (k : Packet)
  /-- a fabric packet for the network interface of its tile -/
  | tile (k : Packet)
  /-- the request of transfer `x` to a gateway or a clearing unit -/
  | ask (x : Nat)
  /-- the response of transfer `x` to its requester -/
  | back (x : Nat) (e : XferEnd)
deriving DecidableEq, Repr

/-- A packet on the torus. -/
structure Load where
  id : Nat
  plane : Nat              -- 0 A, 1 B
  vn : Nat                 -- 0 REQ, 1 RSP, 2 CTL, 3 EXP (R124)
  src : Nat
  dst : Nat
  beats : Nat
  sent : Nat               -- beats its source has put into its router
  cargo : Cargo
  blocked : Bool           -- it found its EXP ejection queue full, and is counted (R144)
deriving DecidableEq, Repr

/-- A beat in a router queue. -/
structure Beat where
  load : Nat
  last : Bool
  legs : List (Nat × Nat)  -- direction and hops still to go, ring by ring; none at its destination
  cls : Nat                -- dateline class in the ring it travels next (R127)
deriving DecidableEq, Repr

/-- A packet that waits at its source tile for room in the egress buffer of a port (R128, R139). -/
structure Held where
  tile : Nat
  port : Nat
  pkt : Packet
deriving DecidableEq, Repr

/-- The torus. A queue's key names its plane, tile, router input (0 to 3 by the direction a beat came in, 4 from the tile) and on-chip
VC; only queues that hold a beat are listed. -/
structure Net where
  loads : List Load        -- in the order they entered
  queues : Tbl (List Beat) -- head first
  turns : Tbl Nat          -- where an output's round robin goes on (R123)
  nextLoad : Nat
  stallNs : Tbl U64        -- LINK_STALL_NS of output 4 × plane + direction of a tile, at key 8 × tile + output; absent: 0 (R133)
  waits : List Held        -- in the order they came
deriving DecidableEq, Repr

def Net.reset : Net := { loads := [], queues := [], turns := [], nextLoad := 0, stallNs := [], waits := [] }

end Sys2Proof.Machine
end

