-- ==== Sys2Proof/Machine/Contacts.lean ====
section
/-! DEFINITION. The module's contacts: the backplane connector by position, and the front connectors (R470 to R473, R476). -/
namespace Sys2Proof.Machine

/-- How early a contact mates: long ones before standard ones, short ones last; they break in the opposite order (R473). -/
inductive ContactLen where
  | long | standard | short
deriving DecidableEq, Repr

/-- What a contact of the backplane connector carries (R470 to R472). A pair's contact says whether it is the negative one. -/
inductive Contact where
  | vin54 | vinRtn | vstby54 | gnd | modPresent | seatA | seatB
  | perst (hp : Nat) | modReset | mgmtScl | mgmtSda | alert | fault | pwrGood | ppsIn | ppsOut | tref10m | slotId (bit : Nat)
  | hpTx (hp lane : Nat) (neg : Bool) | hpRx (hp lane : Nat) (neg : Bool) | hpRefclk (hp : Nat) (neg : Bool)
  | reserved
deriving DecidableEq, Repr

/-- Column 15 of the sideband, rows 1 to 11 (R472). -/
def sideband15 : Nat → Contact
  | 1 => .perst 0 | 2 => .perst 1 | 3 => .modReset | 4 => .mgmtScl | 5 => .mgmtSda | 6 => .alert | 7 => .fault | 8 => .pwrGood
  | 9 => .ppsIn | 10 => .ppsOut | 11 => .tref10m | _ => .gnd

/-- The contact of host port `hp` at column b + `c` (R471): pair slots at rows 1-2, 4-5, 7-8 and 10-11 of every third column, P in the lower row. -/
def hostContact (hp c row : Nat) : Contact :=
  let slot := 4 * (c / 3) + (row - 1) / 3
  let neg := row % 3 == 2
  if c % 3 ≠ 0 ∨ 27 ≤ c ∨ row % 3 = 0 then .gnd
  else if slot < 16 then .hpTx hp slot neg
  else if slot < 32 then .hpRx hp (slot - 16) neg
  else if slot = 32 then .hpRefclk hp neg
  else .reserved

/-- The contact at a column, 1 to 96, and a row, 1 to 12 (R470 to R472). -/
def contactAt (col row : Nat) : Contact :=
  if col ≤ 5 then .vin54
  else if col = 6 then (if row ≤ 4 then .vstby54 else .gnd)
  else if col = 7 then .gnd
  else if col ≤ 12 then .vinRtn
  else if col = 13 then (if row = 1 then .seatA else .gnd)
  else if col = 14 then (if row = 1 ∨ row = 12 then .modPresent else .gnd)
  else if col = 15 then sideband15 row
  else if col = 16 then .gnd
  else if col = 17 then (if row ≤ 6 then .slotId (row - 1) else .reserved)
  else if col = 18 then (if row ≤ 8 then .gnd else .reserved)
  else if col ≤ 57 then hostContact 0 (col - 19) row
  else if col = 96 ∧ row = 12 then .seatB
  else hostContact 1 (col - 58) row

/-- Its length (R470). -/
def contactLen (col row : Nat) : ContactLen :=
  match contactAt col row with
  | .seatA | .seatB => .short
  | .vstby54 | .modPresent => .long
  | .gnd => if col ≤ 7 ∨ col = 13 ∨ (col = 15 ∧ row = 12) then .long else .standard
  | _ => .standard

/-- The contacts of the array, column by column. -/
def contacts : List (Nat × Nat) := ((List.range 96).map fun c => (List.range 12).map fun r => (c + 1, r + 1)).flatten

/-- A contact of a front connector (R476): lane 8 of a port is CK. -/
inductive FrontContact where
  | tx (port lane : Nat) (neg : Bool) | rx (port lane : Nat) (neg : Bool) | gnd | cblVcc | cblPresN | cblPgN | cblScl | cblSda
deriving DecidableEq, Repr

/-- The contacts of front connector Fk, field by field: the four port fields from the key on, then the cable sideband (R476). -/
def frontContacts (k : Nat) : List FrontContact :=
  ((List.range 4).map fun i =>
    ((List.range 9).map fun l => [FrontContact.tx (4 * k + i) l false, .tx (4 * k + i) l true, .rx (4 * k + i) l false, .rx (4 * k + i) l true]).flatten
      ++ List.replicate 24 .gnd).flatten ++ List.replicate 4 .cblVcc ++ [.cblPresN, .cblPgN, .cblScl, .cblSda]

end Sys2Proof.Machine
end

