-- ==== Sys2Proof/Machine/PowerState.lean ====
section
/-! DEFINITION. State of the standby domain: pins, seating, the eFuse and its retries, supply supervision,
the power state, and the resets of the fabric die (R479 to R501, R14, R15, R493). -/
namespace Sys2Proof.Machine

/-- The module's power state (R494). -/
inductive PwrState where
  | off | a3 | a0 | a1 | a2
deriving DecidableEq, Repr

/-- The eFuse gate: off, ramping its output at the inrush current, or fully enhanced (R482). -/
inductive Gate where
  | off | ramping | on
deriving DecidableEq, Repr

/-- The cause of a trip, as RETRY_STATUS.LAST_CAUSE numbers them (R501). -/
inductive TripCause where
  | none | curve | fast | rampTimeout | pgTimeout | thermal
deriving DecidableEq, Repr

/-- A reading that clears a supervised condition (R490), in mV, °C and mL/min. -/
inductive Clearing where
  | vinWarn (mv : Nat)
  | vinReset (mv : Nat)
  | vinOver (mv : Nat)
  | vcoreWarn (q : Fin 4) (mv : Nat)
  | vcoreReset (q : Fin 4) (mv : Nat)
  | junction (q : Fin 4) (c : Nat)
  | coolant (inlet flow : Nat)
deriving DecidableEq, Repr

/-- A power state change that PWR_SET_STATE began and that has not ended (R494, R500). -/
structure PwrChange where
  target : PwrState
  since : Nat          -- tick of ACCEPTED
  attempted : Bool     -- leaving A3: the first eFuse attempt has ended
  ok : Bool            -- that attempt asserted PWR_GOOD / the state was reached
  failed : Bool        -- the change ended without being reached
deriving DecidableEq, Repr

/-- Everything the standby controller keeps or drives (R479). -/
structure Power where
  st : PwrState
  seatA : Bool         -- SEAT_A_N reads low
  seatB : Bool         -- SEAT_B_N reads low
  qualified : Bool     -- R480
  holdA3 : Bool        -- R494
  gate : Gate
  attemptAt : Nat      -- tick the present attempt's ramp started (R488)
  gateOffAt : Nat      -- tick the gate was last turned off
  converters : Bool    -- the converters run (R482, R490)
  pwrGood : Bool       -- PWR_GOOD pin (R486)
  pgSince : Nat        -- tick PWR_GOOD last asserted
  faultN : Bool        -- FAULT_N is asserted for the eFuse (R487)
  lastCause : TripCause
  lastPoint : Nat      -- curve point of the last CURVE trip
  tripped : Bool       -- a trip has occurred since USED was last cleared
  used : Nat           -- retries used (R488)
  latched : Bool
  tripCount : U64
  change : Option PwrChange
  wakeFrom : Option Nat -- tick a wake event of R496 occurred, until the module is back in A0
deriving DecidableEq, Repr

/-- Settings of the standby controller: they survive device reset and A3 (R485, R499). -/
structure PwrCfg where
  vinWarn : Nat        -- 0.1 V
  vinReset : Nat       -- 0.1 V
  vcWarn : Nat         -- mV
  vcReset : Nat        -- mV
  count : Nat
  offS : Nat           -- s
  inrush : Nat         -- 0.1 A
  curve : List (Nat × Nat)   -- 8 points (I_k in 0.1 A, T_k in µs)
  timers : List Nat          -- the 8 curve timers, 1/8 µs (R484)
  a1Width : Nat        -- A1_WIDTH of the last PWR_SET_STATE (R497)
  a1Rate : Nat         -- A1_RATE
deriving DecidableEq, Repr

/-- Readings and supervised conditions (R490). -/
structure Supply where
  vinMv : Nat
  iinMa : Nat
  vcoreMv : List Nat   -- VCORE_Q0 to Q3
  tj : List Nat        -- hottest junction of Q0 to Q3, °C
  inlet : Nat
  outlet : Nat
  flow : Nat           -- mL/min
  sag : Bool           -- VIN below its warning threshold
  vinRst : Bool        -- VIN below its reset threshold
  ov : Bool            -- VIN overvoltage
  vcLow : List Bool    -- per region, below the VCORE warning threshold
  vcRst : List Bool    -- per region, below the VCORE reset threshold
  hot : List Bool      -- per region, junction warning
  cool : Bool          -- coolant warning
  skew : List Bool     -- per neighbouring pair, REGION_SKEW in force
  skewMv : List Nat    -- last differences, per pair
  skewC : List Nat
  intStatus : BitVec 5 -- SAG_WARN, VCORE_WARN, TEMP_WARN, COOLANT_WARN, STATE_CHANGED
  intEnable : BitVec 5
deriving DecidableEq, Repr

/-- The sideband pins the host drives, as last driven (R472), and the module's own pin outputs that no
other field holds. -/
structure Pins where
  modReset : Bool      -- MOD_RESET_N is low and honoured (R493)
  slotId : BitVec 6    -- SLOT_ID[5:0] straps
  perst : List Bool    -- PERST0_N, PERST1_N asserted
  tref10m : Bool       -- TREF_10M_IN was present when it was last sampled (R30)
  ppsOut : Bool        -- PPS_OUT level (R31)
  ppsOutUntil : U64    -- NT at which the present pulse ends
deriving DecidableEq, Repr

/-- The fabric die's reset and start-up (R329, R332, R408, R493). -/
inductive Alive where
  | booting | running | recovery | stopped
deriving DecidableEq, Repr

/-- The accepted fields of the module configuration record (R16, R17). -/
structure McrFields where
  faultScheme : Nat    -- 0 COLLECTOR, 1 LOCAL
  hostSplit : Nat      -- bit 0 HP0, bit 1 HP1 bifurcated
  vfCount : List Nat
  bar4Log2 : Nat
deriving DecidableEq, Repr

/-- One flash copy of the module configuration record: its 512 bytes as the fields that can differ.
`digestOk` and `signatureOk` say whether those bytes check (R17). -/
structure McrCopy where
  signatureOk : Bool
  version : Nat
  sequence : Nat
  reservedZero : Bool
  fields : McrFields
  digestOk : Bool
deriving DecidableEq, Repr

structure Boot where
  inReset : Bool       -- the die is held in device reset
  relFrom : Nat        -- tick the last reset cause cleared (T_REL starts)
  releases : Nat       -- releases since standby power-up; its low 8 bits are BOOT (R520)
  alive : Alive
  heartbeat : U16
  mintDone : Bool      -- the mint has passed on (Balyn or recovery runs)
  balyn : Bool         -- Balyn has started (BALYN_START)
  position : Nat       -- SLOT_ID sampled at the last release (R62)
  mcrCopies : List (Option McrCopy)   -- flash copies 0 and 1; none: blank
  mcr : McrFields      -- the fields in force since the last device reset (R19)
  mcrFrom : Option McrCopy            -- the accepted copy, none: defaults
deriving DecidableEq, Repr

/-- The default of every field of the record (R16). -/
def McrFields.default : McrFields :=
  { faultScheme := 0, hostSplit := 0, vfCount := [0, 0, 0, 0], bar4Log2 := 0 }

/-- The default time-current curve (R484). -/
def defaultCurve : List (Nat × Nat) :=
  [(210, 2000000), (230, 500000), (250, 100000), (280, 20000), (310, 5000), (350, 1000), (390, 200), (430, 50)]

/-- Standby settings at standby power-up (R484, R490, R501). A1 settings: DESIGN CHOICE, log 4. -/
def PwrCfg.reset : PwrCfg :=
  { vinWarn := 440, vinReset := 380, vcWarn := 690, vcReset := 640, count := 7, offS := 4, inrush := 60,
    curve := defaultCurve, timers := List.replicate 8 0, a1Width := 8, a1Rate := 0 }

def Supply.reset : Supply :=
  { vinMv := 0, iinMa := 0, vcoreMv := [0, 0, 0, 0], tj := [0, 0, 0, 0], inlet := 0, outlet := 0, flow := 0,
    sag := false, vinRst := false, ov := false, vcLow := [false, false, false, false],
    vcRst := [false, false, false, false], hot := [false, false, false, false], cool := false,
    skew := [false, false, false, false], skewMv := [0, 0, 0, 0], skewC := [0, 0, 0, 0],
    intStatus := 0, intEnable := 0 }

end Sys2Proof.Machine
end

