-- ==== Sys2Proof/Machine/SchedState.lean ====
section
/-! DEFINITION. State of the egress schedulers (R134 to R162). -/
namespace Sys2Proof.Machine

/-- A token bucket: tokens in 1/65,536 byte as they stood at tick `at_` (R148). -/
structure Bucket where
  en : Bool
  rate : Nat          -- Mb/s
  burst : Nat         -- bytes
  tokens : Int
  at_ : Nat
deriving DecidableEq, Repr

/-- A gate control list bank (R151). -/
structure GclBank where
  base : U64
  cycle : Nat         -- ns
  len : Nat
  entries : Tbl (Nat × Nat)   -- OPEN_MASK and DURATION; absent: (0xFF, 1,000,000)
deriving DecidableEq, Repr

/-- Scheduler of one port. -/
structure SchedPort where
  overhead : Nat
  gateEn : Bool
  tc0En : Bool
  qlimit : Nat
  boundOk : Bool
  boundBadAt : Option Nat     -- tick of the last TC0_BLOCK or TC0_LONG (R161)
  intStatus : BitVec 4        -- GATE_OVERRUN, TC0_BLOCK, BOUND_LOST, GCL_SWITCHED
  intEnable : BitVec 4
  active : Nat                -- ACTIVE_BANK
  pend : Bool                 -- PENDING
  guard : Nat                 -- GUARD_EXTRA, ns
  switchAt : U64
  pendFrom : U64              -- NT from which cycle starts count for a pending switch: the request, the gates' enabling, or a load of NT
  syncedNt : U64              -- NT at which the gates were last brought up to date
  closedOver : Bool           -- the gate of the non-express packet in progress has been closed since it started (R157)
  index : Nat                 -- GCL_STATUS.INDEX
  openMask : Nat              -- GCL_STATUS.OPEN_MASK
  running : Bool              -- GCL_STATUS.RUNNING
  banks : List GclBank
  shapers : List Bucket       -- class 0 to 7
  quanta : List Nat           -- class 0 (unused) to 7
  ptr : Nat                   -- DRR pointer, 0 to 6
  deficit : List Nat
  fresh : List Bool
  queues : List (List Packet) -- class queues, head first
  txBytes : List U64
  overruns : U64
  preempt : U64
  preempted : Bool            -- the non-express packet in progress has been interleaved
  block : U64
  qdepthMax : Nat
  long : U64
deriving DecidableEq, Repr

def GclBank.reset : GclBank := { base := 0, cycle := 1000000, len := 1, entries := [] }

/-- A bucket filled to its burst (R162: TOKENS resets to BURST). -/
def Bucket.full (en : Bool) (rate burst : Nat) : Bucket :=
  { en := en, rate := rate, burst := burst, tokens := burst * 65536, at_ := 0 }

def SchedPort.reset : SchedPort :=
  { overhead := 0, gateEn := false, tc0En := true, qlimit := 4096, boundOk := false, boundBadAt := none, intStatus := 0,
    intEnable := 0, active := 0, pend := false, guard := 0, switchAt := 0, pendFrom := 0, syncedNt := 0, closedOver := false, index := 0, openMask := 0xFF, running := false,
    banks := [GclBank.reset, GclBank.reset],
    shapers := Bucket.full true 160000 4096 :: List.replicate 7 (Bucket.full false 1600000 65536),
    quanta := List.replicate 8 16384, ptr := 0, deficit := List.replicate 8 0, fresh := List.replicate 8 false,
    queues := List.replicate 8 [], txBytes := List.replicate 8 0, overruns := 0, preempt := 0, preempted := false,
    block := 0, qdepthMax := 0, long := 0 }

end Sys2Proof.Machine
end

