-- ==== Sys2Proof/Machine/SecState.lean ====
section
/-! DEFINITION. State of the vault and of firmware: fuses, measurements, key handles, the attestation report, and the firmware
slots (R367 to R370, R402 to R422). -/
namespace Sys2Proof.Machine

/-- A firmware image header's fields that the checks and commands read (R406, R407). -/
structure ImageHdr where
  magicOk : Bool          -- MAGIC, HDR_VERSION, KIND, PART, STEPPING, BODY_SIZE valid and zero fields zero (check 1)
  svn : Nat
  ownerSigned : Bool
  ownerProvision : Bool
  version : U64
  bodyDigest : List Byte
  ownerPk : List Byte
  provisionHash : List Byte
  haldoldOk : Bool        -- check 2
  ownerSigOk : Bool       -- the owner signature verifies under OWNER_PK (check 3)
  digestOk : Bool         -- check 5
  raw : List Byte         -- header bytes 0 to 511
deriving DecidableEq, Repr

/-- A firmware slot: its image, as it was checked, and VALID of the directory (R370). -/
structure FwSlot where
  hdr : Option ImageHdr
  valid : Bool
deriving DecidableEq, Repr

/-- The module's one update session (R370): the slot's bytes as written since FW_BEGIN. -/
structure FwSession where
  box : Nat
  slot : Nat
  size : Nat
  cells : List Host.Cell
  committing : Bool       -- FW_COMMIT has closed the session and its checks run
deriving DecidableEq, Repr

/-- Flash slots, the boot selector, and what the mint booted (R369). -/
structure Fw where
  slots : List FwSlot     -- A, B
  sel : Nat               -- slot the selector names
  selTrial : Bool
  selBooted : Bool        -- the slot that the selector names with TRIAL has been booted
  running : Option Nat    -- slot the mint booted; none: recovery, or nothing yet
  trial : Bool            -- it was booted with TRIAL set
  session : Option FwSession
deriving DecidableEq, Repr

/-- A measurement entry (R411). -/
structure Meas where
  index : U32
  type : Nat
  ntInvalid : Bool
  nt : U64
  arg : U32
  digest : List Byte
deriving DecidableEq, Repr

/-- State of a key handle (R416). -/
inductive HandleSt where
  | free | open_ | installed
deriving DecidableEq, Repr

structure KeyHandle where
  st : HandleSt
  job : Nat
  reuse : Nat             -- reuse count, bits [31:16] of the HANDLE
  fails : Nat
  byQpn : Tbl Nat         -- QP_CONNECTs under the key, by QPN (R214)
  ek : List Byte          -- encapsulation key, 1,568 bytes
  blob : List Byte        -- KEY_CT_WRITE bytes, 1,616
  keyCheck : List Byte
  held : Bool             -- an accepted KEY_INSTALL or ATTEST holds it
  seed : Nat              -- the random seed of its ML-KEM key pair
  kjob : List Byte        -- the job key, while INSTALLED
deriving DecidableEq, Repr

/-- The vault and fuses. -/
structure Sec where
  testLocked : Bool
  ownerRequired : Bool
  orderO : Bool
  ownerHash : List Byte
  fusedSvn : Nat
  fuseBusy : Bool
  burnFrom : Nat          -- tick the burn began
  burnSvn : Nat           -- the burn intent (R410)
  burnOwner : Option (List Byte)   -- the owner hash still to be blown
  rngOk : Bool
  logTruncated : Bool
  log : List Meas         -- oldest first, at most 1,024
  measCount : U32
  acc : List Byte         -- 64 bytes
  handles : Tbl KeyHandle -- by index; absent: free, never used
  reports : Tbl (List Byte)   -- per mailbox
  intStatus : BitVec 5    -- AUTH_FAIL, KEY_INSTALLED, KEY_WITHDRAWN, FUSE_DONE, RNG_FAIL
  intEnable : BitVec 5
  gcmTx : U64
  gcmRx : U64
  authFail : U64
  nokeyDrop : U64
  saltAt : Nat            -- tick of the last SALT_REDRAW
deriving DecidableEq, Repr

/-- A handle never opened. -/
def KeyHandle.reset : KeyHandle :=
  { st := .free, job := 0, reuse := 0, fails := 0, byQpn := [], ek := [], blob := [], keyCheck := [], held := false, seed := 0,
    kjob := [] }

/-- The image a module is shipped with, in slot A: one that passes every check of R407 (DESIGN CHOICE, log 30). -/
def ImageHdr.shipped (version : U64) : ImageHdr :=
  { magicOk := true, svn := 0, ownerSigned := false, ownerProvision := false, version := version, bodyDigest := List.replicate 64 0,
    ownerPk := List.replicate 64 0, provisionHash := List.replicate 64 0, haldoldOk := true, ownerSigOk := true, digestOk := true,
    raw := List.replicate 512 0 }

def Fw.shipped (version : U64) : Fw :=
  { slots := [{ hdr := some (ImageHdr.shipped version), valid := true }, { hdr := none, valid := false }], sel := 0,
    selTrial := false, selBooted := false, running := none, trial := false, session := none }

/-- The vault after device reset; fuses are kept. -/
def Sec.reset (testLocked ownerRequired orderO : Bool) (ownerHash : List Byte) (fusedSvn : Nat) : Sec :=
  { testLocked := testLocked, ownerRequired := ownerRequired, orderO := orderO, ownerHash := ownerHash, fusedSvn := fusedSvn,
    fuseBusy := false, burnFrom := 0, burnSvn := 0, burnOwner := none, rngOk := true, logTruncated := false, log := [],
    measCount := 0, acc := List.replicate 64 0, handles := [], reports := [], intStatus := 0, intEnable := 0, gcmTx := 0,
    gcmRx := 0, authFail := 0, nokeyDrop := 0, saltAt := 0 }

end Sys2Proof.Machine
end

