-- ==== Sys2Proof/Machine/QpState.lean ====
section
/-! DEFINITION. State of queue pairs and of the packets their tiles hold (R163 to R216). -/
namespace Sys2Proof.Machine

/-- QP states (R167). -/
inductive QpSt where
  | reset | rts | err | quarantine
deriving DecidableEq, Repr

/-- Whom a message serves. -/
inductive MsgOwner where
  /-- a chain of a context -/
  | chain (c serial : Nat)
  /-- an internal GET of the rendezvous of pairing `pair` in the domain of context `c` -/
  | rndv (c pair : Nat)
  /-- a PUT of a node: `what` 0 a partial of segment `seg`, 1 data away from the root, 2 an arrival, a release or a notice -/
  | coll (node inst what seg : Nat)
deriving DecidableEq, Repr

/-- A message of the requester (R192). -/
structure Msg where
  id : Nat
  owner : MsgOwner
  opcode : Nat
  dst : BitVec 20
  pset : Nat
  policy : Nat
  total : Nat              -- bytes to send, or to GET
  sent : Nat               -- bytes whose packets have been built
  inline_ : Option (List Byte)
  pre : Option (List Byte) -- payload of its first packet, fetched in preparation for a launch (R52)
  lkey : Nat               -- source region, or destination of a GET
  loff : Nat
  rkey : Nat
  roff : Nat
  unit : Nat               -- bytes that one step of OFFSET counts: 1, or the element of a PUT to a window (R258)
  notify : Bool
  ledger : Nat
  ssn : Nat
  comm : Nat
  rank : Nat
  tagv : U64
  rndv : Bool
  lastLen : Nat            -- rendezvous: MSG_LEN
  aop : Nat
  op0 : U64
  op1 : U64
  endPsn : Option Nat      -- once its last packet is built (or it was given up): the extended PSN after it
  endRpsn : Nat            -- the extended RPSN after the last it reserved; 0 none
  fetching : Bool
  served : Bool            -- rendezvous record served (R237)
  code : Nat               -- completion code so far
  result : U64
  astatus : Nat
deriving DecidableEq, Repr

/-- A tracker: an unacknowledged request packet (R197). -/
structure Track where
  psn : Nat                -- extended
  msg : Nat
  th : TransHdr
  ext : List Byte
  payload : List Byte
  dst : BitVec 20
  pset : Nat
  policy : Nat
  retry : Nat
  firstSent : Nat
  lastSent : Nat
  acked : Bool             -- by CUM or SACK; a GET or ATOMIC is kept until its responses are complete (log 35)
  ctxRetry : Bool          -- its last answer was a NAK of reason CTX_RETRY
  backoffAt : Option Nat   -- tick a NAK's BACKOFF ends
deriving DecidableEq, Repr

/-- A response still to come (R195): its RPSN, the PSN and message of its request, and where its data belongs. -/
structure Rsp where
  rpsn : Nat
  psn : Nat
  msg : Nat
  lkey : Nat
  loff : Nat
  len : Nat
  busy : Bool              -- it has arrived and its data is being placed
deriving DecidableEq, Repr

/-- A path chosen for an ORDERED channel (R99): class, LEVEL, via, candidate and FLOW_HASH. -/
structure KeptPath where
  cls : Nat
  level : Nat
  via : Nat
  cand : Nat
  flowHash : Nat
deriving DecidableEq, Repr

/-- A request slot (R180). `busy`: its placement or execution is under way. -/
structure ReqSlot where
  placed : Bool
  end_ : Bool
  retry : Nat
  busy : Bool
  again : Bool             -- an ATOMIC that met poison: its retries meet it again (R296)
  notify : Bool
  ledger : Nat
  opcode : Nat
  ssn : Nat
  bytes : Nat
  payload : List Byte      -- of a request that is being placed, for its message
  hdr : RouteHdr           -- of the request, for its answer
  th : TransHdr
  ext : List Byte
deriving DecidableEq, Repr

/-- A channel slot (R172). Sequence numbers are the 48-bit extended values. -/
structure Chan where
  en : Bool
  tc : Nat
  ordered : Bool
  sndNext : Nat
  sndCum : Nat
  rcvBase : Nat
  rspNext : Nat
  rspBase : Nat
  sndSsn : Nat
  rcvSsn : Nat
  asnTx : Nat
  asnRx : Nat
  msgs : List Msg          -- unfinished messages in send order
  tracks : List Track      -- in PSN order
  slots : Tbl ReqSlot      -- by extended PSN, those between base − WIN and base + WIN
  rsps : List Rsp          -- responses not received, in RPSN order
  nextMsg : Nat            -- number of the next message
  path : Option KeptPath
  atomics : List (Nat × U64 × Nat)   -- atomic log: PSN, RESULT, ASTATUS, newest first, at most 16
  ackFrom : Option Nat     -- tick of the event the pending ACK answers
  congMask : BitVec 8
  nakBase : Option (Nat × Nat)       -- base and tick of the last NAK of reason SEQ
  goBackAt : Nat           -- tick of the last go-back resend (R202)
  msgBytes : Nat           -- bytes placed of the message that base stands in (R391)
  psnAt : Option Nat       -- tick a new request PSN was last assigned (R181)
  rpsnRef : Nat            -- the newest extended RPSN answered at this end as target (R214)
deriving DecidableEq, Repr

/-- A QP context (R171). -/
structure Qp where
  st : QpSt
  errCode : Nat
  addrRank : Bool
  prot : Bool
  pin : Bool
  spilled : Bool
  fetchingCtx : Bool       -- its spilled context is being fetched
  tgtCqe : Bool
  hostLost : Bool
  gen : Nat
  owner : Nat              -- context, bit 15 set for an engine context
  job : Nat
  peer : BitVec 20
  pset : Nat
  peerGen : Nat
  peerQpn : Nat
  peerRank : Nat
  mtuCode : Nat
  winLog2 : Nat
  peerWinLog2 : Nat
  retryMax : Nat
  lifeMax : Nat
  rtoBase : Nat            -- µs
  ackDelay : Nat           -- ns
  window : Nat             -- WINDOW_AREA: device address of its window areas
  handle : Nat             -- KEY_HANDLE of a protected QP
  tkey : Option (List Byte)   -- the traffic key (R419)
  keyErased : Bool         -- a traffic key of the QP has been erased, and none derived since (R419)
  fetchFrom : Nat          -- tick its last host fetch began (R207)
  quarFrom : Nat           -- tick quarantine started
  freeing : Bool           -- QP_DESTROY: the QPN is freed at its end
  chans : List Chan        -- slots 0 and 1
deriving DecidableEq, Repr

/-- Why a packet waits in a tile's suspense buffer (R206, R342). -/
inductive SuspWhy where
  | spilled | early | asleep | paused
deriving DecidableEq, Repr

structure Susp where
  pkt : Packet
  why : SuspWhy
deriving DecidableEq, Repr

def Chan.reset : Chan :=
  { en := false, tc := 0, ordered := false, sndNext := 0, sndCum := 0, rcvBase := 0, rspNext := 0, rspBase := 0, sndSsn := 0,
    rcvSsn := 0, asnTx := 0, asnRx := 0, msgs := [], tracks := [], slots := [], rsps := [], nextMsg := 0, path := none, atomics := [],
    ackFrom := none, congMask := 0, nakBase := none, goBackAt := 0, msgBytes := 0,
    psnAt := none, rpsnRef := 0 }

end Sys2Proof.Machine
end

