-- ==== Sys2Proof/Machine/TileState.lean ====
section
/-! DEFINITION. State of the 64 tiles: torus links, hash salts, congestion scores, arrival queues and counters
(R118 to R133, R93, R111, R144, R216, R247, R287). -/
namespace Sys2Proof.Machine

structure Tile where
  beats : List U64        -- LINK_BEATS[4 × plane + dir]
  intStatus : BitVec 2    -- LINK_ERR, PLANE_DOWN
  intEnable : BitVec 2
  cong : Tbl Nat          -- score of candidate i of group g at key 8 g + i; absent: 0
  salt : U32              -- R111
  expQ : List Packet      -- EXP ejection queue, head first (R144)
  inQ : List Packet       -- other packets ejected to the tile, in arrival order
  lost : List Packet      -- LINK_LOST notices (R459)
  susp : List Susp        -- suspense buffer of 512 packets (R206)
  missQ : List Packet     -- miss queue of 32 packets (R204)
  turn : Nat              -- the context from which the round robin over its contexts goes on (R388)
  cached : List Nat       -- QPNs whose contexts are cached, most recently used first, at most 1,024 (R204)
  authAt : Option Nat     -- tick of the last report of an authentication failure (R215)
  tp : List U64           -- the 15 TP_* counters (R216)
  suspWmark : Nat         -- TP_SUSP_WMARK
  fetchTicks : Nat        -- its host fetch time: what its last fetch of a spilled context took (R207)
  mt : List U64           -- the 9 MT_* counters (R247)
  cu : List U64           -- CU_ELEMS, CU_BYTES_IN, CU_EXACT_BYTES_IN, CU_RESOURCE_NAK, CU_BAD_RECORD
  cl : List U64           -- CL_INSTANCES, CL_FAILED, CL_LATE_RELEASE, LG_UPDATES, LG_WAKES, LG_POISON
  clLateMax : U32         -- CL_LATE_MAX
deriving DecidableEq, Repr

/-- A tile after device reset. The salt drawn then is a free value (log 8). -/
def Tile.reset : Tile :=
  { beats := List.replicate 8 0, intStatus := 0, intEnable := 0, cong := [], salt := 0,
    expQ := [], inQ := [], lost := [], authAt := none, susp := [], missQ := [], turn := 0, cached := [], tp := List.replicate 15 0, suspWmark := 0, fetchTicks := 0, mt := List.replicate 9 0,
    cu := List.replicate 5 0, cl := List.replicate 6 0, clLateMax := 0 }

end Sys2Proof.Machine
end

