-- ==== Sys2Proof/Machine/TimeState.lean ====
section
/-! DEFINITION. State of network time: the count itself, the module and link time status, the servo, and the launch
settings (R22 to R58). -/
namespace Sys2Proof.Machine

/-- The clock. `now` counts the ticks of NT that have elapsed, without the jump of its load, for every interval the module measures
(R23, log 138); `nt` is the NT count; `frac` is the part of a tick, in 1/10^9, by which the slewed NT is ahead (R36). -/
structure Clock where
  now : Nat
  nt : U64
  frac : Nat
deriving DecidableEq, Repr

/-- LINK_TIME of a port (R37). -/
inductive LinkTime where
  | lost | acquire | locked
deriving DecidableEq, Repr

/-- Module time status (R40), also what partners report (R33). -/
inductive TStatus where
  | lost | holdover | locked
deriving DecidableEq, Repr

/-- A MARK sent and not yet answered: its SEQ, the T1 it carries, and T1 on the present NT (moved by the load of
R23), R35. -/
structure OutMark where
  seq : U16
  t1 : U64
  t1now : U64
deriving DecidableEq, Repr

/-- Time state of one port (R35 to R38). -/
structure TimePort where
  link : LinkTime
  failRun : Nat
  run : List Int           -- delays of the present run of valid samples, newest first, at most 8
  partner : TStatus
  partnerDepth : Nat       -- 15: none
  partnerErr : U32
  partnerRoot : Nat
  mismatch : Bool          -- ROOT_MISMATCH
  conflictAt : Option Nat  -- tick of the last TIME_ROOT_CONFLICT event
  asym : Int
  delay : Int
  theta : Int              -- θ of the last valid sample
  fresh : Bool             -- its REPLY reported a status other than LOST (log 26)
  sampleAt : Nat           -- tick of the last valid sample
  markSeq : U16            -- SEQ of the next MARK
  markWait : Bool          -- a MARK waits for its flit boundary
  markAt : Option Nat      -- tick the last MARK fell due
  out : Option OutMark
deriving DecidableEq, Repr

/-- The timekeeper. -/
structure TimeState where
  ntValid : Bool
  loadedNt : U64          -- NT as it was loaded (R23); 0 before
  root : Bool
  rootRef : Nat
  epoch : U64
  lostRun : Bool           -- LOST_POLICY: RUN
  maxDepth : Nat
  cands : List Nat         -- PARENT_CAND bytes, rank 0 first; 0xFF none
  holdLimit : Nat          -- ns
  lt : Nat                 -- LT.UNITS
  status : TStatus
  refLock : Bool
  heldEnd : Option U64     -- NT at which LOST under HOLD last ended (R55)
  parent : Option Nat
  lastParent : Option Nat
  parentBad : Nat          -- tick since which the parent has not reported LOCKED
  errBase : Nat            -- ERR_BOUND at `errFrom`, ticks
  errFrom : Nat            -- tick from which it grows (R39)
  theta : Int
  rateAdj : Int            -- ppb
  integ : Int
  latePolicy : Bool
  horizon : Nat            -- ms
  lateCnt : U32
  lateMax : U32
  intStatus : BitVec 6
  intEnable : BitVec 6
  refRoot : Option Nat     -- root ID of the parent, or of the last one (R28)
  accept : Option Nat      -- value of the last ACCEPT_ROOT (R28, R43)
  ports : Tbl TimePort     -- absent: `TimePort.reset`
deriving DecidableEq, Repr

def TimePort.reset : TimePort :=
  { link := .lost, failRun := 0, run := [], partner := .lost, partnerDepth := 15,
    partnerErr := 0, partnerRoot := 0, mismatch := false, conflictAt := none, asym := 0, delay := 0,
    theta := 0, fresh := false, sampleAt := 0, markSeq := 0, markWait := false, markAt := none, out := none }

def TimeState.reset : TimeState :=
  { ntValid := false, loadedNt := 0, root := false, rootRef := 0, epoch := 0, lostRun := false, maxDepth := 8,
    cands := [0xFF, 0xFF, 0xFF, 0xFF], holdLimit := 64, lt := 3125, status := .lost, refLock := false, heldEnd := none, parent := none,
    lastParent := none, parentBad := 0, errBase := 0, errFrom := 0, theta := 0, rateAdj := 0, integ := 0,
    latePolicy := false, horizon := 10000, lateCnt := 0, lateMax := 0, intStatus := 0, intEnable := 0, refRoot := none, accept := none,
    ports := [] }

end Sys2Proof.Machine
end

