-- ==== Sys2Proof/Machine/FaultState.lean ====
section
/-! DEFINITION. State of fault handling and of the performance counters: capture sets, reactions, the two
logs, the counters and the tally sweep (R502 to R532). -/
namespace Sys2Proof.Machine

/-- The fault kinds (R505). -/
inductive FaultKind where
  | configDefaulted | regionSkew | timeLost | linkBroken | linkReplay | cablePower | torusCorrected | planeDown
  | hbmCorrected | hbmUncorrected | hostCplTimeout | vaultRng | arrayCorrected | coreRestart | wireFault
  | handshakeStall | stateLost
deriving DecidableEq, Repr

/-- The severities (R503), in rising order. -/
inductive Sev where
  | ce | de | uc | uf
deriving DecidableEq, Repr

/-- What a checker detects of one fault (R505, R506, R518, R519). -/
structure Detection where
  kind : FaultKind
  fatal : Bool             -- VAULT_RNG detected before Balyn starts (R505); ignored for other kinds
  context : Option Nat     -- the context named in the record (R506)
  infoA : U32
  infoB : U64
deriving DecidableEq, Repr


/-- One fault record (R518) as its fields. -/
structure FaultRec where
  seq : U32
  kind : FaultKind
  sev : Sev
  ntInvalid : Bool
  injected : Bool
  persist : Bool
  source : Nat
  nt : U64
  reactions : BitVec 5
  context : Option Nat
  infoA : U32
  infoB : U64
deriving DecidableEq, Repr

/-- A fault injection that is armed at a source (R523). -/
structure Injection where
  checker : Nat
  arg : Nat
  mask : U64
  left : Nat          -- operations still to be inverted
  full : Bool         -- FULL_REACTION
deriving DecidableEq, Repr

/-- A recorded fault whose reactions are still to be applied: its record, whether its severity took over (R512), and its mask. -/
structure Deferred where
  record : FaultRec
  higher : Bool
  mask : BitVec 5
deriving DecidableEq, Repr

/-- The capture set of one source (R511, R532). -/
structure Capture where
  valid : Bool
  second : Bool
  firstSev : Sev
  highestSev : Sev
  unwatched : Bool
  levels : Nat         -- levels of an equal report pair (R519); meaningful while `unwatched`
  polledAt : Nat       -- tick of the auditor's last poll of an unwatched source (R509)
  found : List Deferred  -- faults of an unwatched source whose reactions wait for the next poll (R509)
  intEn : Bool
  count : U32          -- saturates
  seq : U32            -- next SEQ of the source
  record : Option FaultRec
  inject : Option Injection
deriving DecidableEq, Repr

/-- Containment of a recorded fault that is due (R504): it is carried out before the command that
recorded the fault ends. -/
structure Due where
  source : Nat
  context : Option Nat
  fence : Bool
  isolate : Bool
  stop : Bool
deriving DecidableEq, Repr

/-- One record of the module event log or of the persistent log (R520). -/
structure LogRec where
  event : Nat
  ntInvalid : Bool
  persistent : Bool
  byStandby : Bool
  boot : Byte
  seq : U32
  nt : U64
  source : Nat         -- 0xFFFF when not a fault source
  data : List Byte     -- bytes 20 to 63
deriving DecidableEq, Repr

/-- What the registers that STOPPED freezes read from, as it stood when STOP completed (R552). -/
structure Frozen where
  clk : Clock
  pwr : Power
  pwrCfg : PwrCfg
  sup : Supply
  host : HostPorts
  time : TimeState
  route : Route
  links : Tbl LinkPort
  conns : Tbl Connector
  scheds : Tbl SchedPort
  tiles : Tbl Tile
  planes : List Bool
  net : Net
  sec : Sec
  fw : Fw
  mem : Mem
  nodes : Tbl Node
deriving DecidableEq, Repr

/-- The auditor's registers and the logs. -/
structure Faults where
  scheme : Nat
  stopped : Bool
  stopSource : Nat       -- source of the fault that stopped the module
  frozen : Option Frozen -- set when STOP completed (R552)
  intStatus : BitVec 5   -- CE, DE, UC, UF, EVENT
  intEnable : BitVec 5
  firstSource : Nat
  captures : Tbl Capture        -- absent: `Capture.reset`
  react : Tbl (BitVec 5)        -- changed reactions by kind value; absent: the default of R505
  evlog : List LogRec           -- newest first, at most 65,536
  evSeq : U32                   -- AUD.EVLOG_SEQ
  plogDropped : U64
  causes : List (Nat × Detection)   -- per source, the last detections of kinds whose cause can persist (R513)
  due : List Due
deriving DecidableEq, Repr

/-- The persistent log partition and the standby controller's own sequence (R522). -/
structure PLog where
  recs : List LogRec            -- newest first
  standbySeq : U32
  winFrom : Nat                 -- tick the present second of R522 began
  winCount : Nat                -- records written to the partition in it
deriving DecidableEq, Repr

/-- One performance counter (R525). -/
structure PerfCtr where
  count : BitVec 48
  ovf : Bool
  event : Nat
  instance_ : Nat
  qual : Nat
  grant : Option Nat            -- GRANT_CTX while GRANTED
  resel : Bool                  -- PERF_SELECT since the previous dump (R529)
deriving DecidableEq, Repr

/-- A dump of the sweep whose slot is being written: 8-byte units still to be issued, and the writes issued to
an HBM region that its gateways have not accepted yet (R529). -/
structure Dump where
  seq : U32
  nt : U64
  lkey : U32                    -- the region it goes to
  slotOff : Nat                 -- offset of the slot in it
  bytes : List Byte             -- the slot, trailer included
  accepted : Nat                -- bytes of it accepted
deriving DecidableEq, Repr

/-- Counters and sweep (R525 to R532). -/
structure Perf where
  ctrs : Tbl PerfCtr            -- absent: `PerfCtr.reset`
  running : Bool
  stoppedDest : Bool
  period : Nat                  -- ns
  first : Nat
  n : Nat
  slotsLog2 : Nat
  lkey : U32
  offset : Nat
  owner : Nat                   -- mailbox that configured the sweep
  seq : U32                     -- SWEEP_SEQ.NEXT
  missed : U64
  missedSince : U32             -- skipped since the previous dump
  lastNt : U64
  firstDump : Bool              -- the next dump is the first after the start
  startNt : U64
  dump : Option Dump
deriving DecidableEq, Repr

def Capture.reset : Capture :=
  { valid := false, second := false, firstSev := .ce, highestSev := .ce, unwatched := false, levels := 0, polledAt := 0, found := [],
    intEn := true, count := 0, seq := 0, record := none, inject := none }

def PerfCtr.reset : PerfCtr :=
  { count := 0, ovf := false, event := 0, instance_ := 0xFFFF, qual := 0, grant := none, resel := false }

def Faults.reset : Faults :=
  { scheme := 0, stopped := false, stopSource := 0, frozen := none, intStatus := 0, intEnable := 0, firstSource := 0xFFFF, captures := [],
    react := [], evlog := [], evSeq := 0, plogDropped := 0, causes := [], due := [] }

def PLog.reset : PLog := { recs := [], standbySeq := 0, winFrom := 0, winCount := 0 }

def Perf.reset : Perf :=
  { ctrs := [], running := false, stoppedDest := false, period := 0, first := 0, n := 0, slotsLog2 := 0, lkey := 0,
    offset := 0, owner := 0, seq := 1, missed := 0, missedSince := 0, lastNt := 0, firstDump := false, startNt := 0,
    dump := none }

end Sys2Proof.Machine
end

