-- ==== Sys2Proof/Syntax.lean ====
section
/-! DEFINITION. The commands the module takes: one constructor per row of the opcode table, with the row's operands. A row with a completion
(`…Done`) names the long command by its mailbox and token. -/
namespace Sys2Proof

/-- A command (R6, R354 and the sections its row names). -/
inductive Instr where
  /-- STANDBY_POWER_UP (R479): VSTBY_54 rises above 36 V; the standby controller starts and the module enters A3. -/
  | standbyPowerUp
  /-- STANDBY_POWER_LOSS (R494): VSTBY_54 falls below 30 V; the module goes OFF and standby-held settings return to defaults. -/
  | standbyPowerLoss
  /-- MOD_RESET_ASSERT (R493): MOD_RESET_N is held low longer than the glitch limit; the fabric die enters device reset. -/
  | modResetAssert (us : Nat)
  /-- MOD_RESET_DEASSERT (R493): MOD_RESET_N returns high; the T_REL release delay starts once no other reset cause remains. -/
  | modResetDeassert
  /-- DEVICE_RESET_RELEASE (R493): T_REL after the last reset cause clears, the die leaves reset, SLOT_ID is sampled and the mint starts
  on bursar 0. -/
  | deviceResetRelease
  /-- BALYN_START (R408): The mint finishes its checks and measurements and starts Balyn, which draws the interleave key and trains HBM.
  -/
  | balynStart
  /-- ALIVE_RUNNING (R551): Balyn has written every configuration register and sets DIR.ALIVE.STATE to RUNNING. -/
  | aliveRunning
  /-- CONFIG_SPACE_READY (R329): Balyn finishes setting up an endpoint's configuration space and the endpoint stops answering Request
  Retry Status. -/
  | configSpaceReady (e : Fin 4)
  /-- HEARTBEAT (R332): Every 1 ms Balyn increments DIR.ALIVE.HEARTBEAT. -/
  | heartbeat
  /-- FUSE_BURN_DONE (R410): Bursar 1 finishes blowing the SVN and owner fuses, clears FUSE_BUSY and sets FUSE_DONE. -/
  | fuseBurnDone
  /-- VAULT_RNG_FAIL (R421): A health test of the vault random source fails; a UC or UF VAULT_RNG fault follows. -/
  | vaultRngFail (test : Nat)
  /-- SEAT_QUALIFIED (R480): Both seating contacts have read low for 25 ms; MODULE_SEATED is emitted and the eFuse ramp begins. -/
  | seatQualified
  /-- SEAT_LOSS (R481): A seating contact reads high in 2 consecutive samples; the eFuse gate turns off and qualification is discarded. -/
  | seatLoss (a : Bool) (b : Bool)
  /-- EFUSE_RAMP_DONE (R482): Vout passes 90 % of VIN; the gate enhances fully, the curve arms and the converters start. -/
  | efuseRampDone (ma : Nat)
  /-- RAMP_TIMEOUT (R482): Vout has not passed 90 % of VIN within 15 ms of ramp start; the eFuse trips. -/
  | rampTimeout
  /-- FAST_TRIP (R483): Current exceeds 45 A; the eFuse interrupts it within 300 ns with cause FAST. -/
  | fastTrip
  /-- CURVE_TRIP (R484): A time-current curve timer reaches its T_k; the eFuse trips with cause CURVE. -/
  | curveTrip (k : Fin 8) (ma : Nat)
  /-- PWR_GOOD_ASSERT (R486): The gate is fully on, every supply regulates and no curve timer runs; PWR_GOOD asserts. -/
  | pwrGoodAssert (vin : Nat) (ma : Nat) (vcore : List Nat)
  /-- PG_TIMEOUT (R488): A retry attempt has not asserted PWR_GOOD within 20 ms; the attempt fails. -/
  | pgTimeout
  /-- EFUSE_RETRY (R488): The off time after a trip elapses (and junctions are at 85 °C or less after THERMAL); a new attempt ramps. -/
  | efuseRetry (tj : List Nat)
  /-- RETRY_COUNT_RESET (R488): PWR_GOOD has stayed asserted for 60 s; USED returns to 0. -/
  | retryCountReset
  /-- VIN_SAG (R490): VIN stays below its warning threshold for the filter time; SAG_WARN, ALERT_N and a VIN_SAG event follow. -/
  | vinSag (mv : Nat)
  /-- VIN_RESET (R490): VIN stays below its reset threshold; device reset follows and the converters stop. -/
  | vinReset (mv : Nat)
  /-- VIN_OVERVOLTAGE (R490): VIN exceeds 63 V; the eFuse turns off without counting a trip. -/
  | vinOvervoltage (mv : Nat)
  /-- VCORE_LOW (R490): A VCORE region falls below its warning threshold; VCORE_WARN, ALERT_N and BOUND_OK cleared. -/
  | vcoreLow (q : Fin 4) (mv : Nat)
  /-- VCORE_RESET (R15): A VCORE region falls below its reset threshold; device reset follows. -/
  | vcoreReset (q : Fin 4) (mv : Nat)
  /-- TEMP_HIGH (R490): A junction exceeds 105 °C; TEMP_WARN, ALERT_N and a TEMP_HIGH event. -/
  | tempHigh (q : Fin 4) (c : Nat)
  /-- TEMP_SHUTDOWN (R490): A junction exceeds 115 °C; the eFuse trips with cause THERMAL. -/
  | tempShutdown (q : Fin 4) (c : Nat)
  /-- COOLANT_WARN (R490): Coolant inlet is above 45 °C or flow below 1.2 L/min for 1 s; COOLANT_WARN is raised. -/
  | coolantWarn (inlet : Nat) (flow : Nat)
  /-- THRESHOLD_CLEAR (R490): A supervised reading passes its threshold by the hysteresis; the condition clears and, for VIN, converters
  restart. -/
  | thresholdClear (w : Machine.Clearing)
  /-- REGION_SKEW (R14): The 100 µs comparison of neighbouring regions finds the difference over limit for 10 comparisons, or back in
  limit for 10. -/
  | regionSkew (vcore : List Nat) (tj : List Nat)
  /-- A2_ENTRY (R495): All A2 entry conditions hold; tellers and clearing units stop, HBM self-refreshes and ports want DOZE. -/
  | a2Entry
  /-- A2_ENTRY_TIMEOUT (R494): The A2 entry conditions have not held within 10 ms of PWR_SET_STATE A2; the state is unchanged and STATE
  is recorded. -/
  | a2EntryTimeout
  /-- A2_WAKE (R496): A wake event in A2 starts the return to A0 within 8 µs. -/
  | a2Wake
  /-- TRANSIT_DOZE_WAIT (R496): A transit packet of TC1 to TC7 has waited 10 µs at an egress port in DOZE; the wake begins. -/
  | transitDozeWait (p : Fin 64)
  /-- LAUNCH_WAKE (R55): A pending launch target approaches in A2; the wake to A0 begins. -/
  | launchWake
  /-- PERST_ASSERT (R345): PERST0_N or PERST1_N asserts; the port's PCIe layers reset and its functions depart. -/
  | perstAssert (k : Fin 2)
  /-- PERST_DEASSERT (R329): PERST deasserts; link training starts and configuration requests get Request Retry Status. -/
  | perstDeassert (k : Fin 2)
  /-- HOST_ARRIVED (R343): An endpoint's Data Link Layer comes up; a HOST_ARRIVED record is written. -/
  | hostArrived (e : Fin 4) (speed : Nat) (width : Nat)
  /-- HOST_DEPARTED (R341): An endpoint's Data Link Layer goes down; its contexts become HOST_LOST and its mailbox page resets. -/
  | hostDeparted (e : Fin 4)
  /-- VF_DISABLE (R341): Host clears VF Enable; the endpoint's VFs depart and their contexts become HOST_LOST. -/
  | vfDisable (e : Fin 4)
  /-- BME_CLEAR (R342): A function's Bus Master Enable is cleared; its contexts issue no DMA. -/
  | bmeClear (e : Fin 4) (fn : Fin 65)
  /-- BME_SET (R342): Bus Master Enable is set again in D0; the function's contexts resume in order. -/
  | bmeSet (e : Fin 4) (fn : Fin 65)
  /-- D3HOT_ENTRY (R342): A function enters D3hot; its DMA, completions and interrupts wait. -/
  | d3hotEntry (e : Fin 4) (fn : Fin 65)
  /-- NO_FLIT_RETRY (R323): An endpoint whose partner offered no Flit Mode retries training every 100 ms. -/
  | noFlitRetry (e : Fin 4)
  /-- DMA_READ_COMPLETION (R337): A PCIe completion for an outstanding tag arrives before its timeout and answers the request. -/
  | dmaReadCompletion (e : Fin 4) (tag : Fin 4096) (ok : Bool) (data : List Byte)
  /-- COMPLETION_TIMEOUT (R335): A non-posted request has no completion by the selected timeout; it is reported and settled by request
  type. -/
  | completionTimeout (e : Fin 4) (tag : Fin 4096)
  /-- LATE_COMPLETION (R336): A completion arrives for a quarantined tag; it is discarded, counted and the tag returns to the pool. -/
  | lateCompletion (e : Fin 4) (tag : Fin 4096)
  /-- UNEXPECTED_COMPLETION (R336): A completion arrives for a tag neither outstanding nor quarantined; it is discarded and counted. -/
  | unexpectedCompletion (e : Fin 4) (tag : Fin 4096)
  /-- TAG_QUARANTINE_RELEASE (R336): Four times the timeout has passed since a timed-out request; its tag returns to the pool. -/
  | tagQuarantineRelease (e : Fin 4) (tag : Fin 4096)
  /-- BAR4_READ (R302): Host reads BAR4; performed only when every byte lies in a chunk set in the PF's bitmap. -/
  | bar4Read (e : Fin 4) (off : Nat) (n : Nat)
  /-- BAR4_WRITE (R302): Host writes BAR4; performed only when every byte lies in a permitted chunk. -/
  | bar4Write (e : Fin 4) (off : Nat) (data : List Byte)
  /-- HOST_ATOMICOP (R340): Host sends an AtomicOp to a BAR; it completes Unsupported Request. -/
  | hostAtomicop (e : Fin 4) (fn : Fin 65) (bar4 : Bool)
  /-- REGISTER_WRITE (R6): A host write to a register field with no row of its own, applied by access type and R327. -/
  | registerWrite (e : Fin 4) (fn : Fin 65) (w : Machine.RegWrite)
  /-- NT_NOW_LO_READ (R57): A 32-bit read of TIME.NT_NOW_LO latches NT[63:32] for the reading function. -/
  | ntNowLoRead (e : Fin 4) (fn : Fin 65)
  /-- LAUNCH_LATE_CNT_READ (R58): Read of TIME.LAUNCH_LATE_CNT returns and clears it. -/
  | launchLateCntRead (e : Fin 4) (fn : Fin 65)
  /-- LAUNCH_LATE_MAX_READ (R58): Read of TIME.LAUNCH_LATE_MAX returns and clears it. -/
  | launchLateMaxRead (e : Fin 4) (fn : Fin 65)
  /-- WMARK_READ (R115): Read of a port VC WMARK returns the largest till depth since the last read and clears it. -/
  | wmarkRead (e : Fin 4) (fn : Fin 65) (p : Fin 64) (v : Fin 12)
  /-- TC0_QDEPTH_MAX_READ (R162): Read of SCHED.TC0_QDEPTH_MAX returns and clears it. -/
  | tc0QdepthMaxRead (e : Fin 4) (fn : Fin 65) (p : Fin 64)
  /-- TP_SUSP_WMARK_READ (R216): Read of TILE.TP_SUSP_WMARK returns and clears it. -/
  | tpSuspWmarkRead (e : Fin 4) (fn : Fin 65) (t : Fin 64)
  /-- CL_LATE_MAX_READ (R287): Read of TILE.CL_LATE_MAX returns and clears it. -/
  | clLateMaxRead (e : Fin 4) (fn : Fin 65) (t : Fin 64)
  /-- FAULT_COUNT_READ (R321): Read of XLT.FAULT_COUNT returns and clears it. -/
  | faultCountRead (e : Fin 4) (fn : Fin 65) (a : Fin 19)
  /-- INVAL_ALL (R309): Write of XLT.INVAL with GO and scope ALL invalidates every entry of the PF's ASIDs. -/
  | invalAll (w : Machine.InvalBy)
  /-- INVAL_ASID (R309): Write of XLT.INVAL with GO and scope ASID invalidates the non-global entries of one ASID. -/
  | invalAsid (w : Machine.InvalBy) (asid : Fin 4096)
  /-- INVAL_RANGE (R309): Write of XLT.INVAL with GO and scope RANGE invalidates entries overlapping a VA range. -/
  | invalRange (w : Machine.InvalBy) (asid : Fin 4096) (size : Fin 64)
  /-- INVAL_GLOBAL (R309): Write of XLT.INVAL with GO and scope GLOBAL invalidates the PF's global entries. -/
  | invalGlobal (w : Machine.InvalBy)
  /-- INVAL_DONE (R310): No entry of the scope remains and removed translations are issued; DONE is set. -/
  | invalDone (w : Machine.InvalBy)
  /-- AUD_SRC_CLEAR (R513): Management PF writes 1 to AUD.SRC_STATUS.VALID; the source's capture set clears, or sets again with PERSIST.
  -/
  | audSrcClear (e : Fin 4) (n : Nat)
  /-- MBX_DOORBELL (R352): Write of a mailbox DOORBELL takes the request, or sets OVERRUN when BUSY. -/
  | mbxDoorbell (e : Fin 4) (v : U32)
  /-- EVT_TAIL_WRITE (R349): Write of a mailbox EVT_TAIL consumes event records up to EVT_HEAD. -/
  | evtTailWrite (e : Fin 4) (v : Byte)
  /-- EVT_HELD_WRITE (R357): An event slot frees; a held completion record is written and EVT_HEAD advances. -/
  | evtHeldWrite (m : Fin 5)
  /-- I3C_ENTDAA (R371): The BMC assigns the standby controller's dynamic address by ENTDAA. -/
  | i3cEntdaa (addr : Fin 128)
  /-- SET_ENDPOINT_ID (R372): MCTP control command Set Endpoint ID. -/
  | setEndpointId (inst : Fin 32) (op : Fin 4) (eid : Byte)
  /-- GET_ENDPOINT_ID (R372): MCTP control command Get Endpoint ID. -/
  | getEndpointId (inst : Fin 32)
  /-- GET_ENDPOINT_UUID (R372): MCTP control command Get Endpoint UUID. -/
  | getEndpointUuid (inst : Fin 32)
  /-- GET_MCTP_VERSION_SUPPORT (R372): MCTP control command Get MCTP Version Support. -/
  | getMctpVersionSupport (inst : Fin 32) (type : Byte)
  /-- GET_MESSAGE_TYPE_SUPPORT (R372): MCTP control command Get Message Type Support. -/
  | getMessageTypeSupport (inst : Fin 32)
  /-- GET_VENDOR_MESSAGE_SUPPORT (R372): MCTP control command Get Vendor Defined Message Support. -/
  | getVendorMessageSupport (inst : Fin 32) (selector : Byte)
  /-- MCTP_UNSUPPORTED_CMD (R372): Any other MCTP control command is answered ERROR_UNSUPPORTED_CMD. -/
  | mctpUnsupportedCmd (inst : Fin 32) (code : Byte)
  /-- BMC_BCI_REQUEST (R373): An MCTP vendor message carries a BCI request into mailbox 4, or is answered BUSY. -/
  | bmcBciRequest (msg : List Byte)
  /-- NOP (R366): BCI NOP answers OK. -/
  | nop (m : Fin 5)
  /-- LONG_STATUS (R556): BCI LONG_STATUS reports a token's state. -/
  | longStatus (m : Fin 5)
  /-- EVT_READ (R556): BCI EVT_READ returns and consumes up to 15 BMC event records. -/
  | evtRead (m : Fin 5)
  /-- GET_VERSION (R366): BCI GET_VERSION returns mint, Balyn and BCI versions. -/
  | getVersion (m : Fin 5)
  /-- GET_IDENTITY (R556): BCI GET_IDENTITY returns serial, part, variant and module ID. -/
  | getIdentity (m : Fin 5)
  /-- GET_CERT_CHAIN (R415): BCI GET_CERT_CHAIN returns 992 bytes of the certificate chain. -/
  | getCertChain (m : Fin 5)
  /-- GET_MEASUREMENTS (R415): BCI GET_MEASUREMENTS returns part of the measurement log or the last report. -/
  | getMeasurements (m : Fin 5)
  /-- ATTEST (R414): BCI ATTEST accepts a long command to sign a report over a nonce. -/
  | attest (m : Fin 5)
  /-- ATTEST_DONE (R414): The attestation report is signed and its completion record is written. -/
  | attestDone (m : Fin 5) (token : U32)
  /-- MCR_READ (R556): BCI MCR_READ returns the accepted configuration record. -/
  | mcrRead (m : Fin 5)
  /-- MCR_WRITE (R18): BCI MCR_WRITE accepts a new configuration record for writing. -/
  | mcrWrite (m : Fin 5)
  /-- MCR_WRITE_DONE (R18): The record is written into the older copy and the completion record is written. -/
  | mcrWriteDone (m : Fin 5) (token : U32)
  /-- SET_MGMT_PF (R327): BCI SET_MGMT_PF names the management PF. -/
  | setMgmtPf (m : Fin 5)
  /-- SET_TAG_POOL (R334): BCI SET_TAG_POOL sets an endpoint's tag pool size. -/
  | setTagPool (m : Fin 5)
  /-- GET_MODULE_STATE (R556): BCI GET_MODULE_STATE returns ALIVE, power, time and fault summary. -/
  | getModuleState (m : Fin 5)
  /-- PORT_QUERY (R468): BCI PORT_QUERY returns link state and the partner CAP record. -/
  | portQuery (m : Fin 5)
  /-- PORT_SET (R468): BCI PORT_SET changes enable, width, rate, timers and reservations of ports. -/
  | portSet (m : Fin 5)
  /-- PORT_RETRAIN (R468): BCI PORT_RETRAIN declares a port down with cause RETRAIN and retrains it. -/
  | portRetrain (m : Fin 5)
  /-- PORT_RETRAIN_DONE (R468): The retrained port reaches its final state and the completion record is written. -/
  | portRetrainDone (m : Fin 5) (token : U32)
  /-- SET_IDENTITY (R62): BCI SET_IDENTITY sets group, system groups and position once per reset. -/
  | setIdentity (m : Fin 5)
  /-- SET_PORT_ROLE (R71): BCI SET_PORT_ROLE writes one port role entry. -/
  | setPortRole (m : Fin 5)
  /-- SET_EXIT (R84): BCI SET_EXIT writes up to 124 exit table entries. -/
  | setExit (m : Fin 5)
  /-- SET_GROUP_ROUTE (R85): BCI SET_GROUP_ROUTE writes one group route entry and invalidates cached copies. -/
  | setGroupRoute (m : Fin 5)
  /-- SET_PSET (R556): BCI SET_PSET writes a path-set profile. -/
  | setPset (m : Fin 5)
  /-- SET_ROUTE_CTRL (R556): BCI SET_ROUTE_CTRL sets the default policy and DECAY_US. -/
  | setRouteCtrl (m : Fin 5)
  /-- SET_CONG_THRESH (R556): BCI SET_CONG_THRESH sets congestion thresholds of ports. -/
  | setCongThresh (m : Fin 5)
  /-- ROUTE_QUERY (R556): BCI ROUTE_QUERY reads back a route table entry. -/
  | routeQuery (m : Fin 5)
  /-- CTX_CREATE (R368): BCI CTX_CREATE creates a host context in OFF. -/
  | ctxCreate (m : Fin 5)
  /-- CTX_DESTROY (R366): BCI CTX_DESTROY accepts destruction of a context and its objects. -/
  | ctxDestroy (m : Fin 5)
  /-- CTX_DESTROY_DONE (R366): The context's QPs, nodes, domain, ledgers and regions are gone and the record is written. -/
  | ctxDestroyDone (m : Fin 5) (token : U32)
  /-- CTX_QUERY (R556): BCI CTX_QUERY returns a context's settings and state. -/
  | ctxQuery (m : Fin 5)
  /-- CTX_SET (R556): BCI CTX_SET changes EAGER_LIMIT or the spill area. -/
  | ctxSet (m : Fin 5)
  /-- DOMAIN_CREATE (R217): BCI DOMAIN_CREATE creates a match domain. -/
  | domainCreate (m : Fin 5)
  /-- DOMAIN_DESTROY (R243): BCI DOMAIN_DESTROY accepts destruction of a match domain. -/
  | domainDestroy (m : Fin 5)
  /-- DOMAIN_DESTROY_DONE (R243): Posted receives complete ABORTED, records are freed and the completion record is written. -/
  | domainDestroyDone (m : Fin 5) (token : U32)
  /-- LEDGER_ALLOC (R279): BCI LEDGER_ALLOC allocates zeroed ledgers to a context. -/
  | ledgerAlloc (m : Fin 5)
  /-- LEDGER_FREE (R556): BCI LEDGER_FREE frees a range of ledgers. -/
  | ledgerFree (m : Fin 5)
  /-- LEDGER_ATTR (R279): BCI LEDGER_ATTR sets REMOTE and SHARE. -/
  | ledgerAttr (m : Fin 5)
  /-- JOB_CREATE (R67): BCI JOB_CREATE writes a job descriptor. -/
  | jobCreate (m : Fin 5)
  /-- JOB_DESTROY (R366): BCI JOB_DESTROY removes a job with no remaining objects. -/
  | jobDestroy (m : Fin 5)
  /-- RANK_WRITE (R68): BCI RANK_WRITE writes rank entries and invalidates cached translations. -/
  | rankWrite (m : Fin 5)
  /-- JOB_QUERY (R556): BCI JOB_QUERY returns a descriptor and rank entries. -/
  | jobQuery (m : Fin 5)
  /-- COLL_NODE_CREATE (R251): BCI COLL_NODE_CREATE creates a node in LINKING and its window region. -/
  | collNodeCreate (m : Fin 5)
  /-- COLL_NODE_LINK (R253): BCI COLL_NODE_LINK supplies QPNs and keys and moves the node to READY. -/
  | collNodeLink (m : Fin 5)
  /-- COLL_NODE_DESTROY (R253): BCI COLL_NODE_DESTROY destroys a member's nodes and aborts active instances. -/
  | collNodeDestroy (m : Fin 5)
  /-- QP_CREATE (R168): BCI QP_CREATE allocates a QPN in RESET. -/
  | qpCreate (m : Fin 5)
  /-- QP_CONNECT (R168): BCI QP_CONNECT moves a QP from RESET to RTS with a new GEN. -/
  | qpConnect (m : Fin 5)
  /-- QP_RESET (R168): BCI QP_RESET moves a QP to QUARANTINE and aborts unfinished entries. -/
  | qpReset (m : Fin 5)
  /-- QP_DESTROY (R168): BCI QP_DESTROY moves a QP to QUARANTINE for freeing. -/
  | qpDestroy (m : Fin 5)
  /-- QP_QUERY (R171): BCI QP_QUERY returns context bytes 0 to 175. -/
  | qpQuery (m : Fin 5)
  /-- REG_REGISTER (R298): BCI REG_REGISTER accepts a region registration and returns its RKEY. -/
  | regRegister (m : Fin 5)
  /-- REG_REGISTER_DONE (R368): The region's chunks are zeroed, the region reads VALID and the record is written. -/
  | regRegisterDone (m : Fin 5) (token : U32)
  /-- REG_DEREGISTER (R299): BCI REG_DEREGISTER clears VALID, removes BAR4 bits and holds the index. -/
  | regDeregister (m : Fin 5)
  /-- REG_QUERY (R366): BCI REG_QUERY returns descriptor bytes 0 to 26. -/
  | regQuery (m : Fin 5)
  /-- ASID_ALLOC (R556): BCI ASID_ALLOC assigns a free ASID and writes its root. -/
  | asidAlloc (m : Fin 5)
  /-- ASID_SET_ROOT (R556): BCI ASID_SET_ROOT writes a new root for an ASID. -/
  | asidSetRoot (m : Fin 5)
  /-- ASID_FREE (R366): BCI ASID_FREE frees an ASID no region uses. -/
  | asidFree (m : Fin 5)
  /-- HBM_EXPOSE_KEY (R291): BCI HBM_EXPOSE_KEY sets EXPOSE and KEY_EXPOSED. -/
  | hbmExposeKey (m : Fin 5)
  /-- KEY_KEM_OPEN (R416): BCI KEY_KEM_OPEN makes an ML-KEM key pair for a protected job and returns a handle. -/
  | keyKemOpen (m : Fin 5)
  /-- KEY_KEM_PUBLIC (R415): BCI KEY_KEM_PUBLIC returns part of the encapsulation key. -/
  | keyKemPublic (m : Fin 5)
  /-- KEY_CT_WRITE (R416): BCI KEY_CT_WRITE stores ciphertext bytes in a handle's blob. -/
  | keyCtWrite (m : Fin 5)
  /-- KEY_INSTALL (R417): BCI KEY_INSTALL accepts decapsulation and unwrapping of the job key. -/
  | keyInstall (m : Fin 5)
  /-- KEY_INSTALL_DONE (R416): The job key is unwrapped or the install fails; the handle changes state and the record is written. -/
  | keyInstallDone (m : Fin 5) (token : U32)
  /-- KEY_WITHDRAW (R420): BCI KEY_WITHDRAW errors the job's protected QPs, deregisters its protected regions and erases its keys. -/
  | keyWithdraw (m : Fin 5)
  /-- KEY_QUERY (R415): BCI KEY_QUERY returns a handle's state. -/
  | keyQuery (m : Fin 5)
  /-- TIME_SET_ROOT (R43): BCI TIME_SET_ROOT makes the module root, loading NT if never loaded. -/
  | timeSetRoot (m : Fin 5)
  /-- TIME_SET_MEMBER (R43): BCI TIME_SET_MEMBER sets member parameters, member role and accepted root ID. -/
  | timeSetMember (m : Fin 5)
  /-- TIME_SET_ASYM (R556): BCI TIME_SET_ASYM sets a port's path asymmetry. -/
  | timeSetAsym (m : Fin 5)
  /-- TIME_SET_LT (R46): BCI TIME_SET_LT sets the packet lifetime while no QP exists. -/
  | timeSetLt (m : Fin 5)
  /-- TIME_SET_LAUNCH (R556): BCI TIME_SET_LAUNCH sets LATE_POLICY and HORIZON. -/
  | timeSetLaunch (m : Fin 5)
  /-- TIME_QUERY (R556): BCI TIME_QUERY returns time status, ERR_BOUND and NT. -/
  | timeQuery (m : Fin 5)
  /-- SCHED_TC0 (R142): BCI SCHED_TC0 sets TC0 enable and QLIMIT on all ports. -/
  | schedTc0 (m : Fin 5)
  /-- SCHED_SHAPER (R149): BCI SCHED_SHAPER changes a class shaper on ports. -/
  | schedShaper (m : Fin 5)
  /-- SCHED_DRR (R146): BCI SCHED_DRR sets a class quantum. -/
  | schedDrr (m : Fin 5)
  /-- SCHED_OVERHEAD (R148): BCI SCHED_OVERHEAD sets the per-packet overhead. -/
  | schedOverhead (m : Fin 5)
  /-- SCHED_GCL_WRITE (R154): BCI SCHED_GCL_WRITE writes part of a gate list into an inactive bank. -/
  | schedGclWrite (m : Fin 5)
  /-- SCHED_GCL_SWITCH (R154): BCI SCHED_GCL_SWITCH sets SWITCH_AT and PENDING. -/
  | schedGclSwitch (m : Fin 5)
  /-- SCHED_GATE (R556): BCI SCHED_GATE sets GATE_EN and GUARD_EXTRA. -/
  | schedGate (m : Fin 5)
  /-- SCHED_CTX_BUCKET (R150): BCI SCHED_CTX_BUCKET configures a context token bucket. -/
  | schedCtxBucket (m : Fin 5)
  /-- FAULT_QUERY (R368): BCI FAULT_QUERY returns a source's capture set. -/
  | faultQuery (m : Fin 5)
  /-- FAULT_CLEAR (R513): BCI FAULT_CLEAR clears a source, which sets again if its cause persists. -/
  | faultClear (m : Fin 5)
  /-- FAULT_REACTION (R514): BCI FAULT_REACTION sets the reaction of a fault kind. -/
  | faultReaction (m : Fin 5)
  /-- FAULT_INJECT (R523): BCI FAULT_INJECT arms check-bit inversion at a checker. -/
  | faultInject (m : Fin 5)
  /-- LOG_READ (R531): BCI LOG_READ returns records of the persistent or module event log. -/
  | logRead (m : Fin 5)
  /-- MEM_DUMP (R531): BCI MEM_DUMP returns bytes of a module structure, except protected ones. -/
  | memDump (m : Fin 5)
  /-- PERF_SELECT (R525): BCI PERF_SELECT selects a counter's event and zeroes it. -/
  | perfSelect (m : Fin 5)
  /-- PERF_GRANT (R527): BCI PERF_GRANT grants or revokes counters to a context. -/
  | perfGrant (m : Fin 5)
  /-- SWEEP_CONFIG (R528): BCI SWEEP_CONFIG sets the tally sweep range, period and destination. -/
  | sweepConfig (m : Fin 5)
  /-- SWEEP_CTRL (R531): BCI SWEEP_CTRL starts or stops the tally sweep. -/
  | sweepCtrl (m : Fin 5)
  /-- PWR_QUERY (R499): BCI PWR_QUERY returns power state, supplies, temperatures and eFuse state. -/
  | pwrQuery (m : Fin 5)
  /-- PWR_SET_STATE (R494): BCI PWR_SET_STATE requests a power state change. -/
  | pwrSetState (m : Fin 5)
  /-- PWR_SET_STATE_DONE (R500): The requested power state is reached or the first attempt trips; the record is written. -/
  | pwrSetStateDone (m : Fin 5) (token : U32)
  /-- PWR_SET_THRESH (R492): BCI PWR_SET_THRESH sets VIN and VCORE thresholds. -/
  | pwrSetThresh (m : Fin 5)
  /-- PWR_SET_CURVE (R485): BCI PWR_SET_CURVE replaces the eFuse time-current curve. -/
  | pwrSetCurve (m : Fin 5)
  /-- PWR_SET_RETRY (R499): BCI PWR_SET_RETRY sets retry count, off time, inrush and REARM. -/
  | pwrSetRetry (m : Fin 5)
  /-- FW_QUERY (R366): BCI FW_QUERY returns slots, versions and trial state. -/
  | fwQuery (m : Fin 5)
  /-- FW_BEGIN (R370): BCI FW_BEGIN erases the idle slot and opens an update session. -/
  | fwBegin (m : Fin 5)
  /-- FW_WRITE (R370): BCI FW_WRITE writes a chunk of image. -/
  | fwWrite (m : Fin 5)
  /-- FW_COMMIT (R370): BCI FW_COMMIT accepts verification of the written slot. -/
  | fwCommit (m : Fin 5)
  /-- FW_COMMIT_DONE (R407): The slot's checks finish and the record carries OK, IMAGE_INVALID, ROLLBACK or FLASH_ERROR. -/
  | fwCommitDone (m : Fin 5) (token : U32) (flashError : Bool)
  /-- FW_ACTIVATE (R370): BCI FW_ACTIVATE writes the boot selector for the next reset. -/
  | fwActivate (m : Fin 5)
  /-- FW_CONFIRM (R409): BCI FW_CONFIRM clears TRIAL, raises SVN and provisions the owner when due. -/
  | fwConfirm (m : Fin 5)
  /-- FW_ABORT (R370): BCI FW_ABORT closes the session and cancels a running commit. -/
  | fwAbort (m : Fin 5)
  /-- RING_ENABLE (R374): Host sets HOSTQ.CTRL.ENABLE; the rings go RUNNING or CFG_ERR is set. -/
  | ringEnable (e : Fin 4) (fn : Fin 65) (c : Fin 4096)
  /-- RING_DISABLE (R398): Host clears ENABLE; the rings enter DRAINING and unstarted chains complete ABORTED. -/
  | ringDisable (e : Fin 4) (fn : Fin 65) (c : Fin 4096)
  /-- SQ_TAIL_DOORBELL (R378): Write of the doorbell SQ_TAIL records a new submission tail or sets DB_ERR. -/
  | sqTailDoorbell (e : Fin 4) (fn : Fin 65) (c : Fin 4096) (v : U32)
  /-- CQ_HEAD_DOORBELL (R378): Write of the doorbell CQ_HEAD records a new completion head or sets DB_ERR. -/
  | cqHeadDoorbell (e : Fin 4) (fn : Fin 65) (c : Fin 4096) (v : U32)
  /-- CQ_ARM (R397): Write of CQ_ARM sets ARMED and fires at once if entries are waiting. -/
  | cqArm (e : Fin 4) (fn : Fin 65) (c : Fin 4096)
  /-- ENTRY_READ (R379): In RUNNING the module reads 1 to 8 submission entries when tail and completion room allow. -/
  | entryRead (c : Fin 4096)
  /-- CHAIN_START (R386): The home tile's start walk starts the next startable chains of a ring. -/
  | chainStart (c : Fin 4096)
  /-- PUT_ENTRY (R384): A PUT chain starts and injects its first packet. -/
  | putEntry (c : Fin 4096)
  /-- GET_ENTRY (R384): A GET chain starts and sends GET requests. -/
  | getEntry (c : Fin 4096)
  /-- SEND_ENTRY (R229): A SEND chain starts as eager or rendezvous. -/
  | sendEntry (c : Fin 4096)
  /-- RECV_ENTRY (R225): A RECV chain posts a receive in its match domain. -/
  | recvEntry (c : Fin 4096)
  /-- ATOMIC_ENTRY (R384): An ATOMIC chain sends a remote atomic or performs a local one. -/
  | atomicEntry (c : Fin 4096)
  /-- COLL_ENTRY (R257): A COLL chain starts an instance at the member's node. -/
  | collEntry (c : Fin 4096)
  /-- PROBE_ENTRY (R227): A PROBE entry searches unexpected messages without unlinking. -/
  | probeEntry (c : Fin 4096)
  /-- CANCEL_ENTRY (R227): A CANCEL entry unlinks the oldest posted receive with a cookie. -/
  | cancelEntry (c : Fin 4096)
  /-- LEDGER_ADD_ENTRY (R280): A LEDGER_ADD entry adds its value to a ledger. -/
  | ledgerAddEntry (c : Fin 4096)
  /-- LEDGER_SET_ENTRY (R280): A LEDGER_SET entry sets COUNT and clears POISON. -/
  | ledgerSetEntry (c : Fin 4096)
  /-- LEDGER_READ_ENTRY (R283): A LEDGER_READ entry returns COUNT and POISON in its completion. -/
  | ledgerReadEntry (c : Fin 4096)
  /-- NOP_ENTRY (R381): A NOP entry executes nothing and retires. -/
  | nopEntry (c : Fin 4096)
  /-- TIMING_ENTRY (R383): A TIMING entry supplies launch, wait and done ledgers to its chain. -/
  | timingEntry (c : Fin 4096)
  /-- LAUNCH_PREPARE (R52): 20 µs before a timed chain's target the module begins preparing it. -/
  | launchPrepare (c : Fin 4096)
  /-- TIMED_LAUNCH (R52): A prepared chain's target NT is reached and its first flit leaves. -/
  | timedLaunch (c : Fin 4096)
  /-- LEDGER_WAKE (R281): A ledger update lets a held WAIT_LEDGER entry proceed or abort on POISON. -/
  | ledgerWake (c : Fin 4096)
  /-- CHAIN_RETIRE (R389): A chain's operation completes; DONE_LEDGER is bumped and a completion entry written. -/
  | chainRetire (c : Fin 4096)
  /-- BACKLOG_WRITE (R395): Completion ring room frees; backlogged unsolicited entries are written. -/
  | backlogWrite (c : Fin 4096)
  /-- CQ_INT_TIMER (R397): COAL_US of NT passes since the first unreported entry; the vector is sent. -/
  | cqIntTimer (c : Fin 4096)
  /-- PACKET_ARRIVAL (R76): A packet arrives over an inter-module link and is checked, then forwarded, ejected or dropped. -/
  | packetArrival (p : Fin 64) (vc : Nat)
  /-- PATH_FAULT_RECEIVE (R105): A PATH_FAULT notice arrives; the named candidate's score is set to 15 on all tiles. -/
  | pathFaultReceive (t : Fin 64)
  /-- CONG_DECAY (R93): Every DECAY_US each tile subtracts 1 from every non-zero congestion score. -/
  | congDecay
  /-- SALT_REDRAW (R111): Every 100 µs each tile draws a new hash salt. -/
  | saltRedraw
  /-- PUT_PACKET (R184): A PUT request reaches its target home tile and is checked and placed. -/
  | putPacket (t : Fin 64)
  /-- SEND_PACKET (R231): A SEND packet reaches its target and is placed in a receive buffer or the pool. -/
  | sendPacket (t : Fin 64)
  /-- GET_PACKET (R193): A GET request reaches its target and executes or waits for base. -/
  | getPacket (t : Fin 64)
  /-- ATOMIC_PACKET (R193): An ATOMIC request reaches its target and executes at the atomic unit. -/
  | atomicPacket (t : Fin 64)
  /-- GET_RSP_PACKET (R195): A GET response reaches the requester and is placed or dropped. -/
  | getRspPacket (t : Fin 64)
  /-- ATOMIC_RSP_PACKET (R195): An ATOMIC response reaches the requester. -/
  | atomicRspPacket (t : Fin 64)
  /-- ACK_PACKET (R191): An ACK reaches the requester and advances SND_CUM, SACK and congestion scores. -/
  | ackPacket (t : Fin 64)
  /-- NAK_PACKET (R201): A NAK reaches the requester and schedules a resend or fails the message. -/
  | nakPacket (t : Fin 64)
  /-- ACK_DELAY_TIMER (R190): ACK_DELAY after an acknowledgeable event the target sends an ACK. -/
  | ackDelayTimer (qpn : Nat) (slot : Fin 2)
  /-- RTO_EXPIRY (R197): A packet goes unacknowledged for RTO_k; it is retransmitted or its message fails. -/
  | rtoExpiry (qpn : Nat) (slot : Fin 2) (psn : Nat)
  /-- LIFE_LIMIT_EXPIRY (R198): LIFE_MAX × LT passes since a packet's first send; its message fails. -/
  | lifeLimitExpiry (qpn : Nat) (slot : Fin 2) (psn : Nat)
  /-- NAK_BACKOFF_EXPIRY (R201): BACKOFF after a CTX_RETRY or RESOURCE NAK the packet is resent. -/
  | nakBackoffExpiry (qpn : Nat) (slot : Fin 2) (psn : Nat)
  /-- LINK_LOST (R200): A LINK_LOST notice reaches the home tile; the packet is resent at once on a new path. -/
  | linkLost (t : Fin 64)
  /-- QUARANTINE_EXPIRY (R169): LT + 3 µs after quarantine starts the QP returns to RESET or its QPN is freed. -/
  | quarantineExpiry (qpn : Nat)
  /-- REGION_HOLD_EXPIRY (R299): LT + 3 µs after deregistration the region index becomes reusable. -/
  | regionHoldExpiry (index : Nat)
  /-- CONTEXT_FETCH_DONE (R204): A QP context fetched from HBM arrives and the held packet is processed. -/
  | contextFetchDone (t : Fin 64)
  /-- SPILLED_CONTEXT_FETCH_DONE (R206): A spilled context arrives over the host port and held packets are released in order. -/
  | spilledContextFetchDone (qpn : Nat)
  /-- MESSAGE_PRESENT (R224): A SEND message is presented to matching in SSN order and paired or recorded unexpected. -/
  | messagePresent (qpn : Nat) (slot : Fin 2)
  /-- TELLER_ESCALATION_DONE (R241): A teller finishes an escalated match operation and the domain resumes. -/
  | tellerEscalationDone (c : Nat)
  /-- BARRIER_RELEASE (R277): A node's NT reaches T_rel; the barrier entry completes and DONE_LEDGER is bumped. -/
  | barrierRelease (n : Nat)
  /-- COLL_TIMEOUT (R284): No contribution is accepted for COLL_TIMEOUT; the member fails the instance. -/
  | collTimeout (n : Nat)
  /-- MARK_SEND (R32): Every 10 µs a port whose link is up sends a time MARK. -/
  | markSend (p : Fin 64)
  /-- MARK_FLIT (R32): A MARK arrives and is answered with a REPLY. -/
  | markFlit (p : Fin 64) (b : List Byte)
  /-- REPLY_FLIT (R36): A REPLY arrives, forming a sample that steers the servo and link time status. -/
  | replyFlit (p : Fin 64) (b : List Byte)
  /-- REPLY_DEADLINE (R35): No REPLY arrives by t1 + 2 µs, or a MARK misses its window; a failed sample counts. -/
  | replyDeadline (p : Fin 64)
  /-- PARENT_STATUS_WAIT (R40): The parent has not reported LOCKED for 1 ms while another LOCKED candidate exists; the parent changes. -/
  | parentStatusWait
  /-- HOLDOVER_LIMIT (R40): ERR_BOUND in HOLDOVER passes HOLD_LIMIT; the module enters LOST. -/
  | holdoverLimit
  /-- PPS_IN_EDGE (R30): A PPS_IN rising edge steers phase in PPS10M mode. -/
  | ppsInEdge
  /-- TIME_REF_LOST (R30): A reference is absent for 3 s or phase error exceeds 50 ns; REF_LOCK clears. -/
  | timeRefLost
  /-- PPS_OUT_START (R31): NT reaches a whole second with NT_VALID set; PPS_OUT goes high. -/
  | ppsOutStart
  /-- PPS_OUT_END (R31): 100 ms after its start PPS_OUT goes low. -/
  | ppsOutEnd
  /-- GATE_CHANGE (R153): A gate control list entry or cycle boundary falls due and the open classes change. -/
  | gateChange (p : Fin 64)
  /-- BOUND_OK_RESTORE (R141): 1 ms after a TC0_LONG or TC0_BLOCK the port may set BOUND_OK again. -/
  | boundOkRestore (p : Fin 64)
  /-- HBM_IMBAL_WINDOW (R293): A 10 µs access window closes and the imbalance ratio is evaluated. -/
  | hbmImbalWindow
  /-- CABLE_INSERTED (R462): Connector presence stands asserted for 1 ms; CBL_VCC switches on. -/
  | cableInserted (k : Fin 16)
  /-- CABLE_REMOVED (R462): Connector presence stands deasserted for 1 ms; its four links are declared down. -/
  | cableRemoved (k : Fin 16)
  /-- CABLE_PG_ASSERT (R478): CBL_PG_N asserts and the module reads the cable identification memory. -/
  | cablePgAssert (k : Fin 16)
  /-- CABLE_ID_READ_DONE (R478): The cable ID read finishes; the cable is accepted or rejected. -/
  | cableIdReadDone (k : Fin 16) (mem : List Byte)
  /-- CABLE_POWER_TIMEOUT (R477): CBL_PG_N is not low within 100 ms; CBL_VCC goes off and CABLE_POWER is reported. -/
  | cablePowerTimeout (k : Fin 16)
  /-- CABLE_OVERCURRENT (R477): CBL_VCC current exceeds 0.5 A for 1 ms; cable power fails. -/
  | cableOvercurrent (k : Fin 16)
  /-- DETECT_CLOCK (R424): Cable present and partner CK transitions for 100 µs; DETECT goes to CLOCK. -/
  | detectClock (p : Fin 64)
  /-- CLOCK_LOCKED (R424): Receive CK locked and stable for 10 µs; CLOCK goes to SLOW. -/
  | clockLocked (p : Fin 64)
  /-- CLOCK_TIMEOUT (R424): 1 ms in CLOCK or CK transitions lost; the port returns to DETECT. -/
  | clockTimeout (p : Fin 64)
  /-- TS_NRZ_BLOCK (R441): A TS_NRZ training block arrives and advances SLOW training. -/
  | tsNrzBlock (p : Fin 64) (lane : Fin 8) (w : BitVec 128)
  /-- SLOW_TIMEOUT (R424): 2 ms in SLOW; the port returns to DETECT. -/
  | slowTimeout (p : Fin 64)
  /-- TS_PAM_BLOCK (R441): A TS_PAM block arrives carrying equalization requests. -/
  | tsPamBlock (p : Fin 64) (w : BitVec 128)
  /-- EQUALIZE_PASS (R441): Both ends set EQ_DONE and the BER measurement passes; the rate is stored. -/
  | equalizePass (p : Fin 64) (lanes : BitVec 8)
  /-- EQUALIZE_TIMEOUT (R424): 20 ms at a rate without success; the next lower rate is tried. -/
  | equalizeTimeout (p : Fin 64)
  /-- ALIGN_LOCK (R424): Marker lock, skew within 10 ns and 1,024 clean codewords; ALIGN goes to CAPX. -/
  | alignLock (p : Fin 64)
  /-- ALIGN_TIMEOUT (R424): 1 ms in ALIGN; the port returns to SLOW. -/
  | alignTimeout (p : Fin 64)
  /-- CAP_SEND (R439): Every 1 µs in CAPX, and three times on identity change, a CAP is sent. -/
  | capSend (p : Fin 64)
  /-- CAP_FLIT (R439): A CAP arrives; RTT is measured, partner fields update and CAPX may end. -/
  | capFlit (p : Fin 64) (c : List Byte)
  /-- CAPX_TIMEOUT (R424): 1 ms in CAPX; the port returns to SLOW. -/
  | capxTimeout (p : Fin 64)
  /-- INCOMPATIBLE_HOLD (R439): 1 s after an incompatible partner the port returns to DETECT. -/
  | incompatibleHold (p : Fin 64)
  /-- DATA_FLIT (R445): A data flit arrives and is accepted, dropped as duplicate, or discarded in REPLAY_WAIT. -/
  | dataFlit (p : Fin 64) (stream : Fin 2) (cw : Option (List Nat)) (flit : List Byte)
  /-- UNCORRECTABLE_CODEWORD (R445): A codeword is uncorrectable or has an invalid slot code; REPLAY_WAIT and a REPLAY_REQ. -/
  | uncorrectableCodeword (p : Fin 64) (kind : Fin 2)
  /-- ACK_FLIT (R447): A link ACK arrives, acknowledging flits and returning coins. -/
  | ackFlit (p : Fin 64) (seq : U16) (freed : List U16)
  /-- REPLAY_REQ_FLIT (R448): A REPLAY_REQ arrives and starts or restarts a replay. -/
  | replayReqFlit (p : Fin 64) (seq : U16) (cause : Nat)
  /-- REPLAY_START_FLIT (R445): A REPLAY_START arrives and renumbers the receiver. -/
  | replayStartFlit (p : Fin 64) (seq : U16) (cause : Nat)
  /-- ALIGN_FLIT (R436): An ALIGN marker arrives and maintains marker lock. -/
  | alignFlit (p : Fin 64) (cw : U32)
  /-- PSTATE_REQUEST (R463): A PSTATE REQUEST arrives and the link operating point is recomputed. -/
  | pstateRequest (p : Fin 64) (doze : Bool) (width : Nat) (rate : Nat)
  /-- PSTATE_SWITCH (R464): A PSTATE SWITCH arrives naming the partner's switch codeword. -/
  | pstateSwitch (p : Fin 64) (doze : Bool) (width : Nat) (rate : Nat) (cw : U32)
  /-- DOWN_FLIT (R457): A DOWN flit arrives; the link is declared down with PARTNER_DOWN. -/
  | downFlit (p : Fin 64) (cause : Nat)
  /-- ACK_SEND_TIMER (R446): 100 ns after an unreported advance, or 1 µs at most, the receiver sends an ACK. -/
  | ackSendTimer (p : Fin 64)
  /-- ACK_TIMER (R448): The effective ack timer expires with flits unacknowledged; a replay starts or REPLAY_LIMIT downs the link. -/
  | ackTimer (p : Fin 64)
  /-- REPLAY_WAIT_TIMER (R449): No REPLAY_START within the ack timer in REPLAY_WAIT; another REPLAY_REQ is sent. -/
  | replayWaitTimer (p : Fin 64)
  /-- CREDIT_TIMEOUT (R456): A packet waits for coins for CREDIT_TIMEOUT with no return; the link is declared down. -/
  | creditTimeout (p : Fin 64)
  /-- CLOCK_LOST (R457): No transition on received CK for 100 ns; the link is declared down. -/
  | clockLost (p : Fin 64)
  /-- LOCK_LOST (R457): Markers are lost on a lane or 64 codewords fail in a row; the link is declared down. -/
  | lockLost (p : Fin 64)
  /-- OPERATING_POINT_SWITCH (R464): The transmitter reaches SWITCH_CW and changes width, or stops flits for a rate STEP. -/
  | operatingPointSwitch (p : Fin 64)
  /-- STEP_ALIGNED (R464): Marker lock and deskew are confirmed at the new rate; STEP ends. -/
  | stepAligned (p : Fin 64)
  /-- STEP_TIMEOUT (R424): 20 µs in STEP; the link is declared down with WAKE_FAILED. -/
  | stepTimeout (p : Fin 64)
  /-- DOWN_TIMER (R424): 1 µs in DOWN; the port goes to DISABLED, SLOW, DETECT or HOLDOFF. -/
  | downTimer (p : Fin 64)
  /-- HOLDOFF_EXPIRY (R424): 10 s in HOLDOFF; the port returns to DETECT. -/
  | holdoffExpiry (p : Fin 64)
  /-- FAULT_DETECT (R511): A checker reports a fault; it is captured, its reaction applied and a record logged. -/
  | faultDetect (src : Nat) (given : Nat) (ds : List Machine.Detection)
  /-- WIRE_FAULT (R509): A report pair reads equal levels for 3 samples; WIRE_FAULT and UNWATCHED. -/
  | wireFault (src : Nat) (levels : Fin 2)
  /-- UNWATCHED_POLL (R509): Every 10 µs the auditor reads an unwatched source's capture set. -/
  | unwatchedPoll (src : Nat)
  /-- HANDSHAKE_STALL (R507): A self-timed stage holds data unacknowledged for 1 ms; a UF fault. -/
  | handshakeStall (src : Nat) (stage : U32)
  /-- SWEEP_DUMP (R528): NT reaches a multiple of PERIOD; counters are latched and dumped into a slot. -/
  | sweepDump
  /-- FLIT_BOUNDARY (R135): At every flit boundary the port's egress scheduler sends the first of a link-control flit, a TC0 flit, or a
  DRR-chosen non-express flit that its shaper, gate and coins allow. -/
  | flitBoundary (p : Fin 64)
  /-- HBM_GATEWAY_ACCEPT (R10, R185, R289): An HBM or host gateway, at its attachment tile `t`, accepts a write or returns read data, which
  completes a placement, a pool copy, a GET execution or a sweep slot. -/
  | hbmGatewayAccept (t : Fin 64)
  /-- MSIX_UNMASK (R328): Host clears a vector's Mask bit or the Function Mask, and any message held by the pending bit is sent. -/
  | msixUnmask (e : Fin 4) (fn : Fin 65) (v : Option (Fin 2048))
  /-- D3HOT_EXIT (R342): A function returns from D3hot to D0 and its contexts' DMA, completions and interrupts resume in order. -/
  | d3hotExit (e : Fin 4) (fn : Fin 65)
  /-- SPECULATIVE_FILL (R308): A translation agent fills a TLB or walk-cache entry for a valid ASID without any access asking for it,
  for example ahead of a DMA stream. -/
  | speculativeFill (a : Fin 19) (asid : Fin 4096) (va : BitVec 48)
  /-- RNG_SOURCE_PASS (R421): The vault's random source passes its health tests again after a failure, so KEY_KEM_OPEN is served again
  and tiles resume redrawing salts. -/
  | rngSourcePass
  /-- WIRE_PAIR_RESTORED (R509): A report pair that read equal levels reads idle or alarm again, and the auditor clears UNWATCHED and
  stops polling that source. -/
  | wirePairRestored (src : Nat)
deriving DecidableEq, Repr

end Sys2Proof
end

