-- ==== Sys2Proof/Decode.lean ====
section
/-! DEFINITION. Words that spell commands. -/
namespace Sys2Proof

/-- The opcode table gives no row any bits: commands reach the module as register accesses, messages, flits and pin events, not as words.
So no word spells a command (log 58). -/
def decodeTableWord (_nbits _w : Nat) : Option Instr := none

end Sys2Proof
end

