-- ==== Sys2Proof/Machine/Bytes.lean ====
section
/-! DEFINITION. Plain operations on keyed tables, bytes, bit fields and byte memories. -/
namespace Sys2Proof.Machine

/-! ### Keyed tables -/

/-- The entry of key `k`. -/
def Tbl.get? {α : Type} : Tbl α → Nat → Option α
  | [], _ => none
  | (j, v) :: t, k => if j = k then some v else Tbl.get? t k

/-- The entry of key `k`, or `d`. -/
def Tbl.getD {α : Type} (t : Tbl α) (k : Nat) (d : α) : α := (Tbl.get? t k).getD d

/-- Write the entry of key `k`, keeping the keys in rising order. -/
def Tbl.set {α : Type} : Tbl α → Nat → α → Tbl α
  | [], k, v => [(k, v)]
  | (j, w) :: t, k, v =>
    if j = k then (k, v) :: t
    else if k < j then (k, v) :: (j, w) :: t
    else (j, w) :: Tbl.set t k v

/-- Remove the entry of key `k`. -/
def Tbl.erase {α : Type} : Tbl α → Nat → Tbl α
  | [], _ => []
  | (j, w) :: t, k => if j = k then Tbl.erase t k else (j, w) :: Tbl.erase t k

/-- Apply `f` to every entry. -/
def Tbl.map {α : Type} (f : Nat → α → α) (t : Tbl α) : Tbl α := List.map (fun e => (e.1, f e.1 e.2)) t

/-- The smallest number from `from_` on, within `n` tries, that the table does not use. -/
def Tbl.fresh {α : Type} (t : Tbl α) (from_ : Nat) : Nat → Option Nat
  | 0 => none
  | n + 1 => match Tbl.get? t from_ with
    | none => some from_
    | some _ => Tbl.fresh t (from_ + 1) n

/-! ### Little-endian bytes and bit fields -/

/-- The number that little-endian bytes spell (R350). -/
def leNat : List Byte → Nat
  | [] => 0
  | b :: t => b.toNat + 256 * leNat t

/-- The `n` little-endian bytes of `v`. -/
def leBytes : Nat → Nat → List Byte
  | 0, _ => []
  | n + 1, v => BitVec.ofNat 8 v :: leBytes n (v / 256)

/-- The number that most-significant-first bytes spell. -/
def beNat (l : List Byte) : Nat := leNat l.reverse

/-- The `n` most-significant-first bytes of `v`. -/
def beBytes (n v : Nat) : List Byte := (leBytes n v).reverse

/-- Bytes `off` to `off + n - 1` of a payload as a little-endian number; bytes past the end read 0. -/
def field (l : List Byte) (off n : Nat) : Nat := leNat ((l.drop off).take n)

/-- Bits `hi` to `lo` of a number. -/
def bits (v hi lo : Nat) : Nat := (v >>> lo) % 2 ^ (hi + 1 - lo)

/-- Bit `i` of a number. -/
def bit (v i : Nat) : Bool := v.testBit i

/-- 1 for true. -/
def b2n (b : Bool) : Nat := if b then 1 else 0

/-- A field's bits put at `lo`. -/
def at_ (v lo : Nat) : Nat := v <<< lo

/-- A byte string padded with zero bytes, or cut, to `n` bytes. -/
def fit (n : Nat) (l : List Byte) : List Byte := (l ++ List.replicate (n - l.length) 0).take n

/-- Replace element `i` of a list. -/
def put {α : Type} (l : List α) (i : Nat) (v : α) : List α := l.set i v

/-- The smallest multiple of `m` not below `n`. -/
def roundUp (n m : Nat) : Nat := if m = 0 then n else (n + m - 1) / m * m

/-- Ceiling of a division. -/
def ceilDiv (n m : Nat) : Nat := (n + m - 1) / m

/-- The set bits of a 64-bit mask, rising. -/
def maskBits (w : Nat) (n : Nat) : List Nat := (List.range n).filter fun i => bit w i

/-- The first element a test accepts, and the list without it. -/
def takeFirst {α : Type} (f : α → Bool) : List α → Option (α × List α)
  | [] => none
  | a :: t => if f a then some (a, t) else (takeFirst f t).map fun r => (r.1, a :: r.2)

/-- Signed reading of `w` bits of a number. -/
def toSigned (w v : Nat) : Int := if v % 2 ^ w < 2 ^ (w - 1) then (v % 2 ^ w : Nat) else (v % 2 ^ w : Nat) - (2 ^ w : Nat)

/-- `v` in `w` bits, two's complement. -/
def ofSigned (w : Nat) (v : Int) : Nat := (v % (2 ^ w : Nat)).toNat

/-- The signed distance from `b` to `a` on a circle of 2^w values. -/
def circ (w a b : Nat) : Int := toSigned w (a % 2 ^ w + (2 ^ w - b % 2 ^ w))

/-! ### Byte memories

A byte memory is a list of (address, byte) pairs in one canonical form: addresses strictly rising, no byte 0. An
unlisted address reads 0. -/

/-- The canonical form. -/
abbrev Memory.wf (m : List Host.Cell) : Prop :=
  m.Pairwise (fun a b => a.1 < b.1) ∧ ∀ c ∈ m, c.2 ≠ 0

/-- The byte at an address. -/
def Memory.byte : List Host.Cell → Nat → Byte
  | [], _ => 0
  | (b, v) :: t, a => if b = a then v else Memory.byte t a

/-- Write one byte, keeping the canonical form. -/
def Memory.write1 : List Host.Cell → Nat → Byte → List Host.Cell
  | [], a, v => if v = 0 then [] else [(a, v)]
  | (b, w) :: t, a, v =>
    if b = a then (if v = 0 then t else (a, v) :: t)
    else if a < b then (if v = 0 then (b, w) :: t else (a, v) :: (b, w) :: t)
    else (b, w) :: Memory.write1 t a v

/-- Write consecutive bytes. -/
def Memory.write (m : List Host.Cell) (a : Nat) : List Byte → List Host.Cell
  | [] => m
  | v :: l => Memory.write (Memory.write1 m a v) (a + 1) l

/-- Read `n` consecutive bytes. -/
def Memory.read (m : List Host.Cell) (a : Nat) : Nat → List Byte
  | 0 => []
  | n + 1 => Memory.byte m a :: Memory.read m (a + 1) n

/-- Zero the bytes from `a` to `a + n - 1`: a listed byte of the range is unlisted. -/
def Memory.zero (m : List Host.Cell) (a n : Nat) : List Host.Cell := m.filter fun c => ¬ (a ≤ c.1 ∧ c.1 < a + n)

end Sys2Proof.Machine
end

