-- ==== Sys2Proof/Machine/Net.lean ====
section
/-! DEFINITION. The routers of the torus: source routes, queues, credits, dateline classes and the arbitration of outputs (R121 to R127,
R131, R144). -/
namespace Sys2Proof.Machine

/-! ### Source routes (R125, R126) -/

/-- One ring's part of a source route: hops and whether in the − direction (R126); `tie` is the direction at distance 4. With no hop in a
ring the direction is + (DESIGN CHOICE, log 142). -/
def ringHops (a b : Nat) (tie : Bool) : Nat × Bool :=
  let d := (b + 8 - a) % 8
  if d = 4 then (4, tie) else if d < 4 then (d, false) else (8 - d, true)

/-- The source-route entry of a plane (0 A, 1 B) as SRT_A or SRT_B holds it (R125, R126). -/
def srtEntry (plane src dst : Nat) : Nat :=
  let x := ringHops (src % 8) (dst % 8) (plane == 1)
  let y := ringHops (src / 8) (dst / 8) (plane == 1)
  x.1 + at_ (b2n x.2) 3 + at_ y.1 4 + at_ (b2n y.2) 7 + at_ plane 8 + at_ 1 9

/-- The legs of a route: output directions (R118) 0 X+, 1 X−, 2 Y+, 3 Y− and their hops, the row ring first on plane A and the column ring
first on plane B. -/
def srtLegs (plane src dst : Nat) : List (Nat × Nat) :=
  let x := ringHops (src % 8) (dst % 8) (plane == 1)
  let y := ringHops (src / 8) (dst / 8) (plane == 1)
  let row := (b2n x.2, x.1)
  let col := (2 + b2n y.2, y.1)
  (if plane = 0 then [row, col] else [col, row]).filter fun l => l.2 ≠ 0

/-- The tile a link leads to. -/
def neighbour (t d : Nat) : Nat :=
  match d with
  | 0 => t / 8 * 8 + (t % 8 + 1) % 8
  | 1 => t / 8 * 8 + (t % 8 + 7) % 8
  | 2 => (t / 8 + 1) % 8 * 8 + t % 8
  | _ => (t / 8 + 7) % 8 * 8 + t % 8

/-- A link that is its ring's wrap link (R127). -/
def wraps (t d : Nat) : Bool :=
  match d with
  | 0 => t % 8 == 7
  | 1 => t % 8 == 0
  | 2 => t / 8 == 7
  | _ => t / 8 == 0

/-! ### Queues (R121, R122) -/

/-- Beats a queue of a virtual network holds. -/
def vnDepth (vn : Nat) : Nat := if vn = 3 then 8 else if vn = 2 then 4 else 12

def queueKey (plane tile input vc : Nat) : Nat := ((plane * 64 + tile) * 5 + input) * 8 + vc
def keyVn (key : Nat) : Nat := key % 8 / 2
def keyTile (key : Nat) : Nat := key / 40 % 64
def keyPlane (key : Nat) : Nat := key / 2560

def Net.queue (n : Net) (key : Nat) : List Beat := Tbl.getD n.queues key []
def Net.setQueue (n : Net) (key : Nat) (l : List Beat) : Net :=
  { n with queues := if l.isEmpty then Tbl.erase n.queues key else Tbl.set n.queues key l }

def Net.load? (n : Net) (id : Nat) : Option Load := n.loads.find? fun l => l.id == id
def Net.modLoad (n : Net) (id : Nat) (f : Load → Load) : Net :=
  { n with loads := n.loads.map fun l => if l.id = id then f l else l }

/-- The packet is a fabric packet for a network interface. -/
def Load.forTile (l : Load) : Bool := match l.cargo with
  | .tile _ => true
  | _ => false

/-- A queue takes one beat more: the sender holds a credit for it. -/
def Net.credit (n : Net) (key : Nat) : Bool := decide ((n.queue key).length < vnDepth (keyVn key))

/-- The output a beat leaves its router by: a direction, or 4 for its tile. -/
def Beat.out (b : Beat) : Nat := match b.legs with
  | [] => 4
  | (d, _) :: _ => d

/-- Where the beat at the head of queue `key` goes over its link, and what it is there: class 1 on the wrap link and after it, class 0 in
the next ring (R127). -/
def Beat.hop (key : Nat) (b : Beat) : Nat × Beat :=
  let d := b.out
  let cls := if wraps (keyTile key) d then 1 else b.cls
  let b' : Beat := match b.legs with
    | (d, n + 2) :: rest => { b with legs := (d, n + 1) :: rest, cls := cls }
    | _ :: rest => { b with legs := rest, cls := 0 }
    | [] => b
  (queueKey (keyPlane key) (neighbour (keyTile key) d) d (2 * keyVn key + cls), b')

/-! ### Arbitration (R123, R129, R144) -/

/-- The beat at the head of queue `key` may leave: it has a credit, or its tile takes it. Only a TC0 packet for a network interface whose
EXP ejection queue is full has to wait there. -/
def Net.ready (full : Nat → Bool) (n : Net) (key : Nat) (b : Beat) : Bool :=
  if b.out = 4 then !(keyVn key == 3 && full (keyTile key) && ((n.load? b.load).map Load.forTile).getD false)
  else n.credit (b.hop key).1

/-- Number of the output that the head of queue `key` wants. -/
def outId (key : Nat) (b : Beat) : Nat := key / 40 * 5 + b.out

/-- Round robin over queues: the first from `turn` on. -/
def rrPick (turn : Nat) (l : List Nat) : Option Nat := (l.find? fun key => turn ≤ key % 40).orElse fun _ => l.head?

/-- What each output sends at this beat boundary, as the queue it takes from: a ready EXP beat first, else round robin over the other ready
VCs, one beat each in turn (R123). -/
def Net.picks (full : Nat → Bool) (n : Net) : List Nat :=
  let cands := n.queues.filterMap fun e => match e.2 with
    | b :: _ => if n.ready full e.1 b then some (outId e.1 b, e.1) else none
    | [] => none
  (cands.map (·.1)).eraseDups.filterMap fun o =>
    let mine := (cands.filter fun c => c.1 == o).map (·.2)
    match mine.filter fun key => keyVn key == 3 with
    | [] => rrPick (Tbl.getD n.turns (2 * o) 0) mine
    | exp => rrPick (Tbl.getD n.turns (2 * o + 1) 0) exp

/-- The packets that put their next beat into their router now: of each source, plane and virtual network the one that entered first
(R131). -/
def Net.injects (n : Net) : List Nat :=
  let ls := n.loads.filter fun l => l.sent < l.beats
  let key (l : Load) : Nat := queueKey l.plane l.src 4 (2 * l.vn)
  ls.filterMap fun l =>
    if ((ls.find? fun k => key k == key l).map (·.id)) == some l.id && n.credit (key l) then some l.id else none

/-- A packet puts a beat into its router, for which it holds a credit. -/
def Net.inject (n : Net) (id : Nat) : Net :=
  match n.load? id with
  | none => n
  | some l =>
    let key := queueKey l.plane l.src 4 (2 * l.vn)
    let b : Beat := { load := id, last := decide (l.sent + 1 ≥ l.beats), legs := srtLegs l.plane l.src l.dst, cls := 0 }
    if n.credit key then (n.setQueue key (n.queue key ++ [b])).modLoad id fun l => { l with sent := l.sent + 1 } else n

/-- The head of queue `key` leaves it; its output's round robin goes on after it. -/
def Net.pop (n : Net) (key : Nat) (b : Beat) : Net :=
  let n := n.setQueue key ((n.queue key).tail)
  { n with turns := Tbl.set n.turns (2 * outId key b + b2n (keyVn key == 3)) (key % 40 + 1) }

/-- The heads that a full EXP ejection queue holds back. -/
def Net.heldBack (full : Nat → Bool) (n : Net) : List (Nat × Nat) :=
  n.queues.filterMap fun e => match e.2 with
    | b :: _ => if b.out = 4 && !n.ready full e.1 b then some (keyTile e.1, b.load) else none
    | [] => none

/-- The outputs (tile, index 4 × plane + direction) with a beat ready and no credit (R133). -/
def Net.stalled (n : Net) : List (Nat × Nat) :=
  (n.queues.filterMap fun e => match e.2 with
    | b :: _ => if b.out ≠ 4 && !n.credit (b.hop e.1).1 then some (keyTile e.1, 4 * keyPlane e.1 + b.out) else none
    | [] => none).eraseDups

/-! ### Loads -/

/-- A packet enters the torus. -/
def Net.add (n : Net) (plane vn src dst beats : Nat) (c : Cargo) : Net :=
  { n with nextLoad := n.nextLoad + 1,
           loads := n.loads ++ [{ id := n.nextLoad, plane := plane, vn := vn, src := src, dst := dst, beats := beats, sent := 0, cargo := c,
                                  blocked := false }] }

def Net.remove (n : Net) (id : Nat) : Net := { n with loads := n.loads.filter fun l => l.id ≠ id }

/-- The packets of loads that `p` holds of are taken off the torus, with their beats. -/
def Net.drop (n : Net) (p : Load → Bool) : Net :=
  let gone := (n.loads.filter p).map (·.id)
  { n with loads := n.loads.filter fun l => !p l,
           queues := (Tbl.map (fun _ q => q.filter fun b => !gone.contains b.load) n.queues).filter fun e => !e.2.isEmpty }

/-- The packets bound for a port. -/
def Load.forPort (p : Nat) (l : Load) : Bool :=
  match l.cargo with
  | .port q _ => q == p
  | _ => false

/-- Plane `p` is lost: what it carried goes, and what has not entered it yet takes plane `q` (R132). -/
def Net.losePlane (n : Net) (p q : Nat) : Net :=
  { n with queues := n.queues.filter fun e => keyPlane e.1 ≠ p,
           loads := (n.loads.filter fun l => l.plane ≠ p ∨ l.sent = 0).map fun l => { l with plane := if l.plane = p then q else l.plane } }

/-- The packets that go with a plane. -/
def Net.lost (n : Net) (p : Nat) : List Load := n.loads.filter fun l => l.plane == p && l.sent != 0

end Sys2Proof.Machine
end

