-- ==== Sys2Proof/Config.lean ====
section
/-! DEFINITION. What an implementation fixes, and the free values: opaque constants with no body, which no proof can
evaluate. Each is listed in the assumption log. -/
namespace Sys2Proof

/-- Fresh free values: applied to the counter `State.free`, which a step reads and advances (log 2). -/
opaque Config.freeValue : Nat → Nat
/-- The module serial number, a fuse (R546). -/
opaque Config.serial : BitVec 64
/-- The VERSION of the running firmware image (R438, R406). -/
opaque Config.fwVersion : BitVec 64
/-- KP, KI and INTEG_MAX of the phase servo (R36). -/
opaque Config.kp : Int
opaque Config.ki : Int
opaque Config.integMax : Int
/-- hash32 of R88 and the salted hashes of R91 and R111. -/
opaque Config.hash32 : List Nat → Nat
/-- The keyed hash of R98 under order_key. -/
opaque Config.orderHash : Nat → List Nat → Nat
/-- The number of SECDED arrays of a fault source (R532, "by source"). -/
opaque Config.arrays : Nat → Nat
/-- SHAKE256 with an output of the given number of bytes (R16, R406). -/
opaque Config.shake256 : Nat → List (BitVec 8) → List (BitVec 8)
/-- The endpoint UUID of the standby controller (R372). -/
opaque Config.uuid : List (BitVec 8)
/-- The roots that Balyn keeps for engine agents, and the bytes of its storage that it grants to engine address spaces (R303, R306), for each
of its settings. -/
opaque Config.engineRoot : (gen agent asid : Nat) → Option Nat
opaque Config.engineGrant : (gen agent asid da : Nat) → Bool
/-- HS_RATE of a tile at a tick: the handshake rate of its slowest link (R133, log 171). -/
opaque Config.hsRate : (tile now : Nat) → BitVec 16
/-- AES-256-GCM (R212): the sealed bytes of a key, a nonce, additional data and a plaintext, tag last. -/
opaque Config.gcmSeal : List (BitVec 8) → Nat → List (BitVec 8) → List (BitVec 8) → List (BitVec 8)
/-- AES-256-GCM: the plaintext, none when the tag fails. -/
opaque Config.gcmOpen : List (BitVec 8) → Nat → List (BitVec 8) → List (BitVec 8) → Option (List (BitVec 8))
/-- H of R221: a 64-bit hash of a communicator, a rank and a tag under a domain's key. -/
opaque Config.matchHash : (key comm rank tag : Nat) → Nat
/-- What Get MCTP Version Support answers after its completion code for a message type, and the version word of the vendor message set
(R372, log 46). -/
opaque Config.mctpVersions : Nat → List (BitVec 8)
opaque Config.mctpVendorSet : Nat
/-- The response of FW_QUERY, from the facts it reports (R366, log 47). -/
opaque Config.fwQueryRsp : List (Nat × Bool × Option (BitVec 64)) → (sel : Nat) → (selTrial : Bool) → (running : Option Nat) →
  (trial : Bool) → List (BitVec 8)
/-- The IDENTITY_SEED fuse (R405); slh_keygen_internal of SLH-DSA-SHAKE-256f, which answers a public and a private key; and a signature under a
private key and a context string (R412, R414). -/
opaque Config.identitySeed : List (BitVec 8)
opaque Config.slhKeygen : (skSeed skPrf pkSeed : List (BitVec 8)) → List (BitVec 8) × List (BitVec 8)
opaque Config.slhSign : (sk ctx msg : List (BitVec 8)) → List (BitVec 8)
/-- ML-KEM-1024: the encapsulation key of a key pair's seed, and the shared secret a ciphertext gives under it (R416, R417). -/
opaque Config.kemPublic : Nat → List (BitVec 8)
opaque Config.kemDecaps : Nat → List (BitVec 8) → List (BitVec 8)
/-- Verification of an SLH-DSA-SHAKE-256s signature by a public key under a context string, and SHAKE256 of Haldold's public key in the mint ROM
(R405 to R407). -/
opaque Config.slhVerify : (pk ctx msg sig : List (BitVec 8)) → Bool
opaque Config.romPkHash : List (BitVec 8)
/-- The mint ROM and its version, and the fuse bytes of ORDER_O, OWNER_REQUIRED, OWNER_KEY_HASH and SVN (R411). -/
opaque Config.mintRom : List (BitVec 8)
opaque Config.mintVersion : Nat
opaque Config.fuseBytes : (orderO ownerRequired : Bool) → (ownerHash : List (BitVec 8)) → (svn : Nat) → List (BitVec 8)
/-- The certificates of the chain in DER: the device's, of its serial number and identity public key, the product CA's and the root's (R413). -/
opaque Config.deviceCert : (serial : BitVec 64) → (pk : List (BitVec 8)) → List (BitVec 8)
opaque Config.caCert : List (BitVec 8)
opaque Config.rootCert : List (BitVec 8)
/-- The 48-bit Provisional ID of the I3C target, formed from the serial number (R371). -/
opaque Config.provisionalId : (serial : BitVec 64) → BitVec 48
/-- AES-256-XTS (R300): under a key of 64 bytes and a tweak, a permutation of the blocks of 64 bytes, little-endian. -/
opaque Config.xts : (key : List (BitVec 8)) → (tweak : Nat) → Equiv.Perm (BitVec 512)
/-- The response of GET_VERSION while a slot runs (R366, log 47). -/
opaque Config.versionRsp : Option Nat → List (BitVec 8)

end Sys2Proof
end

