-- ==== Sys2Proof/Machine/MatchState.lean ====
section
/-! DEFINITION. State of match domains (R217 to R247). -/
namespace Sys2Proof.Machine

/-- A request under way at its target. -/
structure Req where
  k : Packet
  th : TransHdr
  qpn : Nat
  slot : Nat
  psn : Nat                -- extended
  ext : List Byte
  payload : List Byte
deriving DecidableEq, Repr

/-- A posted receive (R244). -/
structure Posted where
  entry : Nat              -- its entry of the entry pool (R219)
  pseq : Nat
  cookie : U64
  tagv : U64
  mask : U64
  rank : Nat
  any : Bool
  comm : Nat
  cqe : Bool
  ledger : Option Nat
  lkey : Nat
  length : Nat
  loff : Nat
deriving DecidableEq, Repr

/-- A SEND message at its target, from its first packet until its receive completes (R187, R231 to R238, R245). -/
structure InMsg where
  id : Nat
  qpn : Nat
  slot : Nat
  ssn : Nat
  comm : Nat
  rank : Nat
  tagv : U64
  msgLen : Nat
  rndv : Bool
  rkey : Nat               -- rendezvous source
  offset : Nat
  haveFirst : Bool         -- its FIRST packet has arrived
  queued : Bool            -- its presentation waits for a teller (R241)
  presented : Bool
  aseq : Nat
  entry : Nat              -- its entry of the entry pool while it is unexpected (R219)
  pool : Option Nat        -- first granule, for an eager message that was not paired on arrival
  complete : Bool          -- R188
  pair : Option Posted     -- the receive it is bound to
  parts : List (Nat × Nat) -- offset and length of the data held in the pool
  staging : Nat            -- placements into the pool not yet accepted
  copies : Nat             -- copies from the pool not yet accepted (R232)
  gets : Nat               -- internal GETs not finished
  code : Nat               -- code of the receive so far
  conn : Nat               -- 0 while its QP is in RTS; then the number given when the QP left it (R242)
  ended : Bool             -- it was not complete then, and is given up
deriving DecidableEq, Repr

/-- An operation waiting at a domain while a teller works (R241). -/
inductive MatchOp where
  /-- the presentation of a message that is all or partly in -/
  | present (msg : Nat)
  /-- that of the message of a SEND packet, which waits for it (R240) -/
  | arrive (r : Req)
  | post (c serial : Nat)
  | probe (c serial : Nat)
  | cancel (c serial : Nat)
deriving DecidableEq, Repr

/-- A match domain, by its context. -/
structure Domain where
  job : Nat
  nbinsLog2 : Nat
  maxPosted : Nat
  maxUnexp : Nat
  poolGranules : Nat
  base : Nat               -- device address of the unexpected payload pool
  backoff : Nat
  key : U64                -- the hash key drawn at creation (R221)
  nextPseq : Nat
  nextAseq : Nat
  posted : List Posted     -- in PSEQ order
  msgs : List InMsg        -- in order of their first packet's arrival; unexpected ones are unpaired and presented
  nextMsg : Nat
  used : List (Nat × Nat)  -- granule runs in use: first, count
  busy : List MatchOp      -- the escalated operation first, then those waiting for it
deriving DecidableEq, Repr

end Sys2Proof.Machine
end

