-- ==== Sys2Proof/Machine/Outputs.lean ====
section
/-! DEFINITION. What leaves the module: the model's own list of everything an outside party could see. No rule of
the spec reads it back; it is how statements speak of transmissions (DESIGN CHOICE, log 3). -/
namespace Sys2Proof.Machine

inductive Output where
  /-- an MSI-X message: the vector, and the write its table entry makes of it -/
  | msix (fn : FnId) (vector : Nat) (addr : U64) (data : U32)
  /-- the completion of a host read of BAR0 or BAR4 -/
  | readData (fn : FnId) (data : List Byte)
  /-- the completion of a host read of BAR4, its data poisoned -/
  | readPoisoned (fn : FnId) (data : List Byte)
  /-- a request of the host that completes as Unsupported Request -/
  | unsupported (fn : FnId)
  /-- a configuration request before the endpoint's configuration space is set up, answered Request Retry Status (R329) -/
  | retryStatus (fn : FnId)
  /-- a memory read request of the module; `ido` is the ID-Based Ordering attribute -/
  | dmaRead (fn : FnId) (ido : Bool) (tag addr len : Nat)
  /-- a posted memory write of the module; `ro` is the Relaxed Ordering attribute, `ep` marks poisoned data (R296) -/
  | dmaWrite (fn : FnId) (ido : Bool) (addr : Nat) (ro ep : Bool) (data : List Byte)
  /-- an AtomicOp of the module -/
  | atomicOp (fn : FnId) (ido : Bool) (tag addr aop : Nat) (op0 op1 : U64)
  /-- an error reported through AER: Completion Timeout, or Unexpected Completion (advisory) -/
  | aerTimeout (ep : Nat)
  | aerUnexpected (ep : Nat)
  /-- one slot of a port: a link-control flit, or a data flit of its stream -/
  | lctl (p : Nat) (f : Lctl)
  | dataFlit (p : Nat) (stream : Nat) (bytes : List Byte)
  /-- a codeword goes to the lanes: what each lane of the width sends, in levels of the rate (R433) -/
  | codeword (p rate : Nat) (lanes : List (List Nat))
  /-- a training block of SLOW or EQUALIZE on a lane (R442) -/
  | trainBlock (p lane : Nat) (word : BitVec 128)
  /-- the answer to ENTDAA: the Provisional ID -/
  | provisional (id : BitVec 48)
  /-- an MCTP message on the BMC bus -/
  | mctp (bytes : List Byte)
  /-- an In-Band Interrupt with its mandatory data byte -/
  | ibi (byte : Byte)
deriving DecidableEq, Repr

end Sys2Proof.Machine
end

