-- ==== Sys2Proof/Machine/RingState.lean ====
section
/-! DEFINITION. State of contexts and of their rings (R150, R164, R205, R374 to R401). -/
namespace Sys2Proof.Machine

/-- Stages of an accepted chain that has not retired (R386). -/
inductive ChainSt where
  | waiting      -- not started
  | queued       -- in its home tile's launch queue (R49)
  | prepared     -- in preparation for its launch (R52)
  | started
  | done         -- its operation has completed; it has not retired yet
deriving DecidableEq, Repr

/-- An accepted chain: its entries as the 64 bytes read (R376). -/
structure Chain where
  serial : Nat
  timing : Option (List Byte)
  work : List Byte
  st : ChainSt
  ready : Bool             -- it was prepared and eligible by its target (R53)
  held : Bool              -- its WAIT_LEDGER held the ring (R281)
  passed : Bool            -- the update that released it has tested its ledger, and the walk has not come to it since (R281)
  payload : Option (List Byte)   -- data of its first packet fetched in preparation (R52)
  segs : List (Nat × List Byte)  -- COLL: the first segment of each stripe's node fetched in preparation, by node (R52, R276)
  code : Nat               -- completion code so far
  value : Nat              -- VALUE, COUNT_A and COUNT_B of its completion entry (R391)
  countA : Nat
  countB : Nat
  ident : Nat
  flags : Nat
deriving DecidableEq, Repr

/-- A context: host context 0 to 4,095, or a Balyn engine context (bit 15 set), which has no rings. -/
structure Ctx where
  ep : Nat
  fn : Nat
  tile : Nat
  kernel : Bool
  addrRank : Bool
  eagerLimit : Nat
  spillVa : Nat
  spillSize : Nat
  asid : Nat               -- of SPILL_VA
  bucket : Bucket
  classMask : Nat
  destroying : Bool
  enable : Bool
  idle : Bool
  fenced : Bool
  hostLost : Bool
  dbErr : Bool
  cqOverflow : Bool
  armed : Bool
  cfgErr : Bool
  fenceCause : Nat
  sqBase : Nat
  cqBase : Nat
  sqLog2 : Nat
  cqLog2 : Nat
  ringAsid : Nat
  vector : Nat
  intEn : Bool
  coalCount : Nat
  coalUs : Nat
  sqHead : U32
  sqTail : U32
  cqHead : U32
  cqTail : U32
  owed : Nat
  backlog : List (List Byte)     -- completion entries without PHASE
  nChains : U64
  nInvalid : U64
  nLost : U64
  nDiverted : U64
  evSeq : U32
  armedCount : Nat         -- entries written since ARMED was set
  armedAt : Option Nat     -- tick of the first of them
  chains : List Chain      -- accepted and not retired, in ring order
  openTiming : Option (List Byte)
  nextSerial : Nat
  reading : Bool           -- an entry read is outstanding
  deferred : List (List Byte)    -- entries on their way to the completion ring, in index order, from index CQ_TAIL on
deriving DecidableEq, Repr

/-- A context as CTX_CREATE makes it, ring window at reset (R401). Its bucket is off (R556); RATE, BURST, tokens and CLASS_MASK start at 0
(DESIGN CHOICE, log 153). -/
def Ctx.fresh (ep fn tile : Nat) (kernel addrRank : Bool) : Ctx :=
  { ep := ep, fn := fn, tile := tile, kernel := kernel, addrRank := addrRank, eagerLimit := 0, spillVa := 0, spillSize := 0,
    asid := 0, bucket := { en := false, rate := 0, burst := 0, tokens := 0, at_ := 0 }, classMask := 0, destroying := false,
    enable := false, idle := true, fenced := false, hostLost := false, dbErr := false, cqOverflow := false, armed := false,
    cfgErr := false, fenceCause := 0, sqBase := 0, cqBase := 0, sqLog2 := 6, cqLog2 := 6, ringAsid := 0, vector := 0,
    intEn := false, coalCount := 1, coalUs := 0, sqHead := 0, sqTail := 0, cqHead := 0, cqTail := 0, owed := 0,
    backlog := [], nChains := 0, nInvalid := 0, nLost := 0, nDiverted := 0, evSeq := 0, armedCount := 0, armedAt := none,
    chains := [], openTiming := none, nextSerial := 0, reading := false, deferred := [] }

end Sys2Proof.Machine
end

