-- ==== Sys2Proof/Machine/State.lean ====
section
/-! DEFINITION. The state of the module, its faults and refusals, and the state right after reset. -/
namespace Sys2Proof.Machine

/-- The ways the model stops. -/
inductive Fault where
  /-- Raised by no meaning: every command of the table has an effect the spec gives. Safe. -/
  | noEffect
deriving DecidableEq, Repr

/-- The ways the model declines a command. -/
inductive Refusal where
  /-- Raised by a dispatch arm whose command has no meaning yet. Safe. -/
  | notModelled (mnemonic : String)
deriving DecidableEq, Repr

/-- The state of the module. -/
structure State where
  clk : Clock
  pwr : Power
  pwrCfg : PwrCfg
  sup : Supply
  pins : Pins
  boot : Boot
  host : HostPorts
  mbx : Tbl Mailbox            -- 0 to 3 PFs, 4 BMC; absent: `Mailbox.reset`
  bmc : Bmc
  faults : Faults
  plog : PLog
  perf : Perf
  time : TimeState
  route : Route
  links : Tbl LinkPort         -- absent: `LinkPort.reset`
  conns : Tbl Connector        -- absent: `Connector.reset`
  scheds : Tbl SchedPort       -- absent: `SchedPort.reset`
  tiles : Tbl Tile             -- absent: `Tile.reset`
  planes : List Bool           -- planes A and B in service (R132)
  net : Net
  sec : Sec
  fw : Fw
  mem : Mem
  ctxs : Tbl Ctx               -- contexts that exist, by number; engine contexts from 0x8000
  ledgers : Tbl Ledger         -- ledgers that are allocated, by index
  qps : Tbl Qp                 -- QPs that exist, by QPN
  gens : Tbl Nat               -- GEN of each QPN's last use (R169)
  domains : Tbl Domain         -- match domains, by context
  nodes : Tbl Node             -- collective nodes, by index
  violAt : Tbl Nat             -- tick of the last violation record of an initiator QP (R209)
  free : Nat                   -- the model's own counter of free values
  out : List Output            -- what has left the module, newest last
  pending : List Instr
deriving DecidableEq, Repr

/-! ### The machine right after reset -/

/-- The standby controller when the die has just left its first reset: seated and qualified, the eFuse on, the supplies good (log 56). -/
def Power.reset : Power :=
  { st := .a0, seatA := true, seatB := true, qualified := true, holdA3 := false, gate := .on, attemptAt := 0, gateOffAt := 0, converters := true,
    pwrGood := true, pgSince := 0, faultN := false, lastCause := .none, lastPoint := 0, tripped := false, used := 0, latched := false,
    tripCount := 0, change := none, wakeFrom := none }

/-- The module configuration record a module is shipped with: the defaults, in copy 0 (log 30). -/
def McrCopy.shipped : McrCopy :=
  { signatureOk := true, version := 1, sequence := 1, reservedZero := true, fields := McrFields.default, digestOk := true }

/-- Start-up right after the die's first release from device reset (R329, R493): the mint runs slot A's image. -/
def Boot.reset : Boot :=
  { inReset := false, relFrom := 0, releases := 1, alive := .booting, heartbeat := 0, mintDone := false, balyn := false, position := 0,
    mcrCopies := [some McrCopy.shipped, none], mcr := McrFields.default, mcrFrom := some McrCopy.shipped }

/-- The pins after reset: SLOT_ID straps 0, both PERST pins asserted (log 56). -/
def Pins.reset : Pins := { modReset := false, slotId := 0, perst := [true, true], tref10m := false, ppsOut := false, ppsOutUntil := 0 }

/-- The module right after its first release from device reset (R493; log 56). -/
def State.reset : State :=
  { clk := { now := 0, nt := 0, frac := 0 }, pwr := Power.reset, pwrCfg := PwrCfg.reset, sup := Supply.reset, pins := Pins.reset,
    boot := Boot.reset, host := HostPorts.reset, mbx := [], bmc := Bmc.reset, faults := Faults.reset, plog := PLog.reset,
    perf := Perf.reset, time := TimeState.reset, route := Route.reset 0 (BitVec.ofNat 64 (Config.freeValue 0)), links := [], conns := [],
    scheds := [], tiles := [], planes := [true, true], net := Net.reset, sec := Sec.reset true false false (List.replicate 64 0) 0,
    fw := { Fw.shipped Config.fwVersion with running := some 0 }, mem := Mem.reset 0, ctxs := [], ledgers := [], qps := [], gens := [],
    domains := [], nodes := [], violAt := [], free := 1, out := [], pending := [] }

end Sys2Proof.Machine
end

