-- ==== Sys2Proof/Machine/Ops.lean ====
section
/-! DEFINITION. The named operations over the state: access to replicated parts, free values, time, outputs and
interrupts. -/
namespace Sys2Proof.Machine

/-! ### Replicated parts -/

def State.link (s : State) (p : Nat) : LinkPort := Tbl.getD s.links p LinkPort.reset
def State.setLink (s : State) (p : Nat) (l : LinkPort) : State := { s with links := Tbl.set s.links p l }
def State.modLink (s : State) (p : Nat) (f : LinkPort → LinkPort) : State := s.setLink p (f (s.link p))

def State.sched (s : State) (p : Nat) : SchedPort := Tbl.getD s.scheds p SchedPort.reset
def State.setSched (s : State) (p : Nat) (x : SchedPort) : State := { s with scheds := Tbl.set s.scheds p x }
def State.modSched (s : State) (p : Nat) (f : SchedPort → SchedPort) : State := s.setSched p (f (s.sched p))

def State.tile (s : State) (t : Nat) : Tile := Tbl.getD s.tiles t Tile.reset
def State.setTile (s : State) (t : Nat) (x : Tile) : State := { s with tiles := Tbl.set s.tiles t x }
def State.modTile (s : State) (t : Nat) (f : Tile → Tile) : State := s.setTile t (f (s.tile t))

def State.ep (s : State) (e : Nat) : Endpoint := Tbl.getD s.host.eps e Endpoint.reset
def State.setEp (s : State) (e : Nat) (x : Endpoint) : State := { s with host := { s.host with eps := Tbl.set s.host.eps e x } }
def State.modEp (s : State) (e : Nat) (f : Endpoint → Endpoint) : State := s.setEp e (f (s.ep e))

/-- Key of a function in the table of functions. -/
def FnId.key (f : FnId) : Nat := 128 * f.ep.val + f.fn
def State.func (s : State) (f : FnId) : Func := Tbl.getD s.host.funcs (f.key) Func.reset
def State.setFunc (s : State) (f : FnId) (x : Func) : State :=
  { s with host := { s.host with funcs := Tbl.set s.host.funcs (f.key) x } }
def State.modFunc (s : State) (f : FnId) (g : Func → Func) : State := s.setFunc f (g (s.func f))

def State.box (s : State) (m : Nat) : Mailbox := Tbl.getD s.mbx m Mailbox.reset
def State.setBox (s : State) (m : Nat) (x : Mailbox) : State := { s with mbx := Tbl.set s.mbx m x }
def State.modBox (s : State) (m : Nat) (f : Mailbox → Mailbox) : State := s.setBox m (f (s.box m))

def State.conn (s : State) (k : Nat) : Connector := Tbl.getD s.conns k Connector.reset
def State.setConn (s : State) (k : Nat) (x : Connector) : State := { s with conns := Tbl.set s.conns k x }

def State.tport (s : State) (p : Nat) : TimePort := Tbl.getD s.time.ports p TimePort.reset
def State.setTport (s : State) (p : Nat) (x : TimePort) : State :=
  { s with time := { s.time with ports := Tbl.set s.time.ports p x } }

def State.rport (s : State) (p : Nat) : RPort := Tbl.getD s.route.ports p RPort.reset
def State.setRport (s : State) (p : Nat) (x : RPort) : State :=
  { s with route := { s.route with ports := Tbl.set s.route.ports p x } }

def State.ctx? (s : State) (c : Nat) : Option Ctx := Tbl.get? s.ctxs c
def State.setCtx (s : State) (c : Nat) (x : Ctx) : State := { s with ctxs := Tbl.set s.ctxs c x }
def State.modCtx (s : State) (c : Nat) (f : Ctx → Ctx) : State :=
  match s.ctx? c with
  | some x => s.setCtx c (f x)
  | none => s

def State.qp? (s : State) (q : Nat) : Option Qp := Tbl.get? s.qps q
def State.setQp (s : State) (q : Nat) (x : Qp) : State := { s with qps := Tbl.set s.qps q x }
def State.modQp (s : State) (q : Nat) (f : Qp → Qp) : State :=
  match s.qp? q with
  | some x => s.setQp q (f x)
  | none => s

/-- Channel slot `k` of a QP. -/
def Qp.chan (q : Qp) (k : Nat) : Chan := q.chans.getD k Chan.reset
def State.modChan (s : State) (q k : Nat) (f : Chan → Chan) : State :=
  s.modQp q fun x => { x with chans := put x.chans k (f (x.chan k)) }
def State.chan (s : State) (q k : Nat) : Chan := ((s.qp? q).map fun x => x.chan k).getD Chan.reset

def State.domain? (s : State) (c : Nat) : Option Domain := Tbl.get? s.domains c
def State.setDomain (s : State) (c : Nat) (d : Domain) : State := { s with domains := Tbl.set s.domains c d }
def State.modDomain (s : State) (c : Nat) (f : Domain → Domain) : State :=
  match s.domain? c with
  | some d => s.setDomain c (f d)
  | none => s

def State.node? (s : State) (n : Nat) : Option Node := Tbl.get? s.nodes n
def State.setNode (s : State) (n : Nat) (x : Node) : State := { s with nodes := Tbl.set s.nodes n x }
def State.modNode (s : State) (n : Nat) (f : Node → Node) : State :=
  match s.node? n with
  | some x => s.setNode n (f x)
  | none => s

def State.modMem (s : State) (f : Mem → Mem) : State := { s with mem := f s.mem }
def State.modSec (s : State) (f : Sec → Sec) : State := { s with sec := f s.sec }
def State.agent (s : State) (a : Nat) : Agent := Tbl.getD s.mem.agents a Agent.reset
def State.setAgent (s : State) (a : Nat) (x : Agent) : State := s.modMem fun m => { m with agents := Tbl.set m.agents a x }
def State.modAgent (s : State) (a : Nat) (f : Agent → Agent) : State := s.setAgent a (f (s.agent a))

/-- Add `n` to element `i` of a list of counters. -/
def bump (l : List U64) (i n : Nat) : List U64 := put l i (l.getD i 0 + BitVec.ofNat 64 n)

/-- Count in TP_*, MT_*, CU_* or CL_* and LG_* of a tile (R216, R247, R287). -/
def State.tpCount (s : State) (t i : Nat) : State := s.modTile t fun x => { x with tp := bump x.tp i 1 }
def State.mtCount (s : State) (t i n : Nat) : State := s.modTile t fun x => { x with mt := bump x.mt i n }
def State.cuCount (s : State) (t i n : Nat) : State := s.modTile t fun x => { x with cu := bump x.cu i n }
def State.clCount (s : State) (t i : Nat) : State := s.modTile t fun x => { x with cl := bump x.cl i 1 }

/-! ### Free values and outputs -/

/-- A fresh free value of `w` bits, and the state whose counter has advanced (log 2). -/
def State.fresh (s : State) (w : Nat) : Nat × State :=
  (Config.freeValue s.free % 2 ^ w, { s with free := s.free + 1 })

/-- A choice the module makes among numbers: the free value when `ok` holds of it, else `fallback` (log 2). -/
def State.choose (s : State) (w : Nat) (ok : Nat → Bool) (fallback : Option Nat) : Option Nat × State :=
  let r := s.fresh w
  (if ok r.1 then some r.1 else fallback, r.2)

/-- Something leaves the module. -/
def State.emit (s : State) (o : Output) : State := { s with out := s.out ++ [o] }

/-! ### Modes of the module -/

/-- The fabric die runs: standby power is on and the die is out of reset. -/
def State.dieRuns (s : State) : Bool := !s.boot.inReset && s.pwr.st != .off && s.pwr.st != .a3

/-- The die runs and Balyn has set it up: every engine works. STOPPED stops them all (R517). -/
def State.works (s : State) : Bool := s.dieRuns && s.boot.balyn && s.boot.alive == .running

/-- The endpoints the configuration record in force forms (R322). -/
def State.formed (s : State) (e : Nat) : Bool :=
  e == 0 || e == 2 || (e == 1 && bit s.boot.mcr.hostSplit 0) || (e == 3 && bit s.boot.mcr.hostSplit 1)

/-! ### STOPPED (R552) -/

/-- What STOPPED freezes. -/
def State.freeze (s : State) : Frozen :=
  { clk := s.clk, pwr := s.pwr, pwrCfg := s.pwrCfg, sup := s.sup, host := s.host, time := s.time, route := s.route, links := s.links,
    conns := s.conns, scheds := s.scheds, tiles := s.tiles, planes := s.planes, net := s.net, sec := s.sec, fw := s.fw, mem := s.mem,
    nodes := s.nodes }

/-- The state that frozen registers read: in STOPPED, as it stood when STOP completed. -/
def State.asRead (s : State) : State :=
  match s.faults.stopped, s.faults.frozen with
  | true, some z => { s with
      clk := z.clk, pwr := z.pwr, pwrCfg := z.pwrCfg, sup := z.sup, host := z.host, time := z.time, route := z.route, links := z.links,
      conns := z.conns, scheds := z.scheds, tiles := z.tiles, planes := z.planes, net := z.net, sec := z.sec, fw := z.fw, mem := z.mem,
      nodes := z.nodes }
  | _, _ => s

/-! ### Time -/

/-- One tick is 1/256 ns. -/
def usTicks : Nat := 256000
def msTicks : Nat := 256000000
def secTicks : Nat := 256000000000

/-- NT ticks that `d` ticks of the clock source make, with RATE_ADJ (R24, R36). The source runs at its nominal rate (DESIGN CHOICE, log
138), so the clamp of RATE_ADJ is never narrowed. -/
def Clock.ntTicks (c : Clock) (rateAdj : Int) (d : Nat) : Nat :=
  (((c.frac : Int) + d * (1000000000 + rateAdj)) / 1000000000).toNat

/-- `d` ticks of the clock source pass: NT advances at its rate, never stepping (R22, R24, R36). -/
def Clock.advance (c : Clock) (rateAdj : Int) (d : Nat) : Clock :=
  let k := c.ntTicks rateAdj d
  { now := c.now + k, nt := c.nt + BitVec.ofNat 64 k, frac := (((c.frac : Int) + d * (1000000000 + rateAdj)) % 1000000000).toNat }

/-- Ticks of the clock source until `k` more ticks of NT have passed. -/
def Clock.untilTicks (c : Clock) (rateAdj : Int) (k : Nat) : Nat :=
  if k = 0 then 0 else (((k : Int) * 1000000000 - c.frac + (999999999 + rateAdj)) / (1000000000 + rateAdj)).toNat

/-- Ticks of the clock source until NT reads `t`, 0 when it is already there or past; NT values compare on the circle of 2^64. -/
def Clock.untilNt (c : Clock) (rateAdj : Int) (t : U64) : Nat := c.untilTicks rateAdj (circ 64 t.toNat c.nt.toNat).toNat

/-- Nanoseconds completed when `d` ticks pass from tick `now`. -/
def nsOver (now d : Nat) : Nat := (now + d) / 256 - now / 256

/-! ### Performance counters (R525, R526) -/

/-- QUAL of a mask group selects bit `i`. -/
def qMask (i : Nat) (q : Nat) : Bool := q == 0 || bit q i
/-- QUAL of a "number + 1" group selects `v`. -/
def qNum (v : Nat) (q : Nat) : Bool := q == 0 || q == v + 1
/-- A group without QUAL. -/
def qAny (_ : Nat) : Bool := true

/-- A counter counts `n` more of its event: it wraps past 2^48 - 1 and then sets OVF (R526). -/
def PerfCtr.add (c : PerfCtr) (n : Nat) : PerfCtr :=
  { c with count := c.count + BitVec.ofNat 48 n, ovf := c.ovf || decide (c.count.toNat + n ≥ 2 ^ 48) }

/-- The counter counts an event at an instance: event, INSTANCE and QUAL select it (R525). -/
def PerfCtr.selects (c : PerfCtr) (ev inst : Nat) (q : Nat → Bool) : Bool :=
  c.event == ev && ev != 0 && (c.instance_ == 0xFFFF || c.instance_ == inst) && q c.qual

/-- `n` occurrences of an event at an instance: every counter that selects them counts (R525). -/
def State.count (s : State) (event inst : Nat) (q : Nat → Bool) (n : Nat) : State :=
  { s with perf := { s.perf with ctrs := Tbl.map (fun _ c => if c.selects event inst q then c.add n else c) s.perf.ctrs } }

/-! ### Waking (R494, R496) -/

/-- A wake event: in A2, or while the module enters it, the return to A0 begins. -/
def State.wake (s : State) : State :=
  let entering := match s.pwr.change with
    | some c => c.target == .a2
    | none => false
  if s.pwr.st == .a2 || entering then
    { s with pwr := { s.pwr with wakeFrom := some (s.pwr.wakeFrom.getD s.clk.now) } }
  else s

/-! ### Interrupts -/

/-- A function may send: Bus Master Enable is set and it is in D0 (R342). -/
def Func.mayDma (f : Func) : Bool := f.bme && !f.d3hot

/-- A transfer under way, by its number. -/
def State.xfer? (s : State) (id : Nat) : Option Xfer := s.mem.xfers.find? fun x => x.id == id

/-- The function a context belongs to. -/
def Ctx.fnId (c : Ctx) : FnId := { ep := Fin.ofNat 4 c.ep, fn := c.fn }

/-- The context may issue DMA now: its function has Bus Master Enable set and is in D0, and it is not lost (R210, R342). -/
def State.mayDma (s : State) (c : Nat) : Bool :=
  match s.ctx? c with
  | some x => !x.hostLost && (s.func x.fnId).mayDma && !s.faults.stopped
  | none => false

/-- A transfer may issue DMA now: its context may, or, for a fill that no access asks for, the PF of its endpoint. -/
def State.xferDma (s : State) (x : Xfer) : Bool :=
  match x.use, x.space with
  | .fill, .host _ ep _ _ _ => (s.func { ep := Fin.ofNat 4 ep, fn := 0 }).mayDma && !s.faults.stopped
  | _, _ => s.mayDma x.ctx

/-- The transfer a request belongs to. -/
def TagUse.id : TagUse → Nat
  | .xfer i | .walk i | .setAccessed i | .atomic i => i

/-- The function of a non-posted request may issue DMA (R342). -/
def State.maySend (s : State) (u : TagUse) : Bool :=
  match s.xfer? u.id with
  | some x => s.xferDma x
  | none => true

/-- Raise vector `v` of a function: the message is sent, or its pending bit set while it is masked or the function
may not send (R328, R342). -/
def State.raise (s : State) (f : FnId) (v : Nat) : State :=
  let fn := s.func f
  let vec := Tbl.getD fn.vectors v Vector.reset
  if fn.mayDma && !fn.fnMask && !vec.masked then (s.emit (.msix f v vec.addr vec.data)).count 0x0A03 f.ep (qNum f.fn) 1
  else s.setFunc f { fn with vectors := Tbl.set fn.vectors v { vec with pending := true } }

/-- Send every pending, unmasked message of a function, in vector order. -/
def State.flushMsix (s : State) (f : FnId) : State :=
  let fn := s.func f
  if fn.mayDma && !fn.fnMask then
    let due := fn.vectors.filter fun e => e.2.pending && !e.2.masked
    let s := s.setFunc f { fn with vectors := Tbl.map (fun _ v => if v.masked then v else { v with pending := false }) fn.vectors }
    due.foldl (fun s e => (s.emit (.msix f e.1 e.2.addr e.2.data)).count 0x0A03 f.ep (qNum f.fn) 1) s
  else s

/-- Vector 0 of the management PF: module-wide interrupts (R328). -/
def State.raiseMgmt (s : State) : State :=
  match s.host.mgmt with
  | some e => s.raise { ep := Fin.ofNat 4 e, fn := 0 } 0
  | none => s

/-- Vector 0 of the management PF when an enabled status bit that was clear is set (log 14). -/
def State.notify {w : Nat} (s : State) (old new enable : BitVec w) : State :=
  if new &&& enable &&& ~~~old = 0 then s else s.raiseMgmt

end Sys2Proof.Machine
end

