-- ==== Sys2Proof/Machine/Report.lean ====
section
/-! DEFINITION. Fault capture, event records, the logs, performance counting and the passing of time
(R502 to R526, R56). -/
namespace Sys2Proof.Machine

/-! ### Codes -/

/-- The value of a fault kind (R505). -/
def kindValue : FaultKind → Nat
  | .configDefaulted => 0x01 | .regionSkew => 0x02 | .timeLost => 0x03 | .linkBroken => 0x04 | .linkReplay => 0x05
  | .cablePower => 0x06 | .torusCorrected => 0x07 | .planeDown => 0x08 | .hbmCorrected => 0x09
  | .hbmUncorrected => 0x0A | .hostCplTimeout => 0x0B | .vaultRng => 0x0C | .arrayCorrected => 0x0D
  | .coreRestart => 0x0E | .wireFault => 0x0F | .handshakeStall => 0x10 | .stateLost => 0x11

/-- The kind of a value. -/
def kindOf : Nat → Option FaultKind
  | 0x01 => some .configDefaulted | 0x02 => some .regionSkew | 0x03 => some .timeLost | 0x04 => some .linkBroken
  | 0x05 => some .linkReplay | 0x06 => some .cablePower | 0x07 => some .torusCorrected | 0x08 => some .planeDown
  | 0x09 => some .hbmCorrected | 0x0A => some .hbmUncorrected | 0x0B => some .hostCplTimeout | 0x0C => some .vaultRng
  | 0x0D => some .arrayCorrected | 0x0E => some .coreRestart | 0x0F => some .wireFault | 0x10 => some .handshakeStall
  | 0x11 => some .stateLost | _ => none

def sevValue : Sev → Nat
  | .ce => 0 | .de => 1 | .uc => 2 | .uf => 3

/-- The severity of a fault (R505). -/
def Sev.of (k : FaultKind) (fatal : Bool) : Sev :=
  match k with
  | .linkReplay | .torusCorrected | .hbmCorrected | .arrayCorrected => .ce
  | .configDefaulted | .regionSkew | .timeLost | .linkBroken | .cablePower => .de
  | .planeDown | .hbmUncorrected | .hostCplTimeout | .coreRestart | .wireFault => .uc
  | .vaultRng => if fatal then .uf else .uc
  | .handshakeStall | .stateLost => .uf

/-- A number names a fault source (R502). -/
def isSource (n : Nat) : Bool :=
  n ≤ 5 || (0x10 ≤ n && n < 0x14) || (0x20 ≤ n && n < 0x33) || (0x80 ≤ n && n < 0x140) || (0x140 ≤ n && n < 0x150)
    || (0x200 ≤ n && n < 0x240) || (0x300 ≤ n && n < 0x304)

/-- The source is a port, and which (R502). -/
def portOf (src : Nat) : Option Nat := if 0x200 ≤ src ∧ src < 0x240 then some (src - 0x200) else none

/-- Reaction bits (R504). -/
def rLog : BitVec 5 := 1
def rInt : BitVec 5 := 2
def rFence : BitVec 5 := 4
def rIsolate : BitVec 5 := 8
def rStop : BitVec 5 := 16

/-- The default reaction of a kind (R505). -/
def defaultReaction (k : FaultKind) (sev : Sev) (src : Nat) : BitVec 5 :=
  match k with
  | .linkReplay | .torusCorrected | .hbmCorrected | .arrayCorrected => rLog
  | .configDefaulted | .regionSkew | .timeLost | .linkBroken | .cablePower | .planeDown | .coreRestart => rLog ||| rInt
  | .hbmUncorrected | .hostCplTimeout => rLog ||| rInt ||| rFence
  | .vaultRng => if sev = .uf then rLog ||| rInt ||| rStop else rLog ||| rInt
  | .wireFault => if (portOf src).isSome then rLog ||| rInt ||| rIsolate else rLog ||| rInt
  | .handshakeStall | .stateLost => rLog ||| rInt ||| rStop

/-- The reaction in force: FAULT_REACTION's, else the default (R505, R514). -/
def State.reaction (s : State) (k : FaultKind) (sev : Sev) (src : Nat) : BitVec 5 :=
  (Tbl.get? s.faults.react (kindValue k)).getD (defaultReaction k sev src)

def State.capture (s : State) (src : Nat) : Capture := Tbl.getD s.faults.captures src Capture.reset
def State.setCapture (s : State) (src : Nat) (c : Capture) : State :=
  { s with faults := { s.faults with captures := Tbl.set s.faults.captures src c } }

/-- No capture set is VALID. -/
def State.allClear (s : State) : Bool := s.faults.captures.all fun e => !e.2.valid

/-! ### Logs -/

/-- The record as its 64 bytes (R520). -/
def LogRec.bytes (r : LogRec) : List Byte :=
  leBytes 2 r.event ++ leBytes 1 (b2n r.ntInvalid + 2 * b2n r.persistent + 4 * b2n r.byStandby) ++ [r.boot]
    ++ leBytes 4 r.seq.toNat ++ leBytes 8 r.nt.toNat ++ leBytes 2 r.source ++ [(0 : Byte), 0] ++ fit 44 r.data

/-- The partition takes one more record in the present second (R522). -/
def State.plogTakes (s : State) : Bool := decide (s.plog.winFrom + secTicks ≤ s.clk.now) || decide (s.plog.winCount < 16)

/-- Keep a record in the persistent partition, at most 16 in a second; one beyond that is counted (R522). -/
def State.persist (s : State) (r : LogRec) : State :=
  let fresh := s.plog.winFrom + secTicks ≤ s.clk.now
  let n := if fresh then 0 else s.plog.winCount
  let from_ := if fresh then s.clk.now else s.plog.winFrom
  if n < 16 then
    { s with plog := { s.plog with recs := r :: s.plog.recs, winFrom := from_, winCount := n + 1 } }
  else
    { s with plog := { s.plog with winFrom := from_, winCount := n },
             faults := { s.faults with plogDropped := s.faults.plogDropped + 1 } }

/-- Write one record to the module event log, and to the persistent log when `keep` (R520, R522), with the NT at which its source detected
the event (R56). -/
def State.logRecordAt (s : State) (nt : U64) (ntInvalid : Bool) (event source : Nat) (byStandby keep : Bool) (data : List Byte) : State :=
  let r : LogRec :=
    { event := event, ntInvalid := ntInvalid, persistent := keep && s.plogTakes, byStandby := byStandby,
      boot := BitVec.ofNat 8 s.boot.releases, seq := s.faults.evSeq + 1, nt := nt, source := source,
      data := fit 44 data }
  let old := s.faults.intStatus
  let s := { s with faults := { s.faults with evlog := (r :: s.faults.evlog).take 65536, evSeq := s.faults.evSeq + 1,
                                              intStatus := old ||| 16 } }
  let s := if keep then s.persist r else s
  s.notify old (old ||| 16) s.faults.intEnable

/-- A record of what is detected now. -/
def State.logRecord (s : State) (event source : Nat) (byStandby keep : Bool) (data : List Byte) : State :=
  s.logRecordAt s.clk.nt (!s.time.ntValid) event source byStandby keep data

/-- A module event that is no fault and no power event. It is written while the die runs. -/
def State.event (s : State) (event source : Nat) (data : List Byte) : State :=
  if s.dieRuns then s.logRecord event source false false data else s

/-- A power event of the standby controller: to the persistent log, and to the module event log while the die runs;
in A3 and in reset with the standby controller's own sequence and NT_INVALID set (R479, R522). -/
def State.powerEvent (s : State) (event : Nat) (data : List Byte) : State :=
  if s.dieRuns then s.logRecord event 0x0002 true true data
  else
    let r : LogRec :=
      { event := event, ntInvalid := true, persistent := true, byStandby := true, boot := BitVec.ofNat 8 s.boot.releases,
        seq := s.plog.standbySeq + 1, nt := s.clk.nt, source := 0x0002, data := fit 44 data }
    ({ s with plog := { s.plog with standbySeq := s.plog.standbySeq + 1 } } : State).persist r

/-! ### Fault records -/

/-- The 32 bytes of a fault record (R518). -/
def FaultRec.bytes (r : FaultRec) : List Byte :=
  leBytes 4 r.seq.toNat ++ leBytes 1 (kindValue r.kind)
    ++ leBytes 1 (sevValue r.sev + 4 * b2n r.ntInvalid + 8 * b2n r.injected + 16 * b2n r.persist)
    ++ leBytes 2 r.source ++ leBytes 8 r.nt.toNat ++ leBytes 1 r.reactions.toNat ++ [(0 : Byte)]
    ++ leBytes 2 (match r.context with | some c => c % 4096 + 0x8000 | none => 0)
    ++ leBytes 4 r.infoA.toNat ++ leBytes 8 r.infoB.toNat

/-- A detection to be recorded, with what FAULT_INJECT and FAULT_CLEAR add to it. -/
structure Report where
  d : Detection
  injected : Bool
  full : Bool        -- FULL_REACTION, or no injection
  persist : Bool

/-- The severity bit of AUD.INT_STATUS. -/
def sevBit (v : Sev) : BitVec 5 := BitVec.ofNat 5 (2 ^ sevValue v)

/-- The kinds whose cause can persist (R513). -/
def FaultKind.lasting : FaultKind → Bool
  | .regionSkew | .timeLost | .cablePower | .planeDown | .wireFault | .vaultRng => true
  | _ => false

/-- The same cause: the kind, and for REGION_SKEW the pair, for PLANE_DOWN the plane and output. -/
def Detection.sameCause (a b : Detection) : Bool :=
  a.kind == b.kind && ((a.kind != .regionSkew && a.kind != .planeDown) || a.infoA.toNat % 8 == b.infoA.toNat % 8)

/-- The causes after one more detection of a source. -/
def addCause (l : List (Nat × Detection)) (src : Nat) (d : Detection) : List (Nat × Detection) :=
  if d.kind.lasting then (l.filter fun e => !(e.1 == src && e.2.sameCause d)) ++ [(src, d)] else l

/-- INTERRUPT of a fault is applied: its severity took over, or the severity's bit of AUD.INT_STATUS is clear (R512). -/
def State.interrupts (s : State) (x : Deferred) : Bool :=
  decide (x.mask &&& rInt ≠ 0) && (x.higher || decide (s.faults.intStatus &&& sevBit x.record.sev = 0))

/-- The record with the mask actually applied (R518). -/
def State.stampedRec (s : State) (x : Deferred) : FaultRec :=
  { x.record with reactions := if s.interrupts x then x.mask else x.mask &&& ~~~rInt }

/-- Apply the reaction to a recorded fault (R504, R510, R512): the record to the logs, and the interrupt. Containment (FENCE, ISOLATE,
STOP) is left in `faults.due` and carried out before the command ends. -/
def State.react (s : State) (src : Nat) (x : Deferred) : State :=
  let r := x.record
  let intOn := s.interrupts x
  let s := s.logRecordAt r.nt r.ntInvalid 0x0001 src false (sevValue r.sev ≥ 2) (s.stampedRec x).bytes
  let s := if intOn then
      let st := s.faults.intStatus
      let s : State := { s with faults := { s.faults with intStatus := st ||| sevBit r.sev } }
      if s.faults.scheme = 1 then (if (s.capture src).intEn then s.raiseMgmt else s)
      else s.notify st (st ||| sevBit r.sev) s.faults.intEnable
    else s
  let due : Due := { source := src, context := r.context, fence := x.mask &&& rFence ≠ 0 && r.context.isSome,
                     isolate := x.mask &&& rIsolate ≠ 0 && (portOf src).isSome, stop := x.mask &&& rStop ≠ 0 }
  if due.fence || due.isolate || due.stop then { s with faults := { s.faults with due := s.faults.due ++ [due] } } else s

/-- Capture a fault of a source by R511. -/
def Capture.take (c : Capture) (r : FaultRec) (higher : Bool) : Capture :=
  if c.valid then
    { c with second := true, count := if c.count = BitVec.allOnes 32 then c.count else c.count + 1,
             highestSev := if higher then r.sev else c.highestSev, seq := c.seq + 1 }
  else { c with valid := true, firstSev := r.sev, highestSev := r.sev, record := some r, seq := c.seq + 1 }

/-- Record a fault of a source: capture and escalation by R511, then the reaction by R512, at once or, at an unwatched source under
COLLECTOR, at the auditor's next poll (R509). A record with PERSIST has the kind's LOG and INTERRUPT only (R513). -/
def State.record (s : State) (src : Nat) (r : Report) : State :=
  let c := s.capture src
  let sev := Sev.of r.d.kind r.d.fatal
  let react0 := s.reaction r.d.kind sev src
  let frec : FaultRec :=
    { seq := c.seq, kind := r.d.kind, sev := sev, ntInvalid := !s.time.ntValid, injected := r.injected,
      persist := r.persist, source := src, nt := s.clk.nt, reactions := 0, context := r.d.context, infoA := r.d.infoA, infoB := r.d.infoB }
  let x : Deferred :=
    { record := frec, higher := !c.valid || decide (sevValue c.highestSev < sevValue sev),
      mask := if r.full && !r.persist then react0 else react0 &&& (rLog ||| rInt) }
  let first := s.allClear && s.faults.scheme == 0
  let later := c.unwatched && s.faults.scheme == 0 && r.d.kind != .wireFault
  let c' := c.take (s.stampedRec x) x.higher
  let s := s.setCapture src (if later then { c' with found := c'.found ++ [x] } else c')
  let s : State := { s with faults := { s.faults with causes := addCause s.faults.causes src r.d } }
  let s : State := if first then { s with faults := { s.faults with firstSource := src } } else s
  let s := s.count (0x0C00 + sevValue sev) src qAny 1
  if later then s else s.react src x

/-- The auditor applies the reactions it finds in an unwatched source's capture set (R509). -/
def State.poll (s : State) (src : Nat) : State :=
  let c := s.capture src
  c.found.foldl (fun s x => s.react src x) (s.setCapture src { c with found := [], polledAt := s.clk.now })

/-- A fault that a checker detects. -/
def State.fault (s : State) (src : Nat) (k : FaultKind) (ctx : Option Nat) (infoA infoB : Nat) : State :=
  s.record src { d := { kind := k, fatal := false, context := ctx, infoA := BitVec.ofNat 32 infoA,
                        infoB := BitVec.ofNat 64 infoB }, injected := false, full := true, persist := false }

/-- The operation that led to a detection is one whose check bits the injection inverts: its checker, and the link, pseudo-channel or word
that ARG names (R523). -/
def Injection.hits (i : Injection) (checker : Nat) (d : Detection) : Bool :=
  i.checker == checker &&
    (if checker = 0x80 then i.arg % 8 == d.infoA.toNat % 8 else if checker = 0x81 then i.arg % 128 == d.infoA.toNat % 128
     else if checker < 0x80 then i.arg == d.infoB.toNat else true)

/-- The record with nothing but what R519 gives it. -/
def Detection.plain (d : Detection) (infoA : Nat) : Detection := { d with context := none, infoA := BitVec.ofNat 32 infoA }

/-- Bits of MASK below `n` that are set (R523). -/
def Injection.bitsBelow (i : Injection) (n : Nat) : List Nat := (List.range n).filter fun k => i.mask.getLsbD k

/-- The injection armed at a checker of a source. -/
def State.armedAt (s : State) (src checker : Nat) : Option Injection := (s.capture src).inject.filter fun i => i.checker == checker

/-- One operation of the checker with its check bits inverted has been made (R523). -/
def State.useInjection (s : State) (src : Nat) : State :=
  let c := s.capture src
  s.setCapture src { c with inject := c.inject.bind fun i => if i.left ≤ 1 then none else some { i with left := i.left - 1 } }

/-- A detection by a checker whose check bits FAULT_INJECT may have inverted: an injection armed at it is used up by one operation, and
the record carries INJECTED (R523). -/
def State.faultBy (s : State) (src checker : Nat) (d : Detection) : State :=
  let c := s.capture src
  match c.inject with
  | some i =>
    if i.hits checker d then
      (s.useInjection src).record src { d := d, injected := true, full := i.full, persist := false }
    else s.record src { d := d, injected := false, full := true, persist := false }
  | none => s.record src { d := d, injected := false, full := true, persist := false }

/-- FIRST_SOURCE reads 0xFFFF once every source is clear (DEDUCED from R510, log 15). -/
def State.clearCapture (s : State) (src : Nat) : State :=
  let c := s.capture src
  let s := s.setCapture src { c with valid := false, second := false, count := 0, firstSev := .ce, highestSev := .ce }
  if s.allClear then { s with faults := { s.faults with firstSource := 0xFFFF } } else s

end Sys2Proof.Machine
end

