-- ==== Sys2Proof/Machine/Timing.lean ====
section
/-! DEFINITION. Link coins and class eligibility as plain functions of a port's state, and the passing of time with every
counter of nanoseconds (R23, R113, R148, R334, R454, R525). -/
namespace Sys2Proof.Machine

/-! ### Coins and VCs -/

/-- The link is up (R423). -/
def PortSt.up : PortSt → Bool
  | .active | .doze | .step => true
  | _ => false

/-- ROLE the partner's CAP reports (R438); 0 when none was received. -/
def LinkPort.partnerRole (l : LinkPort) : Nat := bits (field l.cap.partner 15 1) 1 0

/-- The VC a packet is charged to on the link of a port (R453). -/
def LinkPort.vcOf (l : LinkPort) (h : RouteHdr) : Nat :=
  h.vn.toNat * 3 + min 2 (h.level.toNat + b2n (l.partnerRole == 3))

/-- Flits of a packet (R75). -/
def RouteHdr.flits (h : RouteHdr) : Nat := (h.len.toNat + 63) / 64

/-- shared_free of R454. -/
def sharedFree (total : Nat) (res occ : List Nat) : Nat :=
  total - ((List.range 12).map fun v => max (res.getD v 0) (occ.getD v 0)).sum

/-- Coins the port may still spend on VC `v` (R454). -/
def LinkTx.credits (t : LinkTx) (v : Nat) : Nat :=
  (t.partnerRes.getD v 0 - t.occ.getD v 0) + sharedFree t.partnerTotal t.partnerRes t.occ

/-- Coins held in this port's own till per VC, DEPTH: those of whole packets, and of the flits that have come of a packet in progress and are not
dropped (R115, R455). -/
def LinkRx.held (r : LinkRx) (v : Nat) : Nat :=
  ((r.till.filter fun k => k.vc = v).map (·.flits)).sum
    + ((r.part.filterMap fun o => o.bind fun g => if g.vc = v && !g.drop then some (g.total - g.left) else none)).sum

/-! ### Buckets (R148) -/

/-- Tokens at tick `now`, in 1/65,536 byte. -/
def Bucket.tokensAt (b : Bucket) (now : Nat) : Int :=
  min (b.burst * 65536) (b.tokens + ((now - b.at_) * b.rate * 4 / 125 : Nat))

/-- The bucket loses `n` bytes at tick `now`. -/
def Bucket.charge (b : Bucket) (now n : Nat) : Bucket :=
  { b with tokens := b.tokensAt now - n * 65536, at_ := now }

/-- New settings: tokens are kept, clamped to the new burst (R149). -/
def Bucket.config (b : Bucket) (now : Nat) (en : Bool) (rate burst : Nat) : Bucket :=
  { en := en, rate := rate, burst := burst, tokens := min (b.tokensAt now) (burst * 65536), at_ := now }

/-- Flit bandwidth per lane in bits per ns (R425). -/
def laneRate : Nat → Nat
  | 0 => 200 | 1 => 100 | 2 => 50 | _ => 25

/-- Net flit rate of a port in bits per ns; 0 while the link is down. -/
def LinkPort.net (l : LinkPort) : Nat := if l.st.up then l.width * laneRate l.rate else 0

/-- The TC0 shaper's effective rate in Mb/s: at most 25 % of the net flit rate (R138). -/
def tc0Rate (l : LinkPort) (b : Bucket) : Nat := min b.rate (l.net * 250)

/-- RATE_CLAMPED (R138). A port whose link is down has no current rate that could clamp (R162; log 145). -/
def rateClamped (l : LinkPort) (b : Bucket) : Bool := decide (0 < l.net) && decide (l.net * 250 < b.rate)

/-- The TC0 bucket at its effective rate. -/
def tc0Bucket (l : LinkPort) (x : SchedPort) : Bucket :=
  let b := x.shapers.getD 0 (Bucket.full true 160000 4096)
  { b with rate := tc0Rate l b }

/-! ### Waiting conditions -/

/-- Class of a packet. -/
def Packet.tc (k : Packet) : Nat := k.hdr.tc.toNat

/-- Head packets of a port's class queues. -/
def SchedPort.heads (x : SchedPort) : List Packet := x.queues.filterMap List.head?

/-- VC `v` of a port has a packet ready and no coin left (R113). -/
def stalls (l : LinkPort) (x : SchedPort) (v : Nat) : Bool :=
  l.st.up && x.heads.any (fun k => l.vcOf k.hdr == v) && l.tx.credits v == 0

/-- A data flit is ready and the escrow is full (R469). -/
def escrowFull (l : LinkPort) (x : SchedPort) : Bool :=
  l.st.up && l.tx.escrow.length ≥ 6144 && (!x.heads.isEmpty || l.tx.prog.any Option.isSome)

/-- Add nanoseconds to one VC's STALL_NS. -/
def State.addStall (s : State) (p v n : Nat) : State :=
  let r := s.rport p
  let c := Tbl.getD r.vcs v VcCtr.reset
  s.setRport p { r with vcs := Tbl.set r.vcs v { c with stallNs := c.stallNs + BitVec.ofNat 64 n } }

/-- The nanosecond counters of one port over `n` ns. -/
def State.portNs (s : State) (p n : Nat) : State :=
  let l := s.link p
  let x := s.sched p
  let s := (List.range 12).foldl (fun s v => if stalls l x v then (s.addStall p v n).count 0x0204 p (qMask v) n else s) s
  let s := (List.range 8).foldl (fun s c =>
    let s := if x.running && c != 0 && !bit x.openMask c then s.count 0x0402 p (qMask c) n else s
    match (x.queues.getD c []).head?, (if c = 0 then some (tc0Bucket l x) else x.shapers[c]?) with
    | some _, some b => if b.en && decide (b.tokensAt s.clk.now < 0) then s.count 0x0403 p (qMask c) n else s
    | _, _ => s) s
  if escrowFull l x then
    s.modLink p fun l => { l with ctr := { l.ctr with escrowFullNs := l.ctr.escrowFullNs + BitVec.ofNat 64 n } }
  else s

/-- The nanosecond counter of one endpoint over `n` ns: a request waits for a tag (R334). -/
def State.epNs (s : State) (e n : Nat) : State :=
  if !((s.ep e).waiting.any fun w => s.maySend w.1) then s
  else (s.modEp e fun x => { x with tagStallNs := x.tagStallNs + BitVec.ofNat 64 n }).count 0x0A02 e qAny n

/-- The ports with anything to count. -/
def State.livePorts (s : State) : List Nat :=
  (List.range 64).filter fun p => (Tbl.get? s.links p).isSome || (Tbl.get? s.scheds p).isSome

/-- The nanosecond counter of one tile over `n` ns: SUSPENSE_NS (R525). -/
def State.tileNs (s : State) (t n : Nat) : State :=
  if (s.tile t).susp.isEmpty then s else s.count 0x0504 t qAny n

/-- LINK_STALL_NS of an output of a tile over `n` ns: a beat is ready and has no credit (R133, R525). -/
def State.linkStall (s : State) (t i n : Nat) : State :=
  let k := 8 * t + i
  ({ s with net := { s.net with stallNs := Tbl.set s.net.stallNs k (Tbl.getD s.net.stallNs k 0 + BitVec.ofNat 64 n) } } : State).count 0x0301 t
    (qMask i) n

/-- The ASIDs of an agent whose walks are under way. -/
def State.walkAsids (s : State) (a : Nat) : List Nat :=
  s.mem.xfers.filterMap fun x =>
    match x.st, x.space with
    | .walk _ _ _, .host agent _ asid _ _ => if agent = a then some asid else none
    | .accessed _ _ _ _, .host agent _ asid _ _ => if agent = a then some asid else none
    | _, _ => none

/-- The nanosecond counter of one translation agent over `n` ns: WALK_NS (R525). -/
def State.agentNs (s : State) (a n : Nat) : State :=
  let l := s.walkAsids a
  if l.isEmpty then s else s.count 0x0901 a (fun q => q == 0 || l.any fun i => q == i + 1) n

/-- The nanosecond counter of one context over `n` ns: WAIT_LEDGER_NS, by the class of the entry that holds the ring (R525). -/
def State.ctxNs (s : State) (e : Nat × Ctx) (n : Nat) : State :=
  match e.2.chains.find? fun h => h.st == .waiting && h.held with
  | some h => s.count 0x0B02 e.1 (qMask (field h.work 2 1 % 8)) n
  | none => s

/-- Every counter of nanoseconds over the `n` ns that the present state lasts. -/
def State.countNs (s : State) (n : Nat) : State :=
  if n = 0 then s
  else
    let s := s.count 0x0100 0 qAny n
    let s := s.livePorts.foldl (fun s p => s.portNs p n) s
    let s := s.tiles.foldl (fun s e => s.tileNs e.1 n) s
    let s := s.net.stalled.foldl (fun s o => s.linkStall o.1 o.2 n) s
    let s := (List.range 19).foldl (fun s a => s.agentNs a n) s
    let s := s.ctxs.foldl (fun s e => s.ctxNs e n) s
    [0, 1, 2, 3].foldl (fun s e => s.epNs e n) s

/-- The curve timers over `n` µs of a current of `iin` mA: each advances while the current exceeds its point, and else falls at 1/8 of
that pace (R484). -/
def PwrCfg.curveStep (c : PwrCfg) (iin n : Nat) : PwrCfg :=
  { c with timers := List.zipWith (fun pt t => if pt.1 * 100 < iin then t + 8 * n else t - n) c.curve c.timers }

/-- The eFuse's timers over `d` ticks. -/
def State.curveTime (s : State) (d : Nat) : State :=
  let n := (s.clk.now + d) / usTicks - s.clk.now / usTicks
  if n = 0 then s else { s with pwrCfg := s.pwrCfg.curveStep s.sup.iinMa n }

/-- `d` ticks of the clock source pass. NT counts only while the die is out of reset (R23). -/
def State.passTime (s : State) (d : Nat) : State :=
  if d = 0 then s
  else if s.dieRuns then
    let k := s.clk.ntTicks s.time.rateAdj d
    { (s.curveTime k).countNs (nsOver s.clk.now k) with clk := s.clk.advance s.time.rateAdj d }
  else { s.curveTime d with clk := { s.clk with now := s.clk.now + d } }

/-- The event of a timer: `now` has reached tick `due` when it happens (log 1). -/
def State.reach (s : State) (due : Nat) : State :=
  s.passTime (if s.dieRuns then s.clk.untilTicks s.time.rateAdj (due - s.clk.now) else due - s.clk.now)

/-- An event at an NT: NT has reached `t` when it happens (log 1). -/
def State.reachNt (s : State) (t : U64) : State := s.passTime (s.clk.untilNt s.time.rateAdj t)

end Sys2Proof.Machine
end

