-- ==== Sys2Proof/Machine/Gates.lean ====
section
/-! DEFINITION. Time gates: the gate control lists of a port, how long a class stays open, and bringing the gates up to NT (R151 to R157). -/
namespace Sys2Proof.Machine

/-- The entries of one cycle as (start, end, mask) in ns: the last extends to the cycle's end, which cuts any that runs past
it (R152). -/
def GclBank.slots (b : GclBank) : List (Nat × Nat × Nat) :=
  go b.len 0 0
where
  /-- The entries from `i` on, `start` ns into the cycle. -/
  go : Nat → Nat → Nat → List (Nat × Nat × Nat)
    | 0, _, _ => []
    | n + 1, i, start =>
      let e := Tbl.getD b.entries i (0xFF, 1000000)
      if start ≥ b.cycle then []
      else
        let stop := if n = 0 then b.cycle else min b.cycle (start + e.2)
        (start, stop, e.1) :: go n (i + 1) stop

/-- Ticks into the bank's cycle at an NT. -/
def GclBank.posAt (b : GclBank) (nt : Nat) : Nat := (nt - b.base.toNat) % (b.cycle * 256)

/-- Index, end in ns and mask of the slot that holds `pos` ticks. -/
def slotAt (pos : Nat) : List (Nat × Nat × Nat) → Nat → Nat × Nat × Nat
  | [], _ => (0, 0, 0xFF)
  | (_, stop, m) :: t, i => if pos < stop * 256 then (i, stop, m) else slotAt pos t (i + 1)

def SchedPort.bank (x : SchedPort) (b : Nat) : GclBank := x.banks.getD b GclBank.reset

/-- The bank in force from a cycle start of `bank` on: the other one when a switch is due (R154). -/
def SchedPort.bankAt (x : SchedPort) (bank start : Nat) : Nat :=
  if x.pend && bank == x.active && decide (max x.switchAt.toNat x.pendFrom.toNat ≤ start) then 1 - bank else bank

/-- The gate list is in force at an NT (R152). -/
def SchedPort.gated (x : SchedPort) (ntValid : Bool) (nt : Nat) : Bool :=
  x.gateEn && ntValid && decide ((x.bank x.active).base.toNat ≤ nt)

/-- The NT of the bank switch: the first cycle start of the active bank at or after SWITCH_AT that falls while the switch is pending and the
gates run (R154, R542). -/
def SchedPort.switchNt (x : SchedPort) : Nat :=
  let b := x.bank x.active
  let c := b.cycle * 256
  b.base.toNat + ceilDiv (max x.switchAt.toNat x.pendFrom.toNat - b.base.toNat) c * c

/-- Class `c` stays open for `need` ticks from an NT, over entries, cycles and a pending bank switch (R156). The fuel is more entries than the
longest packet and guard can span, and more than sixteen cycles. -/
def SchedPort.staysOpen (x : SchedPort) (c : Nat) : Nat → Nat → Nat → Nat → Bool
  | 0, _, _, _ => true
  | fuel + 1, bank, nt, need =>
    let b := x.bank bank
    if nt < b.base.toNat then
      let gap := b.base.toNat - nt
      if need ≤ gap then true else x.staysOpen c fuel (x.bankAt bank (nt + gap)) (nt + gap) (need - gap)
    else
      let pos := b.posAt nt
      let e := slotAt pos b.slots 0
      if !bit e.2.2 c then false
      else
        let gap := e.2.1 * 256 - pos
        if need ≤ gap then true
        else
          let nt' := nt + gap
          x.staysOpen c fuel (if e.2.1 = b.cycle then x.bankAt bank nt' else bank) nt' (need - gap)

/-- NT once it is loaded; 0 before, where no gate runs. -/
def State.countedNt (s : State) : U64 := if s.time.ntValid then s.clk.nt else 0

/-- The gate of the non-express packet in progress has been closed since the gates were last brought up to date (R157). -/
def State.closedSince (s : State) (p : Nat) : Bool :=
  let x := s.sched p
  match (s.link p).tx.prog.getD 0 none with
  | some g =>
    x.gateEn && s.time.ntValid
      && (let from_ := max x.syncedNt.toNat s.time.loadedNt.toNat
          !x.staysOpen g.pkt.tc 4096 x.active from_ (s.clk.nt.toNat - from_))
  | none => false

/-- Bring the gates of a port up to NT: a due bank switch, and GCL_STATUS (R152 to R154). -/
def State.gateSync (s : State) (p : Nat) : State :=
  let x := { s.sched p with closedOver := (s.sched p).closedOver || s.closedSince p, syncedNt := s.countedNt,
                            pendFrom := BitVec.ofNat 64 (max (s.sched p).pendFrom.toNat s.time.loadedNt.toNat) }
  let nt := s.clk.nt.toNat
  let switch := x.gated s.time.ntValid nt && x.pend && decide (x.switchNt ≤ nt)
  let old := x.intStatus
  let x := if switch then { x with active := 1 - x.active, pend := false, intStatus := old ||| 8 } else x
  let run := x.gated s.time.ntValid nt
  let e := slotAt ((x.bank x.active).posAt nt) (x.bank x.active).slots 0
  let x := if run then { x with running := true, index := e.1, openMask := e.2.2 }
           else { x with running := false, index := 0, openMask := 0xFF }
  (s.setSched p x).notify old x.intStatus x.intEnable

end Sys2Proof.Machine
end

