-- ==== Sys2Proof/Machine/CollMath.lean ====
section
/-! DEFINITION. Element types and the arithmetic of the clearing units (R264 to R274). Finite floating-point values are held as
integers in units of the type's smallest step. -/
namespace Sys2Proof.Machine

/-! ### Types (R264) -/

/-- A floating-point format: mantissa and exponent bits, and the weight 2^(−lsb) of its smallest step (R271). -/
structure Fmt where
  man : Nat
  exp : Nat
  lsb : Nat
deriving DecidableEq, Repr

def fmtE4M3 : Fmt := { man := 3, exp := 4, lsb := 9 }
def fmtE5M2 : Fmt := { man := 2, exp := 5, lsb := 16 }
def fmtBF16 : Fmt := { man := 7, exp := 8, lsb := 133 }
def fmtFP16 : Fmt := { man := 10, exp := 5, lsb := 24 }
def fmtFP32 : Fmt := { man := 23, exp := 8, lsb := 149 }
def fmtFP64 : Fmt := { man := 52, exp := 11, lsb := 1074 }

/-- The format of an FP TYPE; none for an integer TYPE. -/
def fmtOf (type : Nat) : Option Fmt :=
  if type = 8 then some fmtE4M3 else if type = 9 then some fmtE5M2 else if type = 10 then some fmtBF16
  else if type = 11 then some fmtFP16 else if type = 12 then some fmtFP32 else if type = 13 then some fmtFP64 else none

/-- The carrier of an FP TYPE. -/
def carrierFmt (type : Nat) : Fmt := if type = 13 then fmtFP64 else fmtFP32

/-- Bytes of a value of a TYPE. -/
def typeSize (type : Nat) : Nat :=
  if type = 8 ∨ type = 9 then 1 else if type = 10 ∨ type = 11 then 2 else if type = 12 then 4 else if type = 13 then 8
  else 2 ^ (type / 2)

/-- Bytes of a value in the carrier type. -/
def carrierSize (type : Nat) : Nat := if 8 ≤ type ∧ type ≤ 12 then 4 else typeSize type

/-- Integer TYPEs of even value are signed. -/
def typeSigned (type : Nat) : Bool := type % 2 == 0

/-! ### Operations (R265) -/

def copSum : Nat := 0
def copMin : Nat := 1
def copMax : Nat := 2
def copAnd : Nat := 3
def copOr : Nat := 4
def copXor : Nat := 5
def copMinloc : Nat := 6
def copMaxloc : Nat := 7

/-- Elements of the OP carry an index (R268). -/
def isLoc (op : Nat) : Bool := op == copMinloc || op == copMaxloc

/-- MODE EXACT has its own meaning only for an FP SUM (R273). -/
def isExact (op type : Nat) (exact : Bool) : Bool := exact && op == copSum && (fmtOf type).isSome

/-- Bytes of an element in memory, and in an ordinary partial (R258, R268). -/
def elemSize (op type : Nat) : Nat := if isLoc op then (if typeSize type = 8 then 16 else 8) else typeSize type
def partialSize (op type : Nat) : Nat := if isLoc op then (if typeSize type = 8 then 16 else 8) else carrierSize type

/-- Accumulator bytes an element needs (R250, R268, R271). -/
def accNeeded (op type : Nat) (exact : Bool) : Nat :=
  if isExact op type exact then (if type = 13 then 272 else if type = 12 ∨ type = 10 then 40 else 8)
  else if isLoc op && typeSize type == 8 then 16 else 8

/-- Bytes ACC_CLASS reserves (R250). -/
def accBytes (cls : Nat) : Nat := [8, 16, 40, 272].getD cls 8

/-! ### Floating-point values -/

/-- A decoded value: NaN, an infinity, or a sign and a magnitude in steps of the format. -/
inductive FpVal where
  | nan
  | inf (neg : Bool)
  | fin (neg : Bool) (mag : Nat)
deriving DecidableEq, Repr

/-- E4M3 has no infinity, and one NaN. -/
def Fmt.noInf (f : Fmt) : Bool := f.man == 3 && f.exp == 4

/-- Largest finite magnitude as its encoding. -/
def Fmt.maxEnc (f : Fmt) : Nat := if f.noInf then 0x7E else (2 ^ f.exp - 1) * 2 ^ f.man - 1

def Fmt.width (f : Fmt) : Nat := 1 + f.exp + f.man

/-- The canonical NaN (R267). -/
def Fmt.nan (f : Fmt) : Nat :=
  if f.noInf then 0x7F else (2 ^ f.exp - 1) * 2 ^ f.man + 2 ^ (f.man - 1)

/-- The magnitude an encoding's low bits give, in steps. -/
def Fmt.mag (f : Fmt) (enc : Nat) : Nat :=
  let e := enc / 2 ^ f.man
  let m := enc % 2 ^ f.man
  if e = 0 then m else (2 ^ f.man + m) * 2 ^ (e - 1)

def Fmt.decode (f : Fmt) (b : Nat) : FpVal :=
  let neg := b.testBit (f.width - 1)
  let enc := b % 2 ^ (f.width - 1)
  if enc ≤ f.maxEnc then .fin neg (f.mag enc)
  else if !f.noInf && enc == (2 ^ f.exp - 1) * 2 ^ f.man then .inf neg else .nan

/-- |v| / 2^k to the nearest integer, ties to even. -/
def roundEven (v k : Nat) : Nat :=
  let q := v / 2 ^ k
  let r := v % 2 ^ k
  if 2 * r < 2 ^ k then q else if 2 ^ k < 2 * r then q + 1 else q + q % 2

/-- A magnitude in steps of 2^(−lsb), `lsb` at least the format's, rounded to the format as if its exponents had no upper bound: its
encoding, which may lie beyond the largest finite one (R269, R272). -/
def Fmt.roundMag (f : Fmt) (lsb v : Nat) : Nat :=
  let d := lsb - f.lsb
  let len := if v = 0 then 0 else Nat.log2 v + 1
  let sh := max d (len - (f.man + 1))
  (sh - d) * 2 ^ f.man + roundEven v sh

/-- A sign and an encoding as bits. -/
def Fmt.pack (f : Fmt) (neg : Bool) (enc : Nat) : Nat := (if neg then 2 ^ (f.width - 1) else 0) + enc

/-- Infinity, or what stands for it (R269): saturation applies to the FP8 types. -/
def Fmt.overflow (f : Fmt) (neg sat : Bool) : Nat :=
  if sat && f.width == 8 then f.pack neg f.maxEnc
  else if f.noInf then f.nan
  else f.pack neg ((2 ^ f.exp - 1) * 2 ^ f.man)

/-- Encode a value held in steps of 2^(−lsb). -/
def Fmt.encode (f : Fmt) (lsb : Nat) (sat : Bool) : FpVal → Nat
  | .nan => f.nan
  | .inf neg => if f.noInf then f.overflow neg sat else f.overflow neg false
  | .fin neg v =>
    let e := f.roundMag lsb v
    if e ≤ f.maxEnc then f.pack neg e else f.overflow neg sat

/-- The value in steps of a format with the finer step 2^(−lsb). -/
def FpVal.scale (v : FpVal) (from_ lsb : Nat) : FpVal := match v with
  | .fin neg m => .fin neg (m * 2 ^ (lsb - from_))
  | x => x

/-- A TYPE's bits in its carrier, and back (R258, R269). -/
def toCarrier (type bits : Nat) : Nat := match fmtOf type with
  | some f =>
    let c := carrierFmt type
    c.encode c.lsb false ((f.decode bits).scale f.lsb c.lsb)
  | none => bits
def fromCarrier (type : Nat) (sat : Bool) (bits : Nat) : Nat := match fmtOf type with
  | some f =>
    let c := carrierFmt type
    f.encode c.lsb sat (c.decode bits)
  | none => bits

/-- A signed magnitude as an integer. -/
def signedMag (neg : Bool) (m : Nat) : Int := if neg then -(m : Int) else m

/-- One addition in a carrier (R269). -/
def Fmt.add (f : Fmt) (a b : Nat) : Nat :=
  match f.decode a, f.decode b with
  | .nan, _ => f.nan
  | _, .nan => f.nan
  | .inf x, .inf y => if x = y then f.overflow x false else f.nan
  | .inf x, _ => f.overflow x false
  | _, .inf y => f.overflow y false
  | .fin x m, .fin y n =>
    let v := signedMag x m + signedMag y n
    if v = 0 then f.pack (x && y) 0 else f.encode f.lsb false (.fin (decide (v < 0)) v.natAbs)

/-- A key that orders a format's numbers, −0 below +0 (R267). -/
def Fmt.key (f : Fmt) (b : Nat) : Int :=
  let enc := b % 2 ^ (f.width - 1)
  if b.testBit (f.width - 1) then -(enc : Int) - 1 else enc

def Fmt.isNan (f : Fmt) (b : Nat) : Bool := f.decode b == .nan

/-- A key that orders the carrier values of a TYPE. -/
def orderKeyOf (type bits : Nat) : Int :=
  match fmtOf type with
  | some _ => (carrierFmt type).key bits
  | none => if typeSigned type then toSigned (8 * typeSize type) bits else bits

/-- A carrier value is NaN. -/
def carrierNan (type bits : Nat) : Bool := (fmtOf type).isSome && (carrierFmt type).isNan bits

/-- The lower or higher of two values, NaN winning as the canonical one (R267). -/
def extreme (type : Nat) (least : Bool) (a b : Nat) : Nat :=
  if carrierNan type a || carrierNan type b then (carrierFmt type).nan
  else if least then (if orderKeyOf type b < orderKeyOf type a then b else a)
  else (if orderKeyOf type a < orderKeyOf type b then b else a)

/-! ### Exact sums (R271 to R274) -/

/-- 64-bit limbs of an exact accumulator. -/
def limbsOf (type : Nat) : Nat := if type = 13 then 33 else if type = 12 ∨ type = 10 then 5 else 1

/-- V as the accumulator and WRAP hold it: WRAP adds 8 bits for FP64. -/
def exactWrap (type : Nat) (v : Int) : Int := toSigned (64 * limbsOf type + (if type = 13 then 8 else 0)) (ofSigned (64 * limbsOf type + (if type = 13 then 8 else 0)) v)

def specFinite : Nat := 0
def specPinf : Nat := 1
def specNinf : Nat := 2
def specNan : Nat := 3

/-- An input as an exact value. -/
def exactOf (type bits : Nat) : CVal := match fmtOf type with
  | some f => match f.decode bits with
    | .nan => .exact specNan false 0
    | .inf neg => .exact (if neg then specNinf else specPinf) false 0
    | .fin neg m => .exact specFinite (neg && m == 0) (signedMag neg m)
  | none => .exact specFinite false 0

/-- Combining SPECIAL. -/
def specJoin (a b : Nat) : Nat :=
  if a = specNan ∨ b = specNan then specNan
  else if a = specFinite then b
  else if b = specFinite then a
  else if a = b then a else specNan

/-- The result of an exact sum in TYPE (R272). -/
def exactResult (type : Nat) (sat : Bool) (special : Nat) (negz : Bool) (v : Int) : Nat := match fmtOf type with
  | some f =>
    if special = specNan then f.nan
    else if special = specPinf then f.encode f.lsb sat (.inf false)
    else if special = specNinf then f.encode f.lsb sat (.inf true)
    else if v = 0 then f.pack negz 0
    else f.encode f.lsb sat (.fin (decide (v < 0)) v.natAbs)
  | none => 0

/-- Limb `i` of an accumulator. -/
def limb (a : Int) (i : Nat) : Nat := ofSigned 64 (a / (2 ^ (64 * i) : Nat))

/-- The record of an exact partial (R274). -/
def exactRecord (type special : Nat) (negz : Bool) (v : Int) : List Byte :=
  let w := 64 * limbsOf type
  let a : Int := toSigned w (ofSigned w v)
  let wrap := ofSigned 8 ((v - a) / (2 ^ w : Nat))
  let low := if a = 0 then 0 else ((List.range (limbsOf type)).find? fun i => limb a i != 0).getD 0
  let n := if a = 0 then 0
    else ((List.range (limbsOf type)).find? fun k =>
      let hi : Int := toSigned (64 * (low + k + 1)) (ofSigned (64 * (low + k + 1)) a)
      low ≤ low + k && hi == a).getD 0 + 1
  let header := at_ special 62 + at_ (b2n negz) 61 + at_ low 55 + at_ n 49 + at_ wrap 41
  leBytes 8 header ++ ((List.range n).map fun i => leBytes 8 (limb a (low + i))).flatten

/-- Read one record from the front of a payload: its value and its length; none when it is bad (R274). -/
def readRecord (type : Nat) (l : List Byte) : Option (CVal × Nat) :=
  let h := field l 0 8
  let low := bits h 60 55
  let n := bits h 54 49
  if l.length < 8 + 8 * n ∨ low + n > limbsOf type ∨ l.length < 8 then none
  else
    let raw := leNat ((l.drop 8).take (8 * n))
    let a : Int := if n = 0 then 0 else toSigned (64 * n) raw * (2 ^ (64 * low) : Nat)
    let wrap : Int := if type = 13 then toSigned 8 (bits h 48 41) else 0
    some (.exact (bits h 63 62) (bit h 61) (a + wrap * (2 ^ (64 * limbsOf type) : Nat)), 8 + 8 * n)

/-! ### Elements -/

/-- One element of memory, as the clearing unit takes it in. -/
def ownValue (op type : Nat) (exact : Bool) (b : List Byte) : CVal :=
  if isExact op type exact then exactOf type (field b 0 (typeSize type))
  else if isLoc op then
    .loc (toCarrier type (field b 0 (typeSize type))) (field b (if typeSize type = 8 then 8 else 4) 4)
  else .plain (toCarrier type (field b 0 (typeSize type)))

/-- One element of an ordinary partial. -/
def partialValue (op type : Nat) (b : List Byte) : CVal :=
  if isLoc op then .loc (field b 0 (carrierSize type)) (field b (if typeSize type = 8 then 8 else 4) 4)
  else .plain (field b 0 (carrierSize type))

/-- Cut a byte string into pieces of `size`; `n` of them. -/
def pieces (size : Nat) : Nat → List Byte → List (List Byte)
  | 0, _ => []
  | n + 1, l => l.take size :: pieces size n (l.drop size)

/-- Records of a partial. None when one is bad or bytes are left over. -/
def readRecords (type : Nat) : Nat → List Byte → Option (List CVal)
  | _, [] => some []
  | 0, _ :: _ => none
  | n + 1, l => match readRecord type l with
    | none => none
    | some (v, k) => (readRecords type n (l.drop k)).map (v :: ·)

/-- Combine two values (R265 to R268, R271). -/
def combine (op type : Nat) (a b : CVal) : CVal :=
  match a, b with
  | .exact s1 z1 v1, .exact s2 z2 v2 => .exact (specJoin s1 s2) (z1 && z2) (exactWrap type (v1 + v2))
  | .loc x i, .loc y j =>
    let nx := carrierNan type x
    let ny := carrierNan type y
    if nx || ny then
      .loc (carrierFmt type).nan (if nx && ny then min i j else if nx then i else j)
    else
      let kx := orderKeyOf type x
      let ky := orderKeyOf type y
      if kx = ky then .loc x (min i j)
      else if (if op = copMinloc then decide (kx < ky) else decide (ky < kx)) then .loc x i else .loc y j
  | .plain x, .plain y =>
    let w := 2 ^ (8 * typeSize type)
    if op = copSum then .plain (match fmtOf type with | some _ => (carrierFmt type).add x y | none => (x + y) % w)
    else if op = copMin then .plain (extreme type true x y)
    else if op = copMax then .plain (extreme type false x y)
    else if op = copAnd then .plain (x &&& y)
    else if op = copOr then .plain (x ||| y)
    else .plain (x ^^^ y)
  | x, _ => x

/-- A value as an element of a partial, and as an element of the result (R258, R268, R272). -/
def CVal.asPartial (type : Nat) : CVal → List Byte
  | .plain b => leBytes (carrierSize type) b
  | .loc b i => fit (if typeSize type = 8 then 8 else 4) (leBytes (carrierSize type) b) ++ fit (if typeSize type = 8 then 8 else 4) (leBytes 4 i)
  | .exact s z v => exactRecord type s z v
def CVal.asResult (type : Nat) (sat : Bool) : CVal → List Byte
  | .plain b => leBytes (typeSize type) (fromCarrier type sat b)
  | .loc b i => fit (if typeSize type = 8 then 8 else 4) (leBytes (typeSize type) (fromCarrier type sat b))
      ++ fit (if typeSize type = 8 then 8 else 4) (leBytes 4 i)
  | .exact s z v => leBytes (typeSize type) (exactResult type sat s z v)

end Sys2Proof.Machine
end

