-- ==== Sys2Proof/Machine/Floor.lean ====
section
/-! DEFINITION. The floor plan of the fabric die: which tiles the gateways, the clearing units and the other side units are attached to
(R8, R10, R12, R133, R289). -/
namespace Sys2Proof.Machine

/-- Attachment tile of the clearing unit that serves a tile (R8, R9): units 0 to 15. -/
def cuTiles : List Nat := [02, 05, 10, 13, 18, 21, 26, 29, 34, 37, 42, 45, 50, 53, 58, 61]
def cuTile (t : Nat) : Nat := cuTiles.getD (t / 4) 0

/-- The tiles a gateway of HBM is attached to, in ascending order (R8). -/
def hbmTiles (stack : Nat) : List Nat :=
  let b := 48 * (stack / 2) + 6 * (stack % 2)
  [b, b + 1, b + 8, b + 9]

/-- The attachment tile that serves a pseudo-channel: position pc[4:3] of its stack's four (R289). -/
def pcTile (pc : Nat) : Nat := (hbmTiles (pc / 32)).getD (pc / 8 % 4) 0

/-- The lower and the higher tile of a host gateway (R8). -/
def hostTiles (gw : Nat) : List Nat := if gw = 0 then [3, 4] else [59, 60]

/-- The tiles of the bursar cluster, the vault and the timekeeper (R8). -/
def bursarTiles : List Nat := [27, 36]
def vaultTile : Nat := 28
def timeTile : Nat := 35

/-- What is attached to a tile's side: SIDE and SIDE_INDEX of TILE.ID (R8, R133). -/
def sideOf (t : Nat) : Nat × Nat :=
  match (List.range 4).find? fun k => (hbmTiles k).contains t with
  | some k => (1, k)
  | none =>
    match (List.range 2).find? fun k => (hostTiles k).contains t with
    | some k => (2, k)
    | none =>
      if bursarTiles.contains t then (3, 0)
      else if t = vaultTile then (4, 0)
      else if t = timeTile then (5, 0)
      else if cuTiles.contains t then (6, cuTiles.idxOf t)
      else (0, 0)

/-- The power region of a tile: Q0 to Q3 (R12). -/
def regionOf (t : Nat) : Nat := 2 * (t / 32) + t % 8 / 4

/-- TILE.ID of a tile (R133). -/
def tileId (t : Nat) : Nat :=
  t + at_ (t / 8) 6 + at_ (t % 8) 9 + at_ (regionOf t) 12 + at_ (sideOf t).1 14 + at_ (sideOf t).2 18

end Sys2Proof.Machine
end

