-- ==== Sys2Proof/Machine/Packets.lean ====
section
/-! DEFINITION. The route header and a packet as bytes (R74, R75). -/
namespace Sys2Proof.Machine

/-- Word 0 of a route header. -/
def RouteHdr.word0 (h : RouteHdr) : BitVec 64 :=
  h.dst ++ h.src ++ h.via ++ h.cls ++ h.level ++ h.cand ++ h.hops ++ h.rsvd0

/-- Word 1 of a route header. -/
def RouteHdr.word1 (h : RouteHdr) : BitVec 64 :=
  h.stamp ++ h.tc ++ h.vn ++ h.ordered ++ h.cong ++ h.copy ++ h.rsvd1 ++ h.len ++ h.flowHash

/-- The 16 bytes of a route header: each word most significant byte first. -/
def RouteHdr.bytes (h : RouteHdr) : List Byte := beBytes 8 h.word0.toNat ++ beBytes 8 h.word1.toNat

/-- The header two words spell. -/
def RouteHdr.ofWords (w0 w1 : BitVec 64) : RouteHdr :=
  { dst := w0.extractLsb' 44 20, src := w0.extractLsb' 24 20, via := w0.extractLsb' 12 12, cls := w0.extractLsb' 10 2,
    level := w0.extractLsb' 8 2, cand := w0.extractLsb' 5 3, hops := w0.extractLsb' 1 4, rsvd0 := w0.extractLsb' 0 1,
    stamp := w1.extractLsb' 32 32, tc := w1.extractLsb' 29 3, vn := w1.extractLsb' 27 2, ordered := w1.extractLsb' 26 1,
    cong := w1.extractLsb' 25 1, copy := w1.extractLsb' 24 1, rsvd1 := w1.extractLsb' 22 2, len := w1.extractLsb' 8 14,
    flowHash := w1.extractLsb' 0 8 }

/-- The header of 16 bytes; none from fewer. -/
def RouteHdr.decode (l : List Byte) : Option RouteHdr :=
  if l.length < 16 then none
  else some (RouteHdr.ofWords (BitVec.ofNat 64 (beNat (l.take 8))) (BitVec.ofNat 64 (beNat ((l.drop 8).take 8))))

/-- A packet's bytes, LEN of them. -/
def Packet.bytes (k : Packet) : List Byte := fit k.hdr.len.toNat (k.hdr.bytes ++ k.body)

/-- The packet that received bytes spell: LEN says how many of them count. -/
def Packet.decode (l : List Byte) : Option Packet :=
  match RouteHdr.decode l with
  | none => none
  | some h => some { hdr := h, body := (l.drop 16).take (h.len.toNat - 16) }

/-- Flit `i` of a packet: 64 bytes, those beyond LEN zero (R451). -/
def Packet.flit (k : Packet) (i : Nat) : List Byte := fit 64 ((k.bytes.drop (64 * i)).take 64)

/-- Word 2 of a packet: the first word of the transport header (R173). -/
def TransHdr.word2 (t : TransHdr) : BitVec 64 :=
  t.opcode ++ t.first ++ t.last ++ t.ackReq ++ t.prot ++ t.notify ++ t.gen ++ t.dstQpn ++ t.psn

/-- Word 3. -/
def TransHdr.word3 (t : TransHdr) : BitVec 64 := t.srcQpn ++ t.ssn ++ t.retry ++ t.rsvd ++ t.ledger

/-- The 16 bytes of a transport header. -/
def TransHdr.bytes (t : TransHdr) : List Byte := beBytes 8 t.word2.toNat ++ beBytes 8 t.word3.toNat

/-- The transport header two words spell. -/
def TransHdr.ofWords (w2 w3 : BitVec 64) : TransHdr :=
  { opcode := w2.extractLsb' 59 5, first := w2.extractLsb' 58 1, last := w2.extractLsb' 57 1, ackReq := w2.extractLsb' 56 1,
    prot := w2.extractLsb' 55 1, notify := w2.extractLsb' 54 1, gen := w2.extractLsb' 46 8, dstQpn := w2.extractLsb' 24 22,
    psn := w2.extractLsb' 0 24, srcQpn := w3.extractLsb' 42 22, ssn := w3.extractLsb' 26 16, retry := w3.extractLsb' 23 3,
    rsvd := w3.extractLsb' 20 3, ledger := w3.extractLsb' 0 20 }

/-- Word `i` of a packet's body (word 2 is its first), most significant byte first. -/
def Packet.word (k : Packet) (i : Nat) : Nat := beNat (fit 8 ((k.body.drop (8 * (i - 2))).take 8))

/-- The transport header of a packet. -/
def Packet.trans (k : Packet) : TransHdr := TransHdr.ofWords (BitVec.ofNat 64 (k.word 2)) (BitVec.ofNat 64 (k.word 3))

/-- GROUP, POSITION and module ID of an FEID (R59). -/
def feidGroup (f : BitVec 20) : Nat := f.toNat / 256
def feidPos (f : BitVec 20) : Nat := f.toNat / 4 % 64
def feidModule (f : BitVec 20) : Nat := f.toNat / 4
def feidEp (f : BitVec 20) : Nat := f.toNat % 4

/-- An FEID of a module ID and an endpoint. -/
def feidOf (module ep : Nat) : BitVec 20 := BitVec.ofNat 20 (module * 4 + ep)

end Sys2Proof.Machine
end

