-- ==== Sys2Proof/Machine/Timekeeper.lean ====
section
/-! DEFINITION. The timekeeper's shared operations: ERR_BOUND, candidates, the module time status and its events
(R27, R28, R37 to R43). -/
namespace Sys2Proof.Machine

def TStatus.code : TStatus → Nat
  | .lost => 0 | .holdover => 1 | .locked => 2

def LinkTime.code : LinkTime → Nat
  | .lost => 0 | .acquire => 1 | .locked => 2

/-- Own module ID, FEID[19:2] (R28, R59). -/
def State.moduleId (s : State) : Nat := s.route.group % 4096 * 64 + s.route.position % 64

/-- ERR_BOUND in ticks: growth of 1 ns per ms since `errFrom` (R39). -/
def TimeState.bound (t : TimeState) (now : Nat) : Nat :=
  if t.root then 0 else t.errBase + (now - t.errFrom) / 1000000

/-- TIME.ERR_BOUND: all ones while NT_VALID is clear (R58). -/
def State.errBound (s : State) : Nat :=
  if s.time.ntValid then min (s.time.bound s.clk.now) 0xFFFFFFFF else 0xFFFFFFFF

/-- Depth (R27): 0 at the root, the parent's plus 1 under a parent that has one, else 15. -/
def State.depth (s : State) : Nat :=
  if s.time.root then 0
  else match s.time.parent with
    | none => 15
    | some p => let d := (s.tport p).partnerDepth
                if d ≥ 14 then 15 else d + 1

/-- Reference root ID (R28): the parent's; with no parent the last ACCEPT_ROOT, else the root ID of the last parent. -/
def TimeState.reference (t : TimeState) : Option Nat :=
  match t.parent, t.accept with
  | none, some r => some r
  | _, _ => t.refRoot

/-- Root ID carried in time marks: its own at the root, the reference at a member (R28, R43). -/
def State.rootId (s : State) : Nat :=
  if s.time.root then s.moduleId else s.time.reference.getD 0

/-- PARENT_CAND lists the port. -/
def State.listed (s : State) (p : Nat) : Bool := s.time.cands.any (· == p)

/-- The partner's root ID is acceptable (R28); a member with no reference takes its first. -/
def State.rootOk (s : State) (p : Nat) : Bool :=
  match s.time.reference with
  | some r => (s.tport p).partnerRoot == r
  | none => true

/-- Eligible candidate (R38). -/
def State.eligible (s : State) (p : Nat) : Bool :=
  let t := s.tport p
  t.link == .locked && t.partner != .lost && t.partnerDepth != 15 && decide (t.partnerDepth + 1 ≤ s.time.maxDepth)
    && s.rootOk p && s.listed p

/-- PARENT_CAND's ports in rank order. -/
def State.ranked (s : State) : List Nat := s.time.cands.filter (· < 64)

/-- An eligible candidate whose θ was measured while its NT was loaded (DEDUCED from R38 and R40, log 26). -/
def State.takeable (s : State) (p : Nat) : Bool := s.eligible p && (s.tport p).fresh

/-- The candidate to take: at the first lock the highest ranked (R40), later the first that reports LOCKED, else the first (R41). -/
def State.bestCand (s : State) : Option Nat :=
  match s.time.ntValid, s.ranked.find? fun p => s.takeable p && (s.tport p).partner == .locked with
  | true, some p => some p
  | _, _ => s.ranked.find? s.takeable

/-- Data of a time event (R521). -/
def timeData (old new : TStatus) (oldP newP : Option Nat) (err : Nat) : List Byte :=
  leBytes 1 old.code ++ leBytes 1 new.code ++ leBytes 1 (oldP.getD 0xFF) ++ leBytes 1 (newP.getD 0xFF) ++ leBytes 4 err

/-- Emit a time event and set its interrupt bit (R42, R58). -/
def State.timeEvent (s : State) (event : Nat) (bit_ : Nat) (data : List Byte) : State :=
  let s := s.event event 0xFFFF data
  let old := s.time.intStatus
  let new := old ||| BitVec.ofNat 6 (2 ^ bit_)
  ({ s with time := { s.time with intStatus := new } } : State).notify old new s.time.intEnable

/-- REF_LOCK clears, with its event (R30, R42). -/
def State.refLost (s : State) : State :=
  if s.time.refLock then
    let s := { s with time := { s.time with refLock := false } }
    s.timeEvent 0x0013 4 (timeData s.time.status s.time.status s.time.parent s.time.parent s.errBound)
  else s

/-- REF_LOCK sets. R42 gives every change of REF_LOCK the record TIME_REF_LOST; the interrupt bit REF_LOST is not set (log 13). -/
def State.refGained (s : State) : State :=
  if s.time.refLock then s
  else
    let s := { s with time := { s.time with refLock := true } }
    s.event 0x0013 0xFFFF (timeData s.time.status s.time.status s.time.parent s.time.parent s.errBound)

/-- Change the module time status; entry to LOST from another status reports TIME_LOST (R42). -/
def State.setStatus (s : State) (new : TStatus) : State :=
  let old := s.time.status
  if old = new then s
  else
    let p := s.time.parent
    let held := old == .lost && !(s.time.lostRun && s.time.ntValid)
    let s := { s with time := { s.time with status := new, heldEnd := if held then some s.clk.nt else s.time.heldEnd } }
    let s := s.timeEvent 0x0010 0 (timeData old new p p s.errBound)
    if new = .lost then
      s.fault 0x0001 .timeLost none (old.code + at_ ((p.orElse fun _ => s.time.lastParent).getD 0xFF) 8) 0
    else s

/-- Follow port `p`: its report and the bound it carries, A_residual included (R39). -/
def State.follow (s : State) (p : Nat) : State :=
  let t := s.tport p
  let optical := (s.conn (p / 4)).ctype == 2
  let residual := if optical && t.asym == 0 then 256 else 0
  { s with time := { s.time with errBase := t.partnerErr.toNat + 128 + residual, refRoot := some t.partnerRoot } }

/-- Take port `p` as parent: its offset is what remains to be slewed (R40). -/
def State.takeParent (s : State) (p : Nat) : State :=
  let old := s.time.parent
  let t := s.tport p
  let s := { s with time := { s.time with parent := some p, lastParent := some p, theta := t.theta, parentBad := s.clk.now,
                                          errFrom := t.sampleAt } }
  let s := s.follow p
  s.timeEvent 0x0012 2 (timeData s.time.status s.time.status old (some p) s.errBound)

/-- |θ| is within HOLD_LIMIT. -/
def State.withinHold (s : State) : Bool := decide (s.time.theta.natAbs ≤ s.time.holdLimit * 256)

/-- Status taken from a parent that is not LOST. -/
def asParent (p : TStatus) : TStatus := if p = .locked then .locked else .holdover

/-- Load NT by `delta` ticks, once after reset (R23): MARKs in flight keep their elapsed time, and an offset measured before serves no more
(log 26). -/
def State.loadNt (s : State) (nt : U64) : State :=
  let delta := nt - s.clk.nt
  { s with clk := { s.clk with nt := nt, frac := 0 },
           time := { s.time with ntValid := true, loadedNt := nt,
                                 ports := Tbl.map (fun _ t => { t with fresh := false, out := t.out.map fun o => { o with t1now := o.t1now + delta } })
                                            s.time.ports } }

/-- One application of the rows of R40 to a member, from what it knows now. -/
def State.timeStep (s : State) : State :=
  if s.time.root then s
  else match s.time.parent with
    | none =>
      match s.bestCand with
      | none => s
      | some p =>
        let t := s.tport p
        if !s.time.ntValid then
          let s := s.loadNt (s.clk.nt - BitVec.ofInt 64 t.theta)
          let s := s.takeParent p
          let s := { s with time := { s.time with theta := 0, integ := 0, rateAdj := 0 } }
          s.setStatus (asParent t.partner)
        else
          let s := s.takeParent p
          if s.withinHold then s.setStatus (asParent t.partner)
          else s.setStatus .lost
    | some p =>
      let t := s.tport p
      match s.time.status, t.partner with
      | .locked, .locked => s
      | .locked, q => s.setStatus q
      | .holdover, .locked => s.setStatus .locked
      | .holdover, _ => s
      | .lost, .lost => s
      | .lost, q => if s.withinHold then s.setStatus (asParent q) else s

/-- The module loses its parent: HOLDOVER on its own oscillator, then reselection (R40, R41). -/
def State.loseParent (s : State) : State :=
  match s.time.parent with
  | none => s
  | some p =>
    let s := { s with time := { s.time with parent := none, lastParent := some p, rateAdj := 0 } }
    let s := s.timeEvent 0x0011 1 (timeData s.time.status (if s.time.status = .lost then .lost else .holdover) (some p) none
      s.errBound)
    let s := if s.time.status = .locked then s.setStatus .holdover else s
    s.timeStep

/-- The link time status of a port becomes LOST (R37); a parent is lost with it (R41). -/
def State.linkTimeLost (s : State) (p : Nat) : State :=
  let t := s.tport p
  let s := s.setTport p { t with link := .lost, run := [], fresh := false, out := none, markWait := false }
  if s.time.parent = some p then s.loseParent else s

/-- A failed sample (R35, R37). -/
def State.failSample (s : State) (p : Nat) : State :=
  let t := s.tport p
  let run := min 16 (t.failRun + 1)
  let s := s.setTport p { t with failRun := run, run := if t.link = .acquire then [] else t.run, out := none,
                                 markWait := false }
  let s := s.count 0x0102 p qAny 1
  if run ≥ 16 ∧ t.link ≠ .lost then s.linkTimeLost p else s

/-- A candidate refused for its root ID (R28): ROOT_MISMATCH, and one event per port per second. -/
def State.refuseRoot (s : State) (p : Nat) : State :=
  let t := s.tport p
  let s := s.setTport p { t with mismatch := true }
  let due := match t.conflictAt with
    | none => true
    | some at0 => decide (at0 + secTicks ≤ s.clk.now)
  if due then
    let t := s.tport p
    let s := s.setTport p { t with conflictAt := some s.clk.now }
    let st := s.time.status
    s.timeEvent 0x0014 3 (timeData st st s.time.parent s.time.parent s.errBound ++ leBytes 1 p ++ [0, 0, 0]
      ++ leBytes 4 (t.partnerRoot % 262144))
  else s

/-- What a time mark of the partner reports (R33): kept for the port, and acted on by R28 and R40. -/
def State.hearMark (s : State) (p : Nat) (st : TStatus) (depth : Nat) (err : U32) (root : Nat) : State :=
  let t := s.tport p
  let s := s.setTport p { t with partner := st, partnerDepth := depth, partnerErr := err, partnerRoot := root }
  if s.time.root then s
  else if s.time.parent = some p then
    let newRoot := decide (s.time.refRoot ≠ some root)
    let bad := if st = .locked then s.clk.now else s.time.parentBad
    let s := { s with time := { s.time with parentBad := bad } }
    let s := s.follow p
    let s := if newRoot then
        s.timeEvent 0x0010 0 (timeData s.time.status s.time.status (some p) (some p) s.errBound)
      else s
    s.timeStep
  else
    let s := if s.listed p && !s.rootOk p then s.refuseRoot p else s
    s.timeStep

end Sys2Proof.Machine
end

