-- ==== Sys2Proof/Machine/Routing.lean ====
section
/-! DEFINITION. Port choice and path choice (R70 to R112, R553, R554), the egress queues' admission (R128, R129, R134,
R139), the torus (R125 to R132), and injection, ejection and dropping of packets. -/
namespace Sys2Proof.Machine

/-! ### Usable ports -/

/-- ID_VALID of the partner's CAP (R438). -/
def LinkPort.partnerId (l : LinkPort) : Bool := bit (field l.cap.partner 2 1) 1

/-- PARTNER_GROUP and position from the capability exchange (R117). -/
def LinkPort.partnerGroup (l : LinkPort) : Nat :=
  if l.cap.partner.isEmpty then 0xFFF else beNat ((l.cap.partner.drop 16).take 2) % 4096
def LinkPort.partnerPos (l : LinkPort) : Nat := field l.cap.partner 18 1 % 64

/-- Usable for routing (R73). -/
def State.usable (s : State) (p : Nat) : Bool :=
  let r := s.rport p
  let l := s.link p
  l.st.up && r.role.role != 0 && r.role.en && !r.mismatch && s.route.valid && l.partnerId

/-- Position a local port leads to (R70): ROW ports keep the row, COL ports the column. -/
def leadsTo (own : Nat) (r : Role) : Nat := if r.role = 1 then own / 8 * 8 + r.index else r.index * 8 + own % 8

/-- The first dimension's ROLE at a level: ROW at an even level, COL at an odd one (R78). -/
def dim1 (level : Nat) : Nat := if level % 2 = 0 then 1 else 2
def dim2 (level : Nat) : Nat := if level % 2 = 0 then 2 else 1

/-- The D2 line through position `q` contains position `z`. -/
def onD2 (level q z : Nat) : Bool := if dim2 level = 2 then q % 8 == z % 8 else q / 8 == z / 8

/-- Local hops R80 permits next: (D1, D2). -/
structure Permit where
  d1 : Bool
  d2 : Bool
deriving DecidableEq, Repr

def Permit.all : Permit := { d1 := true, d2 := true }

/-- What R80 permits after arrival over a port of role `role`; `turned` at a DETOUR turn. -/
def permit (role level : Nat) (asInjected turned : Bool) : Permit :=
  if asInjected || turned || role = 3 then Permit.all
  else if role = dim1 level then { d1 := false, d2 := true }
  else { d1 := false, d2 := false }

/-- Where a packet goes next. -/
inductive Next where
  | eject
  | ports (l : List Nat)
deriving DecidableEq, Repr

/-- DETOUR before its turn (R79). -/
def RouteHdr.beforeTurn (h : RouteHdr) : Bool := h.cls == 3 && h.level.toNat == b2n (h.via.getLsbD 10)

/-- The permitted usable ports of a packet (R94 to R96). -/
def State.nextPorts (s : State) (h : RouteHdr) (pm : Permit) : Next :=
  let own := s.route.position
  let lvl := h.level.toNat
  let tgt := if h.cls = 2 ∧ lvl = 0 then h.via.toNat else feidGroup h.dst
  let usable := (List.range 64).filter s.usable
  let local_ (d : Nat) (p : Nat) : Bool := (s.rport p).role.role == d
  if tgt = s.route.group then
    let q := if h.beforeTurn then h.via.toNat % 64 else feidPos h.dst
    if q = own then .eject
    else
      let rowD := decide (q % 8 ≠ own % 8)     -- the row ring must still be travelled: the columns differ
      let colD := decide (q / 8 ≠ own / 8)
      let d1need := if dim1 lvl = 1 then rowD else colD
      let step (d : Nat) : List Nat :=
        usable.filter fun p => local_ d p && (s.rport p).role.index == (if d = 1 then q % 8 else q / 8)
      if d1need then (if pm.d1 then .ports (step (dim1 lvl)) else .ports [])
      else if pm.d2 then .ports (step (dim2 lvl)) else .ports []
  else
    let pin := h.cls = 1 ∧ h.via.getLsbD 11 = true
    let pinPos := h.via.toNat % 64
    let direct := usable.filter fun p => local_ 3 p && (s.rport p).role.group == tgt
    if ¬ direct.isEmpty ∧ (¬ pin ∨ pinPos = own) then .ports direct
    else
      let inSet (z : Nat) : Bool := if pin then z == pinPos else bit (Tbl.getD s.route.exits tgt 0) z
      .ports (usable.filter fun p =>
        let q := leadsTo own (s.rport p).role
        (local_ (dim1 lvl) p && pm.d1 && (inSet q || (List.range 64).any fun z => inSet z && onD2 lvl q z))
          || (local_ (dim2 lvl) p && pm.d2 && inSet q))

/-! ### Egress queues -/

/-- Beats of 128 bytes of a packet (R119). -/
def RouteHdr.beats (h : RouteHdr) : Nat := max 1 ((h.len.toNat + 127) / 128)

/-- The packets on the torus that hold a reservation at a port (R128). -/
def State.reserved (s : State) (p : Nat) : List Packet :=
  s.net.loads.filterMap fun l => match l.cargo with
    | .port q k => if q = p then some k else none
    | _ => none

/-- Egress depth of VC `v` at a port: its flits held or reserved in the egress buffer (R97). -/
def State.depthOf (s : State) (p v : Nat) : Nat :=
  let l := s.link p
  let q := (((s.sched p).queues.flatten ++ s.reserved p).filter fun k => l.vcOf k.hdr == v).map (·.hdr.flits)
  let g := l.tx.prog.filterMap fun o => o.bind fun g => if g.vc = v then some (g.pkt.hdr.flits - g.next) else none
  q.sum + g.sum

/-- The port a packet takes from a non-empty set (R97). -/
def State.choosePort (s : State) (h : RouteHdr) (set : List Nat) : Option Nat :=
  if h.tc = 0 ∨ h.ordered = 1 then set[h.flowHash.toNat % set.length]?
  else
    let cost (p : Nat) : Nat :=
      let v := (s.link p).vcOf h
      s.depthOf p v + (if (s.link p).tx.credits v = 0 then 6144 else 0)
    let best := (set.map cost).min?.getD 0
    let ties := set.filter fun p => cost p == best
    ties[h.flowHash.toNat % ties.length]?

/-- Bytes of LEN in a port's TC0 queue (R139). -/
def SchedPort.tc0Bytes (x : SchedPort) : Nat := ((x.queues.getD 0 []).map (·.hdr.len.toNat)).sum

/-- Beats of packets of VC `v` of TC1 to TC7 that a port's egress buffer holds or has reserved: they are released as they leave on the
link, two flits to a beat (R128). -/
def State.beatsOf (s : State) (p v : Nat) : Nat :=
  let l := s.link p
  let whole := (((s.sched p).queues.tail.flatten ++ (s.reserved p).filter fun k => k.tc != 0).filter fun k => l.vcOf k.hdr == v).map (·.hdr.beats)
  let part := match l.tx.prog.getD 0 none with
    | some g => if g.vc = v then g.pkt.hdr.beats - g.next / 2 else 0
    | none => 0
  whole.sum + part

/-- Beats of the packets of TC1 to TC7 in a port's egress buffer, each VC counted at least at its reservation of one packet of 65 beats, with
`more` beats more of VC `v` (R129). -/
def State.egressUse (s : State) (p v more : Nat) : Nat :=
  ((List.range 12).map fun u => max 65 (s.beatsOf p u + (if u = v then more else 0))).sum

/-- The packets of TC0 that a port holds or has reserved space for: LEN, and beats not yet sent (R139). -/
def State.tc0Held (s : State) (p : Nat) : List (Nat × Nat) :=
  let whole := (((s.sched p).queues.getD 0 []) ++ (s.reserved p).filter fun k => k.tc == 0).map fun k => (k.hdr.len.toNat, k.hdr.beats)
  match (s.link p).tx.prog.getD 1 none with
  | some g => (g.pkt.hdr.len.toNat - 64 * g.next, g.pkt.hdr.beats - g.next / 2) :: whole
  | none => whole

/-- Beats of the TC0 space of a port: QLIMIT, or what its packets take beyond that (R139). -/
def State.tc0Space (s : State) (p more : Nat) : Nat :=
  max (ceilDiv (s.sched p).qlimit 128) (((s.tc0Held p).map (·.2)).sum + more)

/-- The egress buffer has room for a packet of TC1 to TC7: 2,048 beats (R128, R129, R139). -/
def State.egressRoom (s : State) (p : Nat) (h : RouteHdr) : Bool :=
  decide (s.egressUse p ((s.link p).vcOf h) h.beats + s.tc0Space p 0 ≤ 2048)

/-- A TC0 packet may go onto the torus toward a port: it fits within QLIMIT, or, longer than that, finds the TC0 queue empty, no reservation,
and unreserved space for its further beats (R139). -/
def State.tc0Room (s : State) (p : Nat) (h : RouteHdr) : Bool :=
  let x := s.sched p
  if h.len.toNat ≤ x.qlimit then decide (((s.tc0Held p).map (·.1)).sum + h.len.toNat ≤ x.qlimit)
  else (s.tc0Held p).isEmpty && decide (s.egressUse p 12 0 + s.tc0Space p h.beats ≤ 2048)

/-- A packet may go onto the torus toward a port (R128, R139). -/
def State.roomFor (s : State) (p : Nat) (h : RouteHdr) : Bool := if h.tc = 0 then s.tc0Room p h else s.egressRoom p h

/-- Clear BOUND_OK of a port and set BOUND_LOST when it falls (R161). -/
def State.boundFalls (s : State) (p : Nat) : State :=
  let x := s.sched p
  if x.boundOk then
    let s := s.setSched p { x with boundOk := false, intStatus := x.intStatus ||| 4 }
    s.notify x.intStatus (x.intStatus ||| 4) x.intEnable
  else s

/-- A TC0 packet is blocked at a port (R139, R144): counted, and BOUND_OK falls for 1 ms (R161). -/
def State.tc0Blocked (s : State) (p : Nat) : State :=
  let x := s.sched p
  let s := s.setSched p { x with block := x.block + 1, intStatus := x.intStatus ||| 2, boundBadAt := some s.clk.now }
  let s := s.count 0x0404 p (qMask 0) 1
  let s := s.notify x.intStatus (x.intStatus ||| 2) x.intEnable
  s.boundFalls p

/-- Append a packet to its class queue at a port (R134); a TC0 packet longer than 256 bytes is counted (R141). -/
def State.enqueue (s : State) (p : Nat) (k : Packet) : State :=
  let x := s.sched p
  let c := k.tc
  let x := { x with queues := put x.queues c (x.queues.getD c [] ++ [k]) }
  let x := if c = 0 then { x with qdepthMax := max x.qdepthMax x.tc0Bytes } else x
  let s := s.setSched p x
  if c = 0 ∧ k.hdr.len.toNat > 256 then
    let s := s.setSched p { x with long := x.long + 1, boundBadAt := some s.clk.now }
    s.boundFalls p
  else s

/-! ### The torus -/

/-- A plane, or the other one when it is out of service (R130, R132). -/
def State.inService (s : State) (plane : Nat) : Nat := if s.planes.getD plane true then plane else 1 - plane

/-- The plane a fabric packet takes (R130). -/
def State.plane (s : State) (h : RouteHdr) : Nat := s.inService (if h.tc = 0 then h.copy.toNat else h.flowHash.toNat % 2)

/-- A packet goes onto the torus (R128). -/
def State.send (s : State) (plane vn src dst beats : Nat) (c : Cargo) : State := { s with net := s.net.add plane vn src dst beats c }

/-- A fabric packet goes onto the torus from tile `src`, in its header VN (R124). -/
def State.torus (s : State) (h : RouteHdr) (src dst : Nat) (c : Cargo) : State := s.send (s.plane h) h.vn.toNat src dst h.beats c

/-! ### Ejection and drops -/

/-- The tile a packet for this module is ejected to: the home tile of the receiving QP (R11); a CTL packet, which no
QP receives, is taken at the tile it reached. -/
def ejectTile (k : Packet) (at0 : Nat) : Nat := if k.hdr.vn = 2 then at0 else k.trans.dstQpn.toNat % 64

/-- OPCODE is one R174 lists. -/
def knownOpcode (op : Nat) : Bool := op ≤ 3 || op == 0x08 || op == 0x09 || op == 0x0C || op == 0x0D

/-- A packet for this module goes from tile `src` to its home tile (R11, R112). -/
def State.eject (s : State) (k : Packet) (src : Nat) : State := s.torus k.hdr src (ejectTile k src) (.tile k)

/-- A packet reaches its tile's network interface: TC0 requests go to the EXP ejection queue (R112, R144). -/
def State.arriveAt (s : State) (t : Nat) (k : Packet) : State :=
  if k.hdr.vn ≠ 2 ∧ knownOpcode k.trans.opcode.toNat = false then s.tpCount t 14
  else s.modTile t fun x => if k.hdr.vn = 3 then { x with expQ := x.expQ ++ [k] } else { x with inQ := x.inQ ++ [k] }

/-- Count a drop at a port, for its VC (R113). -/
def State.countDrop (s : State) (p vc : Nat) : State :=
  let r := s.rport p
  let c := Tbl.getD r.vcs vc VcCtr.reset
  (s.setRport p { r with vcs := Tbl.set r.vcs vc { c with drop := c.drop + 1 } }).count 0x0202 p (qMask vc) 1

/-- Count a drop at a port, for its VC and its reason (R113, R114). -/
def State.drop (s : State) (p vc reason : Nat) : State :=
  let r := s.rport p
  (s.setRport p { r with drops := put r.drops reason (r.drops.getD reason 0 + 1) }).countDrop p vc

/-! ### Path choice at the source -/

/-- What a packet's path is chosen from. -/
structure PathReq where
  tile : Nat
  dst : BitVec 20
  src : BitVec 20
  tc : Nat
  pset : Nat
  policy : Nat       -- 1 MINIMAL, 2 ADAPTIVE, 3 NONMIN_FORCED
  qp : Nat
  psn : Nat
deriving DecidableEq, Repr

/-- A chosen path: the header fields it sets. -/
structure Path where
  cls : Nat
  level : Nat
  via : Nat
  cand : Nat
  flowHash : Nat
deriving DecidableEq, Repr

/-- A candidate valid by R86: VALID set, CLASS MIN or NMIN, and WEIGHT not zero (R101 says it so). -/
def Cand.ok (c : Cand) : Bool := c.valid && (c.cls == 1 || c.cls == 2) && c.weight != 0

/-- Class mask (`fb` = false) and fallback mask of a policy (R89). -/
def policyMask (policy : Nat) (fb : Bool) (c : Cand) : Bool :=
  match policy with
  | 1 => if fb then c.cls == 2 else c.cls == 1
  | 3 => if fb then c.cls == 1 else c.cls == 2
  | _ => !fb

def State.groupRoute (s : State) (g : Nat) : GroupRoute := Tbl.getD s.route.groups g GroupRoute.reset

/-- The candidate mask of R88 as indexes. -/
def State.candMask (s : State) (g pset policy : Nat) : List Nat :=
  let e := s.groupRoute g
  let base := (List.range 8).filter fun i => (e.cands.getD i Cand.none).ok && bit (s.route.pset.getD pset 0xFF) i
  let m := base.filter fun i => policyMask policy false (e.cands.getD i Cand.none)
  if m.isEmpty then base.filter fun i => policyMask policy true (e.cands.getD i Cand.none) else m

/-- Index of the weight that `x` falls under: prefix(w,i) ≤ x < prefix(w,i+1) (R88). -/
def pickWeight : List Nat → Nat → Nat → Nat
  | [], i, _ => i
  | w :: t, i, x => if x < w then i else pickWeight t (i + 1) (x - w)

/-- The via field of a candidate (R74, R86). -/
def Cand.viaField (c : Cand) : Nat := if c.cls = 2 then c.via else if c.exitPin then at_ 1 11 + c.exitPos else 0

/-- Path by candidate `i`. -/
def State.candPath (s : State) (g i flow : Nat) : Path :=
  let c := (s.groupRoute g).cands.getD i Cand.none
  { cls := c.cls, level := 0, via := c.viaField, cand := i, flowHash := flow }

/-- Salted hash of a tile (R88, R111). -/
def State.salted (s : State) (r : PathReq) : Nat := Config.hash32 [(s.tile r.tile).salt.toNat, r.qp, r.psn]

/-- A header holding only what port choice reads. -/
def probeHdr (r : PathReq) (p : Path) : RouteHdr :=
  { dst := r.dst, src := r.src, via := BitVec.ofNat 12 p.via, cls := BitVec.ofNat 2 p.cls, level := BitVec.ofNat 2 p.level,
    cand := BitVec.ofNat 3 p.cand, hops := 0, rsvd0 := 0, stamp := 0, tc := BitVec.ofNat 3 r.tc, vn := 0, ordered := 0,
    cong := 0, copy := 0, rsvd1 := 0, len := 0, flowHash := BitVec.ofNat 8 p.flowHash }

/-- A path has a usable first-hop port. -/
def State.firstHop (s : State) (r : PathReq) (p : Path) : Bool :=
  match s.nextPorts (probeHdr r p) Permit.all with
  | .eject => true
  | .ports l => !l.isEmpty

/-- LOCAL at a level, and DETOUR from level `l` with a turn position (R74, R77). They follow no candidate; their CAND is 0 (DESIGN CHOICE,
log 151). -/
def localPath (level flow : Nat) : Path := { cls := 0, level := level, via := 0, cand := 0, flowHash := flow }
def detourPath (l turn flow : Nat) : Path :=
  { cls := 3, level := l, via := at_ 1 11 + at_ l 10 + turn, cand := 0, flowHash := flow }

/-- The turn positions: the 62 that are neither source nor destination. -/
def turns (src dst : Nat) : List Nat := (List.range 64).filter fun q => q ≠ src ∧ q ≠ dst

/-- Path inside the module's own group (R91), with `h` the hash its choices are drawn from; a packet for the module itself needs no port
(R77). -/
def State.localChoice (s : State) (r : PathReq) (h flow : Nat) : Option Path :=
  let own := s.route.position
  let q := feidPos r.dst
  let both := decide (own / 8 ≠ q / 8 ∧ own % 8 ≠ q % 8)
  let lvl := if both then h % 2 else 0
  let a := localPath lvl flow
  let b := localPath (1 - lvl) flow
  let viaLocal : Option Path :=
    if r.policy = 3 then none
    else if s.firstHop r a then some a
    else if both && s.firstHop r b then some b
    else none
  if q = own then some (localPath 0 flow)
  else
  match viaLocal with
  | some p => some p
  | none =>
    let ts := turns own q
    match ts[h / 4 % ts.length]? with
    | none => none
    | some t =>
      let l := h / 2 % 2
      let d := detourPath l t flow
      let d' := detourPath (1 - l) t flow
      if s.firstHop r d then some d else if s.firstHop r d' then some d' else none

/-- Path of a packet of TC1 to TC7 on a SPRAYED channel (R88, R91). -/
def State.sprayPath (s : State) (r : PathReq) : Option Path :=
  let h := s.salted r
  let flow := Config.hash32 [(s.tile r.tile).salt.toNat, r.qp, r.psn, 1] % 256
  let g := feidGroup r.dst
  if g = s.route.group then s.localChoice r h flow
  else
    let e := s.groupRoute g
    let mask := s.candMask g r.pset r.policy
    let score (i : Nat) : Nat := Tbl.getD (s.tile r.tile).cong (8 * g + i) 0
    let weight (i : Nat) : Nat := (e.cands.getD i Cand.none).weight
    let w := (List.range 8).map fun i => if mask.contains i && score i < 8 then weight i >>> score i else 0
    let w := if w.sum = 0 then (List.range 8).map fun i => if mask.contains i then weight i else 0 else w
    if w.sum = 0 then none else some (s.candPath g (pickWeight w 0 (h % w.sum)) flow)

/-- Path of an ORDERED channel (R98): the hash is keyed and constant for the channel. -/
def State.orderedPath (s : State) (r : PathReq) : Option Path :=
  let k := Config.orderHash s.route.orderKey.toNat [r.src.toNat, r.dst.toNat, r.qp, r.tc]
  let flow := k % 256
  let g := feidGroup r.dst
  if g = s.route.group then s.localChoice r k flow
  else
    let mask := s.candMask g r.pset r.policy
    match mask[flow % mask.length]? with
    | none => none
    | some i => some (s.candPath g i flow)

/-- Path of copy `copy` of a TC0 request (R101), and whether TC0_PAIR_MISSING counts. FLOW_HASH is the keyed hash of R98 on every TC0 channel,
ORDERED or not (DESIGN CHOICE, log 152). -/
def State.tc0Path (s : State) (r : PathReq) (copy : Nat) : Option Path × Bool :=
  let flow := Config.orderHash s.route.orderKey.toNat [r.src.toNat, r.dst.toNat, r.qp, r.tc] % 256
  let g := feidGroup r.dst
  if g = s.route.group then
    let own := s.route.position
    let q := feidPos r.dst
    let p :=
      if copy = 0 ∨ q = own then localPath 0 flow
      else if own / 8 ≠ q / 8 ∧ own % 8 ≠ q % 8 then localPath 1 flow
      else if own / 8 = q / 8 then detourPath 1 ((own / 8 + 1) % 8 * 8 + q % 8) flow
      else detourPath 0 (q / 8 * 8 + (own % 8 + 1) % 8) flow
    (some p, false)
  else
    let e := s.groupRoute g
    let ok (i : Nat) : Bool :=
      let c := e.cands.getD i Cand.none
      c.ok && bit (s.route.pset.getD r.pset 0xFF) i
    let c0 := bits e.pair 2 0
    let c1 := bits e.pair 5 3
    if bit e.pair 6 && ok c0 && ok c1 then (some (s.candPath g (if copy = 0 then c0 else c1) flow), false)
    else
      match (List.range 8).filter ok with
      | [] => (none, false)
      | [i] => (some (s.candPath g i flow), true)
      | i :: j :: _ => (some (s.candPath g (if copy = 0 then i else j) flow), true)

/-! ### Lifetime -/

/-- Age of a stamp in 64 ns units, signed (R47). -/
def State.age (s : State) (stamp : BitVec 32) : Int := toSigned 32 (s.clk.nt.extractLsb' 14 32 - stamp).toNat

/-! ### Injection -/

/-- No path remains, or no port: counted, one event per destination group per second (R90, R104). Its byte 20, a port, of which such an event
has none, is 0xFF (DESIGN CHOICE, log 149). -/
def State.noPath (s : State) (g : Nat) : State :=
  let due := match Tbl.get? s.route.noPathAt g with
    | none => true
    | some at0 => decide (at0 + secTicks ≤ s.clk.now)
  let s := { s with route := { s.route with noPath := s.route.noPath + 1 } }
  if due then
    let s := { s with route := { s.route with noPathAt := Tbl.set s.route.noPathAt g s.clk.now } }
    s.event 0x0027 0xFFFF ([0xFF, 0] ++ leBytes 2 g)
  else s

/-- Set a candidate's score to 15 on all 64 tiles (R105). A candidate of the own group, or of class LOCAL or DETOUR, has
no entry and is ignored (R553). -/
def State.pathFault (s : State) (g cand cls : Nat) : State :=
  if g = s.route.group ∨ ¬ (cls = 1 ∨ cls = 2) then s
  else (List.range 64).foldl (fun s t => s.modTile t fun x => { x with cong := Tbl.set x.cong (8 * g + cand) 15 }) s

/-- A packet for port `p` leaves its source tile, or waits there while the port has no room for it or an earlier packet of its VC waits for
that port; a TC0 packet that waits is counted (R128, R139). -/
def State.toPort (s : State) (t p : Nat) (k : Packet) : State :=
  let vc (j : Packet) : Nat := (s.link p).vcOf j.hdr
  let behind := s.net.waits.any fun w => w.tile == t && w.port == p && vc w.pkt == vc k
  if !behind && s.roomFor p k.hdr then s.torus k.hdr t p (.port p k)
  else
    let s : State := { s with net := { s.net with waits := s.net.waits ++ [{ tile := t, port := p, pkt := k }] } }
    if k.tc = 0 then s.tc0Blocked p else s

/-- Put a packet that this module built at tile `t` on its way: to the module's own tiles over the torus, or to a port
chosen by R97. With no port it is counted and lost, and R105 applies to this module (R104). -/
def State.inject (s : State) (t : Nat) (k : Packet) : State :=
  if feidModule k.hdr.dst = s.moduleId then s.eject k t
  else match s.nextPorts k.hdr Permit.all with
    | .eject => s.eject k t
    | .ports set =>
      match s.choosePort k.hdr set with
      | none => (s.noPath (feidGroup k.hdr.dst)).pathFault (feidGroup k.hdr.dst) k.hdr.cand.toNat k.hdr.cls.toNat
      | some p => s.toPort t p k

/-- A route header from a path; LEN counts the whole packet (R74, R45). -/
def State.header (s : State) (r : PathReq) (p : Path) (vn : Nat) (ordered : Bool) (copy len : Nat) : RouteHdr :=
  { dst := r.dst, src := r.src, via := BitVec.ofNat 12 p.via, cls := BitVec.ofNat 2 p.cls, level := BitVec.ofNat 2 p.level,
    cand := BitVec.ofNat 3 p.cand, hops := 0, rsvd0 := 0, stamp := s.clk.nt.extractLsb' 14 32, tc := BitVec.ofNat 3 r.tc,
    vn := BitVec.ofNat 2 vn, ordered := BitVec.ofNat 1 (b2n ordered), cong := 0, copy := BitVec.ofNat 1 copy, rsvd1 := 0,
    len := BitVec.ofNat 14 len, flowHash := BitVec.ofNat 8 p.flowHash }

/-- The PATH_FAULT notice of a NO_ROUTE drop at port `p` (R104, R553): none for a CTL packet, and one per source module
and destination group in each DECAY_US. -/
def State.noticeFor (s : State) (p : Nat) (k : Packet) : State :=
  let g := feidGroup k.hdr.dst
  let key := feidModule k.hdr.src * 4096 + g
  let due := match Tbl.get? s.route.noticeAt key with
    | none => true
    | some at0 => decide (at0 + s.route.decayUs * usTicks ≤ s.clk.now)
  if k.hdr.vn = 2 ∨ due = false then s
  else
    let r : PathReq := { tile := p, dst := k.hdr.src, src := feidOf s.moduleId 0, tc := 1, pset := 0, policy := 2, qp := 0,
                         psn := s.route.notices }
    let s := { s with route := { s.route with noticeAt := Tbl.set s.route.noticeAt key s.clk.now, notices := s.route.notices + 1 } }
    match s.sprayPath r with
    | none => s.noPath (feidGroup r.dst)
    | some path =>
      let body := beBytes 2 1 ++ beBytes 2 g ++ beBytes 1 k.hdr.cand.toNat ++ beBytes 1 k.hdr.cls.toNat ++ List.replicate 10 0
      s.inject p { hdr := s.header r path 2 false 0 32, body := body }

end Sys2Proof.Machine
end

