-- ==== Sys2Proof/Machine/MemOps.lean ====
section
/-! DEFINITION. HBM, the chunk pool and regions (R288 to R302). -/
namespace Sys2Proof.Machine

/-! ### Pseudo-channels (R288, R289) -/

/-- The pseudo-channel bits that address bit `j` flips. -/
def pcFlip (key j : Nat) : Nat :=
  let p := (j - 8) % 7
  (1 <<< p) ^^^ (if bit key ((j - 15) % 16) then 1 <<< ((p + 1) % 7) else 0)

/-- The pseudo-channel of a device address (R288). -/
def pcOf (key da : Nat) : Nat :=
  ((List.range 22).map (· + 15)).foldl (fun pc j => if bit da j then pc ^^^ pcFlip key j else pc) (da / 256 % 128)

/-- PA_PC of a device address (R288). -/
def paPc (da : Nat) : Nat := da / 32768 * 256 + da % 256

/-- The pseudo-channel of a device address under the key in force. -/
def State.pc (s : State) (da : Nat) : Nat := pcOf s.mem.key.toNat da

/-- The HBM gateway of a device address (R289). -/
def State.gatewayOf (s : State) (da : Nat) : Nat := s.pc da / 32

/-! ### Accesses -/

/-- The granules of 256 bytes that `n` bytes from `da` touch. -/
def granules (da n : Nat) : List Nat :=
  if n = 0 then [] else (List.range ((da + n - 1) / 256 - da / 256 + 1)).map fun i => da / 256 + i

/-- The bursts of 32 bytes that `n` bytes from `da` touch. -/
def bursts (da n : Nat) : List Nat :=
  if n = 0 then [] else (List.range ((da + n - 1) / 32 - da / 32 + 1)).map fun i => da / 32 + i

/-- The gateways accept accesses to `n` bytes: counted per granule at its pseudo-channel (R293, R321). -/
def State.accept (s : State) (da n : Nat) (write : Bool) : State :=
  (granules da n).foldl (fun s g =>
    let pc := s.pc (256 * g)
    let s := s.modMem fun m => { m with pcReq := Tbl.set m.pcReq pc (Tbl.getD m.pcReq pc 0 + 1),
                                        winReq := Tbl.set m.winReq pc (Tbl.getD m.winReq pc 0 + 1) }
    s.count (if write then 0x0801 else 0x0800) pc qAny 1) s

/-- The region, if any, whose HBM bytes hold a device address. -/
def State.regionAt (s : State) (da : Nat) : Option Region :=
  ((s.mem.regions.map (·.2)).find? fun r => r.kind == .hbm && r.valid && r.base ≤ da && da < r.base + r.size)

/-! ### What HBM holds (R294) -/

def poolBase : Nat := 0x60000000
def chunkBytes : Nat := 0x200000
def poolChunks : Nat := 64768

/-- A structure of R294, with the number of the entry that an address lies in. -/
inductive HbmPart where
  | qpContext (qpn : Nat)
  | matchEntry (i : Nat)
  | region (i : Nat)
  | rank (i : Nat)
  | ledger (i : Nat)
  | ledgerAttr (i : Nat)
  | node (n : Nat)
  | epoch (byte : Nat)          -- byte of the master epoch table
  | job (byte : Nat)            -- byte of the job descriptors
  | groupRoute (byte : Nat)     -- byte of the group route table
  | asidRoot (agent asid : Nat)
  | working                     -- Balyn's working storage and the engine page tables
  | pool (chunk : Nat)
  | none
deriving DecidableEq, Repr

/-- The structure at a device address (R294). -/
def hbmPart (da : Nat) : HbmPart :=
  if da < 0x40000000 then .qpContext (da / 256)
  else if da < 0x50000000 then .matchEntry ((da - 0x40000000) / 64)
  else if da < 0x54000000 then .region ((da - 0x50000000) / 64)
  else if da < 0x56000000 then .rank ((da - 0x54000000) / 8)
  else if da < 0x56800000 then .ledger ((da - 0x56000000) / 8)
  else if da < 0x57000000 then .ledgerAttr ((da - 0x56800000) / 8)
  else if da < 0x57400000 then .node ((da - 0x57000000) / 256)
  else if da < 0x57C00000 then .epoch (da - 0x57400000)
  else if da < 0x57C80000 then .job (da - 0x57C00000)
  else if da < 0x57D00000 then .groupRoute (da - 0x57C80000)
  else if da < 0x57D10000 then .asidRoot ((da - 0x57D00000) / 32768) ((da - 0x57D00000) / 8 % 4096)
  else if da < poolBase then .working
  else if da < poolBase + poolChunks * chunkBytes then .pool ((da - poolBase) / chunkBytes)
  else .none

/-- Bytes of a QP's window areas, slot 0 first (R171). -/
def Qp.windowBytes (q : Qp) : Nat := 3 * 2 ^ q.winLog2 * (q.chans.filter (·.en)).length

/-- Bytes of a domain's pool of unexpected payloads, and of its bin heads, which follow it in the same run of chunks (R219, R294). -/
def Domain.poolBytes (d : Domain) : Nat := 256 * d.poolGranules
def Domain.binBytes (d : Domain) : Nat := 16 * 2 ^ d.nbinsLog2

/-- The domain has a structure at a device address: its pool, its bin heads, or an entry of the entry pool (R219). -/
def Domain.holds (d : Domain) (da : Nat) : Bool :=
  match hbmPart da with
  | .matchEntry i => d.posted.any (fun r => r.entry == i) || d.msgs.any fun m => m.queued && m.entry == i
  | _ => d.base ≤ da && da < d.base + d.poolBytes + d.binBytes

/-- The context whose structure a device address belongs to: the QP of a QP context or of a window area, the domain of a match entry, of bin
heads or of a pool, a ledger and its attributes, a node, a region's data. The other structures of R294 are shared (R506). -/
def State.ownerAt (s : State) (da : Nat) : Option Nat :=
  match hbmPart da with
  | .qpContext qpn => (s.qp? qpn).map (·.owner)
  | .ledger i | .ledgerAttr i => (Tbl.get? s.ledgers i).map (·.owner)
  | .node n => (s.node? n).map (·.owner)
  | .matchEntry _ => (s.domains.find? fun e => e.2.holds da).map (·.1)
  | .pool _ =>
    match s.regionAt da with
    | some r => some r.owner
    | none =>
      match s.domains.find? fun e => e.2.holds da with
      | some e => some e.1
      | none => (s.qps.find? fun e => e.2.window ≤ da && da < e.2.window + e.2.windowBytes).map (·.2.owner)
  | _ => none

/-- A gateway detects an uncorrectable burst (R296, R506, R519). Where the module's own layout decides which context's structure the burst
holds, `ctx` is that context. -/
def State.uncorrectableOf (s : State) (burst : Nat) (ctx : Option Nat) : State :=
  let da := 32 * burst
  let pc := s.pc da
  let old := s.mem.intStatus
  let s := s.modMem fun m => { m with ueCount := m.ueCount + 1, ueDa := some (m.ueDa.getD da), intStatus := old ||| 4 }
  let s := s.notify old (old ||| 4) s.mem.intEnable
  let d (k : FaultKind) (c : Option Nat) (a : Nat) : Detection :=
    { kind := k, fatal := false, context := c, infoA := BitVec.ofNat 32 a, infoB := BitVec.ofNat 64 da }
  match (match s.ownerAt da with | some c => some c | none => ctx) with
  | some c => s.faultBy (0x0010 + pc / 32) 0x81 (d .hbmUncorrected (if c < 4096 then some c else none) pc)
  | none => s.faultBy (0x0010 + pc / 32) 0x81 (d .stateLost none 0x0A)

/-- A gateway detects an uncorrectable burst. -/
def State.uncorrectable (s : State) (burst : Nat) : State := s.uncorrectableOf burst none

/-! ### Encryption (R300, R418) -/

/-- The protected job whose key the gateways use at a device address: the job of a region with PROT, or of a protected job's pool of unexpected
payloads. -/
def State.protectedJob (s : State) (da : Nat) : Option Nat :=
  match s.regionAt da with
  | some r => if r.prot then some r.job else none
  | none => (s.domains.find? fun e => e.2.base ≤ da && da < e.2.base + e.2.poolBytes && (match Tbl.get? s.route.jobs e.2.job with
      | some j => j.prot
      | none => false)).map (·.2.job)

/-- The XTS key of a job (R418): derived from the job key; a job without one has an empty key (log 167). -/
def State.xtsKey (s : State) (job : Nat) : List Byte :=
  match s.sec.handles.find? fun e => e.2.st == .installed && e.2.job == job with
  | some e => fit 64 (Config.shake256 64 (([0x41, 0x56, 0x4E, 0x2D, 0x58, 0x54, 0x53] : List Byte) ++ e.2.kjob ++ leBytes 8 Config.serial.toNat))
  | none => []

/-- The blocks of 64 bytes that `n` bytes from `da` touch. -/
def blocks (da n : Nat) : List Nat :=
  if n = 0 then [] else (List.range ((da + n - 1) / 64 - da / 64 + 1)).map fun i => da / 64 + i

/-- The bytes that a block holds as its readers see them: decrypted with the DA of the block as the tweak. -/
def State.blockBytes (s : State) (b : Nat) : List Byte :=
  let raw := Memory.read s.mem.cells (64 * b) 64
  match s.protectedJob (64 * b) with
  | none => raw
  | some j => leBytes 64 ((Config.xts (s.xtsKey j) (64 * b)).symm (BitVec.ofNat 512 (leNat raw))).toNat

/-- `n` bytes of HBM as their readers see them. -/
def State.hbmBytes (s : State) (da n : Nat) : List Byte :=
  if (blocks da n).all fun b => (s.protectedJob (64 * b)).isNone then Memory.read s.mem.cells da n
  else (((blocks da n).map s.blockBytes).flatten.drop (da % 64)).take n

/-- HBM after a write of the part of `l` (bytes from `da`) that lies in block `b`: a protected block is read, decrypted, merged, encrypted and
written whole. -/
def State.putBlock (s : State) (da : Nat) (l : List Byte) (m : List Host.Cell) (b : Nat) : List Host.Cell :=
  let lo := max da (64 * b)
  let part := (l.drop (lo - da)).take (64 * b + 64 - lo)
  match s.protectedJob (64 * b) with
  | none => Memory.write m lo part
  | some j =>
    let old := s.blockBytes b
    let new := old.take (lo - 64 * b) ++ part ++ old.drop (lo - 64 * b + part.length)
    Memory.write m (64 * b) (leBytes 64 ((Config.xts (s.xtsKey j) (64 * b)) (BitVec.ofNat 512 (leNat new))).toNat)

/-- What HBM holds after a write of `l` at `da`. -/
def State.hbmPut (s : State) (da : Nat) (l : List Byte) : List Host.Cell :=
  if (blocks da l.length).all fun b => (s.protectedJob (64 * b)).isNone then Memory.write s.mem.cells da l
  else (blocks da l.length).foldl (s.putBlock da l) s.mem.cells

/-- A corrected burst (R296). -/
def State.hbmCorrected (s : State) : State :=
  let old := s.mem.intStatus
  (s.modMem fun m => { m with ceCount := m.ceCount + 1, intStatus := old ||| 2 }).notify old (old ||| 2) s.mem.intEnable

/-- A burst becomes poisoned (R296). -/
def State.poisonBurst (s : State) (b : Nat) : State :=
  s.modMem fun m => { m with poison := if m.poison.contains b then m.poison else b :: m.poison }

/-- A burst is read with the check symbols of an injection inverted (R523): one symbol is corrected; with both it is uncorrectable, and poisoned. -/
def State.spoilBurst (s : State) (b : Nat) (i : Injection) : State × Bool :=
  let src := 0x0010 + s.pc (32 * b) / 32
  let symbols := b2n (i.mask.extractLsb' 0 16 != 0) + b2n (i.mask.extractLsb' 16 16 != 0)
  if symbols = 0 then (s.useInjection src, false)
  else if symbols = 1 then
    (s.hbmCorrected.faultBy src 0x81 { kind := .hbmCorrected, fatal := false, context := none, infoA := BitVec.ofNat 32 (s.pc (32 * b)),
                                        infoB := BitVec.ofNat 64 (32 * b) }, false)
  else ((s.poisonBurst b).uncorrectable b, true)

/-- A burst is read: whether it is poisoned, which is detected, or an injection at its pseudo-channel's code makes it so (R296, R523). -/
def State.readBurst (s : State) (b : Nat) : State × Bool :=
  if s.mem.poison.contains b then (s.uncorrectable b, true)
  else match s.armedAt (0x0010 + s.pc (32 * b) / 32) 0x81 with
    | some i => if i.arg = s.pc (32 * b) then s.spoilBurst b i else (s, false)
    | none => (s, false)

/-- Read `n` bytes of HBM: the bytes, and whether a burst among them is poisoned (R296). -/
def State.hbmRead (s : State) (da n : Nat) : State × List Byte × Bool :=
  let r := (bursts da n).foldl (fun (a : State × Bool) b => let q := a.1.readBurst b; (q.1, a.2 || q.2)) (s.accept da n false, false)
  (r.1, s.hbmBytes da n, r.2)

/-- Write bytes to HBM. A write that covers all 32 bytes of a poisoned burst removes the poison (R296). -/
def State.hbmWrite (s : State) (da : Nat) (l : List Byte) : State :=
  let s := s.accept da l.length true
  s.modMem fun m => { m with cells := s.hbmPut da l,
                             poison := m.poison.filter fun b => !(da ≤ 32 * b && 32 * b + 32 ≤ da + l.length) }

/-- Zero bytes of HBM (R295); every burst is covered, so poison goes too (R516). -/
def State.hbmZero (s : State) (da n : Nat) : State :=
  s.modMem fun m => { m with cells := Memory.zero m.cells da n,
                             poison := m.poison.filter fun b => !(da ≤ 32 * b && 32 * b + 32 ≤ da + n) }

/-! ### The chunk pool (R294, R295) -/

/-- Chunks that `n` bytes take. -/
def chunksOf (n : Nat) : Nat := ceilDiv n chunkBytes

/-- The chunk of a device address in the pool. -/
def chunkAt (da : Nat) : Nat := (da - poolBase) / chunkBytes

/-- The runs of chunks in use: those of HBM regions that are registered or being registered, of domains' pools and bin heads, and the chunks
that hold window areas of QPs. -/
def State.chunkRuns (s : State) : List (Nat × Nat) :=
  (s.mem.regions.filterMap fun e =>
    if e.2.kind = .hbm ∧ (e.2.valid ∨ e.2.registering) then some (chunkAt e.2.base, chunksOf e.2.size) else none)
  ++ (s.domains.map fun e => (chunkAt e.2.base, chunksOf (e.2.poolBytes + e.2.binBytes)))
  ++ s.qps.map fun e => (chunkAt e.2.window, 1)

/-- `n` chunks from `at0` are free and lie below chunk `limit`. -/
def State.runFree (s : State) (at0 n limit : Nat) : Bool :=
  at0 + n ≤ limit && s.chunkRuns.all fun r => r.1 + r.2 ≤ at0 || at0 + n ≤ r.1

/-- The module's choice of a free run of `n` chunks below chunk `limit` (R294, log 2). -/
def State.findRun (s : State) (n limit : Nat) : Option Nat × State :=
  let starts := 0 :: s.chunkRuns.map fun r => r.1 + r.2
  s.choose 16 (fun v => s.runFree v n limit) ((starts.filter fun v => s.runFree v n limit).min?)

/-- `n` bytes from `at0` lie in one chunk and in no window area of a QP. -/
def State.windowFree (s : State) (n at0 : Nat) : Bool :=
  chunkAt at0 == chunkAt (at0 + n - 1) && s.qps.all fun e => e.2.window + e.2.windowBytes ≤ at0 || at0 + n ≤ e.2.window

/-- A place for window areas of `n` bytes: after one that there is, in its chunk, or in a new chunk, zeroed (R171, R294, R295). -/
def State.findWindow (s : State) (n : Nat) : Option Nat × State :=
  match (s.qps.map fun e => e.2.window + e.2.windowBytes).find? fun a => s.windowFree n a && s.qps.any fun e => chunkAt e.2.window == chunkAt a with
  | some a => (some a, s)
  | none =>
    let r := s.findRun 1 poolChunks
    match r.1 with
    | none => (none, r.2)
    | some c => (some (poolBase + chunkBytes * c), r.2.hbmZero (poolBase + chunkBytes * c) chunkBytes)

/-! ### Regions (R297 to R299) -/

def State.region? (s : State) (i : Nat) : Option Region := Tbl.get? s.mem.regions i
def State.setRegion (s : State) (i : Nat) (r : Region) : State := s.modMem fun m => { m with regions := Tbl.set m.regions i r }

/-- The region a key names: VALID, with the key's TAG (R297). -/
def State.keyRegion (s : State) (key : Nat) : Option Region :=
  match s.region? (key / 256) with
  | some r => if r.valid ∧ r.tag = key % 256 then some r else none
  | none => none

/-- PERM bits. -/
def pLocalRead : Nat := 0
def pLocalWrite : Nat := 1
def pRemoteRead : Nat := 2
def pRemoteWrite : Nat := 3
def pRemoteAtomic : Nat := 4
def pBar4 : Nat := 5

/-- A local key of an entry passes R557: `perms` names the PERM bits it must grant. -/
def State.localKey (s : State) (c key off n : Nat) (perms : List Nat) : Option Region :=
  match s.keyRegion key with
  | some r => if r.owner = c ∧ r.kind ≠ .cuWindow ∧ off + n ≤ r.size ∧ perms.all (fun b => bit r.perm b) = true then some r else none
  | none => none

/-- An index is free for a new region: never used, or its hold is over (R299). -/
def State.indexFree (s : State) (i : Nat) : Bool :=
  i < 1048576 && match s.region? i with
    | none => true
    | some r => !r.valid && !r.registering && r.hold.isNone

/-- The module's choice of a region index, and the TAG of its next use. -/
def State.newIndex (s : State) : Option Nat × State :=
  s.choose 20 s.indexFree ((List.range (s.mem.regions.length + 1)).find? s.indexFree)
def State.nextTag (s : State) (i : Nat) : Nat :=
  match s.region? i with
  | none => 0
  | some r => (r.tag + 1) % 256

/-- Data of region `r` at an offset (R297): `user` is checked for a context without KERNEL or a USER region (R305). -/
def Region.space (r : Region) (off ep : Nat) (user : Bool) : Space :=
  if r.kind = .host then .host r.agent ep r.asid (user || r.user) (r.base + off) else .hbm (r.base + off)

/-- The sweep runs to, or a dump is on its way to, a region whose LKEY is one of `key`. -/
def Perf.goesTo (p : Perf) (key : Nat → Bool) : Bool :=
  (p.running && key p.lkey.toNat) || p.dump.any fun d => key d.lkey.toNat

/-- The destination of the sweep is lost: it stops, and its running dump is abandoned (R530). -/
def State.stopSweep (s : State) : State := { s with perf := { s.perf with running := false, stoppedDest := true, dump := none } }

/-- Deregister region `i`: VALID clears and the index is held for LT + 3 µs (R299). Its chunks return to the pool; a sweep that
writes to it stops (R530). -/
def State.deregister (s : State) (i : Nat) : State :=
  match s.region? i with
  | none => s
  | some r =>
    let s := s.setRegion i { r with valid := false, registering := false, hold := some s.clk.now }
    if s.perf.goesTo fun k => k / 256 == i && k % 256 == r.tag then s.stopSweep else s

/-- LT in ticks. -/
def State.ltTicks (s : State) : Nat := s.time.lt * 64 * 256

/-! ### BAR4 (R301, R302) -/

/-- The chunk of a device address is set in the bitmap of the PF of endpoint `e`. -/
def State.bar4Chunk (s : State) (e da : Nat) : Bool :=
  s.mem.regions.any fun x =>
    let r := x.2
    r.kind == .hbm && r.valid && !r.prot && bit r.perm pBar4 && r.base ≤ da && da < r.base + chunksOf r.size * chunkBytes
      && (match s.ctx? r.owner with | some c => c.ep == e | none => false)

end Sys2Proof.Machine
end

