-- ==== Sys2Proof/Machine/Xlt.lean ====
section
/-! DEFINITION. Tags, translation agents, and transfers through the gateways (R185, R303 to R310, R334 to R339, R342). -/
namespace Sys2Proof.Machine

/-! ### Tags (R334) -/

def State.setXfer (s : State) (x : Xfer) : State :=
  s.modMem fun m => { m with xfers := m.xfers.map fun y => if y.id = x.id then x else y }

/-- Room for one more request in an endpoint's pool. -/
def Endpoint.tagRoom (e : Endpoint) : Bool := decide (e.tags.length + e.quar.length < 256 * e.pool)

/-- A tag number that is neither outstanding nor quarantined. -/
def Endpoint.tagFree (e : Endpoint) (t : Nat) : Bool :=
  t < 4096 && !(e.tags.any fun x => x.tag == t) && !(e.quar.any fun x => x.tag == t)

/-- QUAL of the HOST group for a context (R525). -/
def State.fnQual (s : State) (c : Nat) : Nat → Bool :=
  match s.ctx? c with
  | some x => qNum x.fn
  | none => qNum 0

/-- The function a request of context `c` carries as its requester, at endpoint `e`. -/
def State.requester (s : State) (e c : Nat) : FnId :=
  match s.ctx? c with
  | some x => x.fnId
  | none => { ep := Fin.ofNat 4 e, fn := 0 }

/-- The function a non-posted request is for. -/
def State.requesterOf (s : State) (e : Nat) (u : TagUse) : FnId :=
  match s.xfer? u.id with
  | some x => s.requester e x.ctx
  | none => { ep := Fin.ofNat 4 e, fn := 0 }

/-- Send a non-posted request with a tag from the pool. -/
def State.sendTagged (s : State) (e : Nat) (u : TagUse) (addr len : Nat) : State :=
  let f := s.requesterOf e u
  let ido := (s.func f).idoEn
  let r := s.choose 12 (s.ep e).tagFree ((List.range 4096).find? (s.ep e).tagFree)
  match r.1 with
  | none => r.2
  | some t =>
    let s := r.2.modEp e fun x => { x with tags := x.tags ++ [{ tag := t, use := u, addr := addr, len := len, sent := r.2.clk.now }] }
    match u, s.xfer? u.id with
    | .setAccessed _, some { st := .accessed _ _ pte _, .. } =>
      s.emit (.atomicOp f ido t addr 0 (BitVec.ofNat 64 pte) (BitVec.ofNat 64 (pte ||| 64)))
    | .atomic _, some { atomic := some a, .. } =>
      (s.emit (.atomicOp f ido t addr a.aop a.op0 a.op1)).modMem fun m => { m with atom := { m.atom with hostAtomic := m.atom.hostAtomic + 1 } }
    | _, some x => (s.emit (.dmaRead f ido t addr len)).count 0x0A00 e (s.fnQual x.ctx) len
    | _, none => s.emit (.dmaRead f ido t addr len)

/-- A non-posted request: sent when its function may issue DMA and the pool has a tag, else it waits in issue order (R334, R342). What
waits for its function lets the requests of other functions pass. -/
def State.request (s : State) (e : Nat) (u : TagUse) (addr len : Nat) : State :=
  let x := s.ep e
  if s.maySend u && x.tagRoom && !(x.waiting.any fun w => s.maySend w.1) then s.sendTagged e u addr len
  else s.setEp e { x with waiting := x.waiting ++ [(u, addr, len)] }

/-! ### Ends of transfers -/

/-- A transfer ends at its requester: what follows is carried out before the command ends. -/
def State.xferDone (s : State) (x : Xfer) (e : XferEnd) : State :=
  s.modMem fun m => { m with xfers := m.xfers.filter (fun y => y.id ≠ x.id), ended := m.ended ++ [(x, e)] }

/-- The tile of host gateway `agent` that carries a context's traffic: by endpoint half when the port is split, else by the parity of the
context's number (R8, R10, R322). -/
def State.hostTile (s : State) (agent ep ctx : Nat) : Nat :=
  (hostTiles agent).getD (if s.formed (2 * agent + 1) then ep % 2 else ctx % 2) 0

/-- The tile of the gateway or clearing unit that serves a transfer at its position (R9, R10, R289). -/
def State.gateTile (s : State) (x : Xfer) : Nat :=
  match x.space with
  | .hbm da => pcTile (s.pc (da + x.pos))
  | .host agent ep _ _ _ => s.hostTile agent ep x.ctx
  | .unit n _ => ((s.node? n).map fun y => cuTile y.tile).getD 0

/-- The plane of a transfer's packets (R130). -/
def State.xferPlane (s : State) (x : Xfer) : Nat :=
  s.inService (match x.space with
    | .hbm da => s.pc (da + x.pos) % 2
    | .host _ _ _ _ _ => x.ctx / 2 % 2
    | .unit _ _ => 0)

/-- Beats of an internal packet with `n` bytes of data: one at least, for a packet without data (log 110). -/
def dataBeats (n : Nat) : Nat := max 1 (ceilDiv n 128)

/-- Bytes of the part of a transfer that one request asks for: HBM is asked granule by granule of 256 bytes, each at its pseudo-channel
(R288, R289); a gateway of the host takes a transfer whole. -/
def Xfer.part (x : Xfer) : Nat :=
  match x.space with
  | .hbm da => min (x.len - x.pos) (256 - (da + x.pos) % 256)
  | _ => x.len - x.pos

/-- A transfer's next request goes to its gateway over the torus (R124). -/
def State.ask (s : State) (x : Xfer) : State :=
  let x := { x with st := .asking }
  (s.setXfer x).send (s.xferPlane x) (if x.express then 3 else 0) x.home (s.gateTile x) (dataBeats (if x.write then x.part else 0)) (.ask x.id)

/-- A gateway has done with a request: its response goes to the requester over the torus (R124). -/
def State.endXfer (s : State) (x : Xfer) (e : XferEnd) : State :=
  let n := match e with
    | .ok d | .poisoned d => d.length
    | _ => 0
  (s.setXfer { x with st := .returning }).send (s.xferPlane x) (if x.express then 3 else 1) (s.gateTile x) x.home (dataBeats n) (.back x.id e)

/-- A response reaches the requester: the transfer ends, or goes on with its next granule. -/
def State.returned (s : State) (id : Nat) (e : XferEnd) : State :=
  match s.xfer? id with
  | none => s
  | some x =>
    let next (d : List Byte) (bad : Bool) : State :=
      let x := { x with data := if x.write then x.data else x.data ++ d, poisoned := x.poisoned || bad, pos := x.pos + x.part }
      if x.pos < x.len then s.ask x
      else s.xferDone x (if x.write then .ok [] else if x.poisoned then .poisoned x.data else .ok x.data)
    match x.space, e with
    | .hbm _, .ok d => next d false
    | .hbm _, .poisoned d => next d true
    | _, e => s.xferDone x e

/-- The most bytes of one request of transfer `x` at endpoint `e`: the Max Payload Size of the endpoint's PF for a write, the function's
Max Read Request Size for a read (R324). -/
def State.requestMax (s : State) (e : Nat) (x : Xfer) : Nat :=
  if x.write then (s.func { ep := Fin.ofNat 4 e, fn := 0 }).mps else (s.func (s.requester e x.ctx)).mrrs

/-- Bytes of the piece of a host transfer at its position: one request, which ends at a page boundary. -/
def State.pieceLen (s : State) (e : Nat) (x : Xfer) (va : Nat) : Nat :=
  min (min (x.len - x.pos) (4096 - va % 4096)) (s.requestMax e x)

/-! ### Translation (R303 to R308) -/

/-- Owner endpoint of an ASID of a host agent. -/
def State.asidEp (s : State) (agent asid : Nat) : Option Nat := (Tbl.get? s.mem.asids (4096 * agent + asid)).map (·.ep)

/-- Page size of a level is 2^pageBits. -/
def pageBits (lvl : Nat) : Nat := 12 + 9 * lvl

def pteV (e : Nat) : Bool := bit e 0
def pteR (e : Nat) : Bool := bit e 1
def pteW (e : Nat) : Bool := bit e 2
def pteX (e : Nat) : Bool := bit e 3
def pteU (e : Nat) : Bool := bit e 4
def pteG (e : Nat) : Bool := bit e 5
def pteA (e : Nat) : Bool := bit e 6
def ptePpn (e : Nat) : Nat := bits e 51 12
/-- A reserved bit is set (R304). -/
def pteRsvd (e : Nat) : Bool := bits e 11 7 != 0 || bits e 63 52 != 0
/-- An entry that points to the next table. -/
def pteTable (e : Nat) : Bool := !pteR e && !pteW e && !pteX e

/-- A cached entry serves an access: same ASID, or a global leaf of an ASID of the same PF (R304). -/
def State.tlbServes (s : State) (agent asid va : Nat) (t : TlbEntry) : Bool :=
  t.vpn == va >>> pageBits t.lvl
    && (t.asid == asid || (pteG t.pte.toNat && !pteTable t.pte.toNat && s.asidEp agent t.asid == s.asidEp agent asid))

/-- The cached leaf for an address. -/
def State.tlbLeaf (s : State) (agent asid va : Nat) : Option TlbEntry :=
  (s.agent agent).tlb.find? fun t => !pteTable t.pte.toNat && s.tlbServes agent asid va t

/-- The deepest cached non-leaf entry for an address. -/
def State.tlbTable (s : State) (agent asid va : Nat) : Option TlbEntry :=
  let at_ (l : Nat) := (s.agent agent).tlb.find? fun t => pteTable t.pte.toNat && t.lvl == l && s.tlbServes agent asid va t
  (at_ 1).orElse fun _ => (at_ 2).orElse fun _ => at_ 3

/-- Entries a TLB holds (R303). -/
def tlbSize (agent : Nat) : Nat := if agent < 2 then 4096 else 512

/-- Keep an entry: newest first, at most the TLB's leaves and 64 non-leaf entries (R303). -/
def State.tlbKeep (s : State) (agent : Nat) (t : TlbEntry) : State :=
  s.modAgent agent fun a =>
    let l := t :: a.tlb.filter fun u => !(u.asid == t.asid && u.lvl == t.lvl && u.vpn == t.vpn)
    let leaves := (l.filter fun u => !pteTable u.pte.toNat).take (tlbSize agent)
    let tables := (l.filter fun u => pteTable u.pte.toNat).take 64
    { a with tlb := leaves ++ tables }

/-- `len` bytes at `addr` touch `size` bytes at `base`. -/
def spans (addr len base size : Nat) : Bool := decide (addr < base + size) && decide (base < addr + len)

/-- Size of a BAR of the PF of endpoint `e` (R325); 0: it does not exist. -/
def State.barSize (s : State) (i : Nat) : Nat :=
  if i = 0 then 2 ^ 25 else if i = 1 then 2 ^ 24
  else if i = 2 then (if s.boot.mcr.bar4Log2 = 0 then 0 else 2 ^ s.boot.mcr.bar4Log2)
  else if i = 3 then 2 ^ 22 else 2 ^ 24

/-- A span of host addresses touches a BAR range assigned to a function of endpoint `e`: the PF's BARs, and those of its VFs, one after another
from the VF BARs' bases (R306, R325). -/
def State.inBar (s : State) (e addr len : Nat) : Bool :=
  (s.func { ep := Fin.ofNat 4 e, fn := 0 }).bars.any fun b =>
    spans addr len b.2 (s.barSize b.1 * (if b.1 < 3 then 1 else (s.ep e).vfs))

/-- A span of host addresses touches the device space of the endpoint whose PF owns the ASID (R306). -/
def State.deviceSpace (s : State) (agent ep addr len : Nat) : Bool :=
  let wins := (s.agent agent).wins
  let mine := if s.formed (2 * agent + 1) then (if ep % 2 = 0 then wins.take 2 else wins.drop 2) else wins
  s.inBar ep addr len
    || mine.any fun w => w.1.toNat ≤ w.2.toNat && addr ≤ w.2.toNat && w.1.toNat < addr + len

/-- perm_ok of R305; a fill needs no permission. -/
def permOk (e : Nat) (k : Access) (user : Bool) : Bool :=
  !(user && !pteU e) && (match k with
    | .fill => true
    | .read => pteR e
    | .write => pteW e
    | .atomic => pteR e && pteW e
    | .fetch => pteX e)

/-- The kind of a host transfer's accesses. -/
def Xfer.access (x : Xfer) : Access :=
  match x.use, x.atomic with
  | .fill, _ => .fill
  | _, some _ => .atomic
  | _, none => if x.write then .write else .read

/-- Causes of a walk fault (R321). -/
def cNotValid : Nat := 0
def cPermission : Nat := 1
def cReserved : Nat := 2
def cMisaligned : Nat := 3
def cReadError : Nat := 4
def cAccessed : Nat := 5
def cOutOfRange : Nat := 6
def cDeviceSpace : Nat := 7

/-- What the walk does with an entry `e` of level `lvl`: the checks of R305 that the entry alone decides. -/
inductive WalkNext where
  | fault (cause : Nat)
  | table (pa : Nat)
  | leaf
deriving DecidableEq, Repr
def walkNext (lvl e : Nat) : WalkNext :=
  if !pteV e then .fault cNotValid
  else if pteRsvd e then .fault cReserved
  else if pteTable e then (if lvl = 0 then .fault cReserved else .table (ptePpn e * 4096))
  else if lvl = 3 || (pteW e && !pteR e) then .fault cReserved
  else if ptePpn e % 2 ^ (9 * lvl) ≠ 0 then .fault cMisaligned
  else .leaf

/-- The entry of level `lvl` for an address. -/
def pteOf (asid va lvl e : Nat) : TlbEntry := { asid := asid, lvl := lvl, vpn := va >>> pageBits lvl, pte := BitVec.ofNat 64 e }

/-- A walk fault is captured, or counted behind the captured one (R307). -/
def State.capture1 (s : State) (agent cause lvl asid va : Nat) (write user : Bool) : State :=
  s.modAgent agent fun a =>
    if a.fValid then
      { a with fSecond := true, fCount := if a.fCount = BitVec.allOnes 32 then a.fCount else a.fCount + 1 }
    else
      { a with fValid := true, fDevice := decide (cause = cDeviceSpace), fCause := cause, fLevel := lvl, fWrite := write,
               fUser := user, fAsid := asid, fVa := va % 2 ^ 48 }

/-- A transfer is no more: a fill has ended (R308). -/
def State.dropXfer (s : State) (id : Nat) : State := s.modMem fun m => { m with xfers := m.xfers.filter fun y => y.id ≠ id }

/-- An access ends in WALK_FAULT or WALK_DEVICE_SPACE: captured (R307), and the transfer ends with a translation error. A fill that would fault
is discarded and records nothing (R308). -/
def State.walkFault (s : State) (x : Xfer) (cause lvl : Nat) : State :=
  match x.space, x.use with
  | .hbm _, _ | .unit _ _, _ => s
  | .host _ _ _ _ _, .fill => s.dropXfer x.id
  | .host agent _ asid user va, _ =>
    (s.capture1 agent cause lvl asid (va + x.pos) (x.write || x.atomic.isSome) user).endXfer x
      (.translation cause lvl (decide (cause = cDeviceSpace)))

/-- Read the page-table entry of a level: from the table at `t` (R305). -/
def State.walkRead (s : State) (x : Xfer) (t lvl : Nat) (again : Bool) : State :=
  match x.space with
  | .hbm _ | .unit _ _ => s
  | .host agent ep _ _ va =>
    let ea := t + bits (va + x.pos) (20 + 9 * lvl) (12 + 9 * lvl) * 8
    if s.deviceSpace agent ep ea 8 then s.walkFault x cDeviceSpace lvl
    else (s.setXfer { x with st := .walk lvl ea again }).request ep (.walk x.id) ea 8

/-- Walk from level 3, or from the deepest cached table (R303, R305). -/
def State.walkStart (s : State) (x : Xfer) (again : Bool) : State :=
  match x.space with
  | .hbm _ | .unit _ _ => s
  | .host agent _ asid _ va =>
    let s := if again then s
      else s.modAgent agent fun a => { a with walks := a.walks + 1 }
    match (if again then none else s.tlbTable agent asid (va + x.pos)) with
    | some t => s.walkRead x (ptePpn t.pte.toNat * 4096) (t.lvl - 1) again
    | none =>
      match (Tbl.get? s.mem.asids (4096 * agent + asid)).bind (·.root) with
      | some root => s.walkRead x (root * 4096) 3 again
      | none => s.walkFault x cNotValid 3

/-- Relaxed Ordering of a write: payload and placement writes while the function enables it (R338). -/
def State.relaxed (s : State) (x : Xfer) : Bool :=
  match x.use, s.ctx? x.ctx with
  | .cqe _, _ => false
  | .sweep, _ => false
  | _, some c => (s.func c.fnId).roEn
  | _, none => false

/-- A fill for an address of an ASID that has a valid root, by a host agent: a walk that no access asks for, unless the leaf is cached. Its PF
may issue DMA (R308, R342). -/
def State.fillHost (s : State) (agent asid va : Nat) : State :=
  match Tbl.get? s.mem.asids (4096 * agent + asid) with
  | none => s
  | some r =>
    let x : Xfer := { id := s.mem.nextXfer, use := .fill, home := 0, express := false, ctx := 0x20000, dead := false,
                      space := .host agent r.ep asid false va, write := false, atomic := none, data := [], poisoned := false, len := 1, pos := 0,
                      via := none, st := .start }
    if r.root.isNone || !s.xferDma x || 2 ^ 48 ≤ va || (s.tlbLeaf agent asid va).isSome then s
    else
      ((((s.modAgent agent fun a => { a with prefetches := a.prefetches + 1 }).count 0x0902 agent (qNum asid) 1).modMem fun m =>
        { m with xfers := m.xfers ++ [x], nextXfer := m.nextXfer + 1 })).walkStart x false

/-- A DMA stream that has passed three quarters of a 4 KiB page with a piece of `n` bytes: the agent fetches the leaf of the next page (R308). -/
def State.streamed (s : State) (x : Xfer) (n : Nat) : State :=
  match x.space with
  | .host agent _ asid _ va =>
    let v := va + x.pos
    if (s.agent agent).prefetch && decide (v % 4096 < 3072) && decide (3072 ≤ v % 4096 + n) then s.fillHost agent asid ((v / 4096 + 1) * 4096) else s
  | _ => s

/-- A piece of a transfer is translated to host address `pa`: a write waits for its gateway, a read or an AtomicOp is sent
(R339). -/
def State.translated (s : State) (x : Xfer) (ep pa : Nat) : State :=
  if x.write then s.setXfer { x with st := .ready pa }
  else
    match x.atomic with
    | some _ =>
      if (s.ep ep).atomicEn then (s.setXfer { x with st := .reading 8 }).request ep (.atomic x.id) pa 8
      else (s.modEp ep fun e => { e with atomicRefused := e.atomicRefused + 1 }).endXfer x .noAtomic
    | none =>
      match x.space with
      | .host _ _ _ _ va =>
        let n := s.pieceLen ep x (va + x.pos)
        ((s.setXfer { x with st := .reading n }).request ep (.xfer x.id) pa n).streamed x n
      | _ => s

/-- A leaf `e` of level `lvl` serves the access, its permission and A already checked: the physical address, unless that is
device space (R305). -/
def State.useLeaf (s : State) (x : Xfer) (lvl e : Nat) : State :=
  match x.space with
  | .hbm _ | .unit _ _ => s
  | .host agent ep _ _ va =>
    let v := va + x.pos
    let pa := ptePpn e * 4096 + v % 2 ^ pageBits lvl
    if s.deviceSpace agent ep pa (s.pieceLen ep x v) then s.walkFault x cDeviceSpace lvl
    else s.translated x ep pa

/-- The leaf of a fill is kept, unless an access through it would fault: A is clear, which a fill does not set, or it leads to device space. -/
def State.fillLeaf (s : State) (x : Xfer) (agent ep asid va lvl e : Nat) : State :=
  let s := s.dropXfer x.id
  if pteA e && !s.deviceSpace agent ep (ptePpn e * 4096 + va % 2 ^ pageBits lvl) 1 then s.tlbKeep agent (pteOf asid va lvl e) else s

/-- An entry `e` read at level `lvl` from `ea`: the checks of R305. -/
def State.walkEntry (s : State) (x : Xfer) (lvl ea e : Nat) (again : Bool) : State :=
  match x.space with
  | .hbm _ | .unit _ _ => s
  | .host agent ep asid user va =>
    let t := pteOf asid (va + x.pos) lvl e
    match walkNext lvl e with
    | .fault c => s.walkFault x c lvl
    | .table pa => (s.tlbKeep agent t).walkRead x pa (lvl - 1) again
    | .leaf =>
      if x.use = .fill then s.fillLeaf x agent ep asid va lvl e
      else if !permOk e x.access user then s.walkFault x cPermission lvl
      else if !pteA e then
        if (s.ep ep).atomicEn then
          (s.setXfer { x with st := .accessed lvl ea e again }).request ep (.setAccessed x.id) ea 8
        else (s.modEp ep fun y => { y with atomicRefused := y.atomicRefused + 1 }).walkFault x cAccessed lvl
      else (s.tlbKeep agent t).useLeaf { x with via := some t } lvl e

/-- The answer of set_accessed: the word that was there (R305). -/
def State.walkAccessed (s : State) (x : Xfer) (lvl e old : Nat) (again : Bool) : State :=
  match x.space with
  | .hbm _ | .unit _ _ => s
  | .host agent _ asid _ va =>
    if old = e then
      let t := pteOf asid (va + x.pos) lvl (e ||| 64)
      (s.tlbKeep agent t).useLeaf { x with via := some t } lvl (e ||| 64)
    else if again then s.walkFault x cAccessed lvl
    else s.walkStart x true

/-- Start the next piece of a host transfer: a TLB hit serves it, else a walk (R303, R305, R308). -/
def State.startPiece (s : State) (x : Xfer) : State :=
  match x.space with
  | .hbm _ | .unit _ _ => s
  | .host agent _ asid user va =>
    let v := va + x.pos
    if v / 2 ^ 48 ≠ 0 then s.walkFault x cOutOfRange 3
    else
      match s.tlbLeaf agent asid v with
      | some t =>
        let e := t.pte.toNat
        let s := s.modAgent agent fun a => { a with hits := a.hits + 1 }
        if permOk e x.access user then s.useLeaf { x with via := some t } t.lvl e else s.walkFault x cPermission t.lvl
      | none =>
        let s := s.modAgent agent fun a => { a with misses := a.misses + 1 }
        (s.count 0x0900 agent (qNum asid) 1).walkStart x false

/-- The gateway accepts one piece of a host write: it is on its way to the host. -/
def State.writePiece (s : State) (x : Xfer) (pa : Nat) : State :=
  match x.space with
  | .hbm _ | .unit _ _ => s
  | .host _ ep _ _ va =>
    let n := s.pieceLen ep x (va + x.pos)
    let f := s.requester ep x.ctx
    let s := (s.emit (.dmaWrite f (s.func f).idoEn pa (s.relaxed x) x.poisoned ((x.data.drop x.pos).take n))).count 0x0A01 ep (s.fnQual x.ctx) n
    let s := s.streamed x n
    let x := { x with pos := x.pos + n, st := .start }
    if x.pos ≥ x.len then s.endXfer x (.ok []) else s.setXfer x

/-- A completion or event entry, or a part of a sweep slot: its write is issued as soon as it is translated. -/
def XferUse.posted : XferUse → Bool
  | .cqe _ | .sweep => true
  | _ => false

/-- Take a host transfer as far as it goes without an answer from outside: `n` bounds the pieces. -/
def State.runHost (s : State) (id : Nat) : Nat → State
  | 0 => s
  | n + 1 =>
    match s.xfer? id with
    | none => s
    | some x =>
      if s.xferDma x = false then s
      else match x.st with
        | .start => (s.startPiece x).runHost id n
        | .ready pa => if x.use.posted then (s.writePiece x pa).runHost id n else s
        | _ => s

/-- Pieces of a transfer, and the two stages of each: a piece that does not end at a page boundary has at least 128 bytes. -/
def Xfer.steps (x : Xfer) : Nat := 2 * (x.len / 128 + x.len / 4096 + 3)

/-- An HBM read that no gateway answer stands for: an engine of the module reads it at once. Only a remote GET's read waits for
its gateway (log 31). -/
def XferUse.waitsRead : XferUse → Bool
  | .getExec _ _ _ _ => true
  | _ => false

/-- Where the requester of a transfer stands: the home tile of its context or QP, its node's clearing unit, the bursars for a sweep, the
host gateway for an access through BAR4. -/
def State.homeOf (s : State) (use : XferUse) : Nat :=
  let ctx (c : Nat) : Nat := ((s.ctx? c).map (·.tile)).getD (c % 64)
  let node (n : Nat) : Nat := ((s.node? n).map fun y => cuTile y.tile).getD 0
  match use with
  | .sqFetch c _ _ | .cqe c | .prepare c _ | .poolCopy c _ | .poolRead c _ _ | .localAtomic c _ => ctx c
  | .msgData q _ _ | .place q _ _ | .window q _ _ | .stage _ _ _ q _ _ | .getExec q _ _ _ | .getPlace q _ _ | .remoteAtomic q _ _
  | .spill q => q % 64
  | .collPrep _ _ n | .collRead n _ _ | .collPlace n _ _ | .collSend n _ _ => node n
  | .sweep | .fill => bursarTiles.headD 0
  | .engineRead w | .engineCas w _ => if w.agent < 18 then 4 * (w.agent - 2) else bursarTiles.headD 0
  | .bar4 e => s.hostTile (e / 2) e 0

/-- A transfer carries TC0 work (R124): that of a channel of TC0, or of an entry of TC0. -/
def State.expressUse (s : State) (use : XferUse) : Bool :=
  let chan (q k : Nat) : Bool := (s.chan q k).tc == 0
  let chain (c serial : Nat) : Bool := match s.ctx? c with
    | some x => x.chains.any fun h => h.serial == serial && field h.work 2 1 % 8 == 0
    | none => false
  match use with
  | .msgData q k _ | .place q k _ | .window q k _ | .stage _ _ _ q k _ | .getExec q k _ _ | .getPlace q k _ | .remoteAtomic q k _ => chan q k
  | .prepare c serial | .localAtomic c serial => chain c serial
  | _ => false

/-- Issue a transfer: its first request goes to its gateway. -/
def State.issue (s : State) (use : XferUse) (ctx : Nat) (space : Space) (write : Bool) (data : List Byte) (len : Nat)
    (atomic : Option AtomicReq) (poisoned : Bool := false) : State :=
  let x : Xfer := { id := s.mem.nextXfer, use := use, home := s.homeOf use, express := s.expressUse use, ctx := ctx, dead := false,
                    space := space, write := write, atomic := atomic, data := data, poisoned := poisoned, len := len, pos := 0, via := none, st := .asking }
  (s.modMem fun m => { m with xfers := m.xfers ++ [x], nextXfer := m.nextXfer + 1 }).ask x

/-- Transfers of contexts that may issue DMA again go on, in the order they were issued (R342). -/
def State.resumeXfers (s : State) : State :=
  s.mem.xfers.foldl (fun s x => s.runHost x.id x.steps) s

/-- An answer to a request: the data of a completion, none when it timed out or reported an error (R335, R339). -/
def State.answer (s : State) (u : TagUse) (data : Option (List Byte)) : State :=
  match s.xfer? u.id with
  | none => s
  | some x =>
    if x.dead then s.modMem fun m => { m with xfers := m.xfers.filter fun y => y.id ≠ x.id }
    else
      match u, x.st, data with
      | .walk _, .walk lvl ea again, some d => (s.walkEntry x lvl ea (leNat (fit 8 d)) again).runHost x.id x.steps
      | .walk _, .walk lvl _ _, none => s.walkFault x cReadError lvl
      | .setAccessed _, .accessed lvl _ e again, some d => (s.walkAccessed x lvl e (leNat (fit 8 d)) again).runHost x.id x.steps
      | .setAccessed _, .accessed lvl _ _ _, none => s.walkFault x cAccessed lvl
      | .atomic _, .reading _, some d => s.endXfer x (.ok (fit 8 d))
      | .xfer _, .reading n, some d =>
        let x := { x with data := x.data ++ fit n d, pos := x.pos + n, st := .start }
        if x.pos ≥ x.len then s.endXfer x (.ok x.data) else (s.setXfer x).runHost x.id x.steps
      | .atomic _, _, none | .xfer _, _, none => s.endXfer x .noAnswer
      | _, _, _ => s

/-- An AtomicOp that the endpoint may not make, or that completed as Unsupported Request, is refused and counted (R339). -/
def State.refuseAtomic (s : State) (e : Nat) (u : TagUse) : State :=
  let s := s.modEp e fun x => { x with atomicRefused := x.atomicRefused + 1 }
  match u, s.xfer? u.id with
  | .atomic _, some x => if x.dead then s.answer u none else s.endXfer x .noAtomic
  | _, _ => s.answer u none

/-- The request is an AtomicOp. -/
def TagUse.isAtomic : TagUse → Bool
  | .setAccessed _ | .atomic _ => true
  | _ => false

/-- Tags returned to the pool go to the requests that wait and whose functions may issue DMA, in order; an AtomicOp whose enable has been
cleared meanwhile is refused (R334, R339, R342). -/
def State.serveWaiting (s : State) (e : Nat) : Nat → State
  | 0 => s
  | n + 1 =>
    match (s.ep e).waiting.find? fun w => s.maySend w.1 with
    | none => s
    | some (u, a, l) =>
      let rest := (s.modEp e fun x => { x with waiting := x.waiting.erase (u, a, l) })
      if u.isAtomic && !(s.ep e).atomicEn then (rest.refuseAtomic e u).serveWaiting e n
      else if (s.ep e).tagRoom then (rest.sendTagged e u a l).serveWaiting e n
      else s

/-- A gateway of HBM carries out one request of a transfer at `pa` (R185, R296). -/
def State.hbmServes (s : State) (x : Xfer) (pa : Nat) : State :=
  if x.write then (s.hbmWrite pa ((x.data.drop x.pos).take x.part)).endXfer x (.ok [])
  else
    let r := s.hbmRead pa x.part
    r.1.endXfer x (if r.2.2 then .poisoned r.2.1 else .ok r.2.1)

/-- The gateway tile a waiting transfer is before (R10, R289). -/
def State.xferTile (s : State) (x : Xfer) : Option Nat :=
  match x.st, x.space with
  | .ready _, .hbm _ | .ready _, .host _ _ _ _ _ => some (s.gateTile x)
  | _, _ => none

/-- A gateway accepts a transfer that waits before it, or returns its data (R185, R296). -/
def State.gatewayTakes (s : State) (x : Xfer) : State :=
  match x.st, x.space with
  | .ready pa, .hbm _ => s.hbmServes x pa
  | .ready pa, .host _ _ _ _ _ => if s.xferDma x then (s.writePiece x pa).runHost x.id x.steps else s
  | _, _ => s

/-- Transfer `x` is context `c`'s, to host memory. -/
def Xfer.hostOf (c : Nat) (x : Xfer) : Bool :=
  x.ctx == c && match x.space with
    | .host _ _ _ _ _ => true
    | _ => false

/-- Transfers `p` are given up. Requests that wait for a tag are never sent; those already sent keep their tags, and their answers
change nothing. -/
def State.killWhere (s : State) (p : Xfer → Bool) : State :=
  let mine (u : TagUse) : Bool := match s.xfer? u.id with
    | some x => p x
    | none => false
  let sent := (s.host.eps.map fun e => e.2.tags.map fun t => t.use.id).flatten
  let s := { s with host := { s.host with
    eps := Tbl.map (fun _ e => { e with waiting := e.waiting.filter fun w => !mine w.1 }) s.host.eps } }
  s.modMem fun m => { m with
    xfers := (m.xfers.filter fun x => !(p x) || sent.contains x.id).map fun x => if p x then { x with dead := true } else x }

/-- What is under way in host memory for context `c` is given up: its DMA has stopped (R210). -/
def State.killXfers (s : State) (c : Nat) : State := s.killWhere (Xfer.hostOf c)

/-- The QP whose packets a transfer serves, once more than the pool of its domain is written. -/
def XferUse.qp? : XferUse → Option Nat
  | .msgData q _ _ | .place q _ _ | .window q _ _ | .getExec q _ _ _ | .getPlace q _ _ | .remoteAtomic q _ _ | .spill q => some q
  | _ => none

/-- What is under way for QP `qpn` is given up: nothing of it is placed or executed after its messages have ended (R196). -/
def State.killQp (s : State) (qpn : Nat) : State := s.killWhere fun x => x.use.qp? == some qpn

end Sys2Proof.Machine
end

