-- ==== Sys2Proof/Machine/Rings.lean ====
section
/-! DEFINITION. Completion and event entries, ledgers, entries as bytes, and the retirement, draining and fencing of chains
(R279 to R282, R374 to R400). -/
namespace Sys2Proof.Machine

/-! ### Entries as bytes (R380 to R384) -/

def Chain.op (h : Chain) : Nat := field h.work 0 1
def Chain.flag (h : Chain) (b : Nat) : Bool := bit (field h.work 1 1) b
def Chain.cqe (h : Chain) : Bool := h.flag 2
def Chain.fence (h : Chain) : Bool := h.flag 3
def Chain.inl (h : Chain) : Bool := h.flag 4
def Chain.notify (h : Chain) : Bool := h.flag 5
def Chain.tc (h : Chain) : Nat := field h.work 2 1 % 8
def Chain.xflags (h : Chain) : Nat := field h.work 3 1
def Chain.qpn (h : Chain) : Nat := field h.work 4 4
def Chain.cookie (h : Chain) : Nat := field h.work 8 8
/-- Field of the work entry. -/
def Chain.f (h : Chain) (off n : Nat) : Nat := field h.work off n

/-- Field of the TIMING entry; 0 without one. -/
def Chain.t (h : Chain) (off n : Nat) : Nat := match h.timing with
  | some b => field b off n
  | none => 0
def Chain.launchEn (h : Chain) : Bool := bit (h.t 3 1) 0
def Chain.waitEn (h : Chain) : Bool := bit (h.t 3 1) 1
def Chain.doneEn (h : Chain) : Bool := bit (h.t 3 1) 2
def Chain.launchAt (h : Chain) : U64 := BitVec.ofNat 64 (h.t 16 8)
def Chain.waitLedger (h : Chain) : Nat := h.t 24 4 % 1048576
def Chain.doneLedger (h : Chain) : Nat := h.t 28 4 % 1048576
def Chain.threshold (h : Chain) : Nat := h.t 32 8

/-- Opcodes (R381). -/
def opPut : Nat := 1
def opGet : Nat := 2
def opSend : Nat := 3
def opRecv : Nat := 4
def opAtomic : Nat := 5
def opColl : Nat := 6
def opProbe : Nat := 7
def opCancel : Nat := 8
def opLedgerAdd : Nat := 9
def opLedgerSet : Nat := 10
def opLedgerRead : Nat := 11
def opNop : Nat := 12
def opTiming : Nat := 13

/-- A local ATOMIC. -/
def Chain.localAtomic (h : Chain) : Bool := h.op == opAtomic && bit h.xflags 0

/-- The entry uses a QP. -/
def Chain.usesQp (h : Chain) : Bool := (1 ≤ h.op && h.op ≤ 3) || (h.op == opAtomic && !h.localAtomic)

/-- Completion codes (R392). -/
def ccOk : Nat := 0
def ccRemoteAccess : Nat := 2
def ccHostGone : Nat := 3
def ccCtxRetry : Nat := 4
def ccTranslation : Nat := 5
def ccTimeout : Nat := 6
def ccProtected : Nat := 7
def ccAborted : Nat := 8
def ccTruncated : Nat := 9
def ccListFull : Nat := 10
def ccMemberLost : Nat := 11
def ccInvalid : Nat := 12

/-- Bytes `a` to `b` of an entry are zero. -/
def zeroBytes (l : List Byte) (a b : Nat) : Bool := field l a (b + 1 - a) == 0

/-- An entry's reserved fields are zero (R380, R383, R384), by opcode; with INLINE the data fields are free. -/
def reservedOk (e : List Byte) : Bool :=
  let op := field e 0 1
  let fl := field e 1 1
  let x := field e 3 1
  let inl := bit fl 4
  let qp := (1 ≤ op && op ≤ 3) || (op == opAtomic && !bit x 0) || op == opTiming
  fl / 64 == 0 && field e 2 1 / 8 == 0 && (if qp then field e 4 4 / 2 ^ 22 == 0 else field e 4 4 == 0)
    && (inl || (if op = opAtomic then x / 2 == 0 else if op = opTiming then x / 8 == 0 else x == 0))
    && (if op = opPut then field e 20 4 / 2 ^ 20 == 0 && field e 30 2 == 0 && (inl || (field e 46 2 == 0 && zeroBytes e 48 63))
        else if op = opGet then field e 20 4 / 2 ^ 20 == 0 && field e 30 2 == 0 && field e 46 2 == 0 && zeroBytes e 48 63
        else if op = opSend then
          field e 26 2 == 0 && field e 28 4 / 2 ^ 20 == 0 && field e 32 4 / 2 ^ 22 == 0 && zeroBytes e 36 (if inl then 39 else 35)
            && (inl || (zeroBytes e 44 47 && field e 54 2 == 0 && zeroBytes e 56 63))
        else if op = opRecv then
          field e 32 4 / 2 ^ 23 == 0 && zeroBytes e 38 39 && field e 54 2 == 0 && field e 56 4 / 2 ^ 20 == 0 && zeroBytes e 60 63
        else if op = opAtomic then
          field e 20 4 / 2 ^ 20 == 0 && field e 30 2 == 0 && field e 32 1 / 16 == 0 && zeroBytes e 33 39 && zeroBytes e 56 63
        else if op = opColl then
          field e 16 2 / 2 ^ 14 == 0 && field e 18 1 / 32 == 0 && field e 19 1 / 64 == 0 && field e 38 2 == 0 && field e 46 2 == 0
            && zeroBytes e 48 63
        else if op = opProbe then field e 32 4 / 2 ^ 23 == 0 && zeroBytes e 38 63
        else if op = opCancel then zeroBytes e 24 63
        else if op = opLedgerAdd ∨ op = opLedgerSet then field e 16 4 / 2 ^ 20 == 0 && zeroBytes e 20 23 && zeroBytes e 32 63
        else if op = opLedgerRead then field e 16 4 / 2 ^ 20 == 0 && zeroBytes e 20 63
        else if op = opTiming then
          field e 24 4 / 2 ^ 20 == 0 && field e 28 4 / 2 ^ 20 == 0 && field e 32 8 / 2 ^ 63 == 0 && zeroBytes e 40 63
        else zeroBytes e 16 63)

/-- A work entry's opcode, INLINE, inline length and TC are allowed (R380 to R385). -/
def State.entryOk (s : State) (c : Nat) (e : List Byte) : Bool :=
  let op := field e 0 1
  let inl := bit (field e 1 1) 4
  let h : Chain := { serial := 0, timing := none, work := e, st := .waiting, ready := false, held := false, passed := false, payload := none, segs := [], code := 0,
                     value := 0, countA := 0, countB := 0, ident := 0, flags := 0 }
  1 ≤ op && op ≤ 13 && reservedOk e && (!inl || op == opPut || op == opSend)
    && (!inl || h.xflags ≤ (if op = opPut then 32 else 24))
    && (!h.usesQp || match s.qp? h.qpn with
        | some q => q.owner == c && (List.range 2).any (fun k => (q.chan k).en && (q.chan k).tc == h.tc)
        | none => false)

/-! ### The completion ring -/

def Ctx.cqSize (c : Ctx) : Nat := 2 ^ c.cqLog2
def Ctx.sqSize (c : Ctx) : Nat := 2 ^ c.sqLog2

/-- An entry is a request completion, which holds the slot of its chain (R379, R390). -/
def forRequest (e : List Byte) : Bool := field e 31 1 % 4 == 0

/-- Entries the host has not consumed, and unsolicited ones on their way. -/
def Ctx.cqOcc (c : Ctx) : Nat := (c.cqTail - c.cqHead).toNat + (c.deferred.filter fun e => !forRequest e).length

/-- OWED + (CQ_TAIL − CQ_HEAD) + BACKLOG < 2^CQ_LOG2 (R379, R395). -/
def Ctx.cqRoom (c : Ctx) : Bool := decide (c.owed + c.cqOcc + c.backlog.length < c.cqSize)

/-- The completion ring has room for `k` further chains (R379). -/
def Ctx.roomFor (c : Ctx) (k : Nat) : Bool := decide (c.owed + c.cqOcc + c.backlog.length + k ≤ c.cqSize)

/-- PHASE of the entry at an index (R393). -/
def phaseOf (cqLog2 i : Nat) : Nat := 1 - (i >>> cqLog2) % 2

/-- A completion entry, PHASE clear (R390). -/
def cqeBytes (cookie value a b id code op flags kind : Nat) : List Byte :=
  leBytes 8 cookie ++ leBytes 8 value ++ leBytes 4 a ++ leBytes 4 b ++ leBytes 4 id ++ leBytes 1 code ++ leBytes 1 op
    ++ leBytes 1 flags ++ leBytes 1 kind

/-- Supervisor access to a ring of context `c` (R375). -/
def Ctx.ringSpace (x : Ctx) (va : Nat) : Space := .host (x.ep / 2) x.ep x.ringAsid false va

/-- The first entry on its way is written at CQ_TAIL (R376, R393, R394). -/
def State.writeCqe (s : State) (c : Nat) : State :=
  match s.ctx? c with
  | none => s
  | some x =>
    match x.deferred with
    | [] => s
    | e :: _ =>
      let i := x.cqTail.toNat
      let e := e.take 31 ++ [(e.getD 31 0) ||| BitVec.ofNat 8 (128 * phaseOf x.cqLog2 i)]
      s.issue (.cqe c) c (x.ringSpace (x.cqBase + 32 * (i % x.cqSize))) true e 32 none

/-- An entry joins those on their way to the completion ring; entries are written one after another, in index order. -/
def State.postEntry (s : State) (c : Nat) (e : List Byte) : State :=
  match s.ctx? c with
  | none => s
  | some x =>
    let s := s.setCtx c { x with deferred := x.deferred ++ [e] }
    if x.deferred.isEmpty then s.writeCqe c else s

/-- The context's vector is sent, and ARMED clears (R397). -/
def State.sendCqInt (s : State) (c : Nat) : State :=
  match s.ctx? c with
  | none => s
  | some x => (s.setCtx c { x with armed := false }).raise x.fnId x.vector

/-- The vector goes once COAL_COUNT entries have been written since ARMED was set, while EN and ARMED are set (R397). -/
def State.coalesce (s : State) (c : Nat) : State :=
  match s.ctx? c with
  | none => s
  | some x => if x.intEn && x.armed && max 1 x.coalCount ≤ x.armedCount then s.sendCqInt c else s

/-- OWED reaches 0 in DRAINING: OFF, and the backlog is discarded (R374, R398). -/
def State.drained (s : State) (c : Nat) : State :=
  s.modCtx c fun x => if !x.enable && !x.idle && x.owed == 0 then { x with idle := true, backlog := [] } else x

/-- The first entry on its way is there no longer; with a request completion OWED falls by 1 (R389). -/
def Ctx.entryGone (x : Ctx) : Ctx :=
  { x with deferred := x.deferred.tail, owed := if (x.deferred.head?.map forRequest).getD false then x.owed - 1 else x.owed }

/-- The first entry on its way has been written: CQ_TAIL advances, and the interrupt follows it (R394, R397). -/
def State.entryWritten (s : State) (c : Nat) : State :=
  match s.ctx? c with
  | none => s
  | some x =>
    let x := { x.entryGone with cqTail := x.cqTail + 1 }
    let x := if x.armed then { x with armedCount := x.armedCount + 1, armedAt := some (x.armedAt.getD s.clk.now) } else x
    (((s.setCtx c x).coalesce c).drained c).writeCqe c

/-- Backlogged entries are written while the ring has room (R395). -/
def State.writeBacklog (s : State) (c : Nat) : Nat → State
  | 0 => s
  | n + 1 =>
    match s.ctx? c with
    | none => s
    | some x =>
      match x.backlog with
      | [] => s
      | e :: t =>
        if !x.idle && !x.hostLost && decide (x.owed + x.cqOcc < x.cqSize) then
          (((s.setCtx c { x with backlog := t }).postEntry c e).count 0x0B01 c (fun q => q == 0) 1).writeBacklog c n
        else s

/-- A receive or target completion (R395): the backlog goes first. -/
def State.postUnsolicited (s : State) (c : Nat) (e : List Byte) : State :=
  match s.ctx? c with
  | none => s
  | some x =>
    if x.hostLost then s
    else if x.idle then s.setCtx c { x with nLost := x.nLost + 1, cqOverflow := true }
    else if x.cqRoom then ((s.writeBacklog c 1024).postEntry c e).count 0x0B01 c (fun q => q == 0) 1
    else if x.backlog.length < 1024 then s.setCtx c { x with backlog := x.backlog ++ [e] }
    else s.setCtx c { x with nLost := x.nLost + 1, cqOverflow := true }

/-- An event of a context (R396): to its ring, else to the module event log (R209, R395). -/
def State.ctxEvent (s : State) (c ev : Nat) (data : List Byte) (ext : Nat) : State :=
  match s.ctx? c with
  | none => s
  | some x =>
    if x.hostLost then s
    else
      let e := leBytes 8 s.clk.nt.toNat ++ fit 16 data ++ leBytes 4 x.evSeq.toNat ++ leBytes 1 ev ++ leBytes 1 ext
        ++ leBytes 1 (b2n !s.time.ntValid) ++ leBytes 1 3
      let s := s.setCtx c { x with evSeq := x.evSeq + 1 }
      if !x.idle && x.cqRoom then ((s.writeBacklog c 1024).postEntry c e).count 0x0B01 c (fun q => q == 0) 1
      else
        let s := s.modCtx c fun x => { x with nDiverted := x.nDiverted + 1 }
        s.event (0x003F + ev) 0xFFFF (e ++ leBytes 2 c)

/-! ### Ledgers (R279 to R282) -/

/-- The jobs a context takes part in: those of its QPs, domain, regions and nodes. A context has no job of its own (DEDUCED, log
32). -/
def State.ctxJobs (s : State) (c : Nat) : List Nat :=
  (s.qps.filterMap fun e => if e.2.owner = c then some e.2.job else none)
    ++ (s.domains.filterMap fun e => if e.1 = c then some e.2.job else none)
    ++ (s.mem.regions.filterMap fun e => if e.2.valid ∧ e.2.owner = c then some e.2.job else none)
    ++ (s.nodes.filterMap fun e => if e.2.owner = c then some e.2.job else none)

/-- Two contexts share a job. -/
def State.sameJob (s : State) (a b : Nat) : Bool := (s.ctxJobs a).any fun j => (s.ctxJobs b).contains j

/-- A ring of context `c` may wait on or update ledger `l` (R282). -/
def State.ledgerOk (s : State) (c l : Nat) : Bool :=
  match Tbl.get? s.ledgers l with
  | some g => g.owner == c || (g.share && s.sameJob c g.owner)
  | none => false

/-- COUNT at its largest (R280). -/
def ledgerMax : Nat := 2 ^ 63 - 1

/-! ### Chains -/

def State.chain? (s : State) (c serial : Nat) : Option Chain :=
  (s.ctx? c).bind fun x => x.chains.find? fun h => h.serial == serial

def State.modChain (s : State) (c serial : Nat) (f : Chain → Chain) : State :=
  s.modCtx c fun x => { x with chains := x.chains.map fun h => if h.serial = serial then f h else h }

/-! ### Instance numbers (R255) -/

def Chain.collNode (h : Chain) : Nat := h.f 16 2 % 16384

/-- The nodes of the member whose stripe-0 node is `lead`. -/
def State.memberNodes (s : State) (lead : Nat) : List (Nat × Node) := s.nodes.filter fun e => e.2.lead == lead

/-- The number, from NEXT_INSTANCE on, that the `j`-th entry after those that have one takes. -/
def Node.number (x : Node) (j : Nat) : Nat :=
  (((List.range 128).map fun k => (x.next + k) % 128).filter fun n => !x.skipped.contains n).getD j x.next

/-- The number is used up: NEXT_INSTANCE is the first that is not, and the instance's context is free unless its entry has started. -/
def Node.pass (x : Node) (num : Nat) : Node :=
  let used := num :: x.skipped
  let next := (((List.range 128).map fun k => (x.next + k) % 128).find? fun n => !used.contains n).getD x.next
  let ahead (n : Nat) : Nat := (n + 128 - x.next) % 128
  { x with next := next, skipped := used.filter fun n => decide (ahead next < ahead n), insts := x.insts.filter fun i => i.started || i.num != num }

/-- The chain is a COLL entry of a member of context `c`, and has not started. -/
def State.awaitsNumber (s : State) (c : Nat) (h : Chain) : Bool :=
  h.op == opColl && (h.st == .waiting || h.st == .queued || h.st == .prepared)
    && match s.node? h.collNode with
      | some x => x.owner == c && x.lead == h.collNode
      | none => false

/-- A chain ends without starting: a COLL entry takes its instance number all the same, after those of the entries before it (R255). -/
def State.passEntry (s : State) (c serial : Nat) : State :=
  match s.ctx? c, s.chain? c serial with
  | some x, some h =>
    if s.awaitsNumber c h then
      let j := ((x.chains.takeWhile fun k => k.serial != serial).filter fun k => s.awaitsNumber c k && k.collNode == h.collNode).length
      (s.memberNodes h.collNode).foldl (fun s e => s.modNode e.1 fun y => y.pass (y.number j)) s
    else s
  | _, _ => s

/-- A chain's operation has completed with a code; it retires by CHAIN_RETIRE. -/
def State.chainDone (s : State) (c serial code : Nat) : State :=
  (s.passEntry c serial).modChain c serial fun h => if h.st = .done then h else { h with st := .done, code := code }

/-- A chain's operation has completed, with the values of its completion entry (R391). -/
def State.chainDoneWith (s : State) (c serial code value a b id flags : Nat) : State :=
  (s.passEntry c serial).modChain c serial fun h =>
    if h.st = .done then h
    else { h with st := .done, code := code, value := value, countA := a, countB := b, ident := id, flags := flags }

/-! ### Updates of ledgers (R280, R281) -/

/-- A held WAIT_LEDGER entry is released (R281). -/
def State.wakeHeld (s : State) (c : Nat) (h : Chain) : State :=
  let s := if h.passed then s.modChain c h.serial fun h => { h with passed := false } else s
  if h.held then
    let t := h.waitLedger % 64
    ((s.clCount t 4).count 0x0702 t qAny 1).modChain c h.serial fun h => { h with held := false }
  else s

/-- The test of a ledger for a chain that waits on it: POISON ends the chain ABORTED, and a COUNT that has reached the threshold releases it,
whatever the ledger becomes before the walk comes to it (R281). -/
def State.testWaiter (s : State) (g : Ledger) (c : Nat) (h : Chain) : State :=
  if g.poison then (s.wakeHeld c h).chainDone c h.serial ccAborted
  else if h.threshold ≤ g.count then (s.wakeHeld c h).modChain c h.serial fun h => { h with passed := true }
  else s

/-- Every ring that ledger `l` holds is tested after an update of it (R281). -/
def State.testWaiters (s : State) (l : Nat) (g : Ledger) : State :=
  s.ctxs.foldl (fun s e => match e.2.chains.find? fun h => h.st == .waiting && h.held && h.waitLedger == l with
    | some h => s.testWaiter g e.1 h
    | none => s) s

/-- A ledger holds `g` after an update at its home tile, which counts it (R280, R287). -/
def State.ledgerSetTo (s : State) (l : Nat) (g : Ledger) : State :=
  let t := l % 64
  let s := { s.wake with ledgers := Tbl.set s.wake.ledgers l g }
  ((s.clCount t 3).count 0x0701 t qAny 1).testWaiters l g

/-- COUNT goes up, and POISON is set when `poison` (R280). -/
def State.ledgerAdd (s : State) (l n : Nat) (poison : Bool) : State :=
  match Tbl.get? s.ledgers l with
  | none => s
  | some g =>
    let s := s.ledgerSetTo l { g with count := min ledgerMax (g.count + n), poison := g.poison || poison }
    if poison then s.clCount (l % 64) 5 else s

/-- COUNT takes a value, and POISON is cleared (R280). -/
def State.ledgerSet (s : State) (l v : Nat) : State :=
  match Tbl.get? s.ledgers l with
  | none => s
  | some g => s.ledgerSetTo l { g with count := min ledgerMax v, poison := false }

/-- A chain retires (R389): DONE_LEDGER first, then the completion entry, and OWED when that has been written. A RECV that is posted
writes nothing. -/
def State.retire (s : State) (c : Nat) (h : Chain) : State :=
  let s := if h.doneEn && s.ledgerOk c h.doneLedger then
      s.ledgerAdd h.doneLedger 1 (!(h.code == ccOk || h.code == ccTruncated))
    else s
  let s := s.modCtx c fun x => { x with chains := x.chains.filter fun k => k.serial ≠ h.serial }
  if (h.cqe && !(h.op == opRecv && h.code == ccOk)) || h.code != ccOk then
    (s.postEntry c (cqeBytes h.cookie h.value h.countA h.countB h.ident h.code h.op h.flags 0)).count 0x0B01 c (qMask h.tc) 1
  else (s.modCtx c fun x => { x with owed := x.owed - 1 }).drained c

/-- DRAINING begins (R398): every chain that has not started completes ABORTED. -/
def State.drain (s : State) (c : Nat) : State :=
  match s.ctx? c with
  | none => s
  | some x =>
    let s := x.chains.foldl (fun s h => match h.st with
      | .started | .done => s
      | _ => (s.chainDone c h.serial ccAborted).modChain c h.serial fun h => { h with payload := none, segs := [] }) s
    s.modCtx c fun x =>
      let x := { x with enable := false, openTiming := none }
      if x.owed = 0 then { x with idle := true, backlog := [] } else x

/-- A context is fenced (R399); one that a fence already drains takes no second one. -/
def State.fenceCtx (s : State) (c cause : Nat) : State :=
  match s.ctx? c with
  | none => s
  | some x =>
    if c ≥ 4096 || x.hostLost || (x.fenced && !x.enable) then s
    else
      let s := (s.setCtx c { x with fenced := true, fenceCause := cause }).drain c
      s.event 0x0033 0xFFFF (leBytes 1 x.ep ++ [(0 : Byte)] ++ leBytes 2 c ++ leBytes 1 cause)

/-! ### Reading entries (R376, R379, R382, R385) -/

/-- A launch target lies beyond the horizon at submission (R54). -/
def State.beyondHorizon (s : State) (timing : Option (List Byte)) : Bool := match timing with
  | some t => bit (field t 3 1) 0 && decide (circ 64 (field t 16 8) s.clk.nt.toNat > (s.time.horizon * msTicks : Nat))
  | none => false

/-- ID of the completion entry of a work entry that no operation's result fills (R391): the QPN, a COLL's node, else 0. -/
def entryIdent (e : List Byte) : Nat :=
  let op := field e 0 1
  if op = opColl then field e 16 2 % 16384
  else if (1 ≤ op ∧ op ≤ 3) ∨ op = opAtomic ∨ (opCancel ≤ op ∧ op ≤ opLedgerSet) ∨ op = opNop then field e 4 4 % 2 ^ 22
  else 0

/-- A chain is accepted: it owes a completion (R379). A broken one completes INVALID_ENTRY at once (R385), and one whose target lies
beyond the horizon ABORTED (R54). -/
def State.accept1 (s : State) (c : Nat) (timing : Option (List Byte)) (work : List Byte) (ok : Bool) : State :=
  let serial := ((s.ctx? c).map (·.nextSerial)).getD 0
  let s := s.modCtx c fun x =>
    let h : Chain := { serial := x.nextSerial, timing := timing, work := work, st := if ok then .waiting else .done, ready := false,
                       held := false, passed := false, payload := none, segs := [], code := if ok then ccOk else ccInvalid, value := 0,
                       countA := 0, countB := 0, ident := entryIdent work, flags := 0 }
    { x with chains := x.chains ++ [h], nextSerial := x.nextSerial + 1, owed := x.owed + 1, nChains := x.nChains + 1,
             nInvalid := if ok then x.nInvalid else x.nInvalid + 1 }
  if ok && s.beyondHorizon timing then s.chainDone c serial ccAborted else s

/-- A TIMING entry agrees with its work entry (R383). -/
def timingOk (t w : List Byte) : Bool :=
  field t 0 1 == opTiming && reservedOk t && bit (field t 1 1) 0 && !bit (field t 1 1) 1 && !bit (field t 1 1) 4 && field t 4 4 == field w 4 4 && field t 2 1 == field w 2 1

/-- One entry is read (R382, R385). -/
def State.readEntry (s : State) (c : Nat) (e : List Byte) : State :=
  match s.ctx? c with
  | none => s
  | some x =>
    let first := bit (field e 1 1) 0
    let last := bit (field e 1 1) 1
    let s := s.setCtx c { x with sqHead := x.sqHead + 1, openTiming := none }
    match x.openTiming with
    | none =>
      if first && last then s.accept1 c none e (field e 0 1 != opTiming && s.entryOk c e)
      else if first && field e 0 1 == opTiming then s.modCtx c fun y => { y with openTiming := some e }
      else s.accept1 c none e false
    | some t =>
      if first then
        let s := s.accept1 c (some t) t false
        if last then s.accept1 c none e (field e 0 1 != opTiming && s.entryOk c e)
        else if field e 0 1 = opTiming then s.modCtx c fun y => { y with openTiming := some e }
        else s.accept1 c none e false
      else if last && field e 0 1 != opTiming && timingOk t e && s.entryOk c e then s.accept1 c (some t) e true
      else s.accept1 c (some t) e false

/-- How many chains the next entry completes or breaks: as many slots of the completion ring it needs (R379, R385). -/
def Ctx.chainsOf (x : Ctx) (e : List Byte) : Nat :=
  let first := bit (field e 1 1) 0
  (if x.openTiming.isSome && first then 1 else 0) + (if first && !bit (field e 1 1) 1 && field e 0 1 == opTiming then 0 else 1)

/-- The entries of one read, in ring order, as far as the completion ring still has room for their chains; the others are read again. -/
def State.readEntries (s : State) (c : Nat) (data : List Byte) : Nat → State
  | 0 => s
  | n + 1 =>
    match s.ctx? c with
    | none => s
    | some x =>
      if x.roomFor (x.chainsOf (fit 64 data)) then (s.readEntry c (fit 64 data)).readEntries c (data.drop 64) n else s

/-- How many entries a read takes now: 1 to 8 contiguous ones up to SQ_TAIL and the ring's end, each leaving room for its
completion (R379). -/
def Ctx.readCount (x : Ctx) : Nat :=
  let avail := (x.sqTail - x.sqHead).toNat
  let toEnd := x.sqSize - x.sqHead.toNat % x.sqSize
  let room := x.cqSize - (x.owed + x.cqOcc + x.backlog.length)
  min 8 (min avail (min toEnd room))

/-- An entry read of `n` entries at SQ_HEAD, as a supervisor access (R375, R379). -/
def State.fetchEntries (s : State) (c n tries : Nat) : State :=
  match s.ctx? c with
  | none => s
  | some x =>
    let s := s.setCtx c { x with reading := true }
    s.issue (.sqFetch c n tries) c (x.ringSpace (x.sqBase + 64 * (x.sqHead.toNat % x.sqSize))) false [] (64 * n) none

end Sys2Proof.Machine
end

