-- ==== Sys2Proof/Machine/Requester.lean ====
section
/-! DEFINITION. The requester side of queue pairs: packets, sealing, sending, retransmission and completion order (R45, R48, R63, R66,
R88, R98, R101, R165, R173 to R181, R190, R192, R197 to R203, R211 to R214, R539, R554). -/
namespace Sys2Proof.Machine

/-! ### When the module sends for its endpoints -/

/-- LOST under HOLD, or NT never loaded: endpoint traffic is neither injected nor placed (R48). -/
def State.timeHeld (s : State) : Bool := decide (s.time.status = .lost) && !(s.time.lostRun && s.time.ntValid)

/-- Packets other than CTL may be injected (R48, R63, R517). -/
def State.mayInject (s : State) : Bool := s.works && !s.timeHeld && s.route.valid && !s.faults.stopped

/-! ### Sequence numbers (R179, R214) -/

/-- The value with the low `w` bits `v` that lies nearest to `ref`, in 48 bits (R214). -/
def nearest (w ref v : Nat) : Nat := (((ref : Int) + circ w v ref) % (2 ^ 48 : Nat)).toNat

def psnBits (n : Nat) : Nat := n % 2 ^ 24

/-! ### Opcodes (R174) and payload limits (R171, R193, R539) -/

def tPut : Nat := 0x00
def tSend : Nat := 0x01
def tGet : Nat := 0x02
def tAtomic : Nat := 0x03
def tGetRsp : Nat := 0x08
def tAtomicRsp : Nat := 0x09
def tAck : Nat := 0x0C
def tNak : Nat := 0x0D

/-- E of an opcode. -/
def extLen (op : Nat) : Nat :=
  if op = tPut ∨ op = tGetRsp ∨ op = tAtomicRsp ∨ op = tAck then 16 else if op = tNak then 8 else 32

def isRequest (op : Nat) : Bool := op ≤ 3

/-- Payload bytes of one packet of an opcode on a slot (R171, R539). -/
def Qp.payloadMax (q : Qp) (tc op : Nat) : Nat :=
  if tc = 0 then (if op = tSend then 192 else 208) - (if q.prot then 16 else 0)
  else 256 <<< q.mtuCode

/-- P of R193. -/
def Qp.rspMax (q : Qp) (tc : Nat) : Nat := q.payloadMax tc tGetRsp

/-! ### Sealing (R211 to R214) -/

/-- The nonce (R213). -/
def nonceOf (src : BitVec 20) (srcQpn kind copy retry eseq : Nat) : Nat :=
  at_ src.toNat 76 + at_ (srcQpn % 2 ^ 22) 54 + at_ kind 52 + at_ copy 51 + at_ retry 48 + eseq % 2 ^ 48

/-- Additional data: the route header with LEVEL, HOPS and CONG zero, then the transport header and its extension (R212). -/
def aadOf (h : RouteHdr) (t : TransHdr) (ext : List Byte) : List Byte :=
  ({ h with level := 0, hops := 0, cong := 0 } : RouteHdr).bytes ++ t.bytes ++ ext

/-- KIND of the nonce. -/
def nonceKind (op : Nat) : Nat := if isRequest op then 0 else if op ≤ 0x09 then 1 else 2

/-- A transport packet, its LEN taken from what follows the route header; sealed when PROT is set. -/
def State.buildPacket (s : State) (q : Qp) (h : RouteHdr) (t : TransHdr) (ext payload : List Byte) (eseq : Nat) : State × Packet :=
  let len := 32 + ext.length + payload.length + (if t.prot = 1 then 16 else 0)
  let h := { h with len := BitVec.ofNat 14 len }
  if t.prot = 1 then
    let nonce := nonceOf h.src t.srcQpn.toNat (nonceKind t.opcode.toNat) h.copy.toNat t.retry.toNat eseq
    let sealed_ := Config.gcmSeal (q.tkey.getD []) nonce (aadOf h t ext) payload
    (s.modSec fun x => { x with gcmTx := x.gcmTx + 1 }, { hdr := h, body := t.bytes ++ ext ++ sealed_ })
  else (s, { hdr := h, body := t.bytes ++ ext ++ payload })

/-! ### Addresses and policy (R66, R89, R165, R554) -/

/-- FEID of the endpoint a context's traffic comes from; engine contexts use EP0 (log 36). -/
def State.srcFeid (s : State) (c : Nat) : BitVec 20 :=
  feidOf s.moduleId (match s.ctx? c with | some x => x.ep | none => 0)

/-- Tile of a context. -/
def State.ctxTile (s : State) (c : Nat) : Nat := ((s.ctx? c).map (·.tile)).getD (c % 64)

/-- The policy of a job (R66). -/
def State.jobPolicy (s : State) (job : Nat) : Nat :=
  match Tbl.get? s.route.jobs job with
  | some d => if d.policy = 0 then s.route.policy else d.policy
  | none => s.route.policy

/-- Translation of a rank (R66): FEID, PSET and policy. -/
def State.rankOf (s : State) (job rank : Nat) : Option (BitVec 20 × Nat × Nat) :=
  match Tbl.get? s.route.jobs job with
  | none => none
  | some d =>
    if rank ≥ d.count then none
    else match Tbl.get? s.route.ranks (d.base + rank) with
      | none => none
      | some e => if e.valid then some (e.feid, e.pset, s.jobPolicy job) else none

/-- Where a message of a QP goes: the stored peer, or its rank translated (R69, R165). -/
def State.peerOf (s : State) (q : Qp) : Option (BitVec 20 × Nat × Nat) :=
  if q.addrRank then s.rankOf q.job q.peerRank else some (q.peer, q.pset, s.jobPolicy q.job)

/-! ### Paths -/

/-- The path of a channel that keeps one: chosen again only while no packet but `own`, which has not been sent before, is unacknowledged
(R98, R99). -/
def State.keptPath (s : State) (qpn slot : Nat) (own : Option Nat) (r : PathReq) : Option Path × State :=
  let ch := s.chan qpn slot
  match ch.path, ch.tracks.any fun k => !k.acked && some k.psn != own with
  | some k, true => (some { cls := k.cls, level := k.level, via := k.via, cand := k.cand, flowHash := k.flowHash }, s)
  | _, _ =>
    match s.orderedPath r with
    | none => (none, s)
    | some p => (some p, s.modChan qpn slot fun c =>
        { c with path := some { cls := p.cls, level := p.level, via := p.via, cand := p.cand, flowHash := p.flowHash } })

/-- A packet of context `c` is injected: LEN is charged to the context's bucket, once for the two copies of a TC0 packet, and every packet is
counted (R140, R150, R525). -/
def State.chargeCtx (s : State) (c : Nat) (h : RouteHdr) : State :=
  let tc := h.tc.toNat
  let len := h.len.toNat
  let s := s.count 0x0B03 c (qMask tc) len
  s.modCtx c fun x =>
    if x.bucket.en && bit x.classMask tc && h.copy == 0 then { x with bucket := x.bucket.charge s.clk.now len } else x

/-- Inject one packet of QP `qpn` with a path; with none, it is counted and lost (R90). -/
def State.sendOn (s : State) (q : Qp) (t : Nat) (r : PathReq) (p : Option Path) (vn copy : Nat) (ordered : Bool) (th : TransHdr)
    (ext payload : List Byte) (eseq : Nat) : State :=
  match p with
  | none => s.noPath (feidGroup r.dst)
  | some p =>
    let b := s.buildPacket q (s.header r p vn ordered copy 0) th ext payload eseq
    (b.1.chargeCtx q.owner b.2.hdr).inject t b.2

/-! ### Requests -/

/-- Send, or send again, the packet of a tracker: both copies of a TC0 request (R101, R203), one path for an ORDERED channel, and
a path of its own for each SPRAYED transmission (R88, R199). -/
def State.sendTrack (s : State) (qpn slot : Nat) (k : Track) : State :=
  match s.qp? qpn with
  | none => s
  | some q =>
    if !s.mayInject then s
    else
      let ch := q.chan slot
      let t := qpn % 64
      let r : PathReq := { tile := t, dst := k.dst, src := s.srcFeid q.owner, tc := ch.tc, pset := k.pset, policy := k.policy,
                           qp := qpn, psn := psnBits k.psn + at_ k.retry 24 }
      let th := { k.th with retry := BitVec.ofNat 3 k.retry, ackReq := if k.retry = 0 then k.th.ackReq else 1 }
      let s := s.count 0x0500 t qAny (if ch.tc = 0 then 2 else 1)
      if ch.tc = 0 then
        let p0 := s.tc0Path r 0
        let s := if p0.2 then { s with route := { s.route with tc0PairMissing := s.route.tc0PairMissing + 1 } } else s
        let s := s.sendOn q t r p0.1 3 0 ch.ordered th k.ext k.payload k.psn
        s.sendOn q t r (s.tc0Path r 1).1 3 1 ch.ordered th k.ext k.payload k.psn
      else if ch.ordered then
        let p := s.keptPath qpn slot (if k.retry = 0 then some k.psn else none) r
        p.2.sendOn q t r p.1 0 0 true th k.ext k.payload k.psn
      else s.sendOn q t r (s.sprayPath r) 0 0 false th k.ext k.payload k.psn

/-- The request header of a packet (R173). -/
def requestHdr (q : Qp) (qpn : Nat) (op psn : Nat) (first last notify : Bool) (ssn ledger : Nat) : TransHdr :=
  { opcode := BitVec.ofNat 5 op, first := BitVec.ofNat 1 (b2n first), last := BitVec.ofNat 1 (b2n last),
    ackReq := BitVec.ofNat 1 (b2n (last || psn % 8 == 7)), prot := BitVec.ofNat 1 (b2n q.prot), notify := BitVec.ofNat 1 (b2n notify),
    gen := BitVec.ofNat 8 q.gen, dstQpn := BitVec.ofNat 22 q.peerQpn, psn := BitVec.ofNat 24 psn, srcQpn := BitVec.ofNat 22 qpn,
    ssn := BitVec.ofNat 16 (if op = tSend then ssn else 0), retry := 0, rsvd := 0,
    ledger := BitVec.ofNat 20 (if notify then ledger else 0) }

/-- Trackers of a tile in use (R197). -/
def State.trackersOf (s : State) (t : Nat) : Nat :=
  (s.qps.map fun e => if e.1 % 64 = t then ((e.2.chans.map fun c => c.tracks.length).sum) else 0).sum

/-- oldest_open (R181). -/
def Chan.oldestOpen (c : Chan) : Nat := (c.rsps.map (·.psn)).foldl min c.sndCum

/-- ATOMICs outstanding on a channel (R181). -/
def Chan.atomicsOut (c : Chan) : Nat := (c.tracks.filter fun k => k.th.opcode.toNat = tAtomic).length

/-- A new request PSN may be assigned (R181, R197). -/
def State.windowOpen (s : State) (qpn slot : Nat) : Bool :=
  match s.qp? qpn with
  | none => false
  | some q =>
    let c := q.chan slot
    decide (c.sndNext - c.oldestOpen < 2 ^ q.peerWinLog2) && decide (s.trackersOf (qpn % 64) < 32768)

/-- `n` RPSNs may be reserved (R181). -/
def Qp.rspRoom (q : Qp) (slot n : Nat) : Bool :=
  let c := q.chan slot
  decide (c.rspNext + n ≤ c.rspBase + 2 ^ q.winLog2)

/-- Extension words of a request (R175), most significant byte first. -/
def words (l : List Nat) : List Byte := (l.map fun w => beBytes 8 (w % 2 ^ 64)).flatten

/-- The next packet of message `m` with its payload: the tracker, the message after it, and the RPSNs it reserves. -/
def Qp.nextPacket (q : Qp) (qpn slot : Nat) (m : Msg) (payload : List Byte) (now : Nat) : Track × Msg × List Rsp :=
  let c := q.chan slot
  let psn := c.sndNext
  let first := m.sent == 0
  let mk (op : Nat) (last : Bool) (ext : List Byte) (pay : List Byte) : Track :=
    { psn := psn, msg := m.id, th := requestHdr q qpn op psn first last m.notify m.ssn m.ledger, ext := ext, payload := pay,
      dst := m.dst, pset := m.pset, policy := m.policy, retry := 0, firstSent := now, lastSent := now, acked := false,
      ctxRetry := false, backoffAt := none }
  let p := q.rspMax c.tc
  if m.opcode = tGet then
    let n := min (16 * p) (m.total - m.sent)
    let last := m.sent + n ≥ m.total
    let k := ceilDiv n p
    let ext := words [at_ m.rkey 32 + n, (m.roff + m.sent) % 2 ^ 48, at_ m.lkey 32 + psnBits c.rspNext, (m.loff + m.sent) % 2 ^ 48]
    let rs := (List.range k).map fun i => ({ rpsn := c.rspNext + i, psn := psn, msg := m.id, lkey := m.lkey,
                                             loff := m.loff + m.sent + i * p, len := min p (n - i * p), busy := false } : Rsp)
    (mk tGet last ext [], { m with sent := m.sent + n, endRpsn := c.rspNext + k,
                                   endPsn := if last then some (psn + 1) else none }, rs)
  else if m.opcode = tAtomic then
    let ext := words [at_ m.rkey 32 + at_ m.aop 28 + psnBits c.rspNext, m.roff % 2 ^ 48, m.op0.toNat, m.op1.toNat]
    (mk tAtomic true ext [], { m with sent := 8, endRpsn := c.rspNext + 1, endPsn := some (psn + 1) },
      [{ rpsn := c.rspNext, psn := psn, msg := m.id, lkey := 0, loff := 0, len := 8, busy := false }])
  else
    let last := m.sent + payload.length ≥ m.total
    let ext :=
      if m.opcode = tPut then words [at_ m.rkey 32, (m.roff + m.sent / m.unit) % 2 ^ 48]
      else words [at_ m.comm 48 + at_ m.rank 26 + at_ (b2n m.rndv) 25, m.tagv.toNat,
                  at_ (if m.rndv then m.lastLen else m.total) 32 + (if m.rndv then 0 else m.sent), 0]
    (mk m.opcode last ext payload, { m with sent := m.sent + payload.length, endPsn := if last then some (psn + 1) else none }, [])

/-- Change message `id` of a channel. -/
def Chan.modMsg (c : Chan) (id : Nat) (f : Msg → Msg) : Chan :=
  { c with msgs := c.msgs.map fun x => if x.id = id then f x else x }

/-- A new request PSN is assigned a nanosecond or more after the one before it on its channel: until then time passes (R181). -/
def State.psnTurn (s : State) (qpn slot : Nat) : State :=
  let s := match (s.chan qpn slot).psnAt with
    | some a => s.reach (a + 256)
    | none => s
  s.modChan qpn slot fun c => { c with psnAt := some s.clk.now }

/-- Put the next packet of a message on its way. -/
def State.sendNext (s : State) (qpn slot : Nat) (m : Msg) (payload : List Byte) : State :=
  let s := s.psnTurn qpn slot
  match s.qp? qpn with
  | none => s
  | some q =>
    let r := q.nextPacket qpn slot m payload s.clk.now
    let s := s.modChan qpn slot fun c =>
      { c with sndNext := c.sndNext + 1, rspNext := c.rspNext + r.2.2.length, rsps := c.rsps ++ r.2.2, tracks := c.tracks ++ [r.1],
               msgs := c.msgs.map fun x => if x.id = m.id then { r.2.1 with fetching := false } else x }
    s.sendTrack qpn slot r.1

/-- The source or destination of context `c` at a key and offset. -/
def State.keySpace (s : State) (c key off : Nat) : Option Space :=
  match s.keyRegion key with
  | none => none
  | some r => some (match s.ctx? c with
      | some x => r.space off x.ep (!x.kernel)
      | none => r.space off 0 false)

/-- A message is given up with a code: nothing more of it is sent. -/
def Msg.giveUp (m : Msg) (code sndNext : Nat) : Msg :=
  { m with code := if m.code = 0 then code else m.code, fetching := false, endPsn := some (m.endPsn.getD sndNext), rndv := false }

/-- Send what the channel's window allows, in message order (R181); `n` bounds the packets. A payload in memory is fetched first. -/
def State.pump (s : State) (qpn slot : Nat) : Nat → State
  | 0 => s
  | n + 1 =>
    match s.qp? qpn with
    | none => s
    | some q =>
      let c := q.chan slot
      match c.msgs.find? fun m => m.endPsn.isNone with
      | none => s
      | some m =>
        if !(q.st == .rts && s.mayInject && s.pwr.st != .a2) || m.fetching || !s.windowOpen qpn slot then s
        else if m.opcode = tGet then
          if q.rspRoom slot (ceilDiv (min (16 * q.rspMax c.tc) (m.total - m.sent)) (q.rspMax c.tc)) then
            (s.sendNext qpn slot m []).pump qpn slot n
          else s
        else if m.opcode = tAtomic then
          if q.rspRoom slot 1 && decide (c.atomicsOut < 16) then (s.sendNext qpn slot m []).pump qpn slot n else s
        else
          let len := min (q.payloadMax c.tc m.opcode) (m.total - m.sent)
          match m.inline_, m.pre with
          | some d, _ => (s.sendNext qpn slot m ((d.drop m.sent).take len)).pump qpn slot n
          | none, some d => (s.sendNext qpn slot { m with pre := none } (fit len d)).pump qpn slot n
          | none, none =>
            if len = 0 then (s.sendNext qpn slot m []).pump qpn slot n
            else
              match s.keySpace q.owner m.lkey (m.loff + m.sent) with
              | none =>
                (s.modChan qpn slot fun c => c.modMsg m.id fun x => x.giveUp ccTranslation c.sndNext).pump qpn slot n
              | some sp =>
                let s := s.modChan qpn slot fun c => c.modMsg m.id fun x => { x with fetching := true }
                s.issue (.msgData qpn slot m.id) q.owner sp false [] len none

/-- Bound of a pump: the largest window and a packet more. -/
def pumpFuel : Nat := 16385

/-- A message as its fields; the rest is set when it is added. -/
def Msg.mk0 (owner : MsgOwner) (op total : Nat) : Msg :=
  { id := 0, owner := owner, opcode := op, dst := 0, pset := 0, policy := 0, total := total, sent := 0, inline_ := none, pre := none, lkey := 0,
    loff := 0, rkey := 0, roff := 0, unit := 1, notify := false, ledger := 0, ssn := 0, comm := 0, rank := 0, tagv := 0, rndv := false, lastLen := 0,
    aop := 0, op0 := 0, op1 := 0, endPsn := none, endRpsn := 0, fetching := false, served := false, code := 0, result := 0, astatus := 0 }

/-- Add a message to a channel: its peer is translated once, and a SEND takes the next SSN (R69, R173, R187). False: the rank
does not translate (R66). -/
def State.addMsg (s : State) (qpn slot : Nat) (m : Msg) : Bool × State :=
  match s.qp? qpn with
  | none => (false, s)
  | some q =>
    match s.peerOf q with
    | none => (false, s)
    | some (f, ps, pol) =>
      let s := s.modChan qpn slot fun c =>
        { c with msgs := c.msgs ++ [{ m with id := c.nextMsg, dst := f, pset := ps, policy := pol, ssn := c.sndSsn % 65536 }],
                 nextMsg := c.nextMsg + 1, sndSsn := if m.opcode = tSend then (c.sndSsn + 1) % 65536 else c.sndSsn }
      (true, s.pump qpn slot pumpFuel)

/-! ### Answers (R173, R190, R554) -/

/-- Send an answer of QP `qpn` to its peer: a response, an ACK or a NAK, on channel `slot`: on the kept path of an ORDERED channel, on that of
R98 on a TC0 channel, else spread, with `psnInput` the psn input of R88. In RANK mode the peer is the one
that PEER_RANK names by R66 when the answer is sent, and without a translation nothing is sent. -/
def State.answerPeer (s : State) (qpn : Nat) (q : Qp) (slot : Nat) (op psn retry eseq psnInput : Nat) (ext payload : List Byte) : State :=
  match s.mayInject, s.peerOf q with
  | true, some peer =>
    let c := q.chan slot
    let t := qpn % 64
    let th : TransHdr :=
      { opcode := BitVec.ofNat 5 op, first := 0, last := 0, ackReq := 0, prot := BitVec.ofNat 1 (b2n q.prot), notify := 0,
        gen := BitVec.ofNat 8 q.peerGen, dstQpn := BitVec.ofNat 22 q.peerQpn, psn := BitVec.ofNat 24 psn, srcQpn := BitVec.ofNat 22 qpn,
        ssn := 0, retry := BitVec.ofNat 3 retry, rsvd := 0, ledger := 0 }
    let r : PathReq := { tile := t, dst := peer.1, src := s.srcFeid q.owner, tc := c.tc, pset := peer.2.1, policy := peer.2.2,
                         qp := qpn, psn := psnInput }
    if c.ordered then
      let p := s.keptPath qpn slot none r
      p.2.sendOn q t r p.1 1 0 true th ext payload eseq
    else if c.tc = 0 then s.sendOn q t r (s.orderedPath r) 1 0 false th ext payload eseq
    else s.sendOn q t r (s.sprayPath r) 1 0 false th ext payload eseq
  | _, _ => s

/-- The next ASN of a channel. -/
def State.takeAsn (s : State) (qpn slot : Nat) : Nat × State :=
  ((s.chan qpn slot).asnTx, s.modChan qpn slot fun c => { c with asnTx := c.asnTx + 1 })

/-- SACK: bit i, the request PSN CUM + 1 + i has been placed (R175). -/
def Chan.sack (c : Chan) : Nat :=
  (List.range 64).foldl (fun a i => match Tbl.get? c.slots (c.rcvBase + 1 + i) with
    | some x => if x.placed then a + 2 ^ i else a
    | none => a) 0

/-- Send the channel's ACK: a new ASN, CUM, SACK and CONG_MASK (R190). -/
def State.sendAck (s : State) (qpn slot : Nat) : State :=
  let a := s.takeAsn qpn slot
  match a.2.qp? qpn with
  | none => a.2
  | some q =>
    let c := q.chan slot
    let s := a.2.modChan qpn slot fun c => { c with ackFrom := none, congMask := 0 }
    s.answerPeer qpn q slot tAck (psnBits a.1) 0 a.1 (psnBits a.1) (words [at_ (psnBits c.rcvBase) 40 + at_ c.congMask.toNat 32, c.sack]) []

/-- An event that the target acknowledges within ACK_DELAY: events within one delay share one ACK (R190). -/
def State.ackEvent (s : State) (qpn slot : Nat) : State :=
  match s.qp? qpn with
  | none => s
  | some q =>
    if (q.chan slot).tc = 0 || q.ackDelay = 0 then s.sendAck qpn slot
    else s.modChan qpn slot fun c => { c with ackFrom := some (c.ackFrom.getD s.clk.now) }

/-- An event that the target acknowledges within ACK_DELAY, while other events of the same placement may follow. -/
def State.ackMark (s : State) (qpn slot : Nat) : State :=
  s.modChan qpn slot fun c => { c with ackFrom := some (c.ackFrom.getD s.clk.now) }

/-- With no ACK_DELAY, the marked events of a placement share one ACK (R171, R190). -/
def State.ackFlush (s : State) (qpn slot : Nat) : State :=
  match s.qp? qpn with
  | none => s
  | some q => if ((q.chan slot).tc = 0 || q.ackDelay = 0) && (q.chan slot).ackFrom.isSome then s.sendAck qpn slot else s

/-! ### Retransmission (R197 to R202) -/

/-- RTO_k in ticks (R197). -/
def State.rto (s : State) (q : Qp) (k : Nat) : Nat := min (q.rtoBase * 2 ^ k * usTicks) s.ltTicks

/-- A tracker still needs its answer: unacknowledged, or a GET or ATOMIC whose responses are incomplete (log 35). -/
def Chan.needs (c : Chan) (k : Track) : Bool := !k.acked || c.rsps.any fun r => r.psn == k.psn

/-- Drop the trackers that need nothing more. -/
def Chan.freeTracks (c : Chan) : Chan := { c with tracks := c.tracks.filter fun k => c.needs k }

/-- Send a tracker's packet again: RETRY goes up (R198). -/
def State.resend (s : State) (qpn slot : Nat) (k : Track) : State :=
  let k := { k with retry := k.retry + 1, lastSent := s.clk.now, backoffAt := none }
  let s := s.modChan qpn slot fun c => { c with tracks := c.tracks.map fun j => if j.psn = k.psn then k else j }
  let s := s.tpCount (qpn % 64) 8
  (s.count 0x0501 (qpn % 64) qAny 1).sendTrack qpn slot k

/-- A retransmission of the packet is within its budget (R198). -/
def Qp.mayRetry (q : Qp) (k : Track) : Bool := decide (k.retry + 1 ≤ q.retryMax)

/-- Code of a message whose packet has spent its budget (R198). -/
def Track.failCode (k : Track) : Nat := if k.ctxRetry then ccCtxRetry else ccTimeout

end Sys2Proof.Machine
end

