-- ==== Sys2Proof/Machine/Matching.lean ====
section
/-! DEFINITION. Match domains: the match rule, its operations and their probes, the pool, and the completion of receives
(R217 to R243). -/
namespace Sys2Proof.Machine

/-! ### The match rule (R220, R221) -/

/-- A posted receive matches a message. -/
def Posted.matches (r : Posted) (m : InMsg) : Bool :=
  r.comm == m.comm && (r.any || r.rank == m.rank) && ((r.tagv ^^^ m.tagv) &&& r.mask) == 0

/-- An exact receive (R221). -/
def Posted.exact (r : Posted) : Bool := !r.any && r.mask == BitVec.allOnes 64

/-- The bin of a communicator, rank and tag. -/
def Domain.bin (d : Domain) (comm rank : Nat) (tagv : U64) : Nat :=
  Config.matchHash d.key.toNat comm rank tagv.toNat % 2 ^ d.nbinsLog2

/-- Posted chain of a message's bin, and the wildcard list, in PSEQ order. -/
def Domain.binPosted (d : Domain) (b : Nat) : List Posted := d.posted.filter fun r => r.exact && d.bin r.comm r.rank r.tagv == b
def Domain.wild (d : Domain) : List Posted := d.posted.filter fun r => !r.exact

/-- Unexpected records in ASEQ order: presented, and not paired. -/
def Domain.unexp (d : Domain) : List InMsg := d.msgs.filter fun m => m.presented && m.pair.isNone && !m.ended
def insertAseq (m : InMsg) : List InMsg → List InMsg
  | [] => [m]
  | x :: t => if m.aseq ≤ x.aseq then m :: x :: t else x :: insertAseq m t
def Domain.arrival (d : Domain) : List InMsg := d.unexp.foldr insertAseq []
def Domain.binUnexp (d : Domain) (b : Nat) : List InMsg := d.arrival.filter fun m => d.bin m.comm m.rank m.tagv == b

/-- Probes of a search along a chain: the entries compared up to the first that ends it, 1 for an empty chain (R241). -/
def chainProbes {α : Type} (ends : α → Bool) : List α → Nat
  | [] => 1
  | l => min l.length (l.findIdx ends + 1)

/-! ### Searches (R224, R225) -/

/-- The receive an arriving message pairs with: of the first match in its bin and the first in the wildcard list, the one posted
first (R224). -/
def Domain.findPosted (d : Domain) (m : InMsg) : Option Posted :=
  let p := (d.binPosted (d.bin m.comm m.rank m.tagv)).find? fun r => r.matches m
  let w := d.wild.find? fun r => r.matches m && (match p with | some q => r.pseq < q.pseq | none => true)
  w.orElse fun _ => p

/-- Probes of that search. -/
def Domain.arrivalProbes (d : Domain) (m : InMsg) : Nat :=
  let chain := d.binPosted (d.bin m.comm m.rank m.tagv)
  let p := chain.find? fun r => r.matches m
  let wild : List Posted := match p with
    | some q => d.wild.takeWhile fun r => r.pseq < q.pseq
    | none => d.wild
  chainProbes (fun r => r.matches m) chain + (if d.wild.isEmpty then 1 else if wild.isEmpty then 0 else chainProbes (fun r => r.matches m) wild)

/-- The unexpected message a receive pairs with (R225). -/
def Domain.findUnexp (d : Domain) (r : Posted) : Option InMsg :=
  (if r.exact then d.binUnexp (d.bin r.comm r.rank r.tagv) else d.arrival).find? fun m => r.matches m

/-- Probes of that search. -/
def Domain.postProbes (d : Domain) (r : Posted) : Nat :=
  chainProbes (fun m => r.matches m) (if r.exact then d.binUnexp (d.bin r.comm r.rank r.tagv) else d.arrival)

/-- Entries of the module's pool in use, over all domains (R219). -/
def State.entriesUsed (s : State) : Nat := (s.domains.map fun e => e.2.posted.length + e.2.unexp.length).sum

/-- The entries in use. -/
def State.usedEntries (s : State) : List Nat := (s.domains.map fun e => e.2.posted.map (·.entry) ++ e.2.unexp.map (·.entry)).flatten

/-- An entry for a new record: one that is free, of the module's choosing (R219, log 2). -/
def State.takeEntry (s : State) : Nat × State :=
  let used := s.usedEntries
  let r := s.choose 22 (fun i => !used.contains i) (((0 :: used.map (· + 1)).filter fun i => !used.contains i).min?)
  (r.1.getD 0, r.2)

/-! ### Messages of a domain -/

def Domain.msg? (d : Domain) (id : Nat) : Option InMsg := d.msgs.find? fun m => m.id == id
def Domain.modMsg (d : Domain) (id : Nat) (f : InMsg → InMsg) : Domain :=
  { d with msgs := d.msgs.map fun m => if m.id = id then f m else m }
/-- Change the live message of a channel with an SSN. -/
def Domain.modFlow (d : Domain) (qpn slot ssn : Nat) (f : InMsg → InMsg) : Domain :=
  { d with msgs := d.msgs.map fun m => if m.qpn = qpn ∧ m.slot = slot ∧ m.ssn = ssn ∧ m.conn = 0 then f m else m }
def State.modInMsg (s : State) (c id : Nat) (f : InMsg → InMsg) : State := s.modDomain c fun d => d.modMsg id f

/-- Granules a message of `n` bytes takes. -/
def granulesFor (n : Nat) : Nat := ceilDiv n 256

/-- A run of `n` free granules; granule 0, the discard granule, is never allocated (R236). -/
def Domain.findGranules (d : Domain) (n : Nat) : Option Nat :=
  let ok (at0 : Nat) : Bool := at0 + n ≤ d.poolGranules && d.used.all fun r => r.1 + r.2 ≤ at0 || at0 + n ≤ r.1
  ((1 :: d.used.map fun r => r.1 + r.2).filter ok).min?

/-- Device address of a byte of a message's pool data. -/
def Domain.poolDa (d : Domain) (granule off : Nat) : Nat := d.base + 256 * granule + off

/-- The granules of a message return to the pool once it is paired and every copy has finished (R232). -/
def State.freeGranules (s : State) (c id : Nat) : State :=
  s.modDomain c fun d =>
    match d.msg? id with
    | some m =>
      match m.pool, m.pair with
      | some g, some _ =>
        if m.copies = 0 ∧ m.staging = 0 then
          { d.modMsg id fun x => { x with pool := none, parts := [] } with used := d.used.filter fun r => r.1 ≠ g }
        else d
      | _, _ => d
    | none => d

/-- Remove a message and its granules. -/
def Domain.removeMsg (d : Domain) (id : Nat) : Domain :=
  match d.msg? id with
  | some m => { d with msgs := d.msgs.filter fun x => x.id ≠ id,
                       used := match m.pool with | some g => d.used.filter fun r => r.1 ≠ g | none => d.used }
  | none => d

/-! ### Pairing (R231, R232, R236) -/

/-- Bytes the receive of a message takes: the lower of MSG_LEN and LENGTH. -/
def InMsg.takes (m : InMsg) : Nat := match m.pair with
  | some r => min m.msgLen r.length
  | none => 0

/-- Copy one piece of pool data into the paired receive's buffer, up to its LENGTH (R232): it is read from the pool, then written. A buffer
whose key no longer serves ends the receive with TRANSLATION (R235). -/
def State.copyPart (s : State) (c id off len : Nat) : State :=
  match s.domain? c with
  | none => s
  | some d =>
    match d.msg? id with
    | none => s
    | some m =>
      match m.pool, m.pair with
      | some g, some r =>
        let n := min len (r.length - off)
        if n = 0 || m.code ≠ 0 then s
        else
          match s.keySpace c r.lkey (r.loff + off) with
          | none => s.modInMsg c id fun x => { x with code := ccTranslation }
          | some _ =>
            (s.modInMsg c id fun x => { x with copies := x.copies + 1 }).issue (.poolRead c id off) c (.hbm (d.poolDa g off)) false [] n none
      | _, _ => s

/-- The key that names the discard granule in internal GETs: its index names no region (log 37). -/
def discardKey : Nat := 0xFFFFFFFF

/-- An internal GET of a rendezvous. With a peer rank that no longer translates nothing is sent, and the receive's code is TRANSLATION (R66). -/
def State.rndvGet (s : State) (c : Nat) (m : InMsg) (g : Msg) : State :=
  let a := s.addMsg m.qpn m.slot g
  if a.1 then a.2
  else s.modInMsg c m.id fun x => { x with gets := x.gets - 1, code := if x.code = 0 then ccTranslation else x.code }

/-- A teller issues the GETs of a paired rendezvous (R236). -/
def State.rendezvous (s : State) (c : Nat) (m : InMsg) (r : Posted) : State :=
  let n := min m.msgLen r.length
  let get (off len lkey loff : Nat) : Msg :=
    { Msg.mk0 (.rndv c m.id) tGet len with lkey := lkey, loff := loff, rkey := m.rkey, roff := m.offset + off }
  let last := decide (r.length < m.msgLen)
  let s := s.modInMsg c m.id fun x => { x with gets := b2n (n ≠ 0) + b2n last }
  let s := if n ≠ 0 then s.rndvGet c m (get 0 n r.lkey r.loff) else s
  if last then s.rndvGet c m (get (m.msgLen - 1) 1 discardKey 0) else s

/-- A message and a receive pair (bind of R224 and R225). -/
def State.bind (s : State) (c id : Nat) (r : Posted) : State :=
  let s := s.modInMsg c id fun m => { m with pair := some r }
  match (s.domain? c).bind fun d => d.msg? id with
  | none => s
  | some m =>
    if m.rndv then s.rendezvous c m r
    else (m.parts.foldl (fun s p => s.copyPart c id p.1 p.2) s).freeGranules c id

/-! ### Receive completions (R233, R234) -/

/-- Nothing of a paired message is on its way to memory, and its data and GETs are all in, or it is given up. -/
def InMsg.ready (m : InMsg) : Bool :=
  m.pair.isSome && m.copies == 0 && m.staging == 0 && (m.ended || (m.complete && (!m.rndv || m.gets == 0)))

/-- No earlier message of its channel is still in the domain (R234). Of a connection that has ended, only those count that are paired: a record
that is not may stay for good (R242; DESIGN CHOICE, log 157). -/
def Domain.inTurn (d : Domain) (m : InMsg) : Bool :=
  d.msgs.all fun x => !(x.qpn == m.qpn && x.slot == m.slot && x.id != m.id && x.conn == m.conn && (m.conn == 0 || x.pair.isSome)
    && decide (circ 16 x.ssn m.ssn < 0))

/-- Write the completion of a receive (R233). -/
def State.receiveDone (s : State) (c : Nat) (m : InMsg) (r : Posted) : State :=
  let t := s.ctxTile c
  let trunc := decide (r.length < m.msgLen)
  let cc := if m.code ≠ 0 then m.code else if trunc then ccTruncated else ccOk
  let s := if cc = ccTruncated then s.mtCount t 6 1 else s
  let s := s.modDomain c fun d => d.removeMsg m.id
  let s := if r.cqe || cc != ccOk then
      s.postUnsolicited c (cqeBytes r.cookie.toNat m.tagv.toNat (min m.msgLen r.length) m.msgLen m.rank cc opRecv 0 1)
    else s
  match r.ledger with
  | some l => s.ledgerAdd l 1 false
  | none => s

/-- Complete the receives that are ready, in SSN order within each channel. -/
def State.completeReceives (s : State) (c : Nat) : Nat → State
  | 0 => s
  | n + 1 =>
    match s.domain? c with
    | none => s
    | some d =>
      match d.msgs.find? fun m => m.ready && d.inTurn m with
      | none => s
      | some m =>
        match m.pair with
        | some r => (s.receiveDone c m r).completeReceives c n
        | none => s

/-- As many as the domain holds. -/
def State.completeAll (s : State) (c : Nat) : State :=
  match s.domain? c with
  | some d => s.completeReceives c d.msgs.length
  | none => s

/-! ### Operations (R223 to R227, R239 to R241) -/

/-- The receive a RECV entry posts (R244, R384). -/
def Chain.posted (h : Chain) : Posted :=
  { entry := 0, pseq := 0, cookie := BitVec.ofNat 64 h.cookie, tagv := BitVec.ofNat 64 (h.f 16 8), mask := BitVec.ofNat 64 (h.f 24 8),
    rank := h.f 32 4 % 2 ^ 22, any := bit (h.f 32 4) 22, comm := h.f 36 2, cqe := h.cqe,
    ledger := if h.notify then some (h.f 56 4 % 1048576) else none, lkey := h.f 40 4, length := h.f 44 4, loff := h.f 48 8 }

/-- A record can still be kept (R239, R240). -/
def State.entryRoom (s : State) : Bool := decide (s.entriesUsed < 4194304)

/-- A record more can be kept in a domain (R239, R240). -/
def State.unexpRoom (s : State) (d : Domain) : Bool := decide (d.unexp.length < d.maxUnexp) && s.entryRoom

/-- Present a message (R224): it takes its ASEQ, and pairs or becomes unexpected. With no match and no room it stays as it is, to be presented
again. -/
def State.present (s : State) (c id : Nat) : State :=
  match s.domain? c with
  | none => s
  | some d =>
    match d.msg? id with
    | none => s
    | some m =>
      let t := s.ctxTile c
      let found := d.findPosted m
      if m.presented || (found.isNone && !s.unexpRoom d) then s
      else
        let e := if found.isNone then s.takeEntry else (0, s)
        let s := e.2.modDomain c fun d =>
          { d.modMsg id fun x => { x with presented := true, aseq := d.nextAseq, entry := e.1 } with nextAseq := d.nextAseq + 1 }
        let s := s.modChan m.qpn m.slot fun ch => { ch with rcvSsn := (ch.rcvSsn + 1) % 65536 }
        match found with
        | some r =>
          let s := s.modDomain c fun d => { d with posted := d.posted.filter fun x => x.pseq ≠ r.pseq }
          ((s.mtCount t 1 1).bind c id r).completeAll c
        | none => (s.mtCount t 2 1).count 0x0601 t qAny 1

/-- Post the receive of a RECV entry (R225, R239). -/
def State.post (s : State) (c serial : Nat) : State :=
  match s.domain? c, s.chain? c serial with
  | some d, some h =>
    let t := s.ctxTile c
    let r := { h.posted with pseq := d.nextPseq }
    match d.findUnexp r with
    | some m =>
      let s := s.modDomain c fun d => { d with nextPseq := d.nextPseq + 1 }
      (((s.mtCount t 3 1).bind c m.id r).chainDone c serial ccOk).completeAll c
    | none =>
      if d.maxPosted ≤ d.posted.length || !s.entryRoom then (s.mtCount t 8 1).chainDone c serial ccListFull
      else
        let e := s.takeEntry
        (e.2.modDomain c fun d => { d with nextPseq := d.nextPseq + 1, posted := d.posted ++ [{ r with entry := e.1 }] }).chainDone c serial ccOk
  | _, _ => s

/-- PROBE: the search of R225 without unlinking (R227). -/
def State.probe (s : State) (c serial : Nat) : State :=
  match s.domain? c, s.chain? c serial with
  | some d, some h =>
    match d.findUnexp h.posted with
    | some m => s.chainDoneWith c serial ccOk m.tagv.toNat 0 m.msgLen m.rank 0
    | none => s.chainDoneWith c serial ccOk 0 0 0 0 2
  | _, _ => s

/-- A receive ends with ABORTED (R227, R243); a ledger it names counts (R280). -/
def State.receiveAborted (s : State) (c : Nat) (r : Posted) : State :=
  let s := s.postUnsolicited c (cqeBytes r.cookie.toNat 0 0 0 0 ccAborted opRecv 0 1)
  match r.ledger with
  | some l => s.ledgerAdd l 1 false
  | none => s

/-- CANCEL: the posted receive of lowest PSEQ with the cookie completes ABORTED (R227). -/
def State.cancel (s : State) (c serial : Nat) : State :=
  match s.domain? c, s.chain? c serial with
  | some d, some h =>
    let s := match d.posted.find? fun r => r.cookie == BitVec.ofNat 64 (h.f 16 8) with
      | some r =>
        (s.modDomain c fun d => { d with posted := d.posted.filter fun x => x.pseq ≠ r.pseq }).receiveAborted c r
      | none => s
    s.chainDone c serial ccOk
  | _, _ => s

/-! ### Teardown (R242, R243) -/

/-- What becomes of a message when its QP leaves RTS with a code (R242): a complete eager one stays, and one that is paired and has all its
data; of the others a paired one is to complete
with the code, and an unpaired one goes as soon as nothing more of it is on its way to the pool. -/
def InMsg.qpGone (m : InMsg) (conn code : Nat) : InMsg :=
  if m.complete && ((m.pair.isSome && m.gets == 0) || (m.presented && !m.rndv)) then { m with conn := conn }
  else { m with conn := conn, ended := true, code := code }

/-- A message that was given up unpaired is gone. -/
def InMsg.gone (m : InMsg) : Bool := m.ended && m.pair.isNone && m.staging == 0

/-- Messages given up unpaired leave the domain, and their granules return. -/
def State.dropEnded (s : State) (c : Nat) : State :=
  s.modDomain c fun d => (d.msgs.filter InMsg.gone).foldl (fun d m => d.removeMsg m.id) d

/-- A QP leaves RTS with a code (R242): its receives complete in SSN order (R234). -/
def State.matchQpGone (s : State) (c qpn code : Nat) : State :=
  let s := s.modDomain c fun d =>
    { d with msgs := d.msgs.map fun m => if m.qpn = qpn ∧ m.conn = 0 then m.qpGone (d.nextMsg + 1) code else m, nextMsg := d.nextMsg + 1 }
  (s.dropEnded c).completeAll c

/-- Insert a receive into a list in PSEQ order. -/
def insertPseq (r : Posted) : List Posted → List Posted
  | [] => [r]
  | x :: t => if r.pseq ≤ x.pseq then r :: x :: t else x :: insertPseq r t

/-- The receives of a domain that have not completed, paired ones among them, in PSEQ order. -/
def Domain.openReceives (d : Domain) : List Posted := (d.msgs.filterMap (·.pair)).foldr insertPseq d.posted

/-- An operation that waited for a teller finds its domain gone (log 85). -/
def State.opAborted (s : State) (c : Nat) : MatchOp → State
  | .present _ | .arrive _ => s
  | .post _ n | .probe _ n | .cancel _ n => s.chainDone c n ccAborted

/-- A domain ends: its receives complete ABORTED in PSEQ order, unless its context is lost, and its pool returns (R243). -/
def State.endDomain (s : State) (c : Nat) : State :=
  match s.domain? c with
  | none => s
  | some d =>
    let s := d.openReceives.foldl (fun s r => s.receiveAborted c r) s
    let s := d.busy.foldl (fun s o => s.opAborted c o) s
    let s := s.hbmZero d.base (256 * d.poolGranules)
    { s with domains := Tbl.erase s.domains c }

end Sys2Proof.Machine
end

