-- ==== Sys2Proof/Machine/Coll.lean ====
section
/-! DEFINITION. Collective nodes at work: their edges and windows, segments and slots, fan-out, barriers, completion and failure
(R248 to R263, R274, R276 to R278, R284, R285). -/
namespace Sys2Proof.Machine

/-! ### KINDs (R254) and window offsets (R258) -/

def ckBarrier : Nat := 0
def ckBcast : Nat := 1
def ckReduce : Nat := 2
def ckAllreduce : Nat := 3

/-- OFFSET of a PUT to a window. -/
def windowOff (dir abort inst elem0 : Nat) : Nat := at_ dir 47 + at_ abort 46 + at_ inst 39 + elem0 % 2 ^ 32

/-! ### The shape of a node -/

/-- Children's QPs in slot order, and every edge QP. -/
def Node.kids (x : Node) : List Nat := x.childQpn.take x.degree
def Node.edges (x : Node) : List Nat := if x.root then x.kids else x.parentQpn :: x.kids

/-- Number of an instance's segments, over all stripes (R260). -/
def Node.segTotal (x : Node) (count : Nat) : Nat := ceilDiv count (2 ^ x.segLog2)

/-- First element and number of elements of a segment. -/
def Node.segFirst (x : Node) (seg : Nat) : Nat := seg * 2 ^ x.segLog2
def Node.segElems (x : Node) (count seg : Nat) : Nat := min (2 ^ x.segLog2) (count - x.segFirst seg)

/-- Elements of the node's stripe. -/
def Node.stripeElems (x : Node) (count : Nat) : Nat :=
  let total := x.segTotal count
  let k := if x.stripe < total then (total - 1 - x.stripe) / x.stripes + 1 else 0
  if k = 0 then 0
  else (k - 1) * 2 ^ x.segLog2 + x.segElems count (x.stripe + (k - 1) * x.stripes)

/-- Slot of a segment (R260). -/
def Node.slotOf (x : Node) (seg : Nat) : Nat := seg / x.stripes % x.slots

/-- Segments that `n` elements from `elem0` touch. -/
def Node.segsOf (x : Node) (elem0 n : Nat) : List Nat :=
  if n = 0 then []
  else (List.range ((elem0 + n - 1) / 2 ^ x.segLog2 - elem0 / 2 ^ x.segLog2 + 1)).map fun k => elem0 / 2 ^ x.segLog2 + k

/-- The elements lie below COUNT, in segments of the node's stripe (R259). -/
def Node.elemsOk (x : Node) (count elem0 n : Nat) : Bool :=
  elem0 + n ≤ count && (x.segsOf elem0 n).all fun s => s % x.stripes == x.stripe

/-- Elements of a segment among the `n` from `elem0` on. -/
def Node.overlap (x : Node) (count seg elem0 n : Nat) : Nat :=
  min (x.segFirst seg + x.segElems count seg) (elem0 + n) - max (x.segFirst seg) elem0

/-- The member has exactly one node for each stripe (R248). -/
def State.memberWhole (s : State) (lead : Nat) : Bool :=
  match s.node? lead with
  | none => false
  | some x =>
    let l := s.memberNodes lead
    l.length == x.stripes && (List.range x.stripes).all fun j => l.any fun e => e.2.stripe == j

def Node.inst? (x : Node) (num : Nat) : Option Inst := x.insts.find? fun i => i.num == num
def State.modInst (s : State) (n num : Nat) (f : Inst → Inst) : State :=
  s.modNode n fun x => { x with insts := x.insts.map fun i => if i.num = num then f i else i }

/-! ### PUTs of a node -/

/-- One PUT over slot 0 of an edge QP, of elements of `z` bytes that OFFSET counts: false when its peer's rank does not translate (R66). -/
def State.edgePut (s : State) (n what num seg qpn rkey off : Nat) (payload : List Byte) (z : Nat := 1) : Bool × State :=
  s.addMsg qpn 0 { Msg.mk0 (.coll n num what seg) tPut payload.length with inline_ := some payload, rkey := rkey, roff := off, unit := z }

/-- Failure notices on every edge QP that is in RTS (R285). -/
def State.notices (s : State) (n : Nat) (x : Node) (rank : Nat) : State :=
  let num := ((x.insts.find? (·.started)).map (·.num)).getD x.next
  let body := leBytes 4 rank ++ leBytes 4 0
  let live (q : Nat) : Bool := match s.qp? q with
    | some y => y.st == .rts
    | none => false
  let s := if !x.root && live x.parentQpn then
      (s.edgePut n 2 num 0 x.parentQpn x.parentRkey (windowOff 0 1 num 0) body).2 else s
  (x.kids.zip x.childRkey).foldl (fun s k =>
    if live k.1 then (s.edgePut n 2 num 0 k.1 k.2 (windowOff 1 1 num 0) body).2 else s) s

/-- A member detects a failure (R285): its nodes enter FAILED, its active instances complete with the code and the detecting
member's rank, and notices leave. -/
def State.collFail (s : State) (lead code rank : Nat) : State :=
  let mine := (s.memberNodes lead).filter fun e => e.2.st == .ready || e.2.st == .busy
  let s := mine.foldl (fun s e =>
    let s := e.2.insts.foldl (fun s i =>
      if i.started then
        ((s.clCount e.2.tile 0).clCount e.2.tile 1).chainDoneWith i.ctx i.serial code 0 rank 0 lead 0
      else s) s
    s.modNode e.1 fun x => { x with st := .failed, insts := [], failRank := rank }) s
  mine.foldl (fun s e => s.notices e.1 e.2 rank) s

/-- A member fails with its own rank. -/
def State.collFailSelf (s : State) (n code : Nat) : State :=
  match s.node? n with
  | some x => s.collFail x.lead code x.rank
  | none => s

/-- An edge QP has left RTS (R284). -/
def State.collQpGone (s : State) (qpn : Nat) : State :=
  s.nodes.foldl (fun s e => if e.2.edges.contains qpn then s.collFailSelf e.1 ccMemberLost else s) s

/-- The nodes of a member are destroyed (R253): active instances complete ABORTED unless `silent`, and their windows go. -/
def State.destroyMember (s : State) (lead : Nat) (silent : Bool) : State :=
  (s.memberNodes lead).foldl (fun s e =>
    let s := if silent then s else e.2.insts.foldl (fun s i =>
      if i.started then (s.clCount e.2.tile 0).chainDoneWith i.ctx i.serial ccAborted 0 0 0 lead 0 else s) s
    let s := s.deregister (e.2.windowRkey / 256)
    { s with nodes := Tbl.erase s.nodes e.1 }) s

/-! ### Packing -/

/-- Elements grouped into packets of whole elements of at most `max` bytes, with the index of each packet's first (R258). -/
def packElems (max : Nat) : Nat → Nat → List Byte → List (List Byte) → List (Nat × List Byte)
  | start, n, acc, [] => if n = 0 then [] else [(start, acc)]
  | start, n, acc, e :: t =>
    if n ≠ 0 ∧ max < acc.length + e.length then (start, acc) :: packElems max (start + n) 1 e t
    else packElems max start (n + 1) (acc ++ e) t

/-- Payload bytes of a PUT over an edge. -/
def State.edgeMax (s : State) (qpn : Nat) : Nat := match s.qp? qpn with
  | some q => q.payloadMax (q.chan 0).tc tPut
  | none => 256

/-- Send packets over one edge. -/
def State.sendPackets (s : State) (n what num seg qpn rkey dir : Nat) (l : List (Nat × List Byte)) : Bool × State :=
  l.foldl (fun a p =>
    let r := a.2.edgePut n what num seg qpn rkey (windowOff dir 0 num p.1) p.2
    (a.1 && r.1, r.2)) (true, s)

/-- Data away from the root: one PUT to every child, in slot order (R262). -/
def State.fanOut (s : State) (n num elem0 z : Nat) (data : List Byte) : State :=
  match s.node? n with
  | none => s
  | some x =>
    let s := s.modInst n num fun i => { i with downs := i.downs + (x.kids.zip x.childRkey).length }
    let r := (x.kids.zip x.childRkey).foldl (fun (a : Bool × State) k =>
      let r := a.2.edgePut n 1 num 0 k.1 k.2 (windowOff 1 0 num elem0) data z
      (a.1 && r.1, r.2)) (true, s)
    if r.1 then r.2 else r.2.collFailSelf n ccTranslation

/-! ### Contributions (R259 to R261, R274) -/

/-- Add the values of contributor `who` from element `elem0` on. -/
def Node.addParts (x : Node) (i : Inst) (who : Nat) : Nat → List CVal → Inst
  | _, [] => i
  | e, v :: t =>
    let k := e / 2 ^ x.segLog2
    let g := Tbl.getD i.segs k { parts := [], sentUp := false, ups := 0 }
    x.addParts { i with segs := Tbl.set i.segs k { g with parts := g.parts ++ [{ who := who, elem := e, val := v }] } } who (e + 1) t

/-- Count elements taken in (R287). -/
def State.countCu (s : State) (x : Node) (i : Inst) (n : Nat) : State :=
  let t := cuTile x.tile
  let bytes := n * elemSize i.op i.type
  let s := ((s.cuCount t 0 n).cuCount t 1 bytes).count 0x0700 (x.tile / 4) qAny n
  if isExact i.op i.type i.exact then s.cuCount t 2 bytes else s

/-- Values of a contribution are taken in. -/
def State.takeParts (s : State) (n num who elem0 : Nat) (vals : List CVal) : State :=
  match s.node? n with
  | none => s
  | some x =>
    match x.inst? num with
    | none => s
    | some i =>
      let s := s.modInst n num fun i => { x.addParts i who elem0 vals with lastAt := s.clk.now }
      s.countCu x i vals.length

/-- Payload of whole elements of `z` bytes. One that is not so, from a member whose entry does not match, is no failure that is detected: its
results are undefined, and its whole elements are free values (R255). -/
def State.wholeElems (s : State) (z : Nat) (data : List Byte) : List Byte × State :=
  if data.length % z = 0 then (data, s)
  else
    let f := s.fresh (8 * data.length)
    (leBytes (data.length / z * z) f.1, f.2)

/-- A partial from a child (R259, R274). -/
def State.takePartial (s : State) (n num who elem0 : Nat) (data : List Byte) : State :=
  match s.node? n with
  | none => s
  | some x =>
    match x.inst? num with
    | none => s
    | some i =>
      let take (s : State) (v : List CVal) : State :=
        if x.elemsOk i.count elem0 v.length then s.takeParts n num who elem0 v else s.collFailSelf n ccMemberLost
      if isExact i.op i.type i.exact then
        match readRecords i.type data.length data with
        | some v => take s v
        | none => (s.cuCount (cuTile x.tile) 4 1).collFailSelf n ccMemberLost
      else
        let z := partialSize i.op i.type
        let w := s.wholeElems z data
        take w.2 ((pieces z (w.1.length / z) w.1).map (partialValue i.op i.type))

/-- Place result elements in the destination buffer of the entry. -/
def State.placeResult (s : State) (n num elem0 : Nat) (data : List Byte) : State :=
  match s.node? n with
  | none => s
  | some x =>
    match x.inst? num with
    | none => s
    | some i =>
      match s.keySpace i.ctx i.dlkey (i.dloff + elem0 * elemSize i.op i.type) with
      | none => s.collFailSelf n ccTranslation
      | some sp =>
        let s := s.modInst n num fun i => { i with placing := i.placing + 1, lastAt := s.clk.now }
        s.issue (.collPlace n num elem0) i.ctx sp true data data.length none

/-- Data from the parent: results, broadcast data, or a release (R262, R277, R278). -/
def State.takeDown (s : State) (n num elem0 : Nat) (data : List Byte) : State :=
  match s.node? n with
  | none => s
  | some x =>
    match x.inst? num with
    | none => s
    | some i =>
      if i.kind = ckBarrier then
        let t := BitVec.ofNat 64 (field data 0 8)
        let s := s.modInst n num fun i =>
          { i with release := some t, late := decide (0 ≤ circ 64 s.clk.nt.toNat t.toNat), lastAt := s.clk.now }
        let r := (x.kids.zip x.childRkey).foldl (fun (a : Bool × State) k =>
          let r := a.2.edgePut n 2 num 0 k.1 k.2 (windowOff 1 0 num 0) (leBytes 8 t.toNat)
          (a.1 && r.1, r.2)) (true, s)
        if r.1 then r.2 else r.2.collFailSelf n ccTranslation
      else if i.kind = ckReduce then s
      else
        let z := elemSize i.op i.type
        if x.elemsOk i.count elem0 (data.length / z) then
          let w := s.wholeElems z data
          if w.1.isEmpty then w.2 else w.2.placeResult n num elem0 w.1
        else s.collFailSelf n ccMemberLost

/-- A contribution or an arrival of a child to a started instance. -/
def State.takeUp (s : State) (n num who elem0 : Nat) (data : List Byte) : State :=
  match (s.node? n).bind fun x => x.inst? num with
  | none => s
  | some i =>
    if i.kind = ckBarrier then
      s.modInst n num fun i => { i with arrived := if i.arrived.contains who then i.arrived else i.arrived ++ [who], lastAt := s.clk.now }
    else if i.kind = ckBcast then s
    else s.takePartial n num who elem0 data

/-! ### Instances -/

/-- An instance context just taken. -/
def Inst.fresh (num now : Nat) : Inst :=
  { num := num, started := false, ctx := 0, serial := 0, kind := 0, op := 0, type := 0, exact := false, sat := false, count := 0, slkey := 0,
    sloff := 0, dlkey := 0, dloff := 0, segs := [], arrived := [], arrivalSent := false, release := none, late := false, nextOwn := 0,
    reading := false, downs := 0, placing := 0, placed := 0, placedBy := [], lastAt := now, early := [] }

/-- Segments an instance's slots hold, early partials included. -/
def Node.heldSegs (x : Node) (i : Inst) : List Nat :=
  i.segs.map (·.1) ++ i.early.map fun e => e.elem0 / 2 ^ x.segLog2

/-- The slots that a partial needs are free, or hold its own segments (R260). -/
def Node.slotsFree (x : Node) (i : Inst) (segs : List Nat) : Bool :=
  segs.all fun k => (x.heldSegs i).all fun h => x.slotOf h != x.slotOf k || h == k

/-- Elements of a partial's payload, as far as its type is known. -/
def Inst.partialCount (i : Inst) (data : List Byte) : Nat :=
  if i.started then
    (if isExact i.op i.type i.exact then ((readRecords i.type data.length data).getD []).length
     else data.length / partialSize i.op i.type)
  else if data.isEmpty then 0 else 1

/-- R256 accepts a window PUT of instance `num`: of an active instance context, or of the next instance while a context is free. -/
def Node.takesPut (x : Node) (num : Nat) : Bool := (x.inst? num).isSome || (num == x.next && decide (x.insts.length < 2))

/-- A PUT before the local entry of its instance has started: it takes a free context, and waits in it (R256). -/
def State.keepEarly (s : State) (n num qpn elem0 : Nat) (data : List Byte) : State :=
  s.modNode n fun x =>
    let i := (x.inst? num).getD (Inst.fresh num s.clk.now)
    { x with insts := (x.insts.filter fun j => j.num != num)
               ++ [{ i with early := i.early ++ [{ qpn := qpn, elem0 := elem0, data := data }], lastAt := s.clk.now }] }

/-- A window PUT that passed its access checks (R256, R259, R260, R262): whether it is accepted, or else asks for a NAK of reason RESOURCE,
and the state after it. A failure notice takes effect whatever the answer (R284). A FAILED node keeps nothing of what it accepts, and an
accepted PUT from a QP that is no edge on its side changes nothing (log 39). -/
def State.windowPut (s : State) (n qpn off : Nat) (data : List Byte) : Bool × State :=
  match s.node? n with
  | none => (true, s)
  | some x =>
    let down := bit off 47
    let num := bits off 45 39
    let elem0 := bits off 31 0
    let edge := if down then !x.root && x.parentQpn == qpn else x.kids.contains qpn
    let ok := x.takesPut num
    if bit off 46 then (ok, s.collFail x.lead ccMemberLost (field data 0 4))
    else if !ok || x.st == .failed then (ok, s)
    else
      match (x.inst? num).filter (·.started) with
      | some i =>
        if !edge then (true, s)
        else if down then (true, s.takeDown n num elem0 data)
        else if x.slotsFree i (x.segsOf elem0 (i.partialCount data)) then (true, s.takeUp n num (1 + x.kids.idxOf qpn) elem0 data)
        else (false, s)
      | none =>
        if x.st != .linking && !edge then (true, s)
        else
          let i := (x.inst? num).getD (Inst.fresh num s.clk.now)
          if down || !x.slotsFree i (x.segsOf elem0 (i.partialCount data)) then (false, s)
          else (true, s.keepEarly n num qpn elem0 data)

/-- A NAK of reason RESOURCE is counted at the node's clearing unit (R287). -/
def State.countWindowNak (s : State) (n : Nat) : State :=
  match s.node? n with
  | some x => s.cuCount (cuTile x.tile) 3 1
  | none => s

/-! ### The local entry (R253, R254, R256, R257) -/

def Chain.collKind (h : Chain) : Nat := h.f 18 1 % 4
def Chain.collOp (h : Chain) : Nat := h.f 18 1 / 4 % 8
def Chain.collType (h : Chain) : Nat := h.f 19 1 % 16
def Chain.collExact (h : Chain) : Bool := bit (h.f 19 1) 4
def Chain.collSat (h : Chain) : Bool := bit (h.f 19 1) 5

/-- OP as the instance uses it: BARRIER and BCAST ignore it. -/
def Chain.collOpEff (h : Chain) : Nat := if h.collKind = ckBarrier ∨ h.collKind = ckBcast then copSum else h.collOp

/-- Every node of the member has an instance context for its next instance (R256). -/
def State.instanceFree (s : State) (lead : Nat) : Bool :=
  (s.memberNodes lead).all fun e => (e.2.inst? e.2.next).isSome || e.2.insts.length < 2

/-- The completion code a COLL entry ends with at once, if any (R253, R254, R557). -/
def State.collRefused (s : State) (c : Nat) (h : Chain) : Option Nat :=
  let lead := h.collNode
  match s.node? lead with
  | none => some ccAborted
  | some x =>
    if x.owner ≠ c ∨ x.lead ≠ lead then some ccAborted
    else if x.st = .failed then some ccMemberLost
    else
      let mine := s.memberNodes lead
      let kind := h.collKind
      let op := h.collOpEff
      let type := h.collType
      let reduce := kind == ckReduce || kind == ckAllreduce
      let tc0 := mine.any fun e => e.2.edges.any fun q => (s.chan q 0).tc == 0
      let bytes := h.f 20 4 * elemSize op type
      let root := mine.any fun e => e.2.root
      let leaf := mine.any fun e => !e.2.root
      let src := reduce || (kind == ckBcast && root)
      let dst := kind == ckAllreduce || (kind == ckReduce && root) || (kind == ckBcast && leaf)
      if mine.any (fun e => e.2.st == .linking) || !s.memberWhole lead then some ccAborted
      else if 14 ≤ type ∨ (kind ≠ ckBarrier ∧ tc0 = true) then some ccAborted
      else if reduce && (fmtOf type).isSome && 3 ≤ op && op ≤ 5 then some ccAborted
      else if reduce && mine.any (fun e => decide (accBytes e.2.accClass < accNeeded op type h.collExact)) then some ccAborted
      else if kind ≠ ckBarrier ∧ src = true ∧ (s.localKey c (h.f 24 4) (h.f 32 6) bytes [pLocalRead]).isNone then some ccTranslation
      else if kind ≠ ckBarrier ∧ dst = true ∧ (s.localKey c (h.f 28 4) (h.f 40 6) bytes [pLocalWrite]).isNone then some ccTranslation
      else none

/-- What came early on the QP of a child is taken in. -/
def State.takeEarly (s : State) (n num : Nat) (x : Node) (e : EarlyPut) : State :=
  if x.kids.contains e.qpn then s.takeUp n num (1 + x.kids.idxOf e.qpn) e.elem0 e.data else s

/-- The bytes of an element's pieces, for the elements of a read. -/
def Inst.elems (i : Inst) (data : List Byte) : List (List Byte) :=
  let z := elemSize i.op i.type
  pieces z (data.length / z) data

/-- The first segment that the preparation has read goes out, or into the combination, at once (R52, R276). -/
def State.takePrepared (s : State) (n num : Nat) (data : List Byte) : State :=
  match s.node? n with
  | none => s
  | some x =>
    match x.inst? num with
    | none => s
    | some i =>
      if data.isEmpty then s
      else
        let s := s.modInst n num fun i => { i with nextOwn := i.nextOwn + x.stripes }
        if i.kind = ckBcast then s.fanOut n num (x.segFirst i.nextOwn) (elemSize i.op i.type) data
        else s.takeParts n num 0 (x.segFirst i.nextOwn) ((i.elems data).map (ownValue i.op i.type i.exact))

/-- The instance starts at one node of the member; what came early is taken in. -/
def State.startNode (s : State) (c : Nat) (h : Chain) (n : Nat) : State :=
  match s.node? n with
  | none => s
  | some x =>
    let num := x.next
    let s := s.modNode n fun x => x.pass num
    if h.collKind = ckBarrier ∧ x.lead ≠ n then s
    else
      let i0 := (x.inst? num).getD (Inst.fresh num s.clk.now)
      let i : Inst := { i0 with started := true, ctx := c, serial := h.serial, kind := h.collKind, op := h.collOpEff, type := h.collType,
                                exact := h.collExact, sat := h.collSat, count := if h.collKind = ckBarrier then 0 else h.f 20 4,
                                slkey := h.f 24 4, dlkey := h.f 28 4, sloff := h.f 32 6, dloff := h.f 40 6, nextOwn := x.stripe,
                                lastAt := s.clk.now, early := [] }
      let s := s.modNode n fun x => { x with st := .busy, insts := x.insts ++ [i] }
      let s := i0.early.foldl (fun s e => s.takeEarly n num x e) s
      ((h.segs.filter fun e => e.1 == n).map (·.2)).foldl (fun s d => s.takePrepared n num d) s

/-- A COLL entry starts at its member (R257). -/
def State.startColl (s : State) (c : Nat) (h : Chain) : State :=
  (s.memberNodes h.collNode).foldl (fun s e => s.startNode c h e.1) s

/-! ### Going on -/

/-- The combined value of each element of a segment, in the order ORDER gives (R270). -/
def Node.combined (x : Node) (i : Inst) (g : Seg) (seg : Nat) : List CVal :=
  (List.range (x.segElems i.count seg)).filterMap fun k =>
    let e := x.segFirst seg + k
    let l := g.parts.filter fun p => p.elem == e
    let l := if x.fixed then (List.range (x.degree + 1)).filterMap fun w => l.find? fun p => p.who == w else l
    match l with
    | [] => none
    | p :: t => some (t.foldl (fun a q => combine i.op i.type a q.val) p.val)

/-- Every contributor has delivered every element of the segment (R261). -/
def Node.segFull (x : Node) (i : Inst) (e : Nat × Seg) : Bool :=
  !e.2.sentUp && decide (e.2.parts.length = (1 + x.degree) * x.segElems i.count e.1)

/-- A full segment goes on: up to the parent, or into the root's destination (R261). -/
def State.finishSeg (s : State) (n num seg : Nat) : State :=
  match s.node? n with
  | none => s
  | some x =>
    match x.inst? num with
    | none => s
    | some i =>
      match Tbl.get? i.segs seg with
      | none => s
      | some g =>
        let vals := x.combined i g seg
        if x.root then
          let s := s.modInst n num fun i => { i with segs := Tbl.set i.segs seg { g with sentUp := true } }
          s.placeResult n num (x.segFirst seg) ((vals.map (CVal.asResult i.type i.sat)).flatten)
        else
          let l := packElems (s.edgeMax x.parentQpn) (x.segFirst seg) 0 [] (vals.map (CVal.asPartial i.type))
          let s := s.modInst n num fun i => { i with segs := Tbl.set i.segs seg { g with sentUp := true, ups := l.length } }
          let r := s.sendPackets n 0 num seg x.parentQpn x.parentRkey 0 l
          if r.1 then r.2 else r.2.collFailSelf n ccTranslation

/-- Read the node's own contribution to the segments whose slots are free, in order; `k` bounds them (R261). -/
def State.readOwn (s : State) (n num : Nat) : Nat → State
  | 0 => s
  | k + 1 =>
    match s.node? n with
    | none => s
    | some x =>
      match x.inst? num with
      | none => s
      | some i =>
        let seg := i.nextOwn
        if i.nextOwn < x.segTotal i.count && x.slotsFree i [seg] then
          let z := elemSize i.op i.type
          match s.keySpace i.ctx i.slkey (i.sloff + x.segFirst seg * z) with
          | none => s.collFailSelf n ccTranslation
          | some sp =>
            let s := s.modInst n num fun i =>
              { i with nextOwn := i.nextOwn + x.stripes,
                       segs := Tbl.set i.segs seg (Tbl.getD i.segs seg { parts := [], sentUp := false, ups := 0 }) }
            (s.issue (.collRead n num seg) i.ctx sp false [] (x.segElems i.count seg * z) none).readOwn n num k
        else s

/-- The root of a BCAST reads its next segment to send (R262). -/
def State.readBcast (s : State) (n : Nat) (x : Node) (i : Inst) : State :=
  if i.reading || x.segTotal i.count ≤ i.nextOwn || x.degree = 0 then s
  else
    let z := elemSize i.op i.type
    let first := x.segFirst i.nextOwn
    match s.keySpace i.ctx i.slkey (i.sloff + first * z) with
    | none => s.collFailSelf n ccTranslation
    | some sp =>
      let s := s.modInst n i.num fun i => { i with reading := true, nextOwn := i.nextOwn + x.stripes }
      s.issue (.collSend n i.num first) i.ctx sp false [] (x.segElems i.count (first / 2 ^ x.segLog2) * z) none

/-- A BARRIER's node whose children have all arrived sends its arrival, or, at the root, the release (R277). -/
def State.barrierGo (s : State) (n : Nat) (x : Node) (i : Inst) : State :=
  if i.arrivalSent || decide (i.arrived.length < x.degree) then s
  else
    let s := s.modInst n i.num fun i => { i with arrivalSent := true }
    if x.root then
      let t := s.clk.nt + BitVec.ofNat 64 (x.releaseDelay * usTicks)
      let s := s.modInst n i.num fun i => { i with release := some t }
      let r := (x.kids.zip x.childRkey).foldl (fun (a : Bool × State) k =>
        let r := a.2.edgePut n 2 i.num 0 k.1 k.2 (windowOff 1 0 i.num 0) (leBytes 8 t.toNat)
        (a.1 && r.1, r.2)) (true, s)
      if r.1 then r.2 else r.2.collFailSelf n ccTranslation
    else
      let r := s.edgePut n 2 i.num 0 x.parentQpn x.parentRkey (windowOff 0 0 i.num 0) []
      if r.1 then r.2 else r.2.collFailSelf n ccTranslation

/-- This node's part of an instance is complete (R263). -/
def Node.partDone (x : Node) (i : Inst) : Bool :=
  let all := decide (i.placed = x.stripeElems i.count) && i.placing == 0
  let up := decide (x.segTotal i.count ≤ i.nextOwn) && i.segs.isEmpty
  if i.kind = ckBarrier then i.late
  else if i.kind = ckBcast then
    (if x.root then (x.degree == 0 || (decide (x.segTotal i.count ≤ i.nextOwn) && !i.reading)) && i.downs == 0
     else all && i.downs == 0)
  else if i.kind = ckReduce then (if x.root then all && up else up)
  else all && up && i.downs == 0

/-- The member's instance completes (R263, R278). -/
def State.completeColl (s : State) (lead num code value flags : Nat) : State :=
  match (s.node? lead).bind fun x => x.inst? num with
  | none => s
  | some i =>
    let s := (s.memberNodes lead).foldl (fun s e =>
      if (e.2.inst? num).isSome then
        (s.clCount e.2.tile 0).modNode e.1 fun x =>
          let l := x.insts.filter fun j => j.num ≠ num
          { x with insts := l, st := if l.any (·.started) then x.st else .ready }
      else s) s
    s.chainDoneWith i.ctx i.serial code value 0 0 lead flags

/-- A late release: counted, with the lateness (R278). -/
def State.lateRelease (s : State) (x : Node) (t : U64) : State :=
  let ns := (circ 64 s.clk.nt.toNat t.toNat).toNat / 256
  (s.clCount x.tile 2).modTile x.tile fun y => { y with clLateMax := BitVec.ofNat 32 (max y.clLateMax.toNat (min ns (2 ^ 32 - 1))) }

/-- Take one instance of one node as far as it goes. -/
def State.stepInst (s : State) (n num : Nat) : State :=
  match s.node? n with
  | none => s
  | some x =>
    match x.inst? num with
    | none => s
    | some i =>
      if !i.started then s
      else if i.kind = ckBarrier then s.barrierGo n x i
      else if i.kind = ckBcast then (if x.root then s.readBcast n x i else s)
      else
        let s := (i.segs.filter (x.segFull i)).foldl (fun s e => s.finishSeg n num e.1) s
        s.readOwn n num 64

/-- A member's instance of number `num` completes when every stripe's part has. -/
def State.tryComplete (s : State) (lead num : Nat) : State :=
  match (s.node? lead).bind fun x => (x.inst? num).map fun i => (x, i) with
  | none => s
  | some (x, i) =>
    if i.started && (s.memberNodes lead).all (fun e => match e.2.inst? num with
        | some j => e.2.partDone j
        | none => i.kind == ckBarrier) then
      if i.kind = ckBarrier then
        let t := i.release.getD 0
        (s.lateRelease x t).completeColl lead num ccOk t.toNat 1
      else s.completeColl lead num ccOk 0 0
    else s

/-- Every node goes on as far as it can. -/
def State.collSync (s : State) : State :=
  let s := s.nodes.foldl (fun s e => e.2.insts.foldl (fun s i => s.stepInst e.1 i.num) s) s
  s.nodes.foldl (fun s e => if e.2.lead = e.1 then e.2.insts.foldl (fun s i => s.tryComplete e.1 i.num) s else s) s

/-! ### Ends of a node's transfers and PUTs -/

/-- Code of a failed read of a source: TRANSLATION, or ABORTED for one with no answer or with poison (R296, R335, log 40). -/
def readFailCode : XferEnd → Nat
  | .translation _ _ _ => ccTranslation
  | _ => ccAborted

/-- A node's own contribution to a segment has been read. -/
def State.collReadDone (s : State) (n num seg : Nat) (e : XferEnd) : State :=
  match s.node? n with
  | none => s
  | some x =>
    match x.inst? num with
    | none => s
    | some i =>
      match e with
      | .ok d => s.takeParts n num 0 (x.segFirst seg) ((i.elems d).map (ownValue i.op i.type i.exact))
      | e => s.collFailSelf n (readFailCode e)

/-- A segment to send down has been read: from the root's source for BCAST, else from the destination it was placed in (R262). -/
def State.collSendDone (s : State) (n num elem0 : Nat) (e : XferEnd) : State :=
  match (s.node? n).bind fun x => (x.inst? num).map fun i => (x, i) with
  | none => s
  | some (x, i) =>
    match e with
    | .ok d =>
      let own := i.kind == ckBcast && x.root
      (s.modInst n num fun i => { i with reading := i.reading && !own, downs := if own then i.downs else i.downs - 1 }).fanOut n num elem0
        (elemSize i.op i.type) d
    | e => s.collFailSelf n (readFailCode e)

/-- A segment whose result elements have all been placed is read from the destination buffer, to be forwarded to the children (R262). -/
def State.forward (s : State) (n num seg : Nat) : State :=
  match (s.node? n).bind fun x => (x.inst? num).map fun i => (x, i) with
  | none => s
  | some (x, i) =>
    if i.kind = ckReduce || x.degree = 0 || decide (Tbl.getD i.placedBy seg 0 < x.segElems i.count seg) then s
    else
      let z := elemSize i.op i.type
      match s.keySpace i.ctx i.dlkey (i.dloff + x.segFirst seg * z) with
      | none => s.collFailSelf n ccTranslation
      | some sp =>
        (s.modInst n num fun i => { i with placedBy := Tbl.erase i.placedBy seg, downs := i.downs + 1 }).issue (.collSend n num (x.segFirst seg))
          i.ctx sp false [] (x.segElems i.count seg * z) none

/-- Result elements, `len` bytes of them, have been placed: they count, and a whole segment goes on to the children (R262). -/
def State.collPlaceDone (s : State) (n num elem0 len : Nat) (e : XferEnd) : State :=
  match (s.node? n).bind fun x => (x.inst? num).map fun i => (x, i) with
  | none => s
  | some (x, i) =>
    match e with
    | .ok _ =>
      let k := len / elemSize i.op i.type
      let segs := x.segsOf elem0 k
      let s := s.modInst n num fun i =>
        { i with placing := i.placing - 1, placed := i.placed + k,
                 placedBy := segs.foldl (fun t g => Tbl.set t g (Tbl.getD t g 0 + x.overlap i.count g elem0 k)) i.placedBy,
                 segs := if x.root then Tbl.erase i.segs (elem0 / 2 ^ x.segLog2) else i.segs }
      segs.foldl (fun s g => s.forward n num g) s
    | _ => s.collFailSelf n ccTranslation

/-- A PUT of a node has been acknowledged: `what` as its message says. -/
def State.collPutDone (s : State) (n num what seg : Nat) : State :=
  if what = 0 then
    s.modInst n num fun i =>
      match Tbl.get? i.segs seg with
      | some g => if g.ups ≤ 1 then { i with segs := Tbl.erase i.segs seg }
                  else { i with segs := Tbl.set i.segs seg { g with ups := g.ups - 1 } }
      | none => i
  else if what = 1 then s.modInst n num fun i => { i with downs := i.downs - 1 }
  else s

end Sys2Proof.Machine
end

