-- ==== Sys2Proof/Machine/Atomics.lean ====
section
/-! DEFINITION. The atomic units: plain atomics, lock operations, masters and their epochs (R176, R311 to R319). -/
namespace Sys2Proof.Machine

/-! ### Operations (R176) and statuses (R317) -/

def aopCas : Nat := 0
def aopFadd : Nat := 1
def aopSwap : Nat := 2
def aopLockAcq : Nat := 4
def aopLockRecover : Nat := 5
def aopLockRel : Nat := 6

def isLockOp (a : Nat) : Bool := a == aopLockAcq || a == aopLockRecover || a == aopLockRel
def knownAop (a : Nat) : Bool := a ≤ 2 || isLockOp a

def asNone : Nat := 0
def asAcquired : Nat := 1
def asNested : Nat := 2
def asRecovered : Nat := 3
def asBusy : Nat := 4
def asOrphaned : Nat := 5
def asReleased : Nat := 6
def asDecremented : Nat := 7
def asForeign : Nat := 8
def asStale : Nat := 9
def asNotHeld : Nat := 10
def asCountFull : Nat := 11
def asBadOwner : Nat := 12

/-! ### Masters (R313, R314) -/

def masterCtx (c : Nat) : Nat := at_ 1 20 + c
def masterEngine (c : Nat) : Nat := at_ 2 20 + c % 4096
def masterQp (qpn : Nat) : Nat := at_ 8 20 + qpn

/-- The current epoch of a master. -/
def State.epoch (s : State) (m : Nat) : Nat := Tbl.getD s.mem.atom.epochs m 0

/-- An atomic operation as a master issues it: stamped with the master's epoch (R314). -/
def State.atomicReq (s : State) (master aop : Nat) (op0 op1 : U64) (rkey off : Nat) : AtomicReq :=
  { aop := aop, op0 := op0, op1 := op1, master := master, epoch := s.epoch master, rkey := rkey, off := off }

/-- A master's epoch increments, modulo 16. -/
def State.bumpEpoch (s : State) (m : Nat) : State :=
  s.modMem fun x => { x with atom := { x.atom with epochs := Tbl.set x.atom.epochs m ((Tbl.getD x.atom.epochs m 0 + 1) % 16) } }

/-! ### Lock words (R315, R316) -/

def lwOwner (w : Nat) : Nat := bits w 63 40
def lwEpoch (w : Nat) : Nat := bits w 39 36
def lwPrio (w : Nat) : Nat := bits w 35 28
def lwHwp (w : Nat) : Nat := bits w 27 20
def lwCount (w : Nat) : Nat := bits w 19 0
def lockWord (owner epoch prio hwp count : Nat) : Nat := at_ owner 40 + at_ epoch 36 + at_ prio 28 + at_ hwp 20 + count

/-- What a lock operation does: its status, the word after it, and whether it boosts the owner. -/
structure LockResult where
  status : Nat
  word : Nat
  boost : Bool
deriving DecidableEq, Repr

/-- The lock operation of R316, with `cur` the epochs in force. -/
def lockOp (cur : Nat → Nat) (aop req ep op0 w : Nat) : LockResult :=
  let keep (st : Nat) : LockResult := { status := st, word := w, boost := false }
  if ep ≠ cur req then keep asStale
  else if lwOwner op0 ≠ req then keep asBadOwner
  else if aop = aopLockRel then
    if lwOwner w = 0 then keep asNotHeld
    else if lwOwner w ≠ req then keep asForeign
    else if lwEpoch w ≠ ep then keep asOrphaned
    else
      let n := (lwCount w + (2 ^ 20 - 1)) % 2 ^ 20
      if n ≠ 0 then { status := asDecremented, word := lockWord (lwOwner w) (lwEpoch w) (lwPrio w) (lwHwp w) n, boost := false }
      else { status := asReleased, word := 0, boost := false }
  else if lwOwner w = 0 then { status := asAcquired, word := lockWord req ep (lwPrio op0) 0 1, boost := false }
  else if lwEpoch w ≠ cur (lwOwner w) then
    if aop = aopLockRecover then { status := asRecovered, word := lockWord req ep (lwPrio op0) 0 1, boost := false }
    else keep asOrphaned
  else if lwOwner w = req then
    if lwCount w = 0xFFFFF then keep asCountFull
    else { status := asNested, word := lockWord (lwOwner w) (lwEpoch w) (lwPrio w) (lwHwp w) (lwCount w + 1), boost := false }
  else if lwPrio op0 > lwHwp w then
    { status := asBusy, word := lockWord (lwOwner w) (lwEpoch w) (lwPrio w) (lwPrio op0) (lwCount w), boost := decide (lwPrio op0 > lwPrio w) }
  else keep asBusy

/-- The word after CAS, FADD or SWAP. -/
def plainAtomic (aop : Nat) (op0 op1 w : U64) : U64 :=
  if aop = aopCas then (if w = op0 then op1 else w) else if aop = aopFadd then w + op0 else op0

/-- A boost notice (R318): to the event ring of the owner's context, or to the scheduler of the owner's tile, which raises the owner's micro-task,
or to the scheduler of the bursar. -/
def State.boost (s : State) (rkey off w : Nat) : State :=
  if !s.mem.atom.boostEn then s
  else
    let s := s.modMem fun x => { x with atom := { x.atom with boostSent := x.atom.boostSent + 1 } }
    let owner := lwOwner w
    let data := leBytes 8 w ++ leBytes 4 rkey ++ leBytes 4 (bits off 34 3)
    let cls := owner / 2 ^ 20
    if cls = 1 then s.ctxEvent (owner % 4096) 3 data (bits off 36 35)
    else if 8 ≤ cls ∧ cls < 12 then
      match s.qp? (owner - at_ 8 20) with
      | some q => s.ctxEvent q.owner 3 data (bits off 36 35)
      | none => s
    else if cls = 2 ∨ cls = 3 then
      s.modMem fun x => { x with atom := { x.atom with raised := Tbl.set x.atom.raised owner (max (Tbl.getD x.atom.raised owner 0) (lwHwp w)) } }
    else if cls = 4 then s.modMem fun x => { x with atom := { x.atom with noticed := Tbl.set x.atom.noticed (owner % 2 ^ 20) (lwHwp w) } }
    else s

/-- Count a lock status. -/
def Atom.countStatus (a : Atom) (st : Nat) : Atom :=
  if st = asBusy then { a with lockBusy := a.lockBusy + 1 }
  else if st = asOrphaned then { a with lockOrphaned := a.lockOrphaned + 1 }
  else if st = asRecovered then { a with lockRecovered := a.lockRecovered + 1 }
  else if st = asForeign then { a with lockForeign := a.lockForeign + 1 }
  else if st = asStale then { a with lockStale := a.lockStale + 1 }
  else a

/-- An operation at the unit of the word's pseudo-channel, for a master with the epoch stamped at issue: RESULT and ASTATUS; none on a
poisoned word (R296, R311). -/
def State.atomicUnit (s : State) (master ep da aop : Nat) (op0 op1 : U64) (rkey off : Nat) : State × Option (U64 × Nat) :=
  let r := s.hbmRead da 8
  if r.2.2 then (r.1, none)
  else
    let u := s.pc da
    let w := leNat r.2.1
    let lock := isLockOp aop
    let s := r.1.count 0x0802 u qAny 1
    let s := s.modMem fun x => { x with atom := { x.atom with
      ops := Tbl.set x.atom.ops u (Tbl.getD x.atom.ops u 0 + 1),
      lockOps := if lock then Tbl.set x.atom.lockOps u (Tbl.getD x.atom.lockOps u 0 + 1) else x.atom.lockOps } }
    let store (s : State) (v : Nat) : State := s.modMem fun x => { x with cells := s.hbmPut da (leBytes 8 v) }
    if lock then
      let k := lockOp s.epoch aop master ep op0.toNat w
      let s := store s k.word
      let s := s.modMem fun x => { x with atom := x.atom.countStatus k.status }
      let s := if k.status = asReleased ∨ k.status = asDecremented then
          s.modMem fun x => { x with atom := { x.atom with raised := Tbl.erase x.atom.raised master } } else s
      let s := if k.status = asBusy then s.count 0x0803 u qAny 1 else s
      let s := if k.boost then s.boost rkey off k.word else s
      (s, some (BitVec.ofNat 64 w, k.status))
    else (store s (plainAtomic aop op0 op1 (BitVec.ofNat 64 w)).toNat, some (BitVec.ofNat 64 w, asNone))

end Sys2Proof.Machine
end

