-- ==== Sys2Proof/Machine/Completion.lean ====
section
/-! DEFINITION. The end of messages at their requester, and queue pairs that leave RTS (R168, R192, R210, R237, R242). -/
namespace Sys2Proof.Machine

/-- What a message's end does for the party it serves: its chain completes, its rendezvous or its node goes on (R192, R236, R261). -/
def State.msgEnded (s : State) (qpn : Nat) (m : Msg) : State :=
  match m.owner with
  | .chain c serial =>
    if m.opcode = tAtomic ∧ m.code = 0 then s.chainDoneWith c serial ccOk m.result.toNat m.astatus 0 qpn 0
    else s.chainDoneWith c serial m.code 0 0 0 qpn 0
  | .rndv c id =>
    (s.modInMsg c id fun x => { x with gets := x.gets - 1, code := if x.code = 0 then m.code else x.code }).completeAll c
  | .coll n num what seg => if m.code = 0 then s.collPutDone n num what seg else s

/-- The message's conditions of R192 and R237 hold. -/
def Chan.msgDone (c : Chan) (m : Msg) : Bool :=
  (match m.endPsn with | some e => decide (e ≤ c.sndCum) | none => false) && decide (m.endRpsn ≤ c.rspBase) && (!m.rndv || m.served)

/-- Complete the messages of a channel that are done, in order. -/
def State.completeMsgs (s : State) (qpn slot : Nat) : Nat → State
  | 0 => s
  | n + 1 =>
    match s.qp? qpn with
    | none => s
    | some q =>
      let c := q.chan slot
      match c.msgs with
      | [] => s
      | m :: t =>
        if q.st == .rts && c.msgDone m then
          ((s.modChan qpn slot fun c => { c with msgs := t }).msgEnded qpn m).completeMsgs qpn slot n
        else s

/-- Every QP's channels: messages that are done complete, and what the windows allow is sent. -/
def State.qpSync (s : State) : State :=
  s.qps.foldl (fun s e => (List.range 2).foldl (fun s k =>
    let n := (s.chan e.1 k).msgs.length
    if n = 0 then s else (s.completeMsgs e.1 k n).pump e.1 k pumpFuel) s) s

/-- Held packets of a QP are dropped. -/
def State.dropSusp (s : State) (qpn : Nat) : State :=
  s.modTile (qpn % 64) fun t => { t with susp := t.susp.filter fun x => x.pkt.trans.dstQpn.toNat ≠ qpn }

/-- Clear what a channel has under way. -/
def Chan.stop (c : Chan) : Chan :=
  { c with msgs := [], tracks := [], rsps := [], ackFrom := none, congMask := 0, slots := Tbl.map (fun _ x => { x with busy := false }) c.slots }

/-- Chains of a QP that have not started complete ABORTED (R168). -/
def Ctx.abortWaiting (x : Ctx) (qpn : Nat) : Ctx :=
  { x with chains := x.chains.map fun h =>
      if h.usesQp && h.qpn == qpn && h.st != .started && h.st != .done then { h with st := .done, code := ccAborted, payload := none } else h }

/-- A QP leaves RTS or ERR with a code (R168, R242, R284, R314): the message that caused it, `cause` as slot and number, completes with the
code and every other one ABORTED; an internal GET ends with its receive; without completions when its context is lost. -/
def State.stopQp (s : State) (qpn : Nat) (st : QpSt) (code : Nat) (cause : Option (Nat × Nat)) (errCode : Nat) : State :=
  match s.qp? qpn with
  | none => s
  | some q =>
    let s := if q.st = .rts then s.bumpEpoch (masterQp qpn) else s
    let told (m : Msg) : Bool := match m.owner with
      | .rndv _ _ => false
      | _ => true
    let msgs := ((List.range 2).map fun k => ((q.chan k).msgs.filter told).map fun m => (k, m)).flatten
    let s := s.setQp qpn { q with st := st, errCode := errCode, fetchingCtx := false, chans := q.chans.map Chan.stop }
    let s := ((s.killQp qpn).dropSusp qpn).modCtx q.owner fun x => x.abortWaiting qpn
    let s := if q.hostLost then s
      else msgs.foldl (fun s m =>
        s.msgEnded qpn { m.2 with code := if some (m.1, m.2.id) = cause then code else ccAborted }) s
    if q.st = .rts then (if q.hostLost then s else s.matchQpGone q.owner qpn code).collQpGone qpn else s

/-- A QP enters ERR because of the packet with extended PSN `psn` of a slot (R168). -/
def State.failQp (s : State) (qpn slot : Nat) (psn : Option Nat) (code : Nat) : State :=
  let cause := match psn with
    | some p => ((s.chan qpn slot).tracks.find? fun k => k.psn == p).map fun k => (slot, k.msg)
    | none => none
  s.stopQp qpn .err code cause code

/-- A packet has spent its budget (R198). -/
def State.spendQp (s : State) (qpn slot : Nat) (k : Track) : State :=
  (s.tpCount (qpn % 64) 13).failQp qpn slot (some k.psn) k.failCode

/-- A QP enters QUARANTINE (R168, R169, R419): every unfinished entry completes ABORTED, and its traffic key is erased. -/
def State.quarantine (s : State) (qpn : Nat) (freeing : Bool) : State :=
  let s := s.stopQp qpn .quarantine ccAborted none (((s.qp? qpn).map (·.errCode)).getD 0)
  s.modQp qpn fun q => { q with tkey := none, keyErased := q.keyErased || q.tkey.isSome, quarFrom := s.clk.now, freeing := freeing }

/-- The tally sweep stops when the owner of its destination becomes HOST_LOST (R530). -/
def State.stopSweepOf (s : State) (c : Nat) : State :=
  if s.perf.goesTo fun k => match s.keyRegion k with | some r => r.owner == c | none => false then s.stopSweep else s

/-- A context becomes HOST_LOST (R210, R243, R253, R314, R374): its DMA stops, its QPs go to ERR, its domain and nodes go, all without
completions. -/
def State.loseCtx (s : State) (c : Nat) : State :=
  match s.ctx? c with
  | none => s
  | some x =>
    if x.hostLost then s
    else
      let s := s.setCtx c { x with hostLost := true, enable := false, idle := true, chains := [], openTiming := none, backlog := [],
                                   deferred := [], owed := 0, reading := false, armed := false }
      let s := (s.bumpEpoch (masterCtx c)).stopSweepOf c
      let s := s.killXfers c
      let s := s.qps.foldl (fun s e =>
        if e.2.owner = c then
          let s := s.modQp e.1 fun q => { q with hostLost := true }
          if e.2.st = .rts ∨ e.2.st = .err then s.stopQp e.1 .err ccHostGone none ccHostGone else s
        else s) s
      let s := match s.domain? c with
        | some d => { s.hbmZero d.base (256 * d.poolGranules) with domains := Tbl.erase s.domains c }
        | none => s
      s.nodes.foldl (fun s e => if e.2.owner = c then s.destroyMember e.2.lead true else s) s

end Sys2Proof.Machine
end

