-- ==== Sys2Proof/Machine/Target.lean ====
section
/-! DEFINITION. The target side of queue pairs: checks, classification, placement, execution and answers of requests (R47, R48, R169,
R170, R179 to R190, R193, R194, R204 to R209, R211 to R215, R230, R231, R240, R259, R419). -/
namespace Sys2Proof.Machine

/-! ### NAKs and violations (R177, R178, R209) -/

def nSeq : Nat := 0x01
def nCtxRetry : Nat := 0x02
def nResource : Nat := 0x03
def nAccess : Nat := 0x10
def nNoQp : Nat := 0x11
def nHostGone : Nat := 0x12

def cBadKey : Nat := 0x01
def cBounds : Nat := 0x02
def cPerm : Nat := 0x03
def cProt : Nat := 0x04
def cMisalign : Nat := 0x05
def cNoAtomic : Nat := 0x06
def cBadAop : Nat := 0x07
def cTranslation : Nat := 0x08
def cUnknownQp : Nat := 0x20
def cQpState : Nat := 0x21

/-- Word `i` of a request's extension. -/
def Req.w (r : Req) (i : Nat) : Nat := beNat (fit 8 ((r.ext.drop (8 * i)).take 8))

/-- The extension of a NAK. -/
def nakWords (psn reason cause backoff : Nat) : List Byte := words [at_ (psnBits psn) 40 + at_ reason 32 + at_ cause 24 + at_ backoff 8]

/-- A NAK of a QP in RTS or ERR to its peer: every one takes a new ASN (R214). -/
def State.nak (s : State) (qpn slot psn reason cause backoff : Nat) : State :=
  let a := s.takeAsn qpn slot
  match a.2.qp? qpn with
  | none => a.2
  | some q => a.2.answerPeer qpn q slot tNak (psnBits a.1) 0 a.1 (psnBits a.1) (nakWords psn reason cause backoff) []

/-- A NAK for a request that no connected QP takes: to the endpoint and QP the packet names, echoing its GEN. -/
def State.bareNak (s : State) (t : Nat) (k : Packet) (th : TransHdr) (reason cause backoff : Nat) : State :=
  if !s.mayInject then s
  else
    let h : TransHdr :=
      { opcode := BitVec.ofNat 5 tNak, first := 0, last := 0, ackReq := 0, prot := 0, notify := 0, gen := th.gen, dstQpn := th.srcQpn,
        psn := 0, srcQpn := th.dstQpn, ssn := 0, retry := 0, rsvd := 0, ledger := 0 }
    let r : PathReq := { tile := t, dst := k.hdr.src, src := k.hdr.dst, tc := k.hdr.tc.toNat, pset := 0, policy := s.route.policy,
                         qp := th.dstQpn.toNat, psn := 0 }
    match s.sprayPath r with
    | none => s.noPath (feidGroup r.dst)
    | some p =>
      let ext := nakWords th.psn.toNat reason cause backoff
      s.inject t { hdr := s.header r p 1 false 0 (32 + ext.length), body := h.bytes ++ ext }

/-- The record of a violation: at most one for an initiator QP in a millisecond (R209). In the module log it is an event entry of SEQ 0 and
context 0xFFFF, for UNKNOWN_QP and for QP_STATE (DESIGN CHOICE, log 154). -/
def State.violation (s : State) (t : Nat) (k : Packet) (th : TransHdr) (owner : Option Nat) (cause : Nat) : State :=
  let s := s.tpCount t 11
  let key := k.hdr.src.toNat * 2 ^ 22 + th.srcQpn.toNat
  let due := match Tbl.get? s.violAt key with
    | none => true
    | some at0 => decide (at0 + msTicks ≤ s.clk.now)
  if due then
    let s := { s with violAt := Tbl.set s.violAt key s.clk.now }
    let data := leBytes 4 k.hdr.src.toNat ++ leBytes 4 th.srcQpn.toNat ++ leBytes 4 (th.dstQpn.toNat + at_ th.opcode.toNat 27)
      ++ leBytes 3 th.psn.toNat ++ leBytes 1 cause
    match owner with
    | some c => s.ctxEvent c 1 data 0
    | none =>
      s.event 0x0040 0xFFFF (leBytes 8 s.clk.nt.toNat ++ fit 16 data ++ leBytes 4 0 ++ leBytes 1 1 ++ leBytes 1 0
        ++ leBytes 1 (b2n !s.time.ntValid) ++ leBytes 1 3 ++ leBytes 2 0xFFFF)
  else s.tpCount t 12

/-- Refuse a request with a NAK of reason ACCESS. -/
def State.refuse (s : State) (r : Req) (cause : Nat) : State :=
  let owner := (s.qp? r.qpn).map (·.owner)
  (s.violation (r.qpn % 64) r.k r.th owner cause).nak r.qpn r.slot r.psn nAccess cause 0

/-! ### Sequence classification (R179) -/

/-- Where a request's extended PSN lies. -/
inductive SeqClass where
  | inWindow | recent | stale
deriving DecidableEq, Repr

/-- R179: base and the PSN as 24-bit values. -/
def seqClass (base psn w : Nat) : SeqClass :=
  let ahead := (psnBits psn + 2 ^ 24 - psnBits base) % 2 ^ 24
  let behind := (psnBits base + 2 ^ 24 - psnBits psn) % 2 ^ 24
  if ahead < w then .inWindow else if behind ≤ w then .recent else .stale

def ReqSlot.fresh (r : Req) : ReqSlot :=
  { placed := false, end_ := false, retry := r.th.retry.toNat, busy := true, again := false, notify := r.th.notify == 1, ledger := r.th.ledger.toNat,
    opcode := r.th.opcode.toNat, ssn := r.th.ssn.toNat, bytes := r.payload.length, payload := r.payload, hdr := r.k.hdr, th := r.th,
    ext := r.ext }

/-- The request a slot holds. -/
def ReqSlot.req (x : ReqSlot) (qpn slot psn : Nat) : Req :=
  { k := { hdr := x.hdr, body := [] }, th := x.th, qpn := qpn, slot := slot, psn := psn, ext := x.ext, payload := x.payload }

def State.modSlot (s : State) (qpn slot psn : Nat) (f : ReqSlot → ReqSlot) : State :=
  s.modChan qpn slot fun c => match Tbl.get? c.slots psn with
    | some x => { c with slots := Tbl.set c.slots psn (f x) }
    | none => c

/-- A request's slot is taken while its placement or execution is under way. -/
def State.takeSlot (s : State) (r : Req) : State :=
  s.modChan r.qpn r.slot fun c => { c with slots := Tbl.set c.slots r.psn (ReqSlot.fresh r) }

def State.freeSlot (s : State) (qpn slot psn : Nat) : State :=
  s.modChan qpn slot fun c => { c with slots := Tbl.erase c.slots psn }

/-! ### Base advances (R180, R184, R188) -/

/-- OPCODE of the target completion of a request opcode: PUT or SEND (R390). Which of the two the entry of a GET or an ATOMIC carries is a free
value (log 41). -/
def State.targetOpcode (s : State) (op : Nat) : Nat × State :=
  if op = tPut then (opPut, s)
  else if op = tSend then (opSend, s)
  else
    let f := s.fresh 1
    (if f.1 = 0 then opPut else opSend, f.2)

/-- The message that ends at a slot is complete at the target (R188). -/
def State.endMessage (s : State) (qpn slot : Nat) (x : ReqSlot) (bytes : Nat) : State :=
  match s.qp? qpn with
  | none => s
  | some q =>
    let s := if x.notify then s.ledgerAdd x.ledger 1 false else s
    let s := if x.notify && q.tgtCqe then
        let op := s.targetOpcode x.opcode
        op.2.postUnsolicited q.owner (cqeBytes 0 0 x.ledger bytes qpn ccOk op.1 0 2) else s
    let s := if x.opcode = tSend then
        (s.modDomain q.owner fun d => d.modFlow qpn slot x.ssn fun m => { m with complete := true }).completeAll q.owner
      else s
    s.ackMark qpn slot

/-- Base advances past every consecutive placed slot; `n` bounds them. -/
def State.advance (s : State) (qpn slot : Nat) : Nat → State
  | 0 => s
  | n + 1 =>
    match s.qp? qpn with
    | none => s
    | some q =>
      let c := q.chan slot
      match Tbl.get? c.slots c.rcvBase with
      | none => s
      | some x =>
        if !x.placed then s
        else
          let bytes := c.msgBytes + x.bytes
          let old := c.rcvBase - 2 ^ q.winLog2
          let s := s.modChan qpn slot fun c =>
            { c with rcvBase := c.rcvBase + 1, msgBytes := if x.end_ then 0 else bytes,
                     slots := if 2 ^ q.winLog2 ≤ c.rcvBase then Tbl.erase c.slots old else c.slots }
          let s := if x.end_ then s.endMessage qpn slot x bytes else s
          s.advance qpn slot n

/-- A request has been placed or executed: PLACED, END, base, and the acknowledgement (R184, R190, R193). -/
def State.placed (s : State) (qpn slot psn : Nat) : State :=
  match Tbl.get? (s.chan qpn slot).slots psn with
  | none => s
  | some x =>
    let last := x.th.last == 1 || x.opcode == tGet || x.opcode == tAtomic
    let s := s.modSlot qpn slot psn fun x => { x with placed := true, end_ := last, busy := false, payload := [] }
    let s := s.advance qpn slot 16385
    (if x.th.ackReq = 1 then s.ackMark qpn slot else s).ackFlush qpn slot

/-! ### Suspense (R206, R207) -/

/-- The slot of a class. -/
def Qp.slotOf (q : Qp) (tc : Nat) : Option Nat := (List.range 2).find? fun k => (q.chan k).en && (q.chan k).tc == tc

/-- BACKOFF of R207: the tile's host fetch time, that of its last fetch of a spilled context (log 86), rounded up to whole microseconds and at
least 1. -/
def State.backoffUs (s : State) (t : Nat) : Nat := min 65535 (max 1 (ceilDiv (s.tile t).fetchTicks usTicks))

/-- A request that may not be held is dropped and answered with a NAK of reason CTX_RETRY (R207). -/
def State.retryNak (s : State) (t : Nat) (k : Packet) : State :=
  let s := s.tpCount t 2
  let th := k.trans
  match s.qp? th.dstQpn.toNat with
  | some q =>
    if q.st = .rts ∨ q.st = .err then s.nak th.dstQpn.toNat ((q.slotOf k.tc).getD 0) th.psn.toNat nCtxRetry 0 (s.backoffUs t)
    else s.bareNak t k th nCtxRetry 0 (s.backoffUs t)
  | none => s.bareNak t k th nCtxRetry 0 (s.backoffUs t)

/-- Hold a packet in its tile's suspense buffer of 512. A request that finds it full draws a NAK; a response, an ACK or a NAK is dropped (R206,
R207, log 143). -/
def State.hold (s : State) (t : Nat) (k : Packet) (why : SuspWhy) : State :=
  let x := s.tile t
  if x.susp.length < 512 then
    s.setTile t { x with susp := x.susp ++ [{ pkt := k, why := why }], suspWmark := max x.suspWmark (x.susp.length + 1) }
  else if isRequest k.trans.opcode.toNat then s.retryNak t k
  else s

/-- Hold a request. -/
def State.suspend (s : State) (r : Req) (why : SuspWhy) : State := s.hold (r.qpn % 64) r.k why

/-! ### Access checks (R183, R259) -/

/-- NOTIFY names a ledger the QP's job may increment (R183, R279). -/
def State.notifyOk (s : State) (q : Qp) (th : TransHdr) : Bool :=
  th.notify == 0 || match Tbl.get? s.ledgers th.ledger.toNat with
    | some g => g.remote && (g.owner == q.owner || (s.ctxJobs g.owner).contains q.job)
    | none => false

/-- The region of a PUT, GET or ATOMIC, or the cause of its refusal. -/
def State.accessOf (s : State) (q : Qp) (r : Req) : Except Nat Region :=
  let op := r.th.opcode.toNat
  let off := r.w 1 % 2 ^ 48
  let n := if op = tPut then r.payload.length else if op = tGet then r.w 0 % 2 ^ 32 else 8
  let perm := if op = tPut then pRemoteWrite else if op = tGet then pRemoteRead else pRemoteAtomic
  match s.keyRegion (r.w 0 / 2 ^ 32) with
  | none => .error cBadKey
  | some g =>
    if g.job ≠ q.job then .error cBadKey
    else if g.kind ≠ .cuWindow ∧ g.size < off + n then .error cBounds
    else if !bit g.perm perm then .error cPerm
    else if g.prot ≠ q.prot then .error cProt
    else if !s.notifyOk q r.th then .error cPerm
    else if op = tAtomic then
      let aop := bits (r.w 0) 31 28
      if off % 8 ≠ 0 then .error cMisalign
      else if !knownAop aop || (g.kind == .host && isLockOp aop) then .error cBadAop
      else if g.kind = .host ∧ (match s.ctx? g.owner with | some c => (s.ep c.ep).atomicEn | none => false) = false then .error cNoAtomic
      else .ok g
    else .ok g

/-- Data of a region at an offset, for a remote requester. -/
def State.regionSpace (s : State) (g : Region) (off : Nat) : Space := match s.ctx? g.owner with
  | some c => g.space off c.ep (!c.kernel)
  | none => g.space off 0 false

/-- Placing into a HOST region of a context whose DMA is stopped waits (R342). -/
def State.mustPause (s : State) (g : Region) : Bool := g.kind == .host && !s.mayDma g.owner

/-! ### Answers of GETs and ATOMICs (R193, R194) -/

/-- Send the responses of a GET with its data. -/
def State.sendGetRsps (s : State) (r : Req) (retry : Nat) (data : List Byte) : State :=
  match s.qp? r.qpn with
  | none => s
  | some q =>
    let p := q.rspMax (q.chan r.slot).tc
    let rpsn0 := nearest 24 (q.chan r.slot).rpsnRef (r.w 2 % 2 ^ 24)
    let n := ceilDiv data.length p
    let s := s.modChan r.qpn r.slot fun c => { c with rpsnRef := max c.rpsnRef (rpsn0 + n) }
    (List.range n).foldl (fun s k =>
      s.answerPeer r.qpn q r.slot tGetRsp (psnBits (rpsn0 + k)) retry (rpsn0 + k) (psnBits (rpsn0 + k) + at_ retry 24)
        (words [at_ (r.w 2 / 2 ^ 32) 32, (r.w 3 + k * p) % 2 ^ 48]) ((data.drop (k * p)).take p)) s

/-- Send the response of an ATOMIC. -/
def State.sendAtomicRsp (s : State) (r : Req) (retry : Nat) (result : U64) (status : Nat) : State :=
  match s.qp? r.qpn with
  | none => s
  | some q =>
    let rpsn := nearest 24 (q.chan r.slot).rpsnRef (r.w 0 % 2 ^ 24)
    let s := s.modChan r.qpn r.slot fun c => { c with rpsnRef := max c.rpsnRef (rpsn + 1) }
    s.answerPeer r.qpn q r.slot tAtomicRsp (psnBits rpsn) retry rpsn (psnBits rpsn + at_ retry 24) (words [result.toNat, status]) []

/-- An ATOMIC has been performed: its result is logged and answered with the RETRY its slot records, and it is placed. -/
def State.atomicDone (s : State) (r : Req) (x : ReqSlot) (result : U64) (status : Nat) : State :=
  let s := s.modChan r.qpn r.slot fun c => { c with atomics := ((r.psn, result, status) :: c.atomics).take 16 }
  let s := s.sendAtomicRsp r x.retry result status
  if x.placed then s.modSlot r.qpn r.slot r.psn fun x => { x with busy := false, again := false } else s.placed r.qpn r.slot r.psn

/-- A rendezvous record is marked served by the GET that ends its data (R237). -/
def Chan.serveRndv (c : Chan) (rkey end_ : Nat) : Chan :=
  match c.msgs.find? fun m => m.rndv && !m.served && m.lkey == rkey && m.loff + m.lastLen == end_ with
  | some m => c.modMsg m.id fun x => { x with served := true }
  | none => c

/-- Execute the GET whose PSN base has reached: its data is read (R193). -/
def State.execGet (s : State) (r : Req) : State :=
  match s.qp? r.qpn with
  | none => s
  | some q =>
    match s.accessOf q r with
    | .error e => (s.freeSlot r.qpn r.slot r.psn).refuse r e
    | .ok g =>
      if s.mustPause g then (s.freeSlot r.qpn r.slot r.psn).suspend r .paused
      else
        let s := s.takeSlot r
        let s := s.modChan r.qpn r.slot fun c => c.serveRndv (r.w 0 / 2 ^ 32) (r.w 1 % 2 ^ 48 + r.w 0 % 2 ^ 32)
        s.issue (.getExec r.qpn r.slot r.psn r.th.retry.toNat) g.owner (s.regionSpace g (r.w 1 % 2 ^ 48)) false [] (r.w 0 % 2 ^ 32) none

/-- The operation of an ATOMIC goes to its gateway. -/
def State.askAtomic (s : State) (r : Req) : State :=
  match s.keyRegion (r.w 0 / 2 ^ 32) with
  | none => s
  | some g =>
    let off := r.w 1 % 2 ^ 48
    s.issue (.remoteAtomic r.qpn r.slot r.psn) g.owner (s.regionSpace g off) false [] 8
      (some (s.atomicReq (masterQp r.qpn) (bits (r.w 0) 31 28) (BitVec.ofNat 64 (r.w 2)) (BitVec.ofNat 64 (r.w 3)) (r.w 0 / 2 ^ 32) off))

/-- Execute the ATOMIC whose PSN base has reached. -/
def State.execAtomic (s : State) (r : Req) : State :=
  match s.qp? r.qpn with
  | none => s
  | some q =>
    match s.accessOf q r with
    | .error e =>
      let s := if e = cNoAtomic then
          (match (s.keyRegion (r.w 0 / 2 ^ 32)).bind fun g => s.ctx? g.owner with
            | some c => s.modEp c.ep fun y => { y with atomicRefused := y.atomicRefused + 1 }
            | none => s)
        else s
      (s.freeSlot r.qpn r.slot r.psn).refuse r e
    | .ok g =>
      if s.mustPause g then (s.freeSlot r.qpn r.slot r.psn).suspend r .paused
      else (s.takeSlot r).askAtomic r

/-- A duplicate GET or ATOMIC whose slot has PLACED set acts only with a greater RETRY, which the slot then records: a GET reads again, an ATOMIC
is answered from the log (R194), and one that met poison meets it again (R296). One that must wait for its function's DMA is not recorded
until it acts. -/
def State.redo (s : State) (r : Req) (x : ReqSlot) : State :=
  let t := r.qpn % 64
  let note (s : State) : State := s.modSlot r.qpn r.slot r.psn fun x => { x with retry := r.th.retry.toNat, hdr := r.k.hdr, ext := r.ext }
  if !x.placed || r.th.retry.toNat ≤ x.retry then (s.tpCount t 3).count 0x0502 t qAny 1
  else
    if r.th.opcode.toNat = tGet then
      match (s.qp? r.qpn).map fun q => s.accessOf q r with
      | some (.ok g) =>
        if s.mustPause g then s.suspend r .paused
        else
          let s := (note s).modSlot r.qpn r.slot r.psn fun x => { x with busy := true }
          s.issue (.getExec r.qpn r.slot r.psn r.th.retry.toNat) g.owner (s.regionSpace g (r.w 1 % 2 ^ 48)) false [] (r.w 0 % 2 ^ 32) none
      | _ => note s
    else
      let s := note s
      match (s.chan r.qpn r.slot).atomics.find? fun a => a.1 == r.psn with
      | some a => s.sendAtomicRsp r r.th.retry.toNat a.2.1 a.2.2
      | none => if x.again then s.askAtomic r else s

/-! ### SEND packets (R218, R230, R231, R240) -/

/-- Place a SEND packet's payload directly in the receive buffer of its paired message (R231, R235). -/
def State.placeDirect (s : State) (c : Nat) (m : InMsg) (p : Posted) (r : Req) : State :=
  let off := r.w 2 % 2 ^ 32
  let n := min r.payload.length (p.length - off)
  if n = 0 || m.code ≠ 0 then (s.takeSlot r).placed r.qpn r.slot r.psn
  else
    match s.keySpace c p.lkey (p.loff + off) with
    | none =>
      let s := s.modInMsg c m.id fun x => { x with code := ccTranslation }
      (s.takeSlot r).placed r.qpn r.slot r.psn
    | some sp =>
      match sp, s.mayDma c with
      | .host _ _ _ _ _, false => s.suspend r .paused
      | _, _ => (s.takeSlot r).issue (.place r.qpn r.slot r.psn) c sp true (r.payload.take n) n none

/-- Place it in the pool (R231). -/
def State.placePool (s : State) (c : Nat) (d : Domain) (m : InMsg) (r : Req) : State :=
  let off := r.w 2 % 2 ^ 32
  match m.pool with
  | some g =>
    if r.payload.isEmpty then (s.takeSlot r).placed r.qpn r.slot r.psn
    else
      let s := s.modInMsg c m.id fun x => { x with staging := x.staging + 1 }
      (s.takeSlot r).issue (.stage c m.id off r.qpn r.slot r.psn) c (.hbm (d.poolDa g off)) true r.payload r.payload.length none
  | none => (s.takeSlot r).placed r.qpn r.slot r.psn

/-- Place a packet of message `id`, wherever its message stands. -/
def State.placeSend (s : State) (c id : Nat) (r : Req) : State :=
  match s.domain? c with
  | none => s
  | some d =>
    match d.msg? id with
    | none => s
    | some m =>
      if m.rndv then (s.takeSlot r).placed r.qpn r.slot r.psn
      else
        match m.pair with
        | some p => s.placeDirect c m p r
        | none => s.placePool c d m r

/-- A NAK of reason RESOURCE for a SEND (R240). -/
def State.nakSend (s : State) (d : Domain) (r : Req) : State :=
  (s.mtCount (r.qpn % 64) 5 1).nak r.qpn r.slot r.psn nResource 0 d.backoff

/-- The message of a SEND packet, as its first packet to arrive makes it. -/
def Req.inMsg (r : Req) (id : Nat) : InMsg :=
  let rndv := bit (r.w 0) 25
  { id := id, qpn := r.qpn, slot := r.slot, ssn := r.th.ssn.toNat, comm := bits (r.w 0) 63 48, rank := bits (r.w 0) 47 26,
    tagv := BitVec.ofNat 64 (r.w 1), msgLen := r.w 2 / 2 ^ 32, rndv := rndv, rkey := field r.payload 0 4, offset := field r.payload 8 6,
    haveFirst := r.th.first == 1, queued := false, presented := false, aseq := 0, entry := 0, pool := none, complete := false, pair := none, parts := [], staging := 0,
    copies := 0, gets := 0, code := 0, conn := 0, ended := false }

/-- A message is in turn to be presented (R187). -/
def State.msgTurn (s : State) (m : InMsg) : Bool := m.haveFirst && !m.presented && !m.queued && (s.chan m.qpn m.slot).rcvSsn % 65536 == m.ssn

/-- The message of a SEND packet that is in the domain already. -/
def Domain.msgOf (d : Domain) (r : Req) : Option InMsg :=
  d.msgs.find? fun m => m.qpn == r.qpn && m.slot == r.slot && m.ssn == r.th.ssn.toNat && m.conn == 0

/-- A SEND packet starts the presentation of its message: it is the FIRST, and the message's turn has come (R187). -/
def State.startsMsg (s : State) (d : Domain) (r : Req) : Bool :=
  match d.msgOf r with
  | some m => r.th.first == 1 && s.msgTurn { m with haveFirst := true }
  | none => s.msgTurn (r.inMsg 0)

/-- A SEND packet is taken or refused, its message presented where it starts that: without a match and without room, or without granules, it
is refused and sets no slot (R187, R231, R240). -/
def State.takeSend (s : State) (r : Req) : State :=
  let s := s.freeSlot r.qpn r.slot r.psn
  match (s.qp? r.qpn).map (·.owner) with
  | none => s
  | some c =>
    match s.domain? c with
    | none => s
    | some d =>
      let turn := s.startsMsg d r
      let m := (d.msgOf r).getD (r.inMsg d.nextMsg)
      let found := if turn then d.findPosted m else none
      let needs := (d.msgOf r).isNone && found.isNone && !m.rndv && m.msgLen != 0
      let g := d.findGranules (granulesFor m.msgLen)
      if (turn && found.isNone && !s.unexpRoom d) || (needs && g.isNone) then s.nakSend d r
      else
        let s := if (d.msgOf r).isSome then
            (if r.th.first = 1 then s.modInMsg c m.id fun x => { x with haveFirst := true } else s)
          else s.modDomain c fun d =>
            { d with msgs := d.msgs ++ [{ m with pool := if needs then g else none }], nextMsg := d.nextMsg + 1,
                     used := match needs, g with | true, some g => d.used ++ [(g, granulesFor m.msgLen)] | _, _ => d.used }
        (if turn then s.present c m.id else s).placeSend c m.id r

/-- A SEND packet that waited for a teller still holds its slot: its QP has not left RTS. -/
def State.slotTaken (s : State) (r : Req) : Bool :=
  match Tbl.get? (s.chan r.qpn r.slot).slots r.psn with
  | some x => x.busy && !x.placed
  | none => false

/-! ### The match unit (R223, R241) -/

/-- Probes an operation needs. -/
def State.opProbes (s : State) (c : Nat) (d : Domain) : MatchOp → Nat
  | .present id => match d.msg? id with
    | some m => d.arrivalProbes m
    | none => 0
  | .arrive r => d.arrivalProbes (r.inMsg 0)
  | .post _ serial | .probe _ serial => match s.chain? c serial with
    | some h => d.postProbes h.posted
    | none => 0
  | .cancel _ serial => match s.chain? c serial with
    | some h => chainProbes (fun r => r.cookie == BitVec.ofNat 64 (h.f 16 8)) d.posted
    | none => 0

/-- Carry out one operation of a domain. -/
def State.doOp (s : State) (c : Nat) : MatchOp → State
  | .present id => (s.modInMsg c id fun m => { m with queued := false }).present c id
  | .arrive r => if s.slotTaken r then s.takeSend r else s
  | .post _ serial => s.post c serial
  | .probe _ serial => s.probe c serial
  | .cancel _ serial => s.cancel c serial

/-- Count the probes the match unit makes: at most 32 (R241, R247). -/
def State.countProbes (s : State) (c n : Nat) : State :=
  let t := s.ctxTile c
  (s.mtCount t 0 (min 32 n)).count 0x0600 t qAny (min 32 n)

/-- An operation waits: the message it presents is not presented again meanwhile. -/
def State.queuedOp (s : State) (c : Nat) (o : MatchOp) : State :=
  match o with
  | .present id => s.modInMsg c id fun m => { m with queued := true }
  | _ => s

/-- An operation reaches the match unit: carried out, handed to a teller when it needs more than 32 probes, or kept waiting behind
one that a teller has (R223, R241). -/
def State.submitOp (s : State) (c : Nat) (o : MatchOp) : State :=
  match s.domain? c with
  | none => s
  | some d =>
    if d.busy.isEmpty then
      let n := s.opProbes c d o
      let s := s.countProbes c n
      if n ≤ 32 then s.doOp c o
      else
        let t := s.ctxTile c
        let s := (s.setDomain c { d with busy := [o] }).queuedOp c o
        (s.mtCount t 4 1).count 0x0602 t qAny 1
    else (s.setDomain c { d with busy := d.busy ++ [o] }).queuedOp c o

/-- The teller has finished: its operation is carried out, and those waiting follow until one needs a teller again. -/
def State.tellerDone (s : State) (c : Nat) : State :=
  match s.domain? c with
  | none => s
  | some d =>
    match d.busy with
    | [] => s
    | o :: rest =>
      let s := (s.setDomain c { d with busy := [] }).doOp c o
      rest.foldl (fun s o => s.submitOp c o) s

/-- A SEND request that is new (R218, R230). One that starts its message's presentation goes to the match unit, and waits with it where a
teller is needed or at work (R223, R241). -/
def State.acceptSend (s : State) (r : Req) : State :=
  match s.qp? r.qpn with
  | none => s
  | some q =>
    let len := r.w 2 / 2 ^ 32
    let off := r.w 2 % 2 ^ 32
    match s.domain? q.owner with
    | none => s.refuse r cPerm
    | some d =>
      if d.job ≠ q.job then s.refuse r cPerm
      else if !s.notifyOk q r.th then s.refuse r cPerm
      else if bit (r.w 0) 25 = false ∧ (len > 16384 ∨ off + r.payload.length > len) then s.mtCount (r.qpn % 64) 7 1
      else if s.startsMsg d r then (s.takeSlot r).submitOp q.owner (.arrive r)
      else s.takeSend r

/-- The next message of a channel is presented when its turn has come: its FIRST packet is in and the one before it is presented. With
no match and no room it waits. -/
def State.presentNext (s : State) (qpn slot : Nat) : State :=
  match s.qp? qpn with
  | none => s
  | some q =>
    match (s.domain? q.owner).bind fun d => d.msgs.find? fun m => m.qpn == qpn && m.slot == slot && m.conn == 0 && s.msgTurn m with
    | some m => s.submitOp q.owner (.present m.id)
    | none => s

/-! ### New requests (R184, R186, R193, R259) -/

/-- A PUT that is new. -/
def State.acceptPut (s : State) (q : Qp) (r : Req) : State :=
  match s.accessOf q r with
  | .error e => s.refuse r e
  | .ok g =>
    let off := r.w 1 % 2 ^ 48
    if g.kind = .cuWindow then
      (s.takeSlot r).issue (.window r.qpn r.slot r.psn) g.owner (.unit g.base off) true r.payload r.payload.length none
    else if r.payload.isEmpty then (s.takeSlot r).placed r.qpn r.slot r.psn
    else if s.mustPause g then s.suspend r .paused
    else
      let s := s.takeSlot r
      s.issue (.place r.qpn r.slot r.psn) g.owner (s.regionSpace g off) true r.payload r.payload.length none

/-- A GET or ATOMIC executes when base has reached it, and waits in the suspense buffer until then (R193). -/
def State.acceptExec (s : State) (r : Req) : State :=
  if (s.chan r.qpn r.slot).rcvBase = r.psn then (if r.th.opcode.toNat = tGet then s.execGet r else s.execAtomic r)
  else s.suspend r .early

/-- A packet fails its tag: dropped, counted, and reported at most once a second per tile (R215, R422). -/
def State.authFailed (s : State) (t : Nat) : State :=
  let s := (s.tpCount t 10).modSec fun x => { x with authFail := x.authFail + 1 }
  let old := s.sec.intStatus
  let s := (s.modSec fun x => { x with intStatus := old ||| 1 }).notify old (old ||| 1) s.sec.intEnable
  let due := match (s.tile t).authAt with
    | none => true
    | some a => decide (a + secTicks ≤ s.clk.now)
  if due then
    (s.modTile t fun x => { x with authAt := some s.clk.now }).event 0x0043 0xFFFF
      (leBytes 4 t ++ leBytes 8 ((s.tile t).tp.getD 10 0).toNat ++ List.replicate 20 0 ++ leBytes 2 0xFFFF)
  else s

/-- Step 4 of R182 onward: classification, authentication, access checks, placement. -/
def State.sequence (s : State) (q : Qp) (r : Req) (opened : Option (List Byte)) : State :=
  let t := r.qpn % 64
  let c := q.chan r.slot
  let dupAck (s : State) : State := s.ackEvent r.qpn r.slot
  let slot? := Tbl.get? c.slots r.psn
  let dup (s : State) (x : ReqSlot) : State :=
    let op := r.th.opcode.toNat
    if c.tc = 0 && r.th.retry.toNat == x.retry && x.hdr.copy != r.k.hdr.copy then dupAck (s.tpCount t 4)
    else if op = tGet ∨ op = tAtomic then dupAck (s.redo r x)
    else dupAck ((s.tpCount t 3).count 0x0502 t qAny 1)
  let fresh (s : State) : State :=
    -- the PROT of the QP is checked before authentication (R211), the tag before the access checks (R182)
    if (r.th.prot == 1) ≠ q.prot then s.refuse r cProt
    else
      match opened with
      | none => s.authFailed t
      | some plain =>
        let r := { r with payload := plain }
        let s := if q.prot then s.modSec fun x => { x with gcmRx := x.gcmRx + 1 } else s
        let op := r.th.opcode.toNat
        if op = tPut then s.acceptPut q r
        else if op = tSend then s.acceptSend r
        else s.acceptExec r
  match seqClass c.rcvBase r.psn (2 ^ q.winLog2) with
  | .stale => dupAck (s.tpCount t 5)
  | .recent => match slot? with
    | some x => if x.placed then dup s x else dupAck ((s.tpCount t 3).count 0x0502 t qAny 1)
    | none => dupAck ((s.tpCount t 3).count 0x0502 t qAny 1)
  | .inWindow => match slot? with
    | some x => dup s x
    | none =>
      if c.ordered && r.psn ≠ c.rcvBase then
        let recent := match c.nakBase with
          | some (b, a) => b == c.rcvBase && decide (s.clk.now < a + 2 * usTicks)
          | none => false
        if recent then s
        else
          (s.modChan r.qpn r.slot fun c => { c with nakBase := some (c.rcvBase, s.clk.now) }).nak r.qpn r.slot c.rcvBase nSeq 0 0
      else fresh s

/-! ### Arriving requests (R47, R48, R169, R170, R182, R204 to R206) -/

/-- The payload part of a packet: with PROT set, the sealed bytes and their tag. -/
def Packet.payload (k : Packet) (op : Nat) : List Byte := (k.body.take (k.hdr.len.toNat - 16)).drop (16 + extLen op)
def Packet.ext (k : Packet) (op : Nat) : List Byte := fit (extLen op) ((k.body.drop 16).take (extLen op))

/-- Open a packet's payload under a QP's key; none when the tag fails. An open packet's payload is as it came. -/
def openPayload (q : Qp) (k : Packet) (th : TransHdr) (eseq : Nat) : Option (List Byte) :=
  let op := th.opcode.toNat
  if th.prot = 1 then
    Config.gcmOpen (q.tkey.getD []) (nonceOf k.hdr.src th.srcQpn.toNat (nonceKind op) k.hdr.copy.toNat th.retry.toNat eseq)
      (aadOf k.hdr th (k.ext op)) (k.payload op)
  else some (k.payload op)

/-- Count a discard of R47 or R48 of a packet for this module's endpoints, at its tile's port (log 34). -/
def State.discard (s : State) (t : Nat) (k : Packet) (reason : Option Nat) : State :=
  let vc := (s.link t).vcOf k.hdr
  match reason with
  | some r => s.drop t vc r
  | none => s.countDrop t vc

/-- The checks of R47 and R48: the RT_DROP reason, or none of a R48 discard. -/
def State.lifetime (s : State) (k : Packet) : Option (Option Nat) :=
  if s.timeHeld then some none
  else if s.age k.hdr.stamp > s.time.lt then some (some 2)
  else if s.age k.hdr.stamp < -16 then some (some 3)
  else none

/-- A QP's context comes into its tile's cache. -/
def State.touch (s : State) (qpn : Nat) : State :=
  s.modTile (qpn % 64) fun t => { t with cached := (qpn :: t.cached.filter (· ≠ qpn)).take 1024 }

/-- Start the fetch of a spilled context (R205). -/
def State.fetchSpilled (s : State) (qpn : Nat) (q : Qp) : State :=
  if q.fetchingCtx then s
  else
    match s.ctx? q.owner with
    | none => s
    | some c =>
      let s := (s.tpCount (qpn % 64) 1).modQp qpn fun q => { q with fetchingCtx := true, fetchFrom := s.clk.now }
      s.issue (.spill qpn) q.owner (.host (c.ep / 2) c.ep c.asid false c.spillVa) false [] 256 none

/-- The endpoint of a QP's owning context; engine contexts use EP0 (log 36). -/
def State.qpEp (s : State) (q : Qp) : Nat := ((s.ctx? q.owner).map (·.ep)).getD 0

/-- A request whose QP's context is here: the QP's state, GEN, then what R182 has follow (R170, R178, R419). -/
def State.request2 (s : State) (t : Nat) (k : Packet) (q : Qp) : State :=
  let th := k.trans
  let qpn := th.dstQpn.toNat
  let stale := s.tpCount t 6
  let noKey (s : State) : State := s.modSec fun x => { x with nokeyDrop := x.nokeyDrop + 1 }
  if feidEp k.hdr.dst ≠ s.qpEp q ∨ s.formed (feidEp k.hdr.dst) = false then
    (s.violation t k th none cUnknownQp).bareNak t k th nNoQp cUnknownQp 0
  else
    match q.st with
    | .quarantine => if q.keyErased then noKey stale else stale
    | .reset =>
      if q.keyErased then noKey s
      else if q.hostLost then s.bareNak t k th nHostGone 0 0
      else (s.violation t k th none cQpState).bareNak t k th nNoQp cQpState 0
    | .err =>
      let slot := (q.slotOf k.tc).getD 0
      if q.keyErased then noKey s
      else if q.hostLost then s.nak qpn slot th.psn.toNat nHostGone 0 0
      else (s.violation t k th none cQpState).nak qpn slot th.psn.toNat nNoQp cQpState 0
    | .rts =>
      if q.keyErased then noKey s
      else if th.gen.toNat ≠ q.peerGen then stale
      else
        match q.slotOf k.tc with
        | none => s
        | some slot =>
          let op := th.opcode.toNat
          let psn := nearest 24 (q.chan slot).rcvBase th.psn.toNat
          let r : Req := { k := k, th := th, qpn := qpn, slot := slot, psn := psn, ext := k.ext op, payload := k.payload op }
          let s := if k.hdr.cong = 1 then
              s.modChan qpn slot fun c => { c with congMask := c.congMask ||| BitVec.ofNat 8 (2 ^ k.hdr.cand.toNat) } else s
          s.sequence q r (openPayload q k th psn)

/-- A request that its tile processes now (R182): the lifetime check, then it waits out A2 or the fetch of a spilled context (R206), then the
checks in order. -/
def State.request1 (s : State) (t : Nat) (k : Packet) : State :=
  let th := k.trans
  match s.lifetime k with
  | some why => s.discard t k why
  | none =>
    if s.pwr.st = .a2 then s.wake.hold t k .asleep
    else
      match s.qp? th.dstQpn.toNat with
      | none => (s.violation t k th none cUnknownQp).bareNak t k th nNoQp cUnknownQp 0
      | some q => if q.spilled then (s.fetchSpilled th.dstQpn.toNat q).hold t k .spilled else s.request2 t k q

/-- Release the early GETs and ATOMICs that base has reached, in arrival order (R193, R206). -/
def State.releaseEarly (s : State) (t : Nat) : Nat → State
  | 0 => s
  | n + 1 =>
    let ready (x : Susp) : Bool := x.why == .early && match s.qp? x.pkt.trans.dstQpn.toNat with
      | some q => match q.slotOf x.pkt.tc with
        | some k => decide (circ 24 x.pkt.trans.psn.toNat (q.chan k).rcvBase ≤ 0)
        | none => true
      | none => true
    match takeFirst ready (s.tile t).susp with
    | none => s
    | some (x, rest) => ((s.modTile t fun y => { y with susp := rest }).request1 t x.pkt).releaseEarly t n

/-- Every tile's early requests that base has reached go on. -/
def State.suspSync (s : State) : State :=
  (s.tiles.filter fun e => !e.2.susp.isEmpty).foldl (fun s e => s.releaseEarly e.1 512) s

end Sys2Proof.Machine
end

