-- ==== Sys2Proof/Machine/Answers.lean ====
section
/-! DEFINITION. The requester side at the arrival of responses, ACKs and NAKs, and its resends (R93, R191, R195, R197 to R203, R237). -/
namespace Sys2Proof.Machine

/-- A response, ACK or NAK for a connected QP of this module: its QP, slot and header, once GEN and tag are checked. -/
structure Ans where
  k : Packet
  th : TransHdr
  qpn : Nat
  slot : Nat
  ext : List Byte
  payload : List Byte
deriving DecidableEq, Repr

def Ans.w (a : Ans) (i : Nat) : Nat := beNat (fit 8 ((a.ext.drop (8 * i)).take 8))

/-- Responses may be received on a channel again: RSP_BASE is at the lowest reserved RPSN not received (R172). -/
def Chan.syncRsp (c : Chan) : Chan :=
  { c with rspBase := match c.rsps with | r :: _ => r.rpsn | [] => c.rspNext }

/-- A response is in: its reservation goes, and trackers that only waited for it are freed. -/
def State.rspIn (s : State) (qpn slot rpsn : Nat) : State :=
  s.modChan qpn slot fun c => ({ c with rsps := c.rsps.filter fun r => r.rpsn ≠ rpsn }).syncRsp.freeTracks

/-- The code of message `id` of a channel, unless it has one already. -/
def State.codeMsg (s : State) (qpn slot id code : Nat) : State :=
  s.modChan qpn slot fun c => c.modMsg id fun m => { m with code := if m.code = 0 then code else m.code }

/-- Where the data of a response belongs: a local region that covers it, or the discard granule of the QP's domain (R195, R236). -/
def State.rspSpace (s : State) (q : Qp) (lkey loff n : Nat) : Option Space :=
  if lkey = discardKey then (s.domain? q.owner).map fun d => .hbm d.base
  else match s.localKey q.owner lkey loff n [pLocalWrite] with
    | some _ => s.keySpace q.owner lkey loff
    | none => none

/-- A GET_RSP (R195). -/
def State.getRsp (s : State) (a : Ans) : State :=
  let t := a.qpn % 64
  match s.qp? a.qpn with
  | none => s
  | some q =>
    let c := q.chan a.slot
    let rpsn := nearest 24 c.rspBase a.th.psn.toNat
    match c.rsps.find? fun r => r.rpsn == rpsn && !r.busy with
    | none => (s.tpCount t 3).count 0x0502 t qAny 1
    | some r =>
      let lkey := a.w 0 / 2 ^ 32
      let loff := a.w 1 % 2 ^ 48
      match s.rspSpace q lkey loff a.payload.length with
      | none => (s.codeMsg a.qpn a.slot r.msg ccTranslation).rspIn a.qpn a.slot rpsn
      | some sp =>
        if a.payload.isEmpty then s.rspIn a.qpn a.slot rpsn
        else
          match sp, s.mayDma q.owner with
          | .host _ _ _ _ _, false => s.hold t a.k .paused
          | _, _ =>
            let s := s.modChan a.qpn a.slot fun c =>
              { c with rsps := c.rsps.map fun x => if x.rpsn = rpsn then { x with busy := true } else x }
            s.issue (.getPlace a.qpn a.slot rpsn) q.owner sp true a.payload a.payload.length none

/-- An ATOMIC_RSP (R195). -/
def State.atomicRsp (s : State) (a : Ans) : State :=
  let t := a.qpn % 64
  let c := s.chan a.qpn a.slot
  let rpsn := nearest 24 c.rspBase a.th.psn.toNat
  match c.rsps.find? fun r => r.rpsn == rpsn && !r.busy with
  | none => (s.tpCount t 3).count 0x0502 t qAny 1
  | some r =>
    (s.modChan a.qpn a.slot fun c =>
      c.modMsg r.msg fun m => { m with result := BitVec.ofNat 64 (a.w 0), astatus := a.w 1 % 256 }).rspIn a.qpn a.slot rpsn

/-- Each bit of CONG_MASK raises the score of its candidate for the destination group (R93, R191). -/
def State.feedCong (s : State) (t g mask : Nat) : State :=
  if g = s.route.group then s
  else (maskBits mask 8).foldl (fun s i =>
    s.modTile t fun x => { x with cong := Tbl.set x.cong (8 * g + i) (min 15 (Tbl.getD x.cong (8 * g + i) 0 + 1)) }) s

/-- The trackers that CUM and SACK acknowledge. -/
def Chan.ackTracks (c : Chan) (cum sack : Nat) : Chan :=
  let hit (k : Track) : Bool := decide (k.psn < c.sndCum) || (decide (cum < k.psn) && decide (k.psn ≤ cum + 64) && bit sack (k.psn - cum - 1))
  { c with tracks := c.tracks.map fun k => if hit k then { k with acked := true } else k }

/-- A packet is to be sent again when its NAK's BACKOFF ends (R201). -/
def Chan.backOff (c : Chan) (psn : Nat) (ctx : Bool) (at0 : Nat) : Chan :=
  let hit (k : Track) : Bool := k.psn == psn && c.needs k
  { c with tracks := c.tracks.map fun k => if hit k then { k with ctxRetry := ctx, backoffAt := some at0 } else k }

/-- An ACK (R191). -/
def State.ackIn (s : State) (a : Ans) : State :=
  let w0 := a.w 0
  let w1 := a.w 1
  let s := s.modChan a.qpn a.slot fun c =>
    let cum := nearest 24 c.sndCum (bits w0 63 40)
    let c := if c.sndCum < cum ∧ cum ≤ c.sndNext then { c with sndCum := cum } else c
    let asn := nearest 24 c.asnRx a.th.psn.toNat
    let c := { c with asnRx := max c.asnRx asn }
    (c.ackTracks cum w1).freeTracks
  match (s.qp? a.qpn).bind s.peerOf with
  | none => s
  | some peer => s.feedCong (a.qpn % 64) (feidGroup peer.1) (bits w0 39 32)

/-- Resend every unacknowledged packet of an ORDERED channel from SND_CUM on, in PSN order, or fail the message of the first whose budget is
spent (R198, R202). -/
def State.goBack (s : State) (qpn slot : Nat) : State :=
  match s.qp? qpn with
  | none => s
  | some q =>
    let c := q.chan slot
    let l := c.tracks.filter fun k => decide (c.sndCum ≤ k.psn) && !k.acked
    match l.find? fun k => !q.mayRetry k with
    | some k => s.spendQp qpn slot k
    | none =>
      let s := s.modChan qpn slot fun c => { c with goBackAt := s.clk.now }
      l.foldl (fun s k => s.resend qpn slot k) s

/-- Resend one packet, or fail its message when its budget is spent (R198). -/
def State.resendOr (s : State) (qpn slot : Nat) (k : Track) : State :=
  match s.qp? qpn with
  | none => s
  | some q => if q.mayRetry k then s.resend qpn slot k else s.spendQp qpn slot k

/-- Completion code of a NAK (R168, R178). -/
def nakCode (reason cause : Nat) : Nat :=
  if reason = nHostGone then ccHostGone else if cause = cTranslation then ccTranslation else ccRemoteAccess

/-- A NAK (R201, R202, R208). -/
def State.nakIn (s : State) (a : Ans) : State :=
  let t := a.qpn % 64
  let w0 := a.w 0
  let reason := bits w0 39 32
  let cause := bits w0 31 24
  let backoff := bits w0 23 8
  let s := s.count 0x0505 t qAny 1
  let s := s.modChan a.qpn a.slot fun c => { c with asnRx := max c.asnRx (nearest 24 c.asnRx a.th.psn.toNat) }
  let c := s.chan a.qpn a.slot
  let psn := nearest 24 c.sndCum (bits w0 63 40)
  if reason = nSeq then (if psn = c.sndCum ∧ c.ordered = true then s.goBack a.qpn a.slot else s)
  else if reason = nCtxRetry ∨ reason = nResource then
    s.modChan a.qpn a.slot fun c => c.backOff psn (decide (reason = nCtxRetry)) (s.clk.now + backoff * usTicks)
  else s.failQp a.qpn a.slot (some psn) (nakCode reason cause)

/-- A response, ACK or NAK at its requester (R191, R195, R201, R206, R212): it waits for a spilled context; then GEN, the tag, and what it does.
One whose PROT is not its QP's is dropped (log 144). -/
def State.answer1 (s : State) (t : Nat) (k : Packet) : State :=
  let th := k.trans
  let op := th.opcode.toNat
  match s.lifetime k with
  | some why => s.discard t k why
  | none =>
    let qpn := th.dstQpn.toNat
    let rsp := op = tGetRsp ∨ op = tAtomicRsp
    match s.qp? qpn with
    | none => s
    | some q =>
      if q.spilled then (s.fetchSpilled qpn q).hold t k .spilled
      else if th.gen.toNat ≠ q.gen then (if rsp then s.tpCount t 7 else s)
      else if q.st ≠ .rts then (if rsp then (s.tpCount t 3).count 0x0502 t qAny 1 else s)
      else
        match q.slotOf k.tc with
        | none => s
        | some slot =>
          let c := q.chan slot
          let ref := if rsp then c.rspBase else c.asnRx
          if (th.prot == 1) ≠ q.prot then s
          else
            match openPayload q k th (nearest 24 ref th.psn.toNat) with
            | none => s.authFailed t
            | some plain =>
              let s := if q.prot then s.modSec fun x => { x with gcmRx := x.gcmRx + 1 } else s
              let a : Ans := { k := k, th := th, qpn := qpn, slot := slot, ext := k.ext op, payload := plain }
              if op = tGetRsp then s.getRsp a
              else if op = tAtomicRsp then s.atomicRsp a
              else if op = tAck then s.ackIn a
              else s.nakIn a

/-- A packet of its home tile is processed. -/
def State.process1 (s : State) (t : Nat) (k : Packet) : State :=
  if isRequest k.trans.opcode.toNat then s.request1 t k else s.answer1 t k

/-- Release the held packets that a condition allows, in arrival order. -/
def State.releaseSusp (s : State) (t : Nat) (ok : Susp → Bool) : State :=
  let l := (s.tile t).susp.filter ok
  let s := s.modTile t fun x => { x with susp := x.susp.filter fun y => !ok y }
  l.foldl (fun s x => s.process1 t x.pkt) s

/-- The tile takes a packet whose QP context is cached; a miss goes to the miss queue of 32, and with that full the packet waits where it
is (none): R204. An arrival in A2 wakes the module (R496). -/
def State.takePacket (s : State) (t : Nat) (k : Packet) : Option State :=
  let qpn := k.trans.dstQpn.toNat
  let s := s.wake
  match s.qp? qpn with
  | none => some (s.process1 t k)
  | some q =>
    let x := s.tile t
    if q.pin || x.cached.contains qpn then some ((s.touch qpn).process1 t k)
    else if x.missQ.length < 32 then
      some ((((s.tpCount t 0).count 0x0503 t qAny 1)).modTile t fun x => { x with missQ := x.missQ ++ [k] })
    else none

/-- The packet a tile takes next: the head of its EXP ejection queue, else its oldest other packet that is not CTL. -/
def State.nextPacket (s : State) (t : Nat) : Option (Packet × State) :=
  let x := s.tile t
  match x.expQ with
  | k :: rest => some (k, s.modTile t fun x => { x with expQ := rest })
  | [] => (takeFirst (fun k => k.hdr.vn != 2) x.inQ).map fun r => (r.1, s.modTile t fun x => { x with inQ := r.2 })

/-- A tile's next packet is processed when it has the opcode; the tiles do nothing in STOPPED (R517) or before Balyn runs. -/
def State.packetRow (s : State) (t op : Nat) : State :=
  if !s.works || s.faults.stopped then s
  else
    match s.nextPacket t with
    | none => s
    | some (k, s') => if k.trans.opcode.toNat = op then (s'.takePacket t k).getD s else s

end Sys2Proof.Machine
end

