-- ==== Sys2Proof/Machine/Start.lean ====
section
/-! DEFINITION. The start walk of a ring and the start of each kind of chain (R49 to R55, R143, R150, R227, R229, R254, R280 to R283,
R384 to R389, R557). -/
namespace Sys2Proof.Machine

/-- The channel of a chain: a QP's slot, a node, or the ring's local channel (R386). -/
inductive ChainKey where
  | qp (qpn tc : Nat)
  | coll (node : Nat)
  | loc
deriving DecidableEq, Repr

def Chain.key (h : Chain) : ChainKey :=
  if h.usesQp then .qp h.qpn h.tc else if h.op = opColl then .coll h.collNode else .loc

/-- The slot of a chain's QP. -/
def State.chainSlot (s : State) (h : Chain) : Option Nat := (s.qp? h.qpn).bind fun q => q.slotOf h.tc

/-- Chains in the launch queue of a tile (R50). -/
def State.launchQueue (s : State) (t : Nat) : Nat :=
  (s.ctxs.map fun e => if e.2.tile = t then (e.2.chains.filter fun h => h.st == .queued || h.st == .prepared).length else 0).sum

/-- The launch target is past: NT has gone beyond it (R53). -/
def State.pastTarget (s : State) (h : Chain) : Bool := decide (circ 64 s.clk.nt.toNat h.launchAt.toNat > 0)
def State.due (s : State) (h : Chain) : Bool := decide (circ 64 s.clk.nt.toNat h.launchAt.toNat ≥ 0)

/-- The context's bucket lets a chain of a class start (R150). -/
def State.bucketOk (s : State) (x : Ctx) (tc : Nat) : Bool :=
  !x.bucket.en || !bit x.classMask tc || decide (0 ≤ x.bucket.tokensAt s.clk.now)

/-- The channel cannot send the first packet of a chain now: its window is full, an earlier message is still being sent, or the module
does not inject (R48, R181). -/
def State.channelFull (s : State) (h : Chain) : Bool :=
  match s.qp? h.qpn, s.chainSlot h with
  | some q, some k =>
    let c := q.chan k
    q.st == .reset || !s.mayInject || !s.windowOpen h.qpn k || c.msgs.any (fun m => m.endPsn.isNone)
      || (h.op == opGet && !q.rspRoom k (ceilDiv (min (16 * q.rspMax c.tc) (h.f 36 4)) (q.rspMax c.tc)))
      || (h.op == opAtomic && (!q.rspRoom k 1 || decide (16 ≤ c.atomicsOut)))
  | _, _ => true

/-- A chain that can never start: the code it ends with at once. An entry of a QP in ERR or QUARANTINE, or of one that is gone, completes
ABORTED (R168); so does one of TC0 while TC0 is disabled (R143). -/
def State.chainDead (s : State) (h : Chain) : Bool :=
  h.usesQp && (match s.qp? h.qpn with
    | some q => q.st == .err || q.st == .quarantine || (q.slotOf h.tc).isNone
    | none => true) || (h.usesQp && h.tc == 0 && !(s.sched 0).tc0En)

/-- What the walk does with the next chain. -/
inductive WalkStep where
  /-- the ring is held here (R281, R256, R50) -/
  | hold (ledger : Bool)
  /-- the chain waits, and blocks its channel -/
  | block
  /-- its channel is blocked already -/
  | skip
  /-- it completes with a code, without starting -/
  | finish (code : Nat)
  /-- it enters the launch queue -/
  | queue
  /-- it starts -/
  | start
deriving DecidableEq, Repr

/-- Every ledger a chain names is one its ring may wait on or update (R282). -/
def State.ledgersOk (s : State) (c : Nat) (h : Chain) : Bool :=
  (!h.waitEn || s.ledgerOk c h.waitLedger) && (!h.doneEn || s.ledgerOk c h.doneLedger)
    && (!(h.op == opRecv && h.notify) || s.ledgerOk c (h.f 56 4 % 1048576))

/-- R386 for one chain. -/
def State.walkStep (s : State) (c : Nat) (x : Ctx) (h : Chain) (blocked : List ChainKey) : WalkStep :=
  let ledger : Option WalkStep :=
    if !s.ledgersOk c h then some (.finish ccAborted)
    else if h.waitEn && !h.passed then
      match Tbl.get? s.ledgers h.waitLedger with
        | some g => if g.poison then some (.finish ccAborted) else if g.count < h.threshold then some (.hold true) else none
        | none => some (.finish ccAborted)
    else none
  match ledger with
  | some w => w
  | none =>
    if h.op == opColl && (s.node? h.collNode).isSome && !s.instanceFree h.collNode then .hold false
    else if blocked.contains h.key then .skip
    else if h.launchEn && !s.due h then (if s.launchQueue x.tile < 1024 then .queue else .hold false)
    else if s.chainDead h then .finish ccAborted
    else if h.fence && (x.chains.head?.map (·.serial)) != some h.serial then .block
    else if h.usesQp && (!s.bucketOk x h.tc || s.channelFull h) then .block
    else .start

/-- Walk until a chain can start: what happened to those before it, and the chain (R386). -/
def State.walkFrom (s : State) (c : Nat) : List Chain → List ChainKey → State × Option Chain
  | [], _ => (s, none)
  | h :: t, blocked =>
    if h.st ≠ .waiting then s.walkFrom c t blocked
    else
      match s.ctx? c with
      | none => (s, none)
      | some x =>
        match s.walkStep c x h blocked with
        | .hold ledger => (if ledger then s.modChain c h.serial fun h => { h with held := true } else s, none)
        | .skip => (s.wakeHeld c h).walkFrom c t blocked
        | .block => (s.wakeHeld c h).walkFrom c t (h.key :: blocked)
        | .finish code => ((s.wakeHeld c h).chainDone c h.serial code).walkFrom c t blocked
        | .queue => ((s.wakeHeld c h).modChain c h.serial fun h => { h with st := .queued }).walkFrom c t (h.key :: blocked)
        | .start => (s.wakeHeld c h, some h)

/-- Channels blocked before the walk: those of chains in the launch queue, and the local channel while one of its chains runs (R386,
R387). -/
def Ctx.blockedKeys (x : Ctx) : List ChainKey :=
  x.chains.filterMap fun h =>
    if h.st = .queued ∨ h.st = .prepared ∨ (h.st = .started ∧ h.key = .loc) then some h.key else none

/-- The start walk runs while the rings do: the module works, and the context is not lost. -/
def State.walk (s : State) (c : Nat) : State × Option Chain :=
  match s.ctx? c with
  | none => (s, none)
  | some x =>
    if !s.works || s.faults.stopped || x.hostLost || s.pwr.st == .a2 then (s, none) else s.walkFrom c x.chains x.blockedKeys

/-! ### Starting each kind -/

/-- Start a chain whose message goes out on its QP; a rank that does not translate completes it TRANSLATION (R66). -/
def State.startMsg (s : State) (c : Nat) (h : Chain) (m : Msg) : State :=
  match s.chainSlot h with
  | none => s.chainDone c h.serial ccAborted
  | some k =>
    let r := (s.modChain c h.serial fun h => { h with st := .started, payload := none }).addMsg h.qpn k { m with pre := match h.payload with | some [] => none | p => p }
    if r.1 then r.2 else r.2.chainDone c h.serial ccTranslation

/-- The local key of an entry fails R557. -/
def State.badKey (s : State) (c key off n : Nat) (perms : List Nat) : Bool := (s.localKey c key off n perms).isNone

/-- A PUT starts (R384). -/
def State.startPut (s : State) (c : Nat) (h : Chain) : State :=
  let len := if h.inl then h.xflags else h.f 36 4
  if !h.inl && s.badKey c (h.f 32 4) (h.f 40 6) len [pLocalRead] then s.chainDone c h.serial ccTranslation
  else s.startMsg c h { Msg.mk0 (.chain c h.serial) tPut len with
    inline_ := if h.inl then some ((h.work.drop 32).take len) else none, lkey := h.f 32 4, loff := h.f 40 6, rkey := h.f 16 4,
    roff := h.f 24 6, notify := h.notify, ledger := h.f 20 4 % 1048576 }

/-- A GET starts. -/
def State.startGet (s : State) (c : Nat) (h : Chain) : State :=
  let len := h.f 36 4
  if s.badKey c (h.f 32 4) (h.f 40 6) len [pLocalWrite] then s.chainDone c h.serial ccTranslation
  else s.startMsg c h { Msg.mk0 (.chain c h.serial) tGet len with
    lkey := h.f 32 4, loff := h.f 40 6, rkey := h.f 16 4, roff := h.f 24 6, notify := h.notify, ledger := h.f 20 4 % 1048576 }

/-- A SEND starts, eager or as a rendezvous (R229). -/
def State.startSend (s : State) (c : Nat) (h : Chain) : State :=
  let len := if h.inl then h.xflags else h.f 36 4
  let eager := h.inl || len = 0 || decide (len ≤ ((s.ctx? c).map (·.eagerLimit)).getD 0)
  let base : Msg :=
    { Msg.mk0 (.chain c h.serial) tSend len with
      comm := h.f 24 2, rank := h.f 32 4 % 2 ^ 22, tagv := BitVec.ofNat 64 (h.f 16 8), notify := h.notify,
      ledger := h.f 28 4 % 1048576, lkey := h.f 40 4, loff := h.f 48 6 }
  if !h.inl && s.badKey c (h.f 40 4) (h.f 48 6) len [pLocalRead] then s.chainDone c h.serial ccTranslation
  else if eager then s.startMsg c h { base with inline_ := if h.inl then some ((h.work.drop 40).take len) else none }
  else s.startMsg c h { base with
    total := 16, rndv := true, lastLen := len, inline_ := some (leBytes 4 (h.f 40 4) ++ leBytes 4 0 ++ leBytes 8 (h.f 48 6)) }

/-- A local ATOMIC is performed (R311, R313); one on host memory becomes an AtomicOp (R312). -/
def State.startLocalAtomic (s : State) (c : Nat) (h : Chain) : State :=
  let key := h.f 16 4
  let off := h.f 24 6
  let aop := h.f 32 1 % 16
  let op0 := BitVec.ofNat 64 (h.f 40 8)
  let op1 := BitVec.ofNat 64 (h.f 48 8)
  match s.localKey c key off 8 [pLocalRead, pLocalWrite] with
  | none => s.chainDone c h.serial ccTranslation
  | some g =>
    if off % 8 ≠ 0 ∨ knownAop aop = false ∨ (g.kind = .host ∧ isLockOp aop = true) then s.chainDone c h.serial ccAborted
    else
      match s.keySpace c key off with
      | some sp =>
        (s.modChain c h.serial fun h => { h with st := .started }).issue (.localAtomic c h.serial) c sp false [] 8
          (some (s.atomicReq (masterCtx c) aop op0 op1 key off))
      | none => s.chainDone c h.serial ccTranslation

/-- An ATOMIC starts. -/
def State.startAtomic (s : State) (c : Nat) (h : Chain) : State :=
  if h.localAtomic then s.startLocalAtomic c h
  else s.startMsg c h { Msg.mk0 (.chain c h.serial) tAtomic 8 with
    rkey := h.f 16 4, roff := h.f 24 6, notify := h.notify, ledger := h.f 20 4 % 1048576, aop := h.f 32 1 % 16,
    op0 := BitVec.ofNat 64 (h.f 40 8), op1 := BitVec.ofNat 64 (h.f 48 8) }

/-- A RECV posts its receive (R225, R228); without a domain it completes ABORTED. -/
def State.startRecv (s : State) (c : Nat) (h : Chain) : State :=
  if s.badKey c (h.f 40 4) (h.f 48 6) (h.f 44 4) [pLocalWrite] then s.chainDone c h.serial ccTranslation
  else if (s.domain? c).isNone then s.chainDone c h.serial ccAborted
  else (s.modChain c h.serial fun h => { h with st := .started }).submitOp c (.post c h.serial)

def State.startProbe (s : State) (c : Nat) (h : Chain) : State :=
  if (s.domain? c).isNone then s.chainDone c h.serial ccAborted
  else (s.modChain c h.serial fun h => { h with st := .started }).submitOp c (.probe c h.serial)

def State.startCancel (s : State) (c : Nat) (h : Chain) : State :=
  if (s.domain? c).isNone then s.chainDone c h.serial ccAborted
  else (s.modChain c h.serial fun h => { h with st := .started }).submitOp c (.cancel c h.serial)

/-- A COLL starts at its member, or completes at once (R253, R254, R257). -/
def State.startCollChain (s : State) (c : Nat) (h : Chain) : State :=
  match s.collRefused c h with
  | some code =>
    let rank := if code = ccMemberLost then ((s.node? h.collNode).map (·.failRank)).getD 0 else 0
    s.chainDoneWith c h.serial code 0 rank 0 (h.collNode) 0
  | none => (s.modChain c h.serial fun h => { h with st := .started }).startColl c h

def Chain.ledger (h : Chain) : Nat := h.f 16 4 % 1048576

def State.startLedgerAdd (s : State) (c : Nat) (h : Chain) : State :=
  if s.ledgerOk c h.ledger then (s.ledgerAdd h.ledger (h.f 24 8) false).chainDone c h.serial ccOk
  else s.chainDone c h.serial ccAborted

def State.startLedgerSet (s : State) (c : Nat) (h : Chain) : State :=
  if s.ledgerOk c h.ledger then (s.ledgerSet h.ledger (h.f 24 8)).chainDone c h.serial ccOk
  else s.chainDone c h.serial ccAborted

/-- LEDGER_READ: VALUE is COUNT, COUNT_A bit 0 is POISON (R283, R391). -/
def State.startLedgerRead (s : State) (c : Nat) (h : Chain) : State :=
  match Tbl.get? s.ledgers h.ledger with
  | some g =>
    if s.ledgerOk c h.ledger then s.chainDoneWith c h.serial ccOk g.count (b2n g.poison) 0 0 0 else s.chainDone c h.serial ccAborted
  | none => s.chainDone c h.serial ccAborted

def State.startNop (s : State) (c : Nat) (h : Chain) : State := s.chainDone c h.serial ccOk

/-- A late launch is counted (R53). -/
def State.countLate (s : State) (t : Nat) (h : Chain) : State :=
  let ns := (circ 64 s.clk.nt.toNat h.launchAt.toNat).toNat / 256
  let old := s.time.intStatus
  let new := old ||| 32
  let s := { s with time := { s.time with
    lateCnt := if s.time.lateCnt = BitVec.allOnes 32 then s.time.lateCnt else s.time.lateCnt + 1,
    lateMax := BitVec.ofNat 32 (max s.time.lateMax.toNat (min ns (2 ^ 32 - 1))), intStatus := new } }
  (s.count 0x0104 t qAny 1).notify old new s.time.intEnable

/-- The chain is endpoint traffic: it sends packets of its own (R48, R55). -/
def Chain.endpoint (h : Chain) : Bool := h.usesQp || h.op == opColl

/-- A launch is late when its preparation finished or it became eligible after the target (R53), or the target passed while LOST under
HOLD held it (R55). -/
def State.lateLaunch (s : State) (h : Chain) : Bool :=
  h.launchEn && s.pastTarget h && (!h.ready || (h.endpoint && match s.time.heldEnd with
    | some t => decide (0 ≤ circ 64 t.toNat h.launchAt.toNat)
    | none => false))

/-- Start a chain: a timed one is counted, and a late one too (R53). -/
def State.startChain (s : State) (c : Nat) (h : Chain) : State :=
  let t := s.ctxTile c
  let late := s.lateLaunch h
  let s := if late then s.countLate t h else s
  if late && s.time.latePolicy then s.chainDone c h.serial ccAborted
  else
    let s := if h.launchEn then s.count 0x0103 t qAny 1 else s
    let s := s.count 0x0B00 c (qMask h.tc) 1
    if h.op = opPut then s.startPut c h
    else if h.op = opGet then s.startGet c h
    else if h.op = opSend then s.startSend c h
    else if h.op = opRecv then s.startRecv c h
    else if h.op = opAtomic then s.startAtomic c h
    else if h.op = opColl then s.startCollChain c h
    else if h.op = opProbe then s.startProbe c h
    else if h.op = opCancel then s.startCancel c h
    else if h.op = opLedgerAdd then s.startLedgerAdd c h
    else if h.op = opLedgerSet then s.startLedgerSet c h
    else if h.op = opLedgerRead then s.startLedgerRead c h
    else s.startNop c h

/-! ### Which context a tile serves (R388) -/

/-- The chains of a ring that the walk could start as things stand. -/
def State.startablesFrom (s : State) (c : Nat) (x : Ctx) : List Chain → List ChainKey → List Chain
  | [], _ => []
  | h :: t, blocked =>
    if h.st ≠ .waiting then s.startablesFrom c x t blocked
    else
      match s.walkStep c x h blocked with
      | .hold _ => []
      | .skip | .finish _ => s.startablesFrom c x t blocked
      | .block | .queue => s.startablesFrom c x t (h.key :: blocked)
      | .start => h :: s.startablesFrom c x t (h.key :: blocked)

/-- The contexts of a tile whose rings have a chain that can start and that satisfies `p`. -/
def State.startable (s : State) (t : Nat) (p : Chain → Bool) : List Nat :=
  if !s.works || s.faults.stopped || s.pwr.st == .a2 then []
  else (s.ctxs.filter fun e => e.2.tile == t && !e.2.hostLost && (s.startablesFrom e.1 e.2 e.2.chains e.2.blockedKeys).any p).map (·.1)

/-- The first of some contexts in the tile's round robin, which goes by context number (log 121). -/
def State.inRobin (s : State) (t : Nat) (cs : List Nat) : Option Nat :=
  (cs.find? fun c => (s.tile t).turn ≤ c).orElse fun _ => cs.head?

/-- The context that a tile serves next: those with a startable chain of TC0 come first (R388). -/
def State.nextServed (s : State) (t : Nat) : Option Nat :=
  (s.inRobin t (s.startable t fun h => h.usesQp && h.tc == 0)).orElse fun _ => s.inRobin t (s.startable t fun _ => true)

/-- A context's turn: one chain of its ring starts. -/
def State.takeTurn (s : State) (c : Nat) (h : Chain) : State :=
  (s.modTile (s.ctxTile c) fun x => { x with turn := c + 1 }).startChain c h

/-- Chains of a tile's contexts: a bound of the turns they take. -/
def State.tileChains (s : State) (t : Nat) : Nat := (s.ctxs.map fun e => if e.2.tile = t then e.2.chains.length else 0).sum

/-- The home tile of context `c` serves its contexts, a turn each, until none can start a chain (R386, R388); `n` bounds the turns. -/
def State.serve (s : State) (c : Nat) : Nat → State
  | 0 => s
  | n + 1 =>
    let d := (s.nextServed (s.ctxTile c)).getD c
    match s.walk d with
    | (s', some h) => (s'.takeTurn d h).serve c n
    | (s', none) => s'

/-- The turns before that of context `c`. -/
def State.turnTo (s : State) (c : Nat) : Nat → State
  | 0 => s
  | n + 1 =>
    match s.nextServed (s.ctxTile c) with
    | none => s
    | some d =>
      if d = c then s
      else match s.walk d with
        | (s', some h) => (s'.takeTurn d h).turnTo c n
        | (s', none) => s'

/-- Context `c` takes its turn, when the chain it starts has opcode `op`. -/
def State.walkOne (s : State) (c op : Nat) : State :=
  match (s.turnTo c (s.tileChains (s.ctxTile c))).walk c with
  | (s', some h) => if h.op = op then s'.takeTurn c h else s
  | (_, none) => s

/-! ### Timed chains (R52, R53, R55) -/

/-- Bytes of the first packet a chain's preparation fetches, and from where; none when nothing is to be fetched. -/
def State.prepFetch (s : State) (c : Nat) (h : Chain) : Option (Space × Nat) :=
  match s.qp? h.qpn, s.chainSlot h with
  | some q, some k =>
    let tc := (q.chan k).tc
    if h.inl then none
    else if h.op = opPut then
      let n := min (q.payloadMax tc tPut) (h.f 36 4)
      if n = 0 || s.badKey c (h.f 32 4) (h.f 40 6) (h.f 36 4) [pLocalRead] then none
      else (s.keySpace c (h.f 32 4) (h.f 40 6)).map fun sp => (sp, n)
    else if h.op = opSend ∧ h.f 36 4 ≤ ((s.ctx? c).map (·.eagerLimit)).getD 0 then
      let n := min (q.payloadMax tc tSend) (h.f 36 4)
      if n = 0 || s.badKey c (h.f 40 4) (h.f 48 6) (h.f 36 4) [pLocalRead] then none
      else (s.keySpace c (h.f 40 4) (h.f 48 6)).map fun sp => (sp, n)
    else none
  | _, _ => none

/-- What a COLL chain's launch begins with, by node of its member: the first segment of a leaf's contribution, or of a root's BCAST data
(R52, R276). -/
def State.prepColl (s : State) (c : Nat) (h : Chain) : List (Nat × Space × Nat) :=
  if (s.collRefused c h).isSome || h.collKind = ckBarrier then []
  else (s.memberNodes h.collNode).filterMap fun e =>
    let x := e.2
    let z := elemSize h.collOpEff h.collType
    let n := x.segElems (h.f 20 4) x.stripe * z
    if n = 0 || !(if h.collKind = ckBcast then x.root && x.degree != 0 else !x.root && x.degree == 0) then none
    else (s.keySpace c (h.f 24 4) (h.f 32 6 + x.segFirst x.stripe * z)).map fun sp => (e.1, sp, n)

/-- Preparation of a queued chain begins; it is finished at once when nothing is to be fetched. -/
def State.prepare (s : State) (c : Nat) (h : Chain) : State :=
  let s' := s.modChain c h.serial fun h => { h with st := .prepared }
  let nodes := if h.op = opColl then s.prepColl c h else []
  match (if h.usesQp then s.prepFetch c h else none), nodes with
  | some (sp, n), _ => s'.issue (.prepare c h.serial) c sp false [] n none
  | none, [] => s.modChain c h.serial fun h => { h with st := .prepared, payload := some [], ready := !s.pastTarget h }
  | none, l => l.foldl (fun s e => s.issue (.collPrep c h.serial e.1) c e.2.1 false [] e.2.2 none) s'

/-- Chain `a` launches before `b`: the earlier target, and with equal targets TC0 ahead of the other classes (R52). -/
def Chain.before (a b : Chain) : Bool :=
  let d := circ 64 a.launchAt.toNat b.launchAt.toNat
  decide (d < 0) || (decide (d = 0) && a.usesQp && a.tc == 0 && !(b.usesQp && b.tc == 0))

/-- The chain of a context whose launch comes first, among those in a stage. -/
def Ctx.firstLaunch (x : Ctx) (ok : Chain → Bool) : Option Chain :=
  (x.chains.filter ok).foldl (fun a h => match a with
    | none => some h
    | some b => if h.before b then some h else a) none

/-- The prepared chain that launches next: of those whose target has been reached one of TC0 first, else the one with the earliest target
(R52). Under LOST with HOLD endpoint traffic is held (R55). -/
def State.nextLaunch (s : State) (x : Ctx) : Option Chain :=
  let may (h : Chain) : Bool := h.st == .prepared && h.payload.isSome && !(s.timeHeld && h.endpoint)
  (x.firstLaunch fun h => may h && s.due h && h.usesQp && h.tc == 0).orElse fun _ => x.firstLaunch may

/-- A prepared chain launches. One whose fence, bucket or channel does not let it go leaves the launch queue, and starts by the walk when
they do. -/
def State.launch (s : State) (c : Nat) (h : Chain) : State :=
  match s.ctx? c with
  | none => s
  | some x =>
    let oldest := (x.chains.head?.map (·.serial)) == some h.serial
    if s.chainDead h then s.chainDone c h.serial ccAborted
    else if (h.fence && !oldest) || (h.usesQp && (!s.bucketOk x h.tc || s.channelFull h))
        || (h.op == opColl && (s.node? h.collNode).isSome && !s.instanceFree h.collNode) then
      s.modChain c h.serial fun h => { h with st := .waiting }
    else s.startChain c h

end Sys2Proof.Machine
end

