-- ==== Sys2Proof/Machine/Engine.lean ====
section
/-! DEFINITION. The translation agents of tellers and bursars: their walks in HBM, their device space and their faults (R303 to R308). -/
namespace Sys2Proof.Machine

/-- A span of an engine agent's physical addresses touches its device space: a PA that is none of HBM, HP0 and HP1, or a byte below the chunk
pool that Balyn does not grant to the address space (R304, R306). -/
def State.engineDevice (s : State) (agent asid pa len : Nat) : Bool :=
  match bits pa 51 48 with
  | 0 => (List.range len).any fun i => pa % 2 ^ 37 + i < poolBase && !Config.engineGrant s.mem.engineGen agent asid (pa % 2 ^ 37 + i)
  | 1 | 2 => false
  | _ => true

/-- An access ends in a fault: captured; a fill is discarded and records nothing (R307, R308). -/
def State.engineFault (s : State) (w : EngineWalk) (cause lvl : Nat) : State :=
  if w.kind = .fill then s
  else s.capture1 w.agent cause lvl w.asid w.va (w.kind == .write || w.kind == .atomic) w.user

/-- Read the entry of a level from the table at `t`: page tables are in HBM (R303, R305, log 169). -/
def State.engineRead (s : State) (w : EngineWalk) (t lvl : Nat) : State :=
  let ea := t + bits w.va (20 + 9 * lvl) (12 + 9 * lvl) * 8
  if s.engineDevice w.agent w.asid ea 8 then s.engineFault w cDeviceSpace lvl
  else if bits ea 51 48 ≠ 0 then s.engineFault w cReadError lvl
  else s.issue (.engineRead { w with lvl := lvl, ea := ea }) 0x20000 (.hbm (ea % 2 ^ 37)) false [] 8 none

/-- Walk from level 3, or from the deepest cached table (R303, R305). -/
def State.engineStart (s : State) (w : EngineWalk) : State :=
  let s := if w.again then s else s.modAgent w.agent fun a => { a with walks := a.walks + 1 }
  match (if w.again then none else s.tlbTable w.agent w.asid w.va) with
  | some t => s.engineRead w (ptePpn t.pte.toNat * 4096) (t.lvl - 1)
  | none =>
    match Config.engineRoot s.mem.engineGen w.agent w.asid with
    | some root => s.engineRead w (root * 4096) 3
    | none => s.engineFault w cNotValid 3

/-- The physical address of an access through leaf `e` of level `lvl` (R304). -/
def leafPa (va lvl e : Nat) : Nat := ptePpn e * 4096 + va % 2 ^ pageBits lvl

/-- A leaf serves an access unless it leads to device space; where it leads, the access is made at that address (R304, R305). -/
def State.engineUse (s : State) (w : EngineWalk) (lvl e : Nat) : State :=
  if s.engineDevice w.agent w.asid (leafPa w.va lvl e) 1 then s.engineFault w cDeviceSpace lvl else s

/-- An entry of a walk has been read (R305). -/
def State.engineEntry (s : State) (w : EngineWalk) (e : XferEnd) : State :=
  match e with
  | .ok d =>
    let e := leNat (fit 8 d)
    let t := pteOf w.asid w.va w.lvl e
    (match walkNext w.lvl e with
      | .fault c => s.engineFault w c w.lvl
      | .table pa => (s.tlbKeep w.agent t).engineRead w pa (w.lvl - 1)
      | .leaf =>
        if w.kind = .fill then
          (if pteA e && !s.engineDevice w.agent w.asid (leafPa w.va w.lvl e) 1 then s.tlbKeep w.agent t else s)
        else if !permOk e w.kind w.user then s.engineFault w cPermission w.lvl
        else if !pteA e then
          s.issue (.engineCas w e) 0x20000 (.hbm (w.ea % 2 ^ 37)) false [] 8
            (some (s.atomicReq (masterEngine w.asid) aopCas (BitVec.ofNat 64 e) (BitVec.ofNat 64 (e ||| 64)) 0 0))
        else (s.tlbKeep w.agent t).engineUse w w.lvl e)
  | _ => s.engineFault w cReadError w.lvl

/-- The answer of set_accessed, by the atomic unit of the entry (R305). -/
def State.engineAccessed (s : State) (w : EngineWalk) (pte : Nat) (e : XferEnd) : State :=
  match e with
  | .word old _ =>
    if old.toNat = pte then (s.tlbKeep w.agent (pteOf w.asid w.va w.lvl (pte ||| 64))).engineUse w w.lvl (pte ||| 64)
    else if w.again then s.engineFault w cAccessed w.lvl
    else s.engineStart { w with again := true }
  | _ => s.engineFault w cAccessed w.lvl

/-- An access of a teller or a bursar: a TLB hit serves it, else a walk (R303, R305). -/
def State.engineAccess (s : State) (w : EngineWalk) : State :=
  if w.va / 2 ^ 48 ≠ 0 then s.engineFault w cOutOfRange 3
  else
    match s.tlbLeaf w.agent w.asid w.va with
    | some t =>
      let s := s.modAgent w.agent fun a => { a with hits := a.hits + 1 }
      if permOk t.pte.toNat w.kind w.user then s.engineUse w t.lvl t.pte.toNat else s.engineFault w cPermission t.lvl
    | none => ((s.modAgent w.agent fun a => { a with misses := a.misses + 1 }).count 0x0900 w.agent (qNum w.asid) 1).engineStart w

/-- A fill of an engine agent for an address of an ASID that has a root: a walk that no access asks for, unless the leaf is cached (R308). -/
def State.fillEngine (s : State) (agent asid va : Nat) : State :=
  if (Config.engineRoot s.mem.engineGen agent asid).isNone || (s.tlbLeaf agent asid va).isSome then s
  else
    ((s.modAgent agent fun a => { a with prefetches := a.prefetches + 1 }).count 0x0902 agent (qNum asid) 1).engineStart
      { agent := agent, asid := asid, va := va, kind := .fill, user := false, lvl := 3, ea := 0, again := false }

end Sys2Proof.Machine
end

