-- ==== Sys2Proof/Machine/Lanes.lean ====
section
/-! DEFINITION. What a port's transmitter puts on its lanes: link-control flits as bytes, flit slots and their scrambling, RS(544,514)
codewords, lane distribution and modulation, and training blocks (R429 to R435, R442). -/
namespace Sys2Proof.Machine

/-! ### Lanes and the forwarded clock (R423 to R427) -/

/-- Symbol rate of a rate code in kBd (R425). -/
def symbolKBd : Nat → Nat
  | 0 => 106250000 | 1 => 53125000 | _ => 26562500

/-- Lane rate of a rate code in kb/s: PAM4 sends two bits a symbol, NRZ, rate code 3, one (R425). -/
def laneKbps (rate : Nat) : Nat := symbolKBd rate * (if rate = 3 then 1 else 2)

/-- The rate code whose CK the port drives: in DOZE, and in a STEP into or out of it, that of the PAM4 rate the link left (R426). -/
def LinkPort.ckRate (l : LinkPort) : Nat :=
  match l.st with
  | .equalize => l.train.eqRate
  | .align | .capx => l.train.targetRate
  | .active | .down => l.rate
  | .doze | .step => l.ckPrev
  | _ => 3

/-- CK as sent, in kHz: a quarter of the symbol rate; none in DISABLED and HOLDOFF, where CK is in electrical idle (R423, R426). -/
def LinkPort.ckKHz (l : LinkPort) : Option Nat := match l.st with
  | .disabled | .holdoff => none
  | _ => some (symbolKBd l.ckRate / 4)

/-- The data lanes that send; the others are in electrical idle (R423, R427, R441, R461, R466). -/
def LinkPort.lanesOn (l : LinkPort) : BitVec 8 :=
  let first (w : Nat) : BitVec 8 := BitVec.ofNat 8 (2 ^ w - 1)
  match l.st with
  | .disabled | .detect | .clock | .holdoff => 0
  | .slow => first 8
  | .equalize | .align | .capx => first l.train.targetWidth
  | .active | .step => first l.width
  | .doze => first 1
  | .down => first l.tx.line.width

/-! ### Link-control flits as bytes -/

/-- Byte `j` of the ALIGN pattern (R435). -/
def alignByte (j : Nat) : Byte := BitVec.ofNat 8 ((37 * j + 0x5C) % 256)

/-- The 64 bytes of a link-control flit, most significant byte first (R434, R435). -/
def Lctl.bytes : Lctl → List Byte
  | .idle => fit 64 [0x00]
  | .mark b => fit 64 b
  | .reply b => fit 64 b
  | .cap b => fit 64 b
  | .ack q freed => fit 64 ([0x03, 0x00] ++ beBytes 2 q.toNat ++ (freed.map fun f => beBytes 2 f.toNat).flatten)
  | .replayReq q c => fit 64 ([0x04, 0x00] ++ beBytes 2 q.toNat ++ beBytes 1 c)
  | .replayStart q c => fit 64 ([0x05, 0x00] ++ beBytes 2 q.toNat ++ beBytes 1 c)
  | .align cw => [0x07] ++ (List.range 59).map (fun j => alignByte (j + 1)) ++ beBytes 4 cw.toNat
  | .pstateReq d w r => fit 64 ([0x08, 0x00, 0x01] ++ beBytes 1 (b2n d) ++ beBytes 1 w ++ beBytes 1 r)
  | .pstateSwitch d w r cw =>
    fit 64 ([0x08, 0x00, 0x02] ++ beBytes 1 (b2n d) ++ beBytes 1 w ++ beBytes 1 r ++ [0x00, 0x00] ++ beBytes 4 cw.toNat)
  | .down c => fit 64 ([0x09, 0x00] ++ beBytes 1 c)

/-! ### The scrambler -/

/-- The scrambler x^58 + x^39 + 1 advances by one bit (R432): its output bit and its next state. Bit `i` of the state is the output `i + 1` bits
ago; the output is the feedback bit (DESIGN CHOICE, log 172). -/
def scrStep (x : BitVec 58) : Bool × BitVec 58 :=
  let b := x.getLsbD 57 != x.getLsbD 38
  (b, (x <<< 1) ||| BitVec.ofNat 58 (b2n b))

/-- `n` bits of the scrambler, first bit most significant, after the bits of `key`; and the state it is left in. -/
def scrBits : Nat → Nat → BitVec 58 → Nat × BitVec 58
  | 0, key, x => (key, x)
  | n + 1, key, x => scrBits n (2 * key + b2n (scrStep x).1) (scrStep x).2

/-- A slot of 512 bits as it is sent, and the scrambler after it (R432): an ALIGN flit goes unscrambled and leaves the scrambler at all ones. -/
def scrambled (x : BitVec 58) (isAlign : Bool) (w : BitVec 512) : BitVec 512 × BitVec 58 :=
  if isAlign then (w, BitVec.allOnes 58)
  else
    let k := scrBits 512 0 x
    (w ^^^ BitVec.ofNat 512 k.1, k.2)

/-! ### The code -/

/-- Multiplication by α in GF(2^10) with the field polynomial x^10 + x^3 + 1 (R431). -/
def gfAlpha (a : BitVec 10) : BitVec 10 := if a.getLsbD 9 then (a <<< 1) ^^^ 9 else a <<< 1

/-- Multiplication in that field. -/
def gfMul (a b : BitVec 10) : BitVec 10 :=
  ((List.range 10).foldl (fun (r : BitVec 10 × BitVec 10) i => (if b.getLsbD i then r.1 ^^^ r.2 else r.1, gfAlpha r.2)) (0, a)).1

/-- α^j. -/
def gfPow : Nat → BitVec 10
  | 0 => 1
  | j + 1 => gfAlpha (gfPow j)

/-- The generator ∏ (x − α^j), j = 0 to n − 1, highest power first; n = 30 (R431). -/
def rsGen : Nat → List (BitVec 10)
  | 0 => [1]
  | n + 1 => List.zipWith (· ^^^ ·) (rsGen n ++ [0]) (0 :: (rsGen n).map (gfMul (gfPow n)))

/-- Division by the generator takes in one message symbol: the remainder so far, highest power first. -/
def rsStep (gen rem : List (BitVec 10)) (m : BitVec 10) : List (BitVec 10) :=
  let q := m ^^^ rem.headD 0
  List.zipWith (· ^^^ ·) (rem.drop 1 ++ [0]) ((gen.drop 1).map (gfMul q))

/-- The 30 parity symbols (R431): the remainder of the message times x^30. Symbol k of the codeword is the coefficient of x^(543 − k)
(DEDUCED, log 172). -/
def rsParity (msg : List (BitVec 10)) : List (BitVec 10) := msg.foldl (rsStep (rsGen 30)) (List.replicate 30 0)

/-- A codeword with `errors` symbol errors is corrected; with more it is uncorrectable and its flits are discarded (R431). -/
def rsCorrects (errors : Nat) : Bool := decide (errors ≤ 13)

/-! ### Codewords -/

/-- CW[19:0] of ten slots: the code of slot i in bits 2i + 1 and 2i (R430). -/
def controlWord (slots : List (Nat × BitVec 512)) : Nat := (slots.zipIdx.map fun e => at_ (e.1.1 % 4) (2 * e.2)).sum

/-- The 5,140 message bits, b0 most significant: the control word, then the ten slots (R429). -/
def messageBits (slots : List (Nat × BitVec 512)) : Nat := slots.foldl (fun a e => a * 2 ^ 512 + e.2.toNat) (controlWord slots)

/-- The 514 message symbols: symbol k holds b(10k) to b(10k + 9) (R429). -/
def messageSymbols (slots : List (Nat × BitVec 512)) : List (BitVec 10) :=
  (List.range 514).map fun k => BitVec.ofNat 10 (messageBits slots / 2 ^ (10 * (513 - k)))

/-- The 544 symbols of the codeword of ten slots (R429, R431). -/
def codeword (slots : List (Nat × BitVec 512)) : List (BitVec 10) :=
  messageSymbols slots ++ rsParity (messageSymbols slots)

/-- The Gray map of a bit pair (R433). -/
def gray (v : Nat) : Nat := if v = 2 then 3 else if v = 3 then 2 else v

/-- The levels a symbol is sent as, in order (R433): five PAM4 levels, or at rate code 3 ten NRZ symbols. -/
def levels (rate : Nat) (x : BitVec 10) : List Nat :=
  if rate = 3 then (List.range 10).map fun i => b2n (x.getLsbD (9 - i))
  else (List.range 5).map fun i => gray (x.toNat / 4 ^ (4 - i) % 4)

/-- What lane `i` of `w` sends of a codeword: the symbols k with k mod w = i, in ascending k (R433). -/
def laneLevels (w rate i : Nat) (cw : List (BitVec 10)) : List Nat :=
  ((cw.zipIdx.filter fun e => e.2 % w == i).map fun e => levels rate e.1).flatten

/-! ### The transmitter's line -/

/-- A slot is filled: its bits are scrambled, and with the tenth the codeword goes to the lanes (R429 to R433). -/
def Line.fill (l : Line) (code : Nat) (isAlign : Bool) (bytes : List Byte) : Line × Option (List (List Nat)) :=
  let r := scrambled l.scr isAlign (BitVec.ofNat 512 (beNat (fit 64 bytes)))
  let slots := l.slots ++ [(code, r.1)]
  if slots.length < 10 then ({ l with scr := r.2, slots := slots }, none)
  else ({ l with scr := r.2, slots := [] }, some ((List.range l.width).map fun i => laneLevels l.width l.rate i (codeword slots)))

/-! ### Training blocks -/

/-- One step of the CRC x^16 + x^12 + x^5 + 1 (R442). -/
def crcStep (crc : BitVec 16) (b : Bool) : BitVec 16 :=
  let top := crc.getLsbD 15 != b
  let c := crc <<< 1
  if top then c ^^^ 0x1021 else c

/-- CRC of a training block: all ones at the start, over bits 127 to 16 (R442). -/
def blockCrc (w : BitVec 128) : BitVec 16 :=
  (List.range 112).foldl (fun c i => crcStep c (w.getLsbD (127 - i))) (BitVec.allOnes 16)

/-- A block's CRC is good. -/
def blockGood (w : BitVec 128) : Bool := blockCrc w == w.extractLsb' 0 16

/-- SYNC of R442. -/
def syncWord : BitVec 32 := 0x4B65D31E

/-- The fields of a training block this end sends (R442). -/
structure TrainBlock where
  lane : Nat
  phase : Nat
  ack : Bool
  rates : Nat
  maxWidth : Nat
  targetRate : Nat
  targetWidth : Nat
  preReq : Nat
  postReq : Nat
  eqDone : Bool
deriving DecidableEq, Repr

/-- The 128 bits of a training block (R442). -/
def TrainBlock.word (t : TrainBlock) : BitVec 128 :=
  let body := BitVec.ofNat 128 (at_ syncWord.toNat 96 + at_ (t.lane % 16) 92 + at_ (t.phase % 16) 88 + at_ (b2n t.ack) 87 + at_ (t.rates % 8) 84
    + at_ (t.maxWidth % 16) 80 + at_ (t.targetRate % 4) 78 + at_ (t.targetWidth % 16) 74 + at_ (t.preReq % 4) 72 + at_ (t.postReq % 4) 70
    + at_ (b2n t.eqDone) 69)
  body ||| (blockCrc body).setWidth 128

end Sys2Proof.Machine
end

