-- ==== Sys2Proof/Machine/Link.lean ====
section
/-! DEFINITION. Shared operations of a port's link: the capability record, link-control flits, replay, the declaration that
a link is down, and entry to each state (R423 to R464). -/
namespace Sys2Proof.Machine

def PortSt.code : PortSt → Nat
  | .disabled => 0 | .detect => 1 | .clock => 2 | .slow => 3 | .equalize => 4 | .align => 5 | .capx => 6 | .active => 7
  | .doze => 8 | .step => 9 | .down => 10 | .holdoff => 11

def DownCause.code : DownCause → Nat
  | .none => 0 | .disabled => 1 | .isolated => 2 | .cableRemoved => 3 | .clockLost => 4 | .lockLost => 5
  | .creditTimeout => 6 | .replayLimit => 7 | .protocol => 8 | .partnerDown => 9 | .retrain => 10 | .wakeFailed => 11
  | .power => 12 | .incompatible => 13 | .trainTimeout => 14

/-- The cause reports LINK_BROKEN (R457). -/
def DownCause.broken : DownCause → Bool
  | .clockLost | .lockLost | .creditTimeout | .replayLimit | .protocol | .wakeFailed => true
  | _ => false

/-- The effective ack timer in ns (R447). -/
def LinkPort.ackEffNs (l : LinkPort) : Nat := max (l.cfg.ackTimer * 100) (if l.cap.rttKnown then l.cap.rttNs + 500 else 0)

/-- Index of the codeword being filled: ten slots each (R429, R435). -/
def LinkTx.cw (t : LinkTx) : Nat := t.slot / 10

/-- Link-control flits wait for the next flit boundary. -/
def State.sendLctl (s : State) (p : Nat) (f : Lctl) : State :=
  s.modLink p fun l => { l with tx := { l.tx with lctl := l.tx.lctl ++ [f] } }

/-- A received link-control flit whose byte 0 names no kind is discarded and counted (R434). -/
def State.lctlBad (s : State) (p : Nat) (b : List Byte) : State :=
  if field b 0 1 ≤ 9 then s
  else s.modLink p fun l => { l with ctr := { l.ctr with lctlBad := l.ctr.lctlBad + 1 } }

/-- Set a bit of PORT.INT_STATUS. -/
def State.portInt (s : State) (p i : Nat) : State :=
  let l := s.link p
  let new := l.intStatus ||| BitVec.ofNat 6 (2 ^ i)
  (s.setLink p { l with intStatus := new }).notify l.intStatus new l.intEnable

/-- HOLD_NS of a CAP that leaves at tick `now` (R438). -/
def LinkPort.holdNs (l : LinkPort) (now : Nat) : Nat := if l.cap.gotAt = 0 then 0 else min ((now - l.cap.gotAt) / 256) 0xFFFF

/-- The CAP record of port `p` as it leaves now (R438). -/
def State.capBytes (s : State) (p : Nat) (seen : Bool) : List Byte :=
  let l := s.link p
  let r := s.rport p
  let flags := b2n seen + 2 * b2n s.route.valid + 4 * b2n (s.sched p).tc0En + 8 * b2n ((s.conn (p / 4)).ctype == 2)
  [(0x06 : Byte), 0x01] ++ beBytes 1 flags ++ beBytes 1 p ++ beBytes 8 Config.serial.toNat ++ beBytes 2 0x6410 ++ [(0x10 : Byte)]
    ++ beBytes 1 r.role.role ++ beBytes 2 (if s.route.valid then s.route.group else 0xFFF) ++ beBytes 1 s.route.position
    ++ beBytes 1 l.train.trained ++ beBytes 2 6144 ++ (l.cfg.res.map (beBytes 2 ·)).flatten ++ beBytes 2 130
    ++ beBytes 2 6144 ++ beBytes 2 l.cap.seq.toNat ++ beBytes 2 l.cap.echo.toNat ++ beBytes 2 (l.holdNs s.clk.now)
    ++ beBytes 8 Config.fwVersion.toNat

/-- Identity, group, position or TC0_EN changed: every link in ACTIVE or DOZE sends CAP three times (R440). -/
def State.announce (s : State) : State :=
  { s with links := Tbl.map (fun _ l =>
      if l.st = .active ∨ l.st = .doze then { l with cap := { l.cap with repeats := 3 } } else l) s.links }

/-- Data of a port event: port, cause, group, and the partner's CAP bytes 2 to 41 (R521). -/
def State.portData (s : State) (p cause group : Nat) : List Byte :=
  leBytes 1 p ++ leBytes 1 cause ++ leBytes 2 group ++ fit 40 (((s.link p).cap.partner.drop 2).take 40)

/-- Compare a port's role with its partner (R72). -/
def State.checkRole (s : State) (p : Nat) : State :=
  let l := s.link p
  let r := s.rport p
  let known := s.route.valid && l.partnerId && l.st.up
  let g := l.partnerGroup
  let q := l.partnerPos
  let wrong :=
    match r.role.role with
    | 1 => decide (g ≠ s.route.group ∨ q ≠ leadsTo s.route.position r.role)
    | 2 => decide (g ≠ s.route.group ∨ q ≠ leadsTo s.route.position r.role)
    | 3 => decide (g ≠ r.role.group)
    | _ => false
  let now := known && wrong
  let s := s.setRport p { r with mismatch := now }
  if now && !r.mismatch then s.event 0x0026 (0x0200 + p) (s.portData p 0 0) else s

def State.checkRoles (s : State) : State := (List.range 64).foldl (fun s p => s.checkRole p) s

/-- The TC0 bucket is brought up to now before the port's net flit rate changes (R138, R148). -/
def State.syncTc0 (s : State) (p : Nat) : State :=
  let x := s.sched p
  let b := x.shapers.getD 0 (Bucket.full true 160000 4096)
  s.setSched p { x with shapers := put x.shapers 0 { b with tokens := (tc0Bucket (s.link p) x).tokensAt s.clk.now, at_ := s.clk.now } }

/-! ### States -/

/-- Enter a bring-up state. -/
def State.enterPort (s : State) (p : Nat) (st : PortSt) : State :=
  s.modLink p fun l =>
    let l := { l with st := st, since := s.clk.now }
    match st with
    | .detect => { l with width := 0, train := { LinkTrain.reset with trained := 8 } }
    | .slow => { l with width := 0, train := { LinkTrain.reset with ckLock := l.train.ckLock } }
    | .align => { l with tx := { l.tx with slot := 0, lctl := [], line := { Line.reset with width := l.train.targetWidth, rate := l.train.targetRate } } }
    | .capx => { l with train := { l.train with capSent := false, capGot := false, capSeen := false, incompatible := false },
                        cap := { l.cap with sentAt := [], echo := 0, gotAt := 0, rttKnown := false, rttNs := 0, repeats := 0 } }
    | .disabled | .holdoff => { l with width := 0, train := LinkTrain.reset }
    | _ => l

/-- The port leaves DISABLED when EN is set (R424). -/
def State.startPort (s : State) (p : Nat) : State :=
  let l := s.link p
  if l.st = .disabled ∧ l.cfg.en = true then s.enterPort p .detect else s

/-- A bring-up timeout: the cause is recorded (R457) and the port falls back. -/
def State.trainTimeout (s : State) (p : Nat) (st : PortSt) : State :=
  (s.modLink p fun l => { l with cause := .trainTimeout }).enterPort p st

/-- The smallest trained rate code that is not faster than `r`, and the trained width at or below `w` (R463). -/
def LinkTrain.nearRate (t : LinkTrain) (r : Nat) : Nat := ((List.range 4).filter fun c => r ≤ c && bit t.trained c).headD 3
def LinkTrain.nearWidth (t : LinkTrain) (w : Nat) : Nat := min w t.targetWidth

/-- The operating point both ends' wants give (R463). -/
def LinkPort.point (l : LinkPort) : Point :=
  if l.want.doze || l.pwant.doze then { doze := true, width := 1, rate := 3 }
  else { doze := false, width := l.train.nearWidth (min l.want.width l.pwant.width),
         rate := l.train.nearRate (max l.want.rate l.pwant.rate) }

/-- The point the link runs at. -/
def LinkPort.current (l : LinkPort) : Point := { doze := l.st == .doze, width := l.width, rate := l.rate }

/-- The link's operating point is to change: name it in a SWITCH at least 16 codewords ahead (R464). -/
def State.propose (s : State) (p : Nat) : State :=
  let l := s.link p
  let pt := l.point
  if (l.st = .active ∨ l.st = .doze) ∧ pt ≠ l.current ∧ (l.tx.switchTo.map (·.1)) ≠ some pt then
    let cw := l.tx.cw + 16
    let s := s.setLink p { l with tx := { l.tx with switchTo := some (pt, cw) } }
    s.sendLctl p (.pstateSwitch pt.doze pt.width pt.rate (BitVec.ofNat 32 cw))
  else s

/-- This end's wanted point changes: a REQUEST tells the partner (R463). -/
def State.setWant (s : State) (p : Nat) (w : Point) : State :=
  let l := s.link p
  if l.want = w then s
  else
    let s := s.setLink p { l with want := w }
    if l.st.up then (s.sendLctl p (.pstateReq w.doze w.width w.rate)).propose p else s

/-- Entry to ACTIVE, or DOZE, from CAPX (R439, R444, R461): sequence numbers and coins start afresh. -/
def State.linkUp (s : State) (p : Nat) : State :=
  let s := s.syncTc0 p
  let s := s.modLink p fun l =>
    let pt := l.point
    { l with st := if pt.doze then .doze else .active, since := s.clk.now, width := if pt.doze then 1 else l.train.targetWidth,
             rate := if pt.doze then 3 else l.train.targetRate, ckPrev := l.train.targetRate,
             tx := { l.tx with next := 0, escrow := [], prog := [none, none], replay := none, replayFrom := 0, replayRun := 0,
                               occ := List.replicate 12 0, freedSeen := List.replicate 12 0, creditFrom := none,
                               switchTo := none, switched := none,
                               line := if pt.doze then { l.tx.line with width := 1, rate := 3 } else l.tx.line },
             rx := { LinkRx.reset with till := l.rx.till, ackAt := s.clk.now } }
  let l := s.link p
  let s := s.portInt p 0
  let s := s.event 0x0020 (0x0200 + p) (s.portData p 0 0)
  let s := s.checkRole p
  if l.want ≠ Point.full then (s.sendLctl p (.pstateReq l.want.doze l.want.width l.want.rate)).propose p else s

/-- A request packet of this module's own endpoints: opcode PUT, SEND, GET or ATOMIC and its own module ID (R459). -/
def State.ownRequest (s : State) (k : Packet) : Bool :=
  feidModule k.hdr.src == s.moduleId && k.hdr.vn != 2 && decide (k.trans.opcode.toNat ≤ 3)

/-- A packet dropped by a declaration counts at the port; a request of this module goes by LINK_LOST to its home tile, every other packet
counts as LINK_DOWN (R113, R114, R459). -/
def State.dropDown (s : State) (p : Nat) (k : Packet) : State :=
  let vc := (s.link p).vcOf k.hdr
  if s.ownRequest k then
    let s := (s.countDrop p vc).modTile (k.trans.srcQpn.toNat % 64) fun x => { x with lost := x.lost ++ [k] }
    s.modLink p fun l => { l with ctr := { l.ctr with linkLost := l.ctr.linkLost + 1 } }
  else s.drop p vc 6

/-- Everything a port would lose on a declaration (R458, R460): the packets with a flit in the escrow, those in
progress, those queued, and those on the torus under a reservation for it. -/
def State.linkPackets (s : State) (p : Nat) : List Packet :=
  let l := s.link p
  ((l.tx.escrow.map (·.pkt)) ++ l.tx.prog.filterMap (fun o => o.map (·.pkt))).eraseDups ++ (s.sched p).queues.flatten
    ++ s.reserved p

/-- The link is declared down (R457 to R461, R37, R103). -/
def State.declareDown (s : State) (p : Nat) (c : DownCause) : State :=
  let l := s.link p
  if !l.st.up then s
  else
    let s := s.syncTc0 p
    let lost := s.linkPackets p
    let s := lost.foldl (fun s k => s.dropDown p k) s
    let s := s.modLink p fun l =>
      { l with st := .down, since := s.clk.now, width := 0, cause := c,
               downs := s.clk.now :: (l.downs.filter fun t => s.clk.now < t + 10 * secTicks),
               tx := { LinkTx.reset with lctl := [], slot := l.tx.slot, replays := l.tx.replays, line := l.tx.line },
               rx := { LinkRx.reset with till := l.rx.till.map fun k => { k with old := true } },
               pwant := Point.full, ctr := { l.ctr with downs := l.ctr.downs + 1 } }
    let s := s.modSched p fun x => { x with queues := List.replicate 8 [], preempted := false }
    let s : State := { s with net := s.net.drop (Load.forPort p) }
    let s := s.emit (.lctl p (.down c.code))
    let s := s.portInt p 1
    let s := s.event 0x0021 (0x0200 + p) (s.portData p c.code 0)
    let s := s.linkTimeLost p
    let s := s.boundFalls p
    let s := s.setRport p { s.rport p with mismatch := false }
    if c.broken then s.fault (0x0200 + p) .linkBroken none c.code (beNat ((l.cap.partner.drop 4).take 8)) else s

/-- A port is told to stop: DOWN when its link is up, else DISABLED (R424); only a declaration records its cause (R457). -/
def State.stopPort (s : State) (p : Nat) (c : DownCause) : State :=
  if (s.link p).st.up then s.declareDown p c
  else if (s.link p).st = .disabled then s
  else s.enterPort p .disabled

/-- Every port is told to stop. -/
def State.stopPorts (s : State) (c : DownCause) : State := (List.range 64).foldl (fun s p => s.stopPort p c) s

/-! ### Replay and acknowledgement -/

/-- `a` is at or after `b` in the serial order of FSEQ (R444). -/
def seqGe (a b : U16) : Bool := decide ((a - b).toNat < 32768)

/-- Start, or restart, a replay from `seq` (R448), unless REPLAY_LIMIT is reached (R449). -/
def State.startReplay (s : State) (p : Nat) (seq : U16) (cause : Nat) : State :=
  let l := s.link p
  let run := if l.tx.replayFrom = seq then l.tx.replayRun else 0
  if run ≥ l.cfg.replayLimit then s.declareDown p .replayLimit
  else
    let s := s.setLink p
      { l with tx := { l.tx with replay := if seq = l.tx.next then none else some seq, replayFrom := seq, replayRun := run + 1,
                                 replays := l.tx.replays + 1 },
               ctr := { l.ctr with replays := l.ctr.replays + 1 } }
    (s.sendLctl p (.replayStart seq cause)).portInt p 3

/-- Apply the FSEQ of an ACK or REPLAY_REQ (R447). -/
def State.applyAck (s : State) (p : Nat) (seq : U16) : State :=
  let l := s.link p
  let oldest := match l.tx.escrow.head? with | some f => f.seq | none => l.tx.next
  if !seqGe l.tx.next seq then s.declareDown p .protocol
  else if seq = oldest ∨ !seqGe seq oldest then s
  else
    let rest := l.tx.escrow.filter fun f => seqGe f.seq seq
    let rp := match l.tx.replay with
      | some r => if rest.isEmpty then none else if seqGe r seq then some r else some seq
      | none => none
    s.setLink p { l with tx := { l.tx with escrow := rest, replay := rp, replayRun := 0, ackFrom := s.clk.now } }

/-- Coins an ACK returns (R454). -/
def State.applyFreed (s : State) (p : Nat) (freed : List U16) : State :=
  s.modLink p fun l =>
    let inc := (List.range 12).map fun v => (freed.getD v 0 - l.tx.freedSeen.getD v 0).toNat
    { l with tx := { l.tx with occ := (List.range 12).map (fun v => l.tx.occ.getD v 0 - inc.getD v 0), freedSeen := freed,
                               creditFrom := if inc.sum = 0 then l.tx.creditFrom else none } }

/-- The receiver frees `n` coins of VC `v` (R455). -/
def State.freeCoins (s : State) (p v n : Nat) : State :=
  s.modLink p fun l =>
    { l with rx := { l.rx with freed := put l.rx.freed v (l.rx.freed.getD v 0 + BitVec.ofNat 16 n), due := true,
                               dueFrom := if l.rx.due then l.rx.dueFrom else s.clk.now } }

/-- Queue an ACK with the EXPECT and FREED of the moment it is sent (R446). -/
def State.queueAck (s : State) (p : Nat) : State :=
  let s := s.modLink p fun l => { l with rx := { l.rx with ackSince := 0, due := false, ackAt := s.clk.now } }
  s.sendLctl p (.ack 0 [])

end Sys2Proof.Machine
end

