-- ==== Sys2Proof/Machine/Torus.lean ====
section
/-! DEFINITION. The torus at work: what a packet does where it leaves the torus, the beat boundary of every router, and packets that wait at
their source (R121 to R132, R139, R144, R185, R256, R259, R311). -/
namespace Sys2Proof.Machine

/-! ### Arrivals -/

/-- An access through BAR4 and an atomic operation are served by their gateway as they come; other writes, and the reads of remote GETs,
wait before it. -/
def Xfer.atOnce (x : Xfer) : Bool :=
  match x.use with
  | .bar4 _ => true
  | u => x.atomic.isSome || !(x.write || u.waitsRead)

/-- A request reaches its HBM gateway. -/
def State.reachHbm (s : State) (x : Xfer) (da : Nat) : State :=
  match x.atomic with
  | some a =>
    let u := s.atomicUnit a.master a.epoch da a.aop a.op0 a.op1 a.rkey a.off
    u.1.endXfer x (match u.2 with | some (w, st) => .word w st | none => .poisoned [])
  | none => if x.atOnce then s.hbmServes x da else s.setXfer { x with st := .ready da }

/-- A window PUT reaches its clearing unit (R256, R259). -/
def State.reachUnit (s : State) (x : Xfer) (node off : Nat) : State :=
  match x.use with
  | .window qpn _ _ =>
    let r := s.windowPut node qpn off x.data
    if r.1 then r.2.endXfer x (.ok [])
    else (r.2.countWindowNak node).endXfer x (.noRoom (((s.node? node).map (·.backoff)).getD 1))
  | _ => s

/-- A request reaches its gateway or clearing unit. -/
def State.reachGate (s : State) (id : Nat) : State :=
  match s.xfer? id with
  | none => s
  | some x =>
    match x.space with
    | .hbm da => s.reachHbm x (da + x.pos)
    | .host _ _ _ _ _ => (s.setXfer { x with st := .start }).runHost id x.steps
    | .unit n off => s.reachUnit x n off

/-- A packet has left the torus with its last beat. -/
def State.deliver (s : State) (l : Load) : State :=
  match l.cargo with
  | .port p k => s.enqueue p k
  | .tile k => s.arriveAt l.dst k
  | .ask id => s.reachGate id
  | .back id e => s.returned id e

/-! ### Losing a plane (R132) -/

/-- A packet is lost with its plane: a fabric packet counts as dropped at its port, or at the port of the tile it was for; an internal request
ends with an error. -/
def State.dropLoad (s : State) (l : Load) : State :=
  match l.cargo with
  | .port p k => s.countDrop p ((s.link p).vcOf k.hdr)
  | .tile k => s.countDrop l.dst ((s.link l.dst).vcOf k.hdr)
  | .ask id | .back id _ =>
    match s.xfer? id with
    | some x => s.xferDone x .lost
    | none => s

/-- The beats queued in a plane are dropped. -/
def State.dropPlane (s : State) (plane : Nat) : State :=
  let lost := s.net.lost plane
  lost.foldl State.dropLoad { s with net := s.net.losePlane plane (1 - plane) }

/-- A plane leaves service at all 64 tiles until device reset, and loses what it carried (R132). -/
def State.planeDown (s : State) (plane : Nat) : State :=
  let s := ({ s with planes := put s.planes plane false } : State).dropPlane plane
  (List.range 64).foldl (fun s t =>
    let old := (s.tile t).intStatus
    (s.modTile t fun x => { x with intStatus := old ||| 2 }).notify old (old ||| 2) (s.tile t).intEnable) s

/-- A corrected error on a link of a tile. -/
def State.linkErr (s : State) (t : Nat) : State :=
  let old := (s.tile t).intStatus
  (s.modTile t fun x => { x with intStatus := old ||| 1 }).notify old (old ||| 1) (s.tile t).intEnable

/-- A beat crosses an output with the check bits of an injection inverted (R523): one bit is corrected, more lose the plane. -/
def State.spoilBeat (s : State) (key out : Nat) (i : Injection) : State :=
  let t := keyTile key
  let src := 0x0100 + t
  let n := (i.bitsBelow 16).length
  let d (k : FaultKind) : Detection := { kind := k, fatal := false, context := none, infoA := BitVec.ofNat 32 (keyPlane key + 2 * out), infoB := 0 }
  if n = 0 then s.useInjection src
  else if n = 1 then (s.faultBy src 0x80 (d .torusCorrected)).linkErr t
  else (s.faultBy src 0x80 (d .planeDown)).planeDown (keyPlane key)

/-- The torus link checker of an output takes in a beat (R523). -/
def State.checkBeat (s : State) (key out : Nat) : State :=
  match s.armedAt (0x0100 + keyTile key) 0x80 with
  | some i => if i.arg % 8 = keyPlane key + 2 * out then s.spoilBeat key out i else s
  | none => s

/-! ### Beat boundaries (R122, R123) -/

/-- A beat leaves on a link: counted at its output (R133, R525). -/
def State.countBeat (s : State) (key : Nat) (b : Beat) : State :=
  let i := 4 * keyPlane key + b.out
  let s := s.modTile (keyTile key) fun t => { t with beats := bump t.beats i 1 }
  let s := s.count 0x0300 (keyTile key) (qMask i) 1
  if keyVn key = 3 then s.count 0x0302 (keyTile key) (qMask i) 1 else s

/-- The head of queue `key` goes over its link, or leaves the torus. -/
def State.moveBeat (s : State) (key : Nat) : State :=
  match s.net.queue key with
  | [] => s
  | b :: _ =>
    let s : State := { s with net := s.net.pop key b }
    if b.out = 4 then
      match s.net.load? b.load with
      | some l => if b.last then ({ s with net := s.net.remove l.id } : State).deliver l else s
      | none => s
    else
      let h := b.hop key
      (({ s with net := s.net.setQueue h.1 (s.net.queue h.1 ++ [h.2]) } : State).countBeat key b).checkBeat key b.out

/-- A tile's EXP ejection queue is full (R144). -/
def State.expFull (s : State) (t : Nat) : Bool := decide (16 ≤ (s.tile t).expQ.length)

/-- A TC0 packet that finds the queue full is counted once (R144). -/
def State.holdBack (s : State) (t id : Nat) : State :=
  match s.net.load? id with
  | some l => if l.blocked then s else ({ s with net := s.net.modLoad id fun l => { l with blocked := true } } : State).tc0Blocked t
  | none => s

/-- One beat boundary of every router: what each output sends is chosen, then sent; sources put their next beats in; none when nothing
moves. STOPPED stops the torus (R517). -/
def State.netRound (s : State) : Option State :=
  let picks := s.net.picks s.expFull
  let injects := s.net.injects
  if s.net.loads.isEmpty || s.faults.stopped || (picks.isEmpty && injects.isEmpty) then none
  else
    let s := picks.foldl State.moveBeat s
    some (injects.foldl (fun s id => { s with net := s.net.inject id }) s)

/-- The TC0 packets that have come before a full queue since are counted. -/
def State.holdBacks (s : State) : State :=
  if s.net.loads.isEmpty then s else (s.net.heldBack s.expFull).foldl (fun s e => s.holdBack e.1 e.2) s

/-! ### Packets that wait at their source (R128, R139) -/

/-- What a waiting packet's port can do for it now: take it, or a port is to be chosen again, or it waits behind `ahead`. -/
def State.heldGoes (s : State) (ahead : List Held) (w : Held) : Bool :=
  let vc (j : Packet) : Nat := (s.link w.port).vcOf j.hdr
  !s.usable w.port || (s.roomFor w.port w.pkt.hdr
    && !(ahead.any fun a => a.tile == w.tile && a.port == w.port && vc a.pkt == vc w.pkt))

/-- The first waiting packet that can go on: it, those before it, and those after it. -/
def State.nextHeld (s : State) : List Held → List Held → Option (List Held × Held × List Held)
  | _, [] => none
  | ahead, w :: rest => if s.heldGoes ahead w then some (ahead, w, rest) else s.nextHeld (ahead ++ [w]) rest

/-- One waiting packet goes on: onto the torus, or to a port chosen again where its own can no longer be used. -/
def State.waitRound (s : State) : Option State :=
  if s.faults.stopped then none
  else match s.nextHeld [] s.net.waits with
  | none => none
  | some (ahead, w, rest) =>
    let s : State := { s with net := { s.net with waits := ahead ++ rest } }
    some (if s.usable w.port then s.torus w.pkt.hdr w.tile w.port (.port w.port w.pkt) else s.inject w.tile w.pkt)

/-- What the torus does next by itself. -/
def State.netStep (s : State) : Option State :=
  match s.waitRound with
  | some t => some t
  | none => s.netRound

end Sys2Proof.Machine
end

