-- ==== Sys2Proof/Machine/Settle.lean ====
section
/-! DEFINITION. What follows before a command ends: ends of transfers, containment of faults, and everything that goes on by itself as
far as it can (R160, R161, R205, R296, R307, R335, R399, R504, R515 to R517, R529, R530). -/
namespace Sys2Proof.Machine

/-- The outcome of a command. -/
abbrev Out := Host.Outcome State Fault Refusal

/-! ### The express bound (R160, R161) -/

/-- The EXP reservation of a port's till covers its TC0 rate over the link's round trip (R160). -/
def expReserved (l : LinkPort) (x : SchedPort) : Bool :=
  let rate := tc0Rate l (x.shapers.getD 0 (Bucket.full true 160000 4096))
  [9, 10, 11].all fun v => 256 ≤ l.cfg.res.getD v 0 && rate * l.cap.rttNs ≤ l.cfg.res.getD v 0 * 512 * 1000

/-- The locally checkable conditions of the express bound at a port (R161). -/
def State.boundNow (s : State) (p : Nat) : Bool :=
  let l := s.link p
  let x := s.sched p
  let recent := match x.boundBadAt with
    | some t0 => decide (s.clk.now < t0 + msTicks)
    | none => false
  decide (s.pwr.st = .a0) && decide (l.st = .active) && decide (l.width = 8) && decide (l.rate = 0) && x.tc0En
    && expReserved l x && !s.sup.vcLow.any id && !s.sup.skew.any id && s.sup.tj.all (fun t => t ≤ 105) && !recent

/-- BOUND_OK of a port follows its conditions; BOUND_LOST is set when it falls (R161). -/
def State.boundSync (s : State) (p : Nat) : State :=
  let now := s.boundNow p
  if now then s.modSched p fun x => { x with boundOk := true } else s.boundFalls p

/-! ### Ends of transfers -/

/-- A translation error writes an XLT_WALK_FAULT event to the owning context, one per ASID in a millisecond (R307). -/
def State.walkEvent (s : State) (x : Xfer) (cause lvl : Nat) : State :=
  match x.space with
  | .hbm _ | .unit _ _ => s
  | .host agent _ asid _ va =>
    let due := match Tbl.get? (s.agent agent).eventAt asid with
      | none => true
      | some a => decide (a + msTicks ≤ s.clk.now)
    if due then
      (s.modAgent agent fun a => { a with eventAt := Tbl.set a.eventAt asid s.clk.now }).ctxEvent x.ctx 2
        (leBytes 8 (va + x.pos) ++ leBytes 2 asid ++ leBytes 1 cause ++ leBytes 1 lvl ++ leBytes 1 agent) 0
    else s

/-- An entry fetch ends (R335, R375, R376, R399). -/
def State.sqFetched (s : State) (x : Xfer) (c n tries : Nat) (e : XferEnd) : State :=
  match s.ctx? c with
  | none => s
  | some y =>
    let s := s.setCtx c { y with reading := false }
    match e with
    | .ok d => if y.enable then s.readEntries c d n else s
    | .translation _ _ _ => s.fenceCtx c 2
    | _ =>
      if !y.enable then s
      else if tries < 2 then s.fetchEntries c n (tries + 1)
      else
        let va := match x.space with
          | .host _ _ _ _ va => va
          | _ => 0
        (s.fenceCtx c 1).fault (0x0300 + y.ep) .hostCplTimeout (some c) (64 * n) va

/-- A completion or event entry has been written, or its ring does not translate (R399). -/
def State.cqeEnded (s : State) (c : Nat) (e : XferEnd) : State :=
  match e with
  | .ok _ => s.entryWritten c
  | _ => (((s.modCtx c Ctx.entryGone).fenceCtx c 2).drained c).writeCqe c

/-- The payload of a message's next packet has been read (R296, R335). -/
def State.msgDataRead (s : State) (qpn slot id : Nat) (e : XferEnd) : State :=
  match (s.chan qpn slot).msgs.find? fun m => m.id == id with
  | none => s
  | some m =>
    let send (s : State) (m : Msg) (d : List Byte) : State :=
      if s.windowOpen qpn slot && s.mayInject then s.sendNext qpn slot m d
      else s.modChan qpn slot fun c => c.modMsg id fun x => { x with fetching := false }
    match e with
    | .ok d => send s m d
    | .poisoned d => send s { m with code := if m.code = 0 then ccAborted else m.code } d
    | e => s.modChan qpn slot fun c => c.modMsg id fun x => x.giveUp (readFailCode e) c.sndNext

/-- A chain's preparation has read its payload (R52). -/
def State.prepRead (s : State) (c serial : Nat) (e : XferEnd) : State :=
  match e with
  | .ok d => s.modChain c serial fun h => { h with payload := some d, ready := !s.pastTarget h }
  | e => s.chainDone c serial (readFailCode e)

/-- The first segment of a node of a timed COLL chain has been read: the chain is ready with the last of them (R52, R276). One that could
not be read is read again when the instance has started, and its failure is the instance's. -/
def State.prepSeg (s : State) (c serial n : Nat) (e : XferEnd) : State :=
  let data : List Byte := match e with
    | .ok d => d
    | _ => []
  match s.chain? c serial with
  | none => s
  | some h =>
    let segs := h.segs ++ [(n, data)]
    let all := (s.prepColl c h).all fun p => (segs.map (·.1)).contains p.1
    s.modChain c serial fun h =>
      { h with segs := segs, payload := if all then some [] else h.payload, ready := if all then !s.pastTarget h else h.ready }

/-- A PUT's or SEND's payload has been placed, or does not translate (R178, R235). -/
def State.placeEnded (s : State) (qpn slot psn : Nat) (e : XferEnd) : State :=
  match Tbl.get? (s.chan qpn slot).slots psn with
  | none => s
  | some x =>
    match e with
    | .ok _ => s.placed qpn slot psn
    | .lost => s.freeSlot qpn slot psn
    | _ =>
      if x.opcode = tSend then
        let s := match (s.qp? qpn).map (·.owner) with
          | some c => s.modDomain c fun d => d.modFlow qpn slot x.ssn fun m => { m with code := ccTranslation }
          | none => s
        s.placed qpn slot psn
      else (s.freeSlot qpn slot psn).refuse (x.req qpn slot psn) cTranslation

/-- A window PUT has been taken, or its node has no room for it (R256). -/
def State.windowEnded (s : State) (qpn slot psn : Nat) (e : XferEnd) : State :=
  match e with
  | .ok _ => s.placed qpn slot psn
  | .noRoom backoff => (s.freeSlot qpn slot psn).nak qpn slot psn nResource 0 backoff
  | _ => s.freeSlot qpn slot psn

/-- A SEND packet's payload is in the pool; a receive that was paired meanwhile takes it from there (R231, R232). One lost on the torus is
sent again by its requester. -/
def State.staged (s : State) (c id off len qpn slot psn : Nat) (e : XferEnd) : State :=
  match e with
  | .lost => ((s.modInMsg c id fun m => { m with staging := m.staging - 1 }).freeSlot qpn slot psn).freeGranules c id |>.dropEnded c |>.completeAll c
  | _ =>
    let s := s.modInMsg c id fun m => { m with staging := m.staging - 1, parts := m.parts ++ [(off, len)] }
    let s := s.copyPart c id off len
    (((s.placed qpn slot psn).freeGranules c id).dropEnded c).completeAll c

/-- A copy from the pool is over with a code; a receive that has one keeps it (R232, R235). -/
def State.copyOver (s : State) (c id code : Nat) : State :=
  let s := s.modInMsg c id fun m => { m with copies := m.copies - 1, code := if m.code == 0 then code else m.code }
  (s.freeGranules c id).completeAll c

/-- Pool data has been read, and is written to the receive buffer (R232). Poisoned data goes to host memory poisoned, and the receive ends
ABORTED (R296); to HBM it is not written (DESIGN CHOICE, log 158). -/
def State.poolRead (s : State) (c id off : Nat) (e : XferEnd) : State :=
  match (s.domain? c).bind fun d => (d.msg? id).bind fun m => m.pair with
  | none => s
  | some r =>
    let write (s : State) (d : List Byte) (bad : Bool) : State :=
      match s.keySpace c r.lkey (r.loff + off) with
      | none => s.copyOver c id ccTranslation
      | some sp =>
        match sp, bad with
        | .host _ _ _ _ _, true =>
          (s.modInMsg c id fun m => { m with code := if m.code == 0 then ccAborted else m.code }).issue (.poolCopy c id) c sp true d d.length
            none true
        | _, true => s.copyOver c id ccAborted
        | _, false => s.issue (.poolCopy c id) c sp true d d.length none
    match e with
    | .ok d => write s d false
    | .poisoned d => write s d true
    | _ => s.copyOver c id ccAborted

/-- A copy from the pool has ended (R232, R235). -/
def State.poolCopied (s : State) (c id : Nat) (e : XferEnd) : State :=
  s.copyOver c id (match e with
    | .ok _ => ccOk
    | .lost => ccAborted
    | _ => ccTranslation)

/-- The read of a remote GET has ended (R193, R194, R296, R335). -/
def State.getRead (s : State) (qpn slot psn retry : Nat) (e : XferEnd) : State :=
  match Tbl.get? (s.chan qpn slot).slots psn with
  | none => s
  | some x =>
    let r := x.req qpn slot psn
    match e with
    | .ok d =>
      let s := s.sendGetRsps r retry d
      if x.placed then s.modSlot qpn slot psn fun x => { x with busy := false } else s.placed qpn slot psn
    | .translation _ _ _ =>
      (if x.placed then s.modSlot qpn slot psn fun x => { x with busy := false } else s.freeSlot qpn slot psn).refuse r cTranslation
    | _ => if x.placed then s.modSlot qpn slot psn fun x => { x with busy := false } else s.placed qpn slot psn

/-- A GET response has been placed, or does not translate (R195). -/
def State.getPlaced (s : State) (qpn slot rpsn : Nat) (e : XferEnd) : State :=
  match (s.chan qpn slot).rsps.find? fun r => r.rpsn == rpsn with
  | none => s
  | some r =>
    match e with
    | .ok _ => s.rspIn qpn slot rpsn
    | .lost => (s.codeMsg qpn slot r.msg ccAborted).rspIn qpn slot rpsn
    | _ => (s.codeMsg qpn slot r.msg ccTranslation).rspIn qpn slot rpsn

/-- An AtomicOp of a remote ATOMIC has ended (R178, R335, R339). -/
def State.remoteAtomicEnded (s : State) (qpn slot psn : Nat) (e : XferEnd) : State :=
  match Tbl.get? (s.chan qpn slot).slots psn with
  | none => s
  | some x =>
    let r := x.req qpn slot psn
    match e with
    | .ok d => s.atomicDone r x (BitVec.ofNat 64 (leNat d)) asNone
    | .word w st => s.atomicDone r x w st
    | .translation _ _ _ => (if x.placed then s else s.freeSlot qpn slot psn).refuse r cTranslation
    | .noAtomic => (if x.placed then s else s.freeSlot qpn slot psn).refuse r cNoAtomic
    | .poisoned _ =>
      let s := s.modSlot qpn slot psn fun x => { x with busy := false, again := true }
      if x.placed then s else s.placed qpn slot psn
    | _ => s.placed qpn slot psn

/-- An AtomicOp of a local entry has ended. -/
def State.localAtomicEnded (s : State) (c serial : Nat) (e : XferEnd) : State :=
  match e with
  | .ok d => s.chainDoneWith c serial ccOk (leNat d) asNone 0 0 0
  | .word w st => s.chainDoneWith c serial ccOk w.toNat st 0 0 0
  | .translation _ _ _ => s.chainDone c serial ccTranslation
  | _ => s.chainDone c serial ccAborted

/-- A spilled context has been read; without an answer the QP's held packets are answered CTX_RETRY (R206, R335). -/
def State.spillEnded (s : State) (qpn : Nat) (e : XferEnd) : State :=
  match e with
  | .ok _ =>
    let from_ := ((s.qp? qpn).map (·.fetchFrom)).getD s.clk.now
    ((s.modTile (qpn % 64) fun t => { t with fetchTicks := s.clk.now - from_ }).modQp qpn fun q =>
      { q with spilled := false, fetchingCtx := false }).touch qpn
  | _ =>
    let t := qpn % 64
    let mine (x : Susp) : Bool := x.why == .spilled && x.pkt.trans.dstQpn.toNat == qpn
    let held := (s.tile t).susp.filter mine
    let s := (s.modTile t fun x => { x with susp := x.susp.filter fun y => !mine y }).modQp qpn fun q => { q with fetchingCtx := false }
    (held.filter fun x => isRequest x.pkt.trans.opcode.toNat).foldl (fun s x => s.retryNak t x.pkt) s

/-- A part of a dump has been accepted: the trailer goes last (R529). A write that does not translate stops the sweep (R530). -/
def State.sweepEnded (s : State) (x : Xfer) (e : XferEnd) : State :=
  match e, s.perf.dump with
  | .ok _, some d =>
    let n := d.accepted + x.len
    if n ≥ d.bytes.length then { s with perf := { s.perf with dump := none } }
    else
      let s := { s with perf := { s.perf with dump := some { d with accepted := n } } }
      match s.keyRegion d.lkey.toNat with
      | some r =>
        let tail := d.bytes.drop n
        s.issue .sweep r.owner (s.regionSpace r (d.slotOff + n)) true tail tail.length none
      | none => s
  | _, none => s
  | _, some _ => s.stopSweep

/-- An access through BAR4 has ended (R296, R302): a read is answered, poisoned data as poisoned data. One whose packet a plane took with it
is answered as an aborted completion (R132). -/
def State.bar4Ended (s : State) (e : Nat) (x : Xfer) (r : XferEnd) : State :=
  let f : FnId := { ep := Fin.ofNat 4 e, fn := 0 }
  if x.write then s
  else match r with
    | .ok d => s.emit (.readData f d)
    | .poisoned d => s.emit (.readPoisoned f d)
    | _ => s.emit (.unsupported f)

/-- What follows a transfer that has ended. -/
def State.resume (s : State) (x : Xfer) (e : XferEnd) : State :=
  let s := match e with
    | .translation cause lvl _ => s.walkEvent x cause lvl
    | _ => s
  match x.use with
  | .sqFetch c n tries => s.sqFetched x c n tries e
  | .cqe c => s.cqeEnded c e
  | .msgData q k m => s.msgDataRead q k m e
  | .prepare c serial => s.prepRead c serial e
  | .place q k psn => s.placeEnded q k psn e
  | .stage c m off q k psn => s.staged c m off x.len q k psn e
  | .window q k psn => s.windowEnded q k psn e
  | .poolCopy c m => s.poolCopied c m e
  | .poolRead c m off => s.poolRead c m off e
  | .getExec q k psn retry => s.getRead q k psn retry e
  | .getPlace q k rpsn => s.getPlaced q k rpsn e
  | .remoteAtomic q k psn => s.remoteAtomicEnded q k psn e
  | .localAtomic c serial => s.localAtomicEnded c serial e
  | .collPrep c serial n => s.prepSeg c serial n e
  | .collRead n num seg => s.collReadDone n num seg e
  | .collPlace n num elem0 => s.collPlaceDone n num elem0 (x.data.length) e
  | .collSend n num elem0 => s.collSendDone n num elem0 e
  | .spill q => s.spillEnded q e
  | .sweep => s.sweepEnded x e
  | .bar4 ep => s.bar4Ended ep x e
  | .fill => s
  | .engineRead w => s.engineEntry w e
  | .engineCas w pte => s.engineAccessed w pte e

/-! ### Containment (R504, R515 to R517) -/

/-- STOP (R517). -/
def State.stopModule (s : State) (src : Nat) : State :=
  let s := s.stopPorts .isolated
  let s := s.modSec fun x => { x with handles := [] }
  { s with faults := { s.faults with stopped := true, stopSource := src, frozen := some s.freeze }, boot := { s.boot with alive := .stopped },
           qps := Tbl.map (fun _ q => { q with tkey := none, keyErased := q.keyErased || q.tkey.isSome }) s.qps }

/-- Carry out the containment of one recorded fault. -/
def State.contain (s : State) (d : Due) : State :=
  let s := match d.fence, d.context with
    | true, some c => if ((s.ctx? c).map (·.fenced)).getD true then s else s.fenceCtx c 3
    | _, _ => s
  let s := match d.isolate, portOf d.source with
    | true, some p => (s.modLink p fun l => { l with cfg := { l.cfg with en := false }, isolated := true }).stopPort p .isolated
    | _, _ => s
  if d.stop && !s.faults.stopped then s.stopModule d.source else s

/-! ### Settling -/

/-- Everything that follows, one thing after another; `n` bounds them. -/
def State.settleN (s : State) : Nat → State
  | 0 => s
  | n + 1 =>
    match s.mem.ended with
    | (x, e) :: t => ((s.modMem fun m => { m with ended := t }).resume x e).settleN n
    | [] =>
      match s.faults.due with
      | d :: t => (({ s with faults := { s.faults with due := t } } : State).contain d).settleN n
      | [] =>
        match s.netStep with
        | some s' => s'.settleN n
        | none =>
          let s' := s.holdBacks.qpSync.collSync.suspSync
          if s'.mem.ended.isEmpty && s'.faults.due.isEmpty && s'.netStep.isNone then s' else s'.settleN n

/-- More things than can follow one command: every beat of every packet it sends makes at most ten moves. -/
def settleFuel : Nat := 2 ^ 40

/-- Everything that follows a command, and the gates and BOUND_OK of every port (R153, R161). -/
def State.settle (s : State) : State :=
  let s := s.settleN settleFuel
  s.livePorts.foldl (fun s p => (if (s.sched p).gateEn then s.gateSync p else s).boundSync p) s

/-- The command ends. -/
def State.done (s : State) : Out := .next s.settle

end Sys2Proof.Machine
end

