-- ==== Sys2Proof/Machine/LinkTraining.lean ====
section
/-! DEFINITION. The commands of cables and of link bring-up (R423 to R443, R462, R476 to R478). -/
namespace Sys2Proof.Machine

/-! ### Cables -/

/-- The four ports of a connector (R462). -/
def connPorts (k : Nat) : List Nat := [4 * k, 4 * k + 1, 4 * k + 2, 4 * k + 3]

def State.cableChange (s : State) (k : Nat) : State := (connPorts k).foldl (fun s p => s.portInt p 2) s

/-- Data of a connector event. -/
def connData (k : Nat) : List Byte := leBytes 1 k

/-- CABLE_INSERTED (R462, R477): presence has stood asserted for 1 ms; CBL_VCC goes on, but not in A3. -/
def execCableInserted (k : Fin 16) (s : State) : Out :=
  let c := s.conn k
  if c.present then .next s
  else
    let on := s.dieRuns
    let s := s.setConn k { Connector.reset with present := true, vcc := on, onAt := s.clk.now }
    (if on then s.cableChange k else s).done

/-- CABLE_REMOVED (R462): presence has stood deasserted for 1 ms; the four links are declared down. -/
def execCableRemoved (k : Fin 16) (s : State) : Out :=
  if !(s.conn k).present then .next s
  else
    let s := s.setConn k Connector.reset
    let s := (connPorts k).foldl (fun s p => s.declareDown p .cableRemoved) s
    let s := s.cableChange k
    (s.event 0x0024 0xFFFF (connData k)).done

/-- CABLE_PG_ASSERT (R462, R477, R478): the cable reports power good; the four ports may leave DETECT. -/
def execCablePgAssert (k : Fin 16) (s : State) : Out :=
  let c := s.conn k
  if !c.vcc || c.pg then .next s
  else
    let s := s.setConn k { c with pg := true, powerOk := true }
    (s.event 0x0023 0xFFFF (connData k)).done

/-- CABLE_ID_READ_DONE (R478): the identification memory was read; TYPE 1 or 2 with POWER up to 15 is accepted. -/
def execCableIdReadDone (k : Fin 16) (mem : List Byte) (s : State) : Out :=
  let c := s.conn k
  if !c.pg || c.accepted || c.rejected then .next s
  else
    let ty := field mem 0 1
    if (ty = 1 ∨ ty = 2) ∧ field mem 3 1 ≤ 15 then
      (s.setConn k { c with accepted := true, ctype := ty, lengthDm := beNat ((mem.drop 1).take 2) }).done
    else
      let s := s.setConn k { c with rejected := true, vcc := false, pg := false, powerOk := false }
      (s.event 0x0025 0xFFFF (connData k)).done

/-- A cable power failure (R477): CBL_VCC off, POWER_OK clear on the four ports, a CABLE_POWER fault. The fault's source is
the connector's first port (DESIGN CHOICE, log 22). -/
def State.cablePowerFails (s : State) (k : Nat) (kind_ : Nat) : State :=
  let c := s.conn k
  let s := s.setConn k { c with vcc := false, pg := false, powerOk := false, failed := true }
  s.fault (0x0200 + 4 * k) .cablePower none (kind_ + at_ k 4) 0

/-- CABLE_POWER_TIMEOUT (R477): CBL_PG_N was not low within 100 ms. -/
def execCablePowerTimeout (k : Fin 16) (s : State) : Out :=
  let c := s.conn k
  if !c.vcc || c.pg then .next s
  else ((s.reach (c.onAt + 100 * msTicks)).cablePowerFails k 0).done

/-- CABLE_OVERCURRENT (R477): CBL_VCC above 0.5 A for 1 ms. -/
def execCableOvercurrent (k : Fin 16) (s : State) : Out :=
  if !(s.conn k).vcc then .next s else (s.cablePowerFails k 1).done

/-- A cable with power good and not rejected lets the port leave DETECT (R462, R477, R478). -/
def State.cableReady (s : State) (p : Nat) : Bool :=
  let c := s.conn (p / 4)
  c.present && c.powerOk && !c.rejected && !c.failed

/-! ### DETECT, CLOCK, SLOW -/

/-- DETECT_CLOCK (R424): a cable, and the partner's CK for 100 µs. -/
def execDetectClock (p : Fin 64) (s : State) : Out :=
  if (s.link p).st = .detect ∧ s.cableReady p = true then
    ((s.reach ((s.link p).since + 100 * usTicks)).enterPort p .clock).done
  else .next s

/-- CLOCK_LOCKED (R424): receive CK locked and stable for 10 µs. -/
def execClockLocked (p : Fin 64) (s : State) : Out :=
  if (s.link p).st = .clock then
    let s := s.reach ((s.link p).since + 10 * usTicks)
    let s := s.modLink p fun l => { l with train := { l.train with ckLock := true } }
    (s.enterPort p .slow).done
  else .next s

/-- CLOCK_TIMEOUT (R424): 1 ms in CLOCK, or CK transitions lost. -/
def execClockTimeout (p : Fin 64) (s : State) : Out :=
  if (s.link p).st = .clock then (s.trainTimeout p .detect).done else .next s

/-- The rate codes this end supports and offers (R442): not excluded by MAX_RATE; code 3 always. -/
def LinkCfg.rates (c : LinkCfg) : Nat := ((List.range 4).filter fun r => c.maxRate ≤ r).foldl (fun a r => a + 2 ^ r) 0

/-- Lane `i` is block-locked in both directions (R441). -/
def LinkTrain.lockedBoth (t : LinkTrain) (i : Nat) : Bool := decide (t.goodRun.getD i 0 ≥ 8) && t.partnerAck.getLsbD i

/-- Target width (R441). -/
def LinkPort.targetW (l : LinkPort) : Nat :=
  ([8, 4, 2, 1].filter fun w => w ≤ l.cfg.maxWidth ∧ w ≤ l.train.partnerMaxWidth
    ∧ (List.range w).all (fun i => l.train.lockedBoth i) = true).headD 0

/-- Target rate: the fastest PAM4 code in both ends' RATES (R441). -/
def LinkPort.targetR (l : LinkPort) : Option Nat :=
  (List.range 3).find? fun r => bit l.cfg.rates r && bit l.train.partnerRates r

/-- The PHASE this end sends on L0 (R441, R442): LOCK until L0 is locked both ways, PARAM until the partner sends PARAM, then
GO. -/
def LinkTrain.phase (t : LinkTrain) (partnerPhase : Nat) : Nat :=
  if !t.lockedBoth 0 then 0 else if partnerPhase = 0 then 1 else 2

/-- The block this end sends on a lane (R442). ACK tells of the lane's own block lock; a target is named from PARAM on, and where no PAM4 rate is
in both ends' RATES it is rate code 3 (DESIGN CHOICE, log 172). -/
def LinkPort.block (l : LinkPort) (lane phase : Nat) : TrainBlock :=
  { lane := lane, phase := phase, ack := decide (l.train.goodRun.getD lane 0 ≥ 8), rates := l.cfg.rates, maxWidth := l.cfg.maxWidth,
    targetRate := if phase = 0 then 0 else if phase = 3 then l.train.targetRate else l.targetR.getD 3,
    targetWidth := if phase = 0 then 0 else if phase = 3 then l.train.targetWidth else l.targetW,
    preReq := 0, postReq := 0, eqDone := false }

/-- TS_NRZ_BLOCK (R441, R442): a block of lane `lane` arrives; each block received is answered by one sent. The port goes to
EQUALIZE once L0 is locked both ways and both ends have exchanged 16 GO blocks with ACK. -/
def execTsNrzBlock (p : Fin 64) (lane : Fin 8) (w : BitVec 128) (s : State) : Out :=
  let l := s.link p
  if l.st ≠ .slow then .next s
  else
    let inv := w.extractLsb' 96 32 == ~~~syncWord
    let b := if inv then ~~~w else w
    let good := (inv || w.extractLsb' 96 32 == syncWord) && blockGood b
    let t := l.train
    let run := if good then min 8 (t.goodRun.getD lane 0 + 1) else 0
    let t := { t with goodRun := put t.goodRun lane run }
    let t := if good then
        { t with polarity := if inv then t.polarity ||| BitVec.ofNat 8 (2 ^ lane.val)
                             else t.polarity &&& ~~~BitVec.ofNat 8 (2 ^ lane.val),
                 partnerAck := if b.getLsbD 87 then t.partnerAck ||| BitVec.ofNat 8 (2 ^ lane.val)
                               else t.partnerAck &&& ~~~BitVec.ofNat 8 (2 ^ lane.val),
                 partnerRates := (b.extractLsb' 84 3).toNat + 8, partnerMaxWidth := (b.extractLsb' 80 4).toNat }
      else t
    let pp := (b.extractLsb' 88 4).toNat
    let mine := t.phase pp
    let t := if lane.val = 0 then
        { t with goGot := if good && pp == 2 && b.getLsbD 87 then min 16 (t.goGot + 1) else 0,
                 goSent := if mine = 2 then min 16 (t.goSent + 1) else 0 }
      else t
    let l := { l with train := t }
    let s := (s.setLink p l).emit (.trainBlock p lane (l.block lane mine).word)
    match l.targetR with
    | some r =>
      if t.goGot ≥ 16 ∧ t.goSent ≥ 16 ∧ l.targetW ≠ 0 then
        let s := s.enterPort p .equalize
        (s.modLink p fun l => { l with train := { l.train with targetRate := r, targetWidth := l.targetW, eqRate := r,
                                                                     trained := 8, eqSelf := false, eqPartner := false } }).done
      else s.done
    | none => s.done

/-- SLOW_TIMEOUT (R424): 2 ms in SLOW. -/
def execSlowTimeout (p : Fin 64) (s : State) : Out :=
  if (s.link p).st = .slow then ((s.reach ((s.link p).since + 2 * msTicks)).trainTimeout p .detect).done else .next s

/-! ### EQUALIZE -/

/-- TS_PAM_BLOCK (R441, R442): the partner's tap requests and EQ_DONE; a block is answered on its lane. What this receiver asks of the partner's
taps, and whether it needs no further change, is its analog measure: free values (log 172). -/
def execTsPamBlock (p : Fin 64) (w : BitVec 128) (s : State) : Out :=
  let l := s.link p
  if l.st ≠ .equalize ∨ blockGood w = false then .next s
  else
    let lane := (w.extractLsb' 92 4).toNat
    let (v, s) := s.fresh 5
    let t := { l.train with eqReq := (w.extractLsb' 72 2).toNat + 4 * (w.extractLsb' 70 2).toNat, eqPartner := w.getLsbD 69, eqSelf := bit v 4 }
    let l := { l with train := t }
    let b : TrainBlock := { l.block lane 3 with preReq := v % 4 % 3, postReq := v / 4 % 4 % 3, eqDone := bit v 4 }
    ((s.setLink p l).emit (.trainBlock p lane b.word)).done

/-- Widest width at or below `w` all of whose lanes are in `lanes`. -/
def widthWithin (lanes : BitVec 8) (w : Nat) : Nat :=
  ([8, 4, 2, 1].filter fun v => v ≤ w ∧ (List.range v).all (fun i => lanes.getLsbD i) = true).headD 0

/-- EQUALIZE_PASS (R424, R441): both ends set EQ_DONE and the lanes of `lanes` pass at the present rate. The rate is stored;
a lane that fails at the target removes the widths that need it; after the last slower PAM4 rate the port goes to ALIGN. -/
def execEqualizePass (p : Fin 64) (lanes : BitVec 8) (s : State) : Out :=
  let l := s.link p
  if l.st ≠ .equalize then .next s
  else
    let t := l.train
    let w := if t.trained = 8 then widthWithin lanes t.targetWidth else t.targetWidth
    let pass := decide (w ≠ 0) && (List.range w).all fun i => lanes.getLsbD i
    if !pass then .next s
    else
      let target := if t.trained = 8 then t.eqRate else t.targetRate
      let t := { t with trained := t.trained + 2 ^ t.eqRate, targetRate := target, targetWidth := w, laneOk := lanes,
                        eqSelf := false, eqPartner := false }
      if t.eqRate < 2 then
        (s.setLink p { l with train := { t with eqRate := t.eqRate + 1 }, since := s.clk.now }).done
      else ((s.setLink p { l with train := t }).enterPort p .align).done

/-- EQUALIZE_TIMEOUT (R424): 20 ms at a rate without success: the next lower rate, or DETECT when none remains. -/
def execEqualizeTimeout (p : Fin 64) (s : State) : Out :=
  let l := s.link p
  if l.st ≠ .equalize then .next s
  else
    let s := s.reach (l.since + 20 * msTicks)
    if l.train.eqRate < 2 then
      (s.modLink p fun l => { l with train := { l.train with eqRate := l.train.eqRate + 1 }, since := s.clk.now,
                                           cause := .trainTimeout }).done
    else (s.trainTimeout p .detect).done

/-! ### ALIGN and CAPX -/

/-- ALIGN_LOCK (R424): marker lock on every lane, skew within 10 ns, 1,024 clean codewords. -/
def execAlignLock (p : Fin 64) (s : State) : Out :=
  let l := s.link p
  if l.st ≠ .align then .next s
  else
    let lanes := BitVec.ofNat 8 (2 ^ l.train.targetWidth - 1)
    let s := s.setLink p { l with train := { l.train with markerLock := lanes } }
    (s.enterPort p .capx).done

/-- ALIGN_TIMEOUT (R424): 1 ms in ALIGN. -/
def execAlignTimeout (p : Fin 64) (s : State) : Out :=
  if (s.link p).st = .align then ((s.reach ((s.link p).since + msTicks)).trainTimeout p .slow).done else .next s

/-- CAP_SEND (R439, R440): a CAP is sent, every 1 µs in CAPX and three times after a change of identity; SEEN is set once a
valid CAP has been received. -/
def execCapSend (p : Fin 64) (s : State) : Out :=
  let l := s.link p
  let inCapx := decide (l.st = .capx) && !l.train.incompatible
  let again := (decide (l.st = .active) || decide (l.st = .doze)) && decide (l.cap.repeats ≠ 0)
  if !inCapx && !again then .next s
  else
    let seen := l.train.capSeen || again
    let s := s.sendLctl p (.cap (s.capBytes p seen))
    let s := s.modLink p fun l =>
      { l with cap := { l.cap with seq := l.cap.seq + 1, repeats := l.cap.repeats - 1 },
               train := { l.train with capSent := l.train.capSent || seen } }
    let l := s.link p
    (if l.st = .capx ∧ l.train.capSent = true ∧ l.train.capGot = true then s.linkUp p else s).done

/-- A CAP record is compatible (R439). -/
def capCompatible (c : List Byte) : Bool :=
  let res := (List.range 12).map fun v => beNat ((c.drop (22 + 2 * v)).take 2)
  field c 1 1 == 1 && decide (res.sum ≤ beNat ((c.drop 20).take 2)) && res.all fun r => 130 ≤ r

/-- CAP_FLIT (R439, R440): the partner's fields are kept, the round trip measured, and CAPX ends once a CAP with SEEN has been
both sent and received; an incompatible partner is recorded. -/
def execCapFlit (p : Fin 64) (c : List Byte) (s : State) : Out :=
  let l := s.link p
  if l.st ≠ .capx ∧ ¬ (l.st.up = true) then .next s
  else if field c 0 1 ≠ 6 then (s.lctlBad p c).done
  else if !capCompatible c then
    if l.st = .capx then
      (s.setLink p { l with cause := .incompatible, train := { l.train with incompatible := true } }).done
    else .next s
  else
    let rtt :=
      match l.cap.sentAt.lookup (beNat ((c.drop 52).take 2)) with
      | some at0 => if l.st.up || bit (field c 2 1) 0 then
            some ((s.clk.now - at0) / 256 - beNat ((c.drop 54).take 2)) else none
      | none => none
    let cap := { l.cap with partner := fit 64 c, echo := BitVec.ofNat 16 (beNat ((c.drop 50).take 2)), gotAt := s.clk.now }
    let cap := match rtt with
      | some r => { cap with rttNs := if cap.rttKnown then min cap.rttNs r else r, rttKnown := true }
      | none => cap
    let s := s.setLink p
      { l with cap := cap,
               tx := { l.tx with partnerRes := (List.range 12).map (fun v => beNat ((c.drop (22 + 2 * v)).take 2)),
                                 partnerTotal := beNat ((c.drop 20).take 2) },
               train := { l.train with capSeen := true, capGot := l.train.capGot || bit (field c 2 1) 0 } }
    let l := s.link p
    if l.st = .capx then
      (if l.train.capSent ∧ l.train.capGot then s.linkUp p else s).done
    else (s.checkRole p).done

/-- CAPX_TIMEOUT (R424): 1 ms in CAPX. -/
def execCapxTimeout (p : Fin 64) (s : State) : Out :=
  let l := s.link p
  if l.st = .capx ∧ l.train.incompatible = false then ((s.reach (l.since + msTicks)).trainTimeout p .slow).done else .next s

/-- INCOMPATIBLE_HOLD (R424, R439): 1 s after an incompatible partner. -/
def execIncompatibleHold (p : Fin 64) (s : State) : Out :=
  let l := s.link p
  if l.st = .capx ∧ l.train.incompatible = true then ((s.reach (l.since + secTicks)).enterPort p .detect).done else .next s

/-! ### DOWN and HOLDOFF -/

/-- DOWN_TIMER (R424, R443): 1 µs in DOWN; the declarations of the 10 s up to this one decide HOLDOFF. -/
def execDownTimer (p : Fin 64) (s : State) : Out :=
  let l := s.link p
  if l.st ≠ .down then .next s
  else
    let s := s.reach (l.since + usTicks)
    match l.cause with
    | .disabled | .isolated | .power => (s.enterPort p .disabled).done
    | .retrain => (s.enterPort p (if l.train.ckLock then .slow else .detect)).done
    | _ =>
      if !l.cfg.autoRetrain then (s.enterPort p .disabled).done
      else if l.downs.length ≥ 8 then
        let s := s.enterPort p .holdoff
        let s := s.portInt p 5
        (s.event 0x0022 (0x0200 + p) (s.portData p l.cause.code 0)).done
      else (s.enterPort p .detect).done

/-- HOLDOFF_EXPIRY (R424): 10 s in HOLDOFF. -/
def execHoldoffExpiry (p : Fin 64) (s : State) : Out :=
  if (s.link p).st = .holdoff then ((s.reach ((s.link p).since + 10 * secTicks)).enterPort p .detect).done else .next s

end Sys2Proof.Machine
end

