-- ==== Sys2Proof/Machine/LinkFlow.lean ====
section
/-! DEFINITION. The commands of a link that is up: data flits, acknowledgement and replay, coins, operating points and the
causes that declare it down (R430 to R466). -/
namespace Sys2Proof.Machine

/-! ### Data flits -/

/-- The VC the receiver charges an arriving packet to: its own ROLE is the partner's view of it (R453). -/
def State.rxVc (s : State) (p : Nat) (h : RouteHdr) : Nat :=
  h.vn.toNat * 3 + min 2 (h.level.toNat + b2n ((s.rport p).role.role == 3))

/-- Coins of VC `v` in use in this till: whole packets since the last declaration and packets in progress (R452, R455). -/
def LinkRx.inUse (r : LinkRx) (v : Nat) : Nat :=
  ((r.till.filter fun k => k.vc = v && !k.old).map (·.flits)).sum
    + ((r.part.filterMap fun o => o.bind fun g => if g.vc = v then some (if g.drop then g.left else g.total) else none)).sum

/-- Coins the partner may still charge to VC `v` of this till (R454, R455). -/
def LinkPort.tillRoom (l : LinkPort) (v : Nat) : Nat :=
  let occ := (List.range 12).map l.rx.inUse
  (l.cfg.res.getD v 0 - occ.getD v 0) + sharedFree 6144 l.cfg.res occ

/-- Count a flit received on a VC (R113), and the till's high-water mark (R115). -/
def State.countRxFlit (s : State) (p vc : Nat) : State :=
  let r := s.rport p
  let c := Tbl.getD r.vcs vc VcCtr.reset
  let c := { c with rxFlit := c.rxFlit + 1, wmark := max c.wmark ((s.link p).rx.held vc) }
  (s.setRport p { r with vcs := Tbl.set r.vcs vc c }).count 0x0201 p (qMask vc) 1

/-- Count a packet received on a VC: with its last flit (R113). -/
def State.countRx (s : State) (p vc : Nat) (h : RouteHdr) : State :=
  let r := s.rport p
  let c := Tbl.getD r.vcs vc VcCtr.reset
  s.setRport p { r with vcs := Tbl.set r.vcs vc { c with rxPkt := c.rxPkt + 1, rxByte := c.rxByte + BitVec.ofNat 64 h.len.toNat } }

/-- After each flit: it is counted; a dropped packet frees its coin at once; a packet whose last flit this is enters the till, or is
counted as HDR_ERR (R451). -/
def State.finishFlit (s : State) (p stream : Nat) (g : RxPart) : State :=
  let s := if g.drop then s.freeCoins p g.vc 1 else s
  let s := s.modLink p fun l => { l with rx := { l.rx with part := put l.rx.part stream (some g) } }
  let s := s.countRxFlit p g.vc
  if g.left ≠ 0 then s
  else
    let s := s.modLink p fun l => { l with rx := { l.rx with part := put l.rx.part stream none } }
    match RouteHdr.decode g.bytes, Packet.decode g.bytes with
    | some h, some k =>
      if g.drop then (s.countRx p g.vc h).drop p g.vc 0
      else
        let s := s.modLink p fun l =>
          { l with rx := { l.rx with till := l.rx.till ++ [{ pkt := k, flits := g.total, vc := g.vc, old := false, blocked := false }] } }
        s.countRx p g.vc h
    | _, _ => s

/-- A flit accepted into packet assembly on its stream (R451); a head flit that finds no coins is a breach of R455. -/
def State.assemble (s : State) (p stream : Nat) (flit : List Byte) : State :=
  let l := s.link p
  match l.rx.part.getD stream none with
  | some g =>
    s.finishFlit p stream { g with bytes := if g.drop then g.bytes else g.bytes ++ fit 64 flit, left := g.left - 1 }
  | none =>
    match RouteHdr.decode (fit 64 flit) with
    | none => s
    | some h =>
      let n := max 1 h.flits
      let vc := s.rxVc p h
      if l.tillRoom vc < n then s.declareDown p .protocol
      else
        let bad := decide (n > 130) || (decide (h.tc = 0) != decide (stream = 1))
        s.finishFlit p stream { bytes := fit 64 flit, left := n - 1, total := n, vc := vc, drop := bad }

/-- A codeword was decoded: the run of uncorrectable ones ends. -/
def State.goodCw (s : State) (p : Nat) : State := s.modLink p fun l => { l with rx := { l.rx with badRun := 0 } }

/-- A replay repaired uncorrectable codewords: reported at most once per second (R457). -/
def State.repaired (s : State) (p : Nat) : State :=
  let l := s.link p
  if !l.rx.repair then s
  else
    let s := s.setLink p { l with rx := { l.rx with repair := false, injected := none } }
    let due := match l.replayAt with
      | none => true
      | some at0 => decide (at0 + secTicks ≤ s.clk.now)
    if due then
      let n := (l.badAt.filter fun t => s.clk.now < t + secTicks).length
      let s := s.modLink p fun l => { l with replayAt := some s.clk.now, badAt := [] }
      s.record (0x0200 + p) { d := { kind := .linkReplay, fatal := false, context := none, infoA := BitVec.ofNat 32 n, infoB := 0 },
                              injected := l.rx.injected.isSome, full := l.rx.injected.getD true, persist := false }
    else s

/-- The receiver accepts a data flit as EXPECT (R445) and acknowledges as R446 asks. -/
def State.acceptFlit (s : State) (p stream : Nat) (flit : List Byte) : State :=
  let l := s.link p
  let first := l.rx.firstAfter
  let s := s.setLink p
    { l with rx := { l.rx with expect := l.rx.expect + 1, firstAfter := false, ackSince := l.rx.ackSince + 1, due := true,
                               dueFrom := if l.rx.due then l.rx.dueFrom else s.clk.now } }
  let s := if l.rx.ackSince + 1 ≥ 32 || first then s.queueAck p else s
  let s := if first then s.repaired p else s
  s.assemble p stream flit

/-- A data flit of a decoded codeword arrives (R445, R446, R451): `cw` is given with the first one of its codeword, and holds the symbols
corrected on each lane of that codeword (R469). -/
def State.dataArrives (s : State) (p stream : Nat) (cw : Option (List Nat)) (flit : List Byte) : State :=
    let s := s.goodCw p
    let s := s.modLink p fun l =>
      let c := { l.ctr with dataRx := l.ctr.dataRx + 1 }
      { l with ctr := match cw with
          | none => c
          | some fixed =>
            { c with cwRx := c.cwRx + 1, cwCorrected := if fixed.sum = 0 then c.cwCorrected else c.cwCorrected + 1,
                     symCorr := (List.range 8).map fun i => c.symCorr.getD i 0 + BitVec.ofNat 64 (fixed.getD i 0) } }
    let l := s.link p
    if l.rx.waiting then s
    else if l.rx.drop ≠ 0 then s.setLink p { l with rx := { l.rx with drop := l.rx.drop - 1 }, ctr := { l.ctr with dup := l.ctr.dup + 1 } }
    else s.acceptFlit p stream flit

/-- A REPLAY_REQ leaves with EXPECT (R445, R449). -/
def State.replayRequest (s : State) (p cause : Nat) : State :=
  let s := s.modLink p fun l =>
    { l with rx := { l.rx with waiting := true, waitFrom := s.clk.now }, ctr := { l.ctr with rreqTx := l.ctr.rreqTx + 1 } }
  s.sendLctl p (.replayReq (s.link p).rx.expect cause)

/-- A codeword is discarded (R445, R457): `kind` is 0 for an uncorrectable codeword and 1 for an invalid slot code. It is counted; one
REPLAY_REQ is sent on entry to REPLAY_WAIT; 64 in a row lose the lock. -/
def State.badCodeword (s : State) (p kind : Nat) : State :=
  let l := s.link p
  let l := { l with ctr := { l.ctr with cwRx := l.ctr.cwRx + 1, cwUncorr := l.ctr.cwUncorr + 1 } }
  if l.st.up = false then s.setLink p l
  else
    let run := l.rx.badRun + 1
    let s := s.setLink p
      { l with badAt := s.clk.now :: (l.badAt.filter fun t => s.clk.now < t + secTicks),
               rx := { l.rx with badRun := run, repair := true } }
    let s := if l.rx.waiting then s else s.replayRequest p (kind + 1)
    if run ≥ 64 then s.declareDown p .lockLost else s

/-- Codewords are decoded in this state (R424). -/
def PortSt.decodes : PortSt → Bool
  | .align | .capx => true
  | st => st.up

/-- A codeword of port `p` was taken in with parity symbols inverted by an injection, and is uncorrectable (R523). -/
def State.spoilCodeword (s : State) (p : Nat) (i : Injection) : State :=
  (s.useInjection (0x0200 + p)).modLink p fun l => { l with rx := { l.rx with injected := some i.full } }

/-- The symbols corrected on each lane, with the parity symbols an injection inverted: symbol 514 + i of the codeword is on lane
(514 + i) mod w (R433, R523). -/
def withParity (w : Nat) (fixed ks : List Nat) : List Nat :=
  (List.range 8).map fun lane => fixed.getD lane 0 + (ks.filter fun k => (514 + k) % w == lane).length

/-- DATA_FLIT (R431, R445, R446, R451, R523): an injection at the lane FEC inverts symbols of the codeword that the flit begins. -/
def execDataFlit (p : Fin 64) (stream : Fin 2) (cw : Option (List Nat)) (flit : List Byte) (s : State) : Out :=
  if (s.link p).st.up = false then .next s
  else match cw, s.armedAt (0x0200 + p) 0x82 with
    | some fixed, some i =>
      let ks := i.bitsBelow 30
      if rsCorrects (fixed.sum + ks.length) then
        ((s.useInjection (0x0200 + p)).dataArrives p stream (some (withParity (s.link p).width fixed ks)) flit).done
      else ((s.spoilCodeword p i).badCodeword p 0).done
    | _, _ => (s.dataArrives p stream cw flit).done

/-- UNCORRECTABLE_CODEWORD (R445, R457, R523). -/
def execUncorrectableCodeword (p : Fin 64) (kind : Fin 2) (s : State) : Out :=
  if (s.link p).st.decodes = false then .next s
  else match s.armedAt (0x0200 + p) 0x82 with
    | some i => ((if kind.val = 0 then s.spoilCodeword p i else s.useInjection (0x0200 + p)).badCodeword p kind).done
    | none => (s.badCodeword p kind).done

/-! ### Acknowledgement and replay -/

/-- ACK_FLIT (R447, R454): flits acknowledged, coins returned. -/
def execAckFlit (p : Fin 64) (seq : U16) (freed : List U16) (s : State) : Out :=
  if (s.link p).st.up = false then .next s
  else
    let s := (s.goodCw p).applyAck p seq
    (if (s.link p).st.up then s.applyFreed p freed else s).done

/-- The oldest unacknowledged flit. -/
def LinkTx.oldest (t : LinkTx) : U16 := match t.escrow.head? with | some f => f.seq | none => t.next

/-- REPLAY_REQ_FLIT (R447, R448): it acknowledges, then starts or restarts a replay. One that names a flit already
acknowledged replays from the oldest still kept (DESIGN CHOICE, log 25). -/
def execReplayReqFlit (p : Fin 64) (seq : U16) (_cause : Nat) (s : State) : Out :=
  if (s.link p).st.up = false then .next s
  else
    let s := s.goodCw p
    let s := s.modLink p fun l => { l with ctr := { l.ctr with rreqRx := l.ctr.rreqRx + 1 } }
    let s := s.applyAck p seq
    let l := s.link p
    if l.st.up then (s.startReplay p (if seqGe seq l.tx.oldest then seq else l.tx.oldest) 1).done else s.done

/-- REPLAY_START_FLIT (R445): the receiver is renumbered, or the partner names a flit not yet due. -/
def execReplayStartFlit (p : Fin 64) (seq : U16) (_cause : Nat) (s : State) : Out :=
  if (s.link p).st.up = false then .next s
  else
    let s := s.goodCw p
    let l := s.link p
    if seqGe l.rx.expect seq then
      (s.setLink p { l with rx := { l.rx with waiting := false, drop := (l.rx.expect - seq).toNat, firstAfter := true } }).done
    else (s.declareDown p .protocol).done

/-- ALIGN_FLIT (R435, R436): the marker keeps lock and gives the partner's codeword count. -/
def execAlignFlit (p : Fin 64) (cw : U32) (s : State) : Out :=
  let l := s.link p
  if l.st = .align ∨ l.st = .capx ∨ l.st.up = true then
    let w := if l.st.up then l.width else l.train.targetWidth
    ((s.setLink p { l with rx := { l.rx with cw := cw.toNat, badRun := 0 },
                                 train := { l.train with markerLock := BitVec.ofNat 8 (2 ^ w - 1) } })).done
  else .next s

/-- ACK_SEND_TIMER (R446): 100 ns after the first unreported advance or freed coin, and at least every 1 µs. -/
def execAckSendTimer (p : Fin 64) (s : State) : Out :=
  let l := s.link p
  if l.st.up = false then .next s
  else
    let t := if l.rx.due then min (l.rx.dueFrom + 100 * 256) (l.rx.ackAt + usTicks) else l.rx.ackAt + usTicks
    ((s.reach t).queueAck p).done

/-- ACK_TIMER (R447 to R449, R465): the effective ack timer expires with a flit unacknowledged; it starts again with the replay
(log 25). -/
def execAckTimer (p : Fin 64) (s : State) : Out :=
  let l := s.link p
  if l.st.up = false ∨ l.st = .step ∨ l.tx.escrow = [] then .next s
  else
    let s := s.reach (l.tx.ackFrom + l.ackEffNs * 256)
    let s := s.modLink p fun l => { l with tx := { l.tx with ackFrom := s.clk.now } }
    (s.startReplay p (s.link p).tx.oldest 2).done

/-- REPLAY_WAIT_TIMER (R449): no REPLAY_START within the effective ack timer: another REPLAY_REQ with CAUSE 3. -/
def execReplayWaitTimer (p : Fin 64) (s : State) : Out :=
  let l := s.link p
  if l.st.up = false ∨ l.st = .step ∨ l.rx.waiting = false then .next s
  else ((s.reach (l.rx.waitFrom + l.ackEffNs * 256)).replayRequest p 3).done

/-- CREDIT_TIMEOUT (R456): a packet has waited for coins for CREDIT_TIMEOUT and none was returned. -/
def execCreditTimeout (p : Fin 64) (s : State) : Out :=
  let l := s.link p
  match l.tx.creditFrom with
  | none => .next s
  | some t0 =>
    if l.st.up = false ∨ l.st = .step then .next s
    else ((s.reach (t0 + l.cfg.creditTimeout * usTicks)).declareDown p .creditTimeout).done

/-! ### Operating points -/

/-- PSTATE_REQUEST (R463): the partner's wants, and the operating point computed anew. -/
def execPstateRequest (p : Fin 64) (doze : Bool) (width rate : Nat) (s : State) : Out :=
  if (s.link p).st.up = false then .next s
  else
    let s := s.goodCw p
    let s := s.modLink p fun l => { l with pwant := { doze := doze, width := width, rate := rate } }
    (s.propose p).done

/-- PSTATE_SWITCH (R464): the partner names the codeword of its change. -/
def execPstateSwitch (p : Fin 64) (_doze : Bool) (_width _rate : Nat) (cw : U32) (s : State) : Out :=
  if (s.link p).st.up = false then .next s
  else ((s.goodCw p).modLink p fun l => { l with train := { l.train with switchCw := some cw.toNat } }).done

/-- OPERATING_POINT_SWITCH (R464, R465): the transmitter reaches SWITCH_CW. A width alone changes at once; a rate, or DOZE,
stops the flits in STEP, which waits for a running replay. A time-mark exchange in flight fails. -/
def execOperatingPointSwitch (p : Fin 64) (s : State) : Out :=
  let l := s.link p
  match l.tx.switchTo with
  | none => .next s
  | some (pt, cw) =>
    if ¬ (l.st = .active ∨ l.st = .doze) then .next s
    else
      let slot := max l.tx.slot (cw * 10)
      let line : Line := { l.tx.line with width := pt.width, rate := pt.rate, slots := if slot = l.tx.slot then l.tx.line.slots else [] }
      let s := s.syncTc0 p
      if pt.doze = false ∧ l.st = .active ∧ pt.rate = l.rate then
        let s := s.setLink p
          { l with width := pt.width, tx := { l.tx with slot := slot, switchTo := none, switched := some cw, line := line } }
        ((s.portInt p 4).propose p).done
      else if l.tx.replay.isSome then s.done
      else
        let s := s.setLink p
          { l with st := .step, since := s.clk.now, width := pt.width, rate := pt.rate,
                   ckPrev := if l.st = .active then (if pt.doze then l.rate else pt.rate) else l.ckPrev,
                   tx := { l.tx with slot := slot, switched := some cw, line := line } }
        (if (s.tport p).out.isSome then s.failSample p else s).done

/-- STEP_ALIGNED (R464, R465): marker lock and deskew at the new rate; the timers that waited go on. -/
def execStepAligned (p : Fin 64) (s : State) : Out :=
  let l := s.link p
  if l.st ≠ .step then .next s
  else
    let on (x : Nat) := x + (s.clk.now - max x l.since)
    let doze := match l.tx.switchTo with | some (pt, _) => pt.doze | none => false
    let s := s.setLink p
      { l with st := if doze then .doze else .active, since := s.clk.now,
               tx := { l.tx with switchTo := none, ackFrom := on l.tx.ackFrom, creditFrom := l.tx.creditFrom.map on },
               rx := { l.rx with waitFrom := on l.rx.waitFrom },
               train := { l.train with markerLock := BitVec.ofNat 8 (2 ^ l.width - 1), switchCw := none } }
    ((s.portInt p 4).propose p).done

/-- STEP_TIMEOUT (R424): 20 µs in STEP. -/
def execStepTimeout (p : Fin 64) (s : State) : Out :=
  let l := s.link p
  if l.st ≠ .step then .next s else ((s.reach (l.since + 20 * usTicks)).declareDown p .wakeFailed).done

/-! ### Causes that declare the link down -/

/-- DOWN_FLIT (R457). -/
def execDownFlit (p : Fin 64) (_cause : Nat) (s : State) : Out := (s.declareDown p .partnerDown).done

/-- CLOCK_LOST (R457): no transition on the received CK for 100 ns. -/
def execClockLost (p : Fin 64) (s : State) : Out :=
  if (s.link p).st.up = false then .next s
  else ((s.modLink p fun l => { l with train := { l.train with ckLock := false } }).declareDown p .clockLost).done

/-- LOCK_LOST (R436, R457): markers missing on a lane, or 64 uncorrectable codewords in a row. -/
def execLockLost (p : Fin 64) (s : State) : Out := (s.declareDown p .lockLost).done

end Sys2Proof.Machine
end

