-- ==== Sys2Proof/Machine/Egress.lean ====
section
/-! DEFINITION. What a port sends at a flit boundary: time marks, the link-control pacer, replay, the express class, deficit
round robin, shapers and time gates (R32, R33, R92, R134 to R157, R436, R437, R448). -/
namespace Sys2Proof.Machine

/-! ### Flit slots -/

/-- A slot is filled with 64 bytes of a code of R430; the tenth slot sends the codeword (R429 to R433). -/
def State.fillSlot (s : State) (p code : Nat) (isAlign : Bool) (bytes : List Byte) : State :=
  let l := s.link p
  let r := l.tx.line.fill code isAlign bytes
  let s := s.setLink p { l with tx := { l.tx with slot := l.tx.slot + 1, line := r.1 } }
  match r.2 with
  | some lanes => s.emit (.codeword p l.tx.line.rate lanes)
  | none => s

/-- A link-control flit fills the slot (R430, R434). -/
def State.lctlSlot (s : State) (p : Nat) (f : Lctl) : State :=
  (s.emit (.lctl p f)).fillSlot p 2 (match f with | .align _ => true | _ => false) f.bytes

/-- A data flit of a stream fills the slot: code DATA0 or DATA1 (R430). -/
def State.flitSlot (s : State) (p stream : Nat) (bytes : List Byte) : State := (s.emit (.dataFlit p stream bytes)).fillSlot p stream false bytes

/-! ### Time marks -/

/-- FLAGS of a time mark (R33). -/
def State.markFlags (s : State) : Nat := b2n s.time.root + 2 * s.time.status.code

/-- The 64 bytes of a time mark (R33). -/
def State.markBytes (s : State) (type : Nat) (seq : U16) (t1 t2 t3 : Nat) : List Byte :=
  fit 64 (beBytes 1 type ++ beBytes 1 s.markFlags ++ beBytes 2 seq.toNat ++ beBytes 8 t1 ++ beBytes 8 t2 ++ beBytes 8 t3
    ++ beBytes 4 s.errBound ++ beBytes 3 s.rootId ++ beBytes 1 s.depth)

/-- A MARK leaves at this flit boundary: T1 is stamped and its SEQ used (R32, R33, R35). -/
def State.sendMark (s : State) (p : Nat) : State :=
  let t := s.tport p
  let s := s.lctlSlot p (.mark (s.markBytes 1 t.markSeq s.clk.nt.toNat 0 0))
  let s := s.setTport p { t with markWait := false, markSeq := t.markSeq + 1,
                                 out := some { seq := t.markSeq, t1 := s.clk.nt, t1now := s.clk.nt } }
  s.count 0x0101 p qAny 1

/-! ### Eligibility -/

/-- Counted length of a packet (R148). -/
def SchedPort.counted (x : SchedPort) (k : Packet) : Nat := k.hdr.len.toNat + x.overhead

/-- The coins of R454 allow a packet to start. -/
def coinsFor (l : LinkPort) (k : Packet) : Bool := decide (max 1 k.hdr.flits ≤ l.tx.credits (l.vcOf k.hdr))

/-- A port sends no data packet but CTL: in A2, and while its partner is not the module its role names (R72, R495). -/
def State.ctlOnly (s : State) (p : Nat) : Bool := s.pwr.st == .a2 || (s.rport p).mismatch

/-- A port that sends CTL packets only brings those of each class queue to its front: they are of a VC of their own (R100). -/
def State.ctlFirst (s : State) (p : Nat) : State :=
  if s.ctlOnly p then
    s.modSched p fun x => { x with queues := x.queues.map fun q => (q.filter fun k => k.hdr.vn == 2) ++ q.filter fun k => k.hdr.vn != 2 }
  else s

/-- Class `c` of TC1 to TC7 is eligible (R72, R145, R147, R156). -/
def State.eligibleClass (s : State) (p c : Nat) : Bool :=
  let l := s.link p
  let x := s.sched p
  match (x.queues.getD c []).head? with
  | none => false
  | some k =>
    let b := x.shapers.getD c (Bucket.full false 1600000 65536)
    let shaped := !b.en || decide (0 ≤ b.tokensAt s.clk.now)
    let need := ceilDiv (x.counted k * 8 * 256) (max 1 l.net) + x.guard * 256
    let openNow := !(x.gateEn && s.time.ntValid) || x.staysOpen c 4096 x.active s.clk.nt.toNat need
    shaped && openNow && coinsFor l k && (!s.ctlOnly p || k.hdr.vn == 2)

/-- State of the deficit round robin. -/
structure Drr where
  deficit : List Nat
  fresh : List Bool
  ptr : Nat
deriving DecidableEq, Repr

/-- The loop of R145 over the seven classes from `i` on: the class chosen, or none. -/
def drrScan (x : SchedPort) (elig : Nat → Bool) : Nat → Nat → Drr → Option Nat × Drr
  | 0, _, d => (none, d)
  | n + 1, i, d =>
    let c := 1 + (x.ptr + i) % 7
    match (x.queues.getD c []).head? with
    | none => drrScan x elig n (i + 1) { d with deficit := put d.deficit c 0, fresh := put d.fresh c false }
    | some k =>
      if !elig c then drrScan x elig n (i + 1) d
      else
        let have_ := d.deficit.getD c 0 + (if d.fresh.getD c false then 0 else x.quanta.getD c 16384)
        let len := x.counted k
        if len ≤ have_ then (some c, { deficit := put d.deficit c (have_ - len), fresh := put d.fresh c true, ptr := c - 1 })
        else drrScan x elig n (i + 1) { d with deficit := put d.deficit c have_, fresh := put d.fresh c false }

/-- R145 repeats the loop until a class is chosen or none is eligible: `rounds` scans at most. Every scan in which a class is
eligible adds its quantum, of at least 64 bytes, to a deficit short of at most 16,638 bytes, so 261 scans suffice. -/
def drrChoose (x : SchedPort) (elig : Nat → Bool) : Nat → SchedPort → Option Nat × SchedPort
  | 0, y => (none, y)
  | n + 1, y =>
    if !((List.range 7).any fun i => elig (i + 1)) then
      let r := drrScan y elig 7 0 { deficit := y.deficit, fresh := y.fresh, ptr := y.ptr }
      (none, { y with deficit := r.2.deficit, fresh := r.2.fresh })
    else
      match drrScan y elig 7 0 { deficit := y.deficit, fresh := y.fresh, ptr := y.ptr } with
      | (some c, d) => (some c, { y with deficit := d.deficit, fresh := d.fresh, ptr := d.ptr })
      | (none, d) => drrChoose x elig n { y with deficit := d.deficit, fresh := d.fresh }

/-! ### The link-control pacer -/

/-- An ALIGN flit belongs in slot 0 of codeword `cw` (R436). -/
def LinkPort.alignDue (l : LinkPort) (cw : Nat) : Bool :=
  match l.st with
  | .align => cw % 64 == 0
  | .active | .doze | .step =>
    (l.st != .step && cw % 16384 == 0) || (match l.tx.switched with
      | some c => decide (c ≤ cw ∧ (cw - c) % 64 = 0 ∧ (cw - c) / 64 < 16)
      | none => false)
  | _ => false

/-- An ALIGN flit falls within the next three slots (R437). -/
def LinkPort.alignSoon (l : LinkPort) : Bool :=
  [l.tx.slot, l.tx.slot + 1, l.tx.slot + 2].any fun i => i % 10 == 0 && l.alignDue (i / 10)

/-- A flit the pacer releases at once (R437). -/
def Lctl.atOnce : Lctl → Bool
  | .replayStart _ _ => true
  | .reply _ => true
  | _ => false

/-- What the pacer sends at this slot. -/
inductive Paced where
  | align
  | mark
  | flit (f : Lctl) (rest : List Lctl)
  | none
deriving DecidableEq, Repr

/-- The pacer's choice (R437). A MARK leaves only within 0.5 µs of the time it fell due (R32, R35). -/
def State.paced (s : State) (p : Nat) : Paced :=
  let l := s.link p
  let t := s.tport p
  if l.tx.slot % 10 = 0 ∧ l.alignDue (l.tx.slot / 10) = true then .align
  else
    match takeFirst Lctl.atOnce l.tx.lctl with
    | some (f, rest) => .flit f rest
    | none =>
      let inTime := match t.markAt with | some at0 => decide (s.clk.now ≤ at0 + 500 * 256) | none => false
      if l.alignSoon then .none
      else if t.markWait && inTime && l.st.up then .mark
      else match l.tx.lctl with
        | f :: rest => .flit f rest
        | [] => .none

/-- The pacer takes a flit from the queue, `rest` staying; the send time of a CAP is kept by its CAP_SEQ (R439). -/
def State.takeLctl (s : State) (p : Nat) (f : Lctl) (rest : List Lctl) : State :=
  s.modLink p fun l =>
    let l := { l with tx := { l.tx with lctl := rest } }
    match f with
    | .cap b => { l with cap := { l.cap with sentAt := ((beNat ((b.drop 50).take 2), s.clk.now) :: l.cap.sentAt).take 16 } }
    | _ => l

/-- A link-control flit as it leaves: ACK takes EXPECT and FREED, a REPLY its T3 and the module's status, a CAP its HOLD_NS, of this moment. -/
def State.stamped (s : State) (p : Nat) : Lctl → Lctl
  | .ack _ _ => .ack (s.link p).rx.expect (s.link p).rx.freed
  | .reply b => .reply (s.markBytes 2 (BitVec.ofNat 16 (beNat ((b.drop 2).take 2))) (beNat ((b.drop 4).take 8))
      (beNat ((b.drop 12).take 8)) s.clk.nt.toNat)
  | .cap b => .cap (b.take 54 ++ beBytes 2 ((s.link p).holdNs s.clk.now) ++ b.drop 56)
  | f => f

/-! ### Data flits -/

/-- One data flit of a packet leaves: FSEQ, escrow and counters (R113, R444, R447). -/
def State.sendFlit (s : State) (p : Nat) (g : TxProg) (stream : Nat) : State :=
  let l := s.link p
  let f : EFlit := { seq := l.tx.next, vc := g.vc, pkt := g.pkt, idx := g.next }
  let done_ := decide (g.next + 1 ≥ max 1 g.pkt.hdr.flits)
  let s := s.setLink p
    { l with tx := { l.tx with next := l.tx.next + 1, escrow := l.tx.escrow ++ [f],
                               ackFrom := if l.tx.escrow.isEmpty then s.clk.now else l.tx.ackFrom,
                               prog := put l.tx.prog stream (if done_ then none else some { g with next := g.next + 1 }) },
             ctr := { l.ctr with dataTx := l.ctr.dataTx + 1 } }
  let r := s.rport p
  let c := Tbl.getD r.vcs g.vc VcCtr.reset
  let c := { c with txFlit := c.txFlit + 1 }
  let c := if g.next = 0 then { c with txPkt := c.txPkt + 1, txByte := c.txByte + BitVec.ofNat 64 g.pkt.hdr.len.toNat } else c
  let s := s.setRport p { r with vcs := Tbl.set r.vcs g.vc c }
  let s := s.count 0x0200 p (qMask g.vc) 1
  s.flitSlot p stream (g.pkt.flit g.next)

/-- The head packet of class `c` starts: its coins are charged, CONG is set by the egress depth, the class's enabled bucket and its counters
take its length, and its first flit leaves (R92, R148, R454; a bucket that is off takes nothing, log 146). -/
def State.startPacket (s : State) (p c stream : Nat) : State :=
  let x := s.sched p
  match x.queues.getD c [] with
  | [] => s
  | k :: rest =>
    let l := s.link p
    let vc := l.vcOf k.hdr
    let mark := decide ((s.rport p).thresh ≤ s.depthOf p vc)
    let k' : Packet := if mark then { k with hdr := { k.hdr with cong := 1 } } else k
    let b := x.shapers.getD c (Bucket.full false 1600000 65536)
    let b := { (if c = 0 then { b with tokens := (tc0Bucket l x).tokensAt s.clk.now, at_ := s.clk.now } else b) with rate := b.rate }
    let x := { x with queues := put x.queues c rest,
                      shapers := if b.en then put x.shapers c (b.charge s.clk.now (x.counted k)) else x.shapers,
                      txBytes := put x.txBytes c (x.txBytes.getD c 0 + BitVec.ofNat 64 k.hdr.len.toNat) }
    let s := s.setSched p (if c = 0 then x else { x with preempted := false, closedOver := false })
    let s := s.setLink p
      { l with tx := { l.tx with occ := put l.tx.occ vc (l.tx.occ.getD vc 0 + max 1 k.hdr.flits) } }
    let s := s.count 0x0400 p (qMask c) k.hdr.len.toNat
    let s := if mark && k.hdr.cong == 0 then s.count 0x0205 p (qMask vc) 1 else s
    s.sendFlit p { pkt := k', vc := vc, next := 0 } stream

/-- A TC0 flit cuts into a non-express packet: each such packet is counted once (R136, TC0_PREEMPT). -/
def State.preempt (s : State) (p : Nat) : State :=
  let x := s.sched p
  match (s.link p).tx.prog.getD 0 none with
  | some _ =>
    if x.preempted then s
    else (s.setSched p { x with preempted := true, preempt := x.preempt + 1 }).count 0x0401 p qAny 1
  | none => s

/-- A non-express packet whose last flit leaves after its gate has closed (R157). -/
def State.overrun (s : State) (p : Nat) (g : TxProg) : State :=
  let x := s.sched p
  let last := decide (g.next + 1 ≥ max 1 g.pkt.hdr.flits)
  let closed := x.closedOver || (x.running && !bit x.openMask g.pkt.tc)
  if last && closed then
    (s.setSched p { x with overruns := x.overruns + 1, intStatus := x.intStatus ||| 1 }).notify x.intStatus (x.intStatus ||| 1) x.intEnable
  else s

/-- A packet waits for coins: the timer of R456 starts unless it runs, and ends when none waits. -/
def State.coinWait (s : State) (p : Nat) : State :=
  let l := s.link p
  let waits := (s.sched p).queues.any fun q => match q with | k :: _ => !coinsFor l k | [] => false
  s.setLink p { l with tx := { l.tx with creditFrom := if waits then some (l.tx.creditFrom.getD s.clk.now) else none } }

/-- The data flit of this slot: replay first, then steps 2 to 5 of R135; an IDLE flit when there is none. The packets of a VC keep their order
within a class queue; between queues the classes are served as R135 and R145 say, also where both hold packets of one VC (R100; DESIGN
CHOICE, log 147). -/
def State.dataSlot (s : State) (p : Nat) : State :=
  let l := s.link p
  match l.tx.replay with
  | some q =>
    match l.tx.escrow.find? (fun f => f.seq == q) with
    | none => (s.setLink p { l with tx := { l.tx with replay := none } }).lctlSlot p .idle
    | some f =>
      let s := s.setLink p { l with tx := { l.tx with replay := if q + 1 = l.tx.next then none else some (q + 1) } }
      let r := s.rport p
      let c := Tbl.getD r.vcs f.vc VcCtr.reset
      let s := s.setRport p { r with vcs := Tbl.set r.vcs f.vc { c with replayFlit := c.replayFlit + 1 } }
      let s := s.count 0x0203 p (qMask f.vc) 1
      s.flitSlot p (if f.pkt.tc = 0 then 1 else 0) (f.pkt.flit f.idx)
  | none =>
    if l.tx.escrow.length ≥ 6144 then s.lctlSlot p .idle
    else
      let x := s.sched p
      match l.tx.prog.getD 1 none with
      | some g => (s.preempt p).sendFlit p g 1
      | none =>
        let tc0 := match (x.queues.getD 0 []).head? with
          | some k => decide (0 ≤ (tc0Bucket l x).tokensAt s.clk.now) && coinsFor l k && (!s.ctlOnly p || k.hdr.vn == 2)
          | none => false
        if tc0 then (s.preempt p).startPacket p 0 1
        else
          match l.tx.prog.getD 0 none with
          | some g => (s.overrun p g).sendFlit p g 0
          | none =>
            let r := drrChoose x (s.eligibleClass p) 300 x
            let s := s.setSched p r.2
            match r.1 with
            | some c => s.startPacket p c 0
            | none => s.lctlSlot p .idle

/-- FLIT_BOUNDARY (R135): the port fills its next slot. In STEP the transmitter sends the markers of R436 at the new rate and no other flits,
until both receivers have them (R464). -/
def execFlitBoundary (p : Fin 64) (s : State) : Out :=
  let st := (s.link p).st
  if st = .down then (s.lctlSlot p (.down (s.link p).cause.code)).done
  else if st = .step then
    let n := (s.link p).tx.slot
    (s.lctlSlot p (if n % 10 = 0 ∧ (s.link p).alignDue (n / 10) = true then .align (BitVec.ofNat 32 (n / 10)) else .idle)).done
  else if ¬ (st = .align ∨ st = .capx ∨ st = .active ∨ st = .doze) then .next s
  else
    let s := s.gateSync p
    match s.paced p with
    | .align => (s.lctlSlot p (.align (BitVec.ofNat 32 ((s.link p).tx.slot / 10)))).done
    | .mark => (s.sendMark p).done
    | .flit f rest =>
      let s := s.takeLctl p f rest
      (s.lctlSlot p (s.stamped p f)).done
    | .none =>
      if st = .active ∨ st = .doze then (((s.coinWait p).ctlFirst p).dataSlot p).done
      else (s.lctlSlot p .idle).done

end Sys2Proof.Machine
end

