-- ==== Sys2Proof/Machine/MemCmds.lean ====
section
/-! DEFINITION. The commands of the HBM gateways, of the HBM window and of speculative fills (R185, R293, R296, R301, R302, R308,
R340, R544). -/
namespace Sys2Proof.Machine

/-! ### The imbalance counter (R293) -/

/-- Accesses of the present window, all pseudo-channels together. -/
def Mem.winTotal (m : Mem) : Nat := (m.winReq.map (·.2)).sum

/-- The busiest pseudo-channel of the window and its count, the lowest-numbered of equals. -/
def Mem.busiest (m : Mem) : Nat × Nat := m.winReq.foldl (fun b e => if b.2 < e.2 then e else b) (0, 0)

/-- The alert of R293: counted, recorded, and an event at most once a second. -/
def State.imbalance (s : State) (pc ratio : Nat) : State :=
  let old := s.mem.intStatus
  let due := match s.mem.imbalEventAt with
    | none => true
    | some a => decide (a + secTicks ≤ s.clk.now)
  let s := s.modMem fun m => { m with imbalCount := m.imbalCount + 1, imbalPc := pc, imbalRatio := ratio, intStatus := old ||| 1 }
  let s := s.notify old (old ||| 1) s.mem.intEnable
  if due then
    (s.modMem fun m => { m with imbalEventAt := some s.clk.now }).event 0x0050 (0x0010 + pc / 32) (leBytes 1 pc ++ leBytes 1 ratio)
  else s

/-- A window closes: its ratio is compared, and 4 windows in a row at or above RATIO raise one alert (log 42). -/
def State.closeWindow (s : State) : State :=
  let m := s.mem
  let b := m.busiest
  let ratio := b.2 * 128 / m.winTotal
  let high := decide (1024 ≤ m.winTotal) && decide (m.ratio ≤ ratio)
  let run := if high then m.imbalRun + 1 else 0
  let s := s.modMem fun m => { m with winReq := [], winFrom := s.clk.now, imbalRun := if run = 4 then 0 else run }
  if run = 4 then s.imbalance b.1 ratio else s

/-- HBM_IMBAL_WINDOW (R293): the present window of 10 µs ends. -/
def execHbmImbalWindow (s : State) : Out :=
  if s.works then (s.reach (s.mem.winFrom + 10 * usTicks)).closeWindow.done else .next s

/-! ### Gateways (R185) -/

/-- A placement of an ORDERED channel is in turn: every earlier one has been placed (R108, R186). -/
def State.inTurn (s : State) (x : Xfer) : Bool :=
  match x.use with
  | .place q k psn | .stage _ _ _ q k psn => !(s.chan q k).ordered || psn == (s.chan q k).rcvBase
  | _ => true

/-- A transfer that the gateway can take at its attachment tile `t`: it is before that tile, in turn, and a host write's function may issue
DMA (R342). -/
def State.takable (s : State) (t : Nat) (x : Xfer) : Bool :=
  s.xferTile x == some t && (s.xferDma x || match x.space with
    | .host _ _ _ _ _ => false
    | _ => true) && s.inTurn x

/-- HBM_GATEWAY_ACCEPT (R10, R185, R289): a gateway of HBM or of a host port takes, at its attachment tile `t`, the first transfer before
it. -/
def execHbmGatewayAccept (t : Fin 64) (s : State) : Out :=
  match s.mem.xfers.find? (s.takable t.val) with
  | some x => (s.gatewayTakes x).done
  | none => .next s

/-! ### The HBM window (R301, R302) -/

/-- The PF of an endpoint. -/
def pf (e : Fin 4) : FnId := { ep := e, fn := 0 }

/-- Every byte of a BAR4 request of `n` bytes at offset `off` lies in a chunk whose bit is set in the PF's bitmap (R301, R302, R544). -/
def State.bar4Open (s : State) (e : Fin 4) (off n : Nat) : Bool :=
  s.boot.mcr.bar4Log2 != 0 && off + n ≤ 2 ^ s.boot.mcr.bar4Log2 && off + n ≤ poolChunks * chunkBytes && 0 < n
    && (List.range (ceilDiv n chunkBytes + 1)).all fun i =>
      let a := (off / chunkBytes + i) * chunkBytes
      off + n ≤ a || s.bar4Chunk e.val (poolBase + a)

/-- The endpoint answers requests: its link is up and its configuration space is set up. -/
def State.hostReaches (s : State) (e : Fin 4) : Bool := s.dieRuns && s.formed e.val && (s.ep e.val).dlUp && (s.ep e.val).configured

/-- BAR4_READ (R302): a wake event in A2 (R496). Poisoned bytes return as poisoned data (R296). -/
def execBar4Read (e : Fin 4) (off n : Nat) (s : State) : Out :=
  if s.hostReaches e then
    let s := s.wake
    if s.bar4Open e off n then
      (s.issue (.bar4 e.val) 0 (.hbm (poolBase + off)) false [] n none).done
    else (s.emit (.unsupported (pf e))).done
  else .next s

/-- BAR4_WRITE (R302): the bytes go to HBM from the host gateway. -/
def execBar4Write (e : Fin 4) (off : Nat) (data : List Byte) (s : State) : Out :=
  if s.hostReaches e then
    let s := s.wake
    if s.bar4Open e off data.length then (s.issue (.bar4 e.val) 0 (.hbm (poolBase + off)) true data data.length none).done
    else (s.emit (.unsupported (pf e))).done
  else .next s

/-- HOST_ATOMICOP (R302, R340): Unsupported Request on any BAR, and no memory changes. An AtomicOp to BAR4 is a BAR4 access (R496). -/
def execHostAtomicop (e : Fin 4) (fn : Fin 65) (bar4 : Bool) (s : State) : Out :=
  if s.hostReaches e then
    ((if bar4 then s.wake else s).emit (.unsupported { ep := e, fn := fn.val })).done
  else .next s

/-! ### Speculative fills (R308) -/

/-- SPECULATIVE_FILL (R308): the agent walks for an address of an ASID that has a valid root, and keeps the leaf; a fill that would fault is
discarded. Engine agents walk in HBM, which they cannot in A2. -/
def execSpeculativeFill (a : Fin 19) (asid : Fin 4096) (va : BitVec 48) (s : State) : Out :=
  if !s.works || (decide (2 ≤ a.val) && s.pwr.st == .a2) then .next s
  else (if a.val < 2 then s.fillHost a.val asid.val va.toNat else s.fillEngine a.val asid.val va.toNat).done

end Sys2Proof.Machine
end

