-- ==== Sys2Proof/Machine/HostCmds.lean ====
section
/-! DEFINITION. The commands of the host ports: arrival and departure, Bus Master Enable and D3hot, tags and completions, MSI-X
(R322 to R346). -/
namespace Sys2Proof.Machine

/-! ### Shared operations -/

/-- A bit of HP_INT_STATUS is set: CPL_TIMEOUT 0, LATE_CPL 1, DEPARTED 2, ARRIVED 3, NO_FLIT 4 (R346). -/
def State.hpInt (s : State) (e b : Nat) : State :=
  let old := (s.ep e).intStatus
  let new := old ||| BitVec.ofNat 5 (2 ^ b)
  (s.modEp e fun x => { x with intStatus := new }).notify old new (s.ep e).intEnable

/-- The endpoints whose Data Link Layer is up. -/
def State.upEps (s : State) : List Nat := [0, 1, 2, 3].filter fun e => (s.ep e).dlUp

/-- The management PF by R327 and R344: the one SET_MGMT_PF named, while its endpoint is up, else the lowest-numbered endpoint that is up
(log 43). A move writes MGMT_PF_CHANGED for endpoint `e`. -/
def State.chooseMgmt (s : State) (e : Nat) : State :=
  let named := match s.host.mgmtNamed with
    | some n => if (s.ep n).dlUp then some n else none
    | none => none
  let m := named.orElse fun _ => s.upEps.head?
  let moved := match s.host.mgmt, m with
    | some a, some b => a != b
    | _, _ => false
  let s := { s with host := { s.host with mgmt := m, mgmtNamed := named } }
  if moved then s.event 0x0032 (0x0300 + e) (leBytes 1 e ++ leBytes 1 (m.getD 0)) else s

/-- The contexts of some functions become HOST_LOST (R210, R341). -/
def State.loseFns (s : State) (f : Ctx → Bool) : State :=
  s.ctxs.foldl (fun s e => if f e.2 && decide (e.1 < 4096) then s.loseCtx e.1 else s) s

/-- A departed PF's mailbox page returns to its reset values (R349). A request already taken completes its effects, and its response
and the records of its long commands are discarded (R364). TOKEN and RSEQ count on (R356). -/
def Mailbox.depart (b : Mailbox) : Mailbox :=
  { Mailbox.reset with gone := b.gone ++ b.taken.toList, long := b.long.map fun l => { l with discard := true }, token := b.token,
                       rseq := b.rseq }

/-- An endpoint departs (R341): its functions' contexts are lost, its mailbox page resets, the record is written, and the management
role moves (R344). A departure is recorded when the Data Link Layer was up. -/
def State.depart (s : State) (e : Nat) : State :=
  let up := (s.ep e).dlUp
  let s := s.modEp e fun x => { x with linkUp := false, dlUp := false, speed := 0, width := 0 }
  let s := (s.loseFns fun c => c.ep == e).modBox e Mailbox.depart
  if up then ((s.event 0x0031 (0x0300 + e) (leBytes 1 e)).hpInt e 2).chooseMgmt e else s

/-- Every function of an endpoint returns to its reset values (R345). -/
def State.resetFns (s : State) (e : Nat) : State :=
  { s with host := { s.host with funcs := s.host.funcs.filter fun x => x.1 / 128 != e } }

/-- PERST resets the layers and the configuration space of an endpoint, and clears its tags and quarantine (R345). POOL is kept. -/
def Endpoint.perst (x : Endpoint) : Endpoint :=
  { x with linkUp := false, dlUp := false, speed := 0, width := 0, noFlit := false, configured := false, pool := x.poolWanted, tags := [],
           quar := [], waiting := [], ctoUs := 55000, atomicEn := false, vfs := 0 }

/-- Transfers given up whose requests no tag or waiting request holds any more are forgotten. -/
def State.dropDead (s : State) : State :=
  let uses := (s.host.eps.map fun e => e.2.tags.map (fun t => t.use.id) ++ e.2.waiting.map fun w => w.1.id).flatten
  s.modMem fun m => { m with xfers := m.xfers.filter fun x => !x.dead || uses.contains x.id }

/-- The formed endpoints of host port `k`. -/
def State.portEps (s : State) (k : Nat) : List Nat := [2 * k, 2 * k + 1].filter s.formed

/-- What waited for a function's Bus Master Enable or for D0 goes on, in order (R342). -/
def State.fnResumes (s : State) (f : FnId) : State :=
  let mine (x : Susp) : Bool :=
    x.why == .paused && match s.qp? x.pkt.trans.dstQpn.toNat with
      | some q => s.mayDma q.owner
      | none => true
  let s := ((s.resumeXfers).serveWaiting f.ep.val ((s.ep f.ep.val).waiting.length)).flushMsix f
  (List.range 64).foldl (fun s t => s.releaseSusp t mine) s

/-- The timeout of R334 in ticks. -/
def Endpoint.ctoTicks (x : Endpoint) : Nat := x.ctoUs * usTicks

/-- A tag leaves the outstanding ones. A smaller POOL that SET_TAG_POOL asked for takes effect once it holds them all (R366). -/
def Endpoint.dropTag (x : Endpoint) (t : Nat) : Endpoint :=
  { x with tags := x.tags.filter fun y => y.tag ≠ t }

/-- After tags have returned: requests that wait take them, and a pool size that waited takes effect. -/
def State.tagsBack (s : State) (e : Nat) : State :=
  let x := s.ep e
  let s := if x.tags.length ≤ 256 * x.poolWanted then s.setEp e { x with pool := x.poolWanted } else s
  s.serveWaiting e ((s.ep e).waiting.length)

/-! ### Ports and endpoints -/

/-- PERST_ASSERT (R345): both halves of the port depart and are reset. -/
def execPerstAssert (k : Fin 2) (s : State) : Out :=
  let s := { s with pins := { s.pins with perst := put s.pins.perst k.val true } }
  if s.dieRuns then
    ((s.portEps k.val).foldl (fun s e => ((s.depart e).modEp e Endpoint.perst).resetFns e) s).dropDead.done
  else s.done

/-- PERST_DEASSERT (R329): training starts; until CONFIG_SPACE_READY the endpoints answer Request Retry Status. -/
def execPerstDeassert (k : Fin 2) (s : State) : Out :=
  ({ s with pins := { s.pins with perst := put s.pins.perst k.val false } } : State).done

/-- An endpoint can train: it is formed, its PERST pin is high and the die runs. -/
def State.mayTrain (s : State) (e : Nat) : Bool := s.dieRuns && s.formed e && !(s.pins.perst.getD (e / 2) true)

/-- Widths an endpoint can train to (R323, R324): 16 lanes, or 8 when its port is split. -/
def State.widthOk (s : State) (e w : Nat) : Bool :=
  [1, 2, 4, 8, 16].contains w && (w ≤ 8 || !s.formed (2 * (e / 2) + 1))

/-- HOST_ARRIVED (R343): the link is in L0 at SPEED and WIDTH and the Data Link Layer is up. -/
def execHostArrived (e : Fin 4) (speed width : Nat) (s : State) : Out :=
  if s.mayTrain e.val && !(s.ep e.val).dlUp && decide (1 ≤ speed ∧ speed ≤ 6) && s.widthOk e.val width then
    let s := s.modEp e.val fun x => { x with linkUp := true, dlUp := true, speed := speed, width := width, noFlit := false }
    (((s.event 0x0030 (0x0300 + e.val) (leBytes 1 e.val)).hpInt e.val 3).chooseMgmt e.val).done
  else .next s

/-- HOST_DEPARTED (R341): the Data Link Layer goes down. -/
def execHostDeparted (e : Fin 4) (s : State) : Out :=
  if s.dieRuns && (s.ep e.val).dlUp then (s.depart e.val).done else .next s

/-- The function exists on its endpoint: the PF, or a VF that is enabled. -/
def State.fnExists (s : State) (e : Fin 4) (fn : Nat) : Bool := s.hostReaches e && (fn == 0 || decide (fn ≤ (s.ep e.val).vfs))

/-- The function owns the context. -/
def State.ownsCtx (s : State) (f : FnId) (c : Nat) : Bool := match s.ctx? c with
  | some x => x.ep == f.ep.val && x.fn == f.fn
  | none => false

/-- The endpoint answers configuration requests with Request Retry Status: its link is up, and its configuration space is not set up
(R329). -/
def State.retries (s : State) (e : Nat) : Bool := s.dieRuns && s.formed e && (s.ep e).dlUp && !(s.ep e).configured

/-- A configuration request of function `f`: carried out by `go` once the configuration space is set up, and answered Request Retry Status
before (R329). -/
def State.configRequest (s : State) (f : FnId) (go : State → State) : Out :=
  if s.fnExists f.ep f.fn then (go s).done else if s.retries f.ep.val then (s.emit (.retryStatus f)).done else .next s

/-- VF_DISABLE (R341): the endpoint's VFs depart. -/
def execVfDisable (e : Fin 4) (s : State) : Out :=
  if s.hostReaches e then
    let n := (s.ep e.val).vfs
    let s := s.modEp e.val fun x => { x with vfs := 0 }
    let s := s.loseFns fun c => c.ep == e.val && c.fn != 0
    let s := { s with host := { s.host with funcs := s.host.funcs.filter fun x => x.1 / 128 != e.val || x.1 % 128 == 0 } }
    (if n = 0 then s else (s.event 0x0031 (0x0300 + e.val) (leBytes 1 e.val)).hpInt e.val 2).done
  else if s.retries e.val then (s.emit (.retryStatus (pf e))).done
  else .next s

/-- BME_CLEAR (R342). -/
def execBmeClear (e : Fin 4) (fn : Fin 65) (s : State) : Out :=
  let f : FnId := { ep := e, fn := fn.val }
  s.configRequest f fun s => s.modFunc f fun x => { x with bme := false }

/-- BME_SET (R342): in D0 the function's contexts resume in order. -/
def execBmeSet (e : Fin 4) (fn : Fin 65) (s : State) : Out :=
  let f : FnId := { ep := e, fn := fn.val }
  s.configRequest f fun s => (s.modFunc f fun x => { x with bme := true }).fnResumes f

/-- D3HOT_ENTRY (R342). -/
def execD3hotEntry (e : Fin 4) (fn : Fin 65) (s : State) : Out :=
  let f : FnId := { ep := e, fn := fn.val }
  s.configRequest f fun s => s.modFunc f fun x => { x with d3hot := true }

/-- D3HOT_EXIT (R342). -/
def execD3hotExit (e : Fin 4) (fn : Fin 65) (s : State) : Out :=
  let f : FnId := { ep := e, fn := fn.val }
  s.configRequest f fun s => (s.modFunc f fun x => { x with d3hot := false }).fnResumes f

/-- NO_FLIT_RETRY (R323): the endpoint gives up training against a partner without Flit Mode, 100 ms after it last did. -/
def execNoFlitRetry (e : Fin 4) (s : State) : Out :=
  if s.mayTrain e.val && !(s.ep e.val).linkUp then
    let s := if (s.ep e.val).noFlit then s.reach ((s.ep e.val).noFlitAt + 100 * msTicks) else s
    ((s.modEp e.val fun x => { x with noFlit := true, noFlitAt := s.clk.now }).hpInt e.val 4).done
  else .next s

/-! ### Completions (R334 to R339) -/

/-- A tag of the endpoint is outstanding. -/
def Endpoint.tag? (x : Endpoint) (t : Nat) : Option Tag := x.tags.find? fun y => y.tag == t

/-- DMA_READ_COMPLETION (R337, R339): the completion of an outstanding tag, with data when `ok`, else an error status; it is
accepted as long as the timeout has not been decided (log 131). -/
def execDmaReadCompletion (e : Fin 4) (tag : Fin 4096) (ok : Bool) (data : List Byte) (s : State) : Out :=
  match (s.ep e.val).tag? tag.val with
  | none => .next s
  | some t =>
    if s.dieRuns && (s.ep e.val).dlUp then
      let s := s.modEp e.val fun x => x.dropTag tag.val
      let s := if ok then s.answer t.use (some data) else if t.use.isAtomic then s.refuseAtomic e.val t.use else s.answer t.use none
      (s.tagsBack e.val).done
    else .next s

/-- COMPLETION_TIMEOUT (R335, R336): reported, counted, the tag quarantined, and the request settled by its type. -/
def execCompletionTimeout (e : Fin 4) (tag : Fin 4096) (s : State) : Out :=
  match (s.ep e.val).tag? tag.val with
  | none => .next s
  | some t =>
    if s.dieRuns then
      let s := s.reach (t.sent + (s.ep e.val).ctoTicks)
      let s := s.modEp e.val fun x => { x.dropTag tag.val with
        quar := x.quar ++ [{ tag := tag.val, sent := t.sent }], cplTimeout := x.cplTimeout + 1 }
      (((s.emit (.aerTimeout e.val)).hpInt e.val 0).answer t.use none).done
    else .next s

/-- LATE_COMPLETION (R336): a completion of a quarantined tag. -/
def execLateCompletion (e : Fin 4) (tag : Fin 4096) (s : State) : Out :=
  let x := s.ep e.val
  if s.dieRuns && x.dlUp && x.quar.any fun y => y.tag == tag.val then
    let s := s.setEp e.val { x with quar := x.quar.filter (fun y => y.tag ≠ tag.val), lateCpl := x.lateCpl + 1 }
    (((s.emit (.aerUnexpected e.val)).hpInt e.val 1).tagsBack e.val).done
  else .next s

/-- UNEXPECTED_COMPLETION (R336): a completion of a tag that is neither outstanding nor quarantined. -/
def execUnexpectedCompletion (e : Fin 4) (tag : Fin 4096) (s : State) : Out :=
  let x := s.ep e.val
  if s.dieRuns && x.dlUp && x.tagFree tag.val then
    ((s.setEp e.val { x with unexpCpl := x.unexpCpl + 1 }).emit (.aerUnexpected e.val)).done
  else .next s

/-- TAG_QUARANTINE_RELEASE (R336): 4 × the timeout after its request was sent, a quarantined tag returns to the pool. -/
def execTagQuarantineRelease (e : Fin 4) (tag : Fin 4096) (s : State) : Out :=
  match (s.ep e.val).quar.find? fun y => y.tag == tag.val with
  | none => .next s
  | some q =>
    if s.dieRuns then
      let s := s.reach (q.sent + 4 * (s.ep e.val).ctoTicks)
      ((s.modEp e.val fun x => { x with quar := x.quar.filter fun y => y.tag ≠ tag.val }).tagsBack e.val).done
    else .next s

/-! ### MSI-X (R328) -/

/-- MSIX_UNMASK (R328): a vector's Mask bit, or the Function Mask, is cleared, and messages held are sent. -/
def execMsixUnmask (e : Fin 4) (fn : Fin 65) (v : Option (Fin 2048)) (s : State) : Out :=
  if s.fnExists e fn.val then
    let f : FnId := { ep := e, fn := fn.val }
    let x := s.func f
    let x := match v with
      | none => { x with fnMask := false }
      | some v => { x with vectors := Tbl.set x.vectors v.val { Tbl.getD x.vectors v.val Vector.reset with masked := false } }
    ((s.setFunc f x).flushMsix f).done
  else .next s

end Sys2Proof.Machine
end

