-- ==== Sys2Proof/Machine/Bci.lean ====
section
/-! DEFINITION. The mailboxes and the frame of every BCI command: requests, their checks, answers and completion records
(R347 to R366, R555). -/
namespace Sys2Proof.Machine

/-! ### Result codes (R354) -/

def rOk : Nat := 0
def rAccepted : Nat := 1
def rBusy : Nat := 2
def rUnknown : Nat := 3
def rBadLength : Nat := 4
def rBadParam : Nat := 5
def rDenied : Nat := 6
def rNotFound : Nat := 7
def rExists : Nat := 8
def rState : Nat := 9
def rNoResource : Nat := 10
def rProtConflict : Nat := 11
def rNotAvailable : Nat := 12
def rRecoveryOnly : Nat := 13
def rHwFault : Nat := 14
def rSeqMismatch : Nat := 15
def rImageInvalid : Nat := 16
def rRollback : Nat := 17
def rCancelled : Nat := 19

/-! ### Requests and responses (R350 to R353) -/

/-- The request a header and payload spell. -/
def parseReq (b : List Byte) (dbSeq : U32) : BciReq :=
  { cmd := field b 0 2, len := field b 2 2, seq := BitVec.ofNat 32 (field b 4 4), payload := fit (min 1008 (field b 2 2)) (b.drop 16),
    dbSeq := dbSeq }

/-- A response: header and payload (R350). -/
def rspBytes (r : BciReq) (result detail : Nat) (token : U32) (payload : List Byte) : List Byte :=
  leBytes 2 r.cmd ++ leBytes 2 payload.length ++ leBytes 4 r.seq.toNat ++ leBytes 2 result ++ leBytes 2 detail ++ leBytes 4 token.toNat
    ++ payload

/-- A BCI message over MCTP (R372): KIND 1 a request, 2 a response. -/
def bciMsg (kind : Nat) (b : List Byte) : List Byte := [0x7E, 0x1F, 0x2B] ++ leBytes 1 kind ++ b

/-- Answer the request in mailbox `m` (R352): the response area, RSP_SEQ, DONE, BUSY, in that order, and the interrupt; mailbox 4's
response goes to the BMC as one message (R373). -/
def State.reply (s : State) (m : Nat) (r : BciReq) (result detail : Nat) (token : U32) (payload : List Byte) : State :=
  let b := s.box m
  let bytes := rspBytes r result detail token payload
  let s := s.setBox m { b with rsp := Memory.write b.rsp 0 bytes, rspSeq := r.seq, done := true, busy := false, taken := none }
  if m = 4 then s.emit (.mctp (bciMsg 2 bytes))
  else if b.intEn.getLsbD 0 then s.raise (pf (Fin.ofNat 4 m)) 0
  else s

/-! ### Completion records (R357) -/

/-- The event area has no free slot. -/
def Mailbox.full (b : Mailbox) : Bool := b.evtHead - b.evtTail == 16

/-- LONG_OUT (R349). -/
def Mailbox.longOut (b : Mailbox) : Nat := (b.long.filter fun l => !l.discard).length + b.held.length

/-- Write a record into the next slot; the BMC gets an In-Band Interrupt when its area becomes non-empty (R371). -/
def State.putRecord (s : State) (m : Nat) (rcd : List Byte) : State :=
  let b := s.box m
  let s := s.setBox m { b with evt := Memory.write b.evt (64 * (b.evtHead.toNat % 16)) rcd, evtHead := b.evtHead + 1 }
  if m = 4 then (if b.evtHead = b.evtTail then s.emit (.ibi 0xB1) else s)
  else if b.intEn.getLsbD 1 then s.raise (pf (Fin.ofNat 4 m)) 0
  else s

/-- The 64 bytes of a completion record. -/
def recordBytes (s : State) (rseq : U32) (l : LongCmd) (result : Nat) (payload : List Byte) : List Byte :=
  leBytes 2 1 ++ leBytes 1 (b2n (!s.time.ntValid)) ++ [(0 : Byte)] ++ leBytes 4 rseq.toNat ++ leBytes 8 s.clk.nt.toNat ++ leBytes 2 l.cmd
    ++ leBytes 2 result ++ leBytes 4 l.seq.toNat ++ leBytes 4 l.token.toNat ++ fit 36 payload

/-- A long command finishes: its record is written, or held while the area is full or others are held; a departed endpoint's is
discarded (R357, R364). -/
def State.finish (s : State) (m : Nat) (l : LongCmd) (result : Nat) (payload : List Byte) : State :=
  let b := s.box m
  let b' := { b with long := b.long.filter fun x => x.token ≠ l.token }
  if l.discard then s.setBox m b'
  else
    let rcd := recordBytes s b.rseq l result payload
    if b.full || !b.held.isEmpty then s.setBox m { b' with rseq := b.rseq + 1, held := b.held ++ [(l.token, rcd)] }
    else (s.setBox m { b' with rseq := b.rseq + 1 }).putRecord m rcd

/-- The long command of a mailbox with a token. -/
def State.long? (s : State) (m : Nat) (token : U32) : Option LongCmd := (s.box m).long.find? fun l => l.token == token

/-! ### Issuers, availability and layouts (R353, R363, R365, R555) -/

/-- Issuer classes of the command list. -/
inductive Issuers where
  | all | pm | pmb | mb | b
deriving DecidableEq, Repr

/-- What the frame needs of a command. -/
structure BciCmd where
  code : Nat
  long : Bool
  a3 : Bool
  who : Issuers
deriving DecidableEq, Repr

/-- Mailbox `m` is the management PF's. -/
def State.isMgmt (s : State) (m : Nat) : Bool := m != 4 && s.host.mgmt == some m

/-- The mailbox may issue the command (R363). -/
def State.mayIssue (s : State) (m : Nat) (w : Issuers) : Bool :=
  match w with
  | .all => true
  | .pm => m != 4
  | .pmb => true
  | .mb => m == 4 || s.isMgmt m
  | .b => m == 4

/-- The mailbox may act on an object of endpoint `e` (R363). -/
def State.mayAct (s : State) (m e : Nat) : Bool := m == 4 || s.isMgmt m || m == e

/-- The standby controller serves mailbox 4: the die is off, in reset, or booting (R365, R373). -/
def State.standbyServes (s : State) : Bool := !s.dieRuns || s.boot.alive == .booting

/-- The request that waits in mailbox `m` was taken by the standby controller, before the hand-over to bursar 0 (R373). -/
def State.standbyTook (s : State) (m : Nat) : Bool := ((s.box m).taken.map (·.standby)).getD false

/-- Availability (R365, R373, R421): the code and DETAIL of a refusal. -/
def State.unavailable (s : State) (m : Nat) (c : BciCmd) : Option (Nat × Nat) :=
  let g := c.code / 256
  if s.standbyServes || s.standbyTook m then (if m = 4 ∧ c.a3 then none else some (rNotAvailable, 0))
  else match s.boot.alive with
    | .recovery => if g = 0x0F then none else some (rRecoveryOnly, 0)
    | .running => if c.code = 0x0900 ∧ s.sec.rngOk = false then some (rHwFault, 0x0003) else none
    | .stopped => if g ≤ 1 ∨ g = 0x0C ∨ g = 0x0F ∨ c.code = 0x0E00 then none else some (rHwFault, s.faults.stopSource)
    | _ => none

/-- A field of a layout: offset, size, and whether its value is in range and agrees with earlier fields. -/
structure Fld where
  off : Nat
  size : Nat
  ok : Bool
deriving DecidableEq, Repr

/-- A field without limits. -/
def fAny (off size : Nat) : Fld := { off := off, size := size, ok := true }

/-- The first failing byte of a payload: an unassigned byte that is not zero, or a field that is not in order (R353, R555). -/
def badParam (fs : List Fld) (p : List Byte) : Option Nat :=
  let covered (i : Nat) : Bool := fs.any fun f => f.off ≤ i && i < f.off + f.size
  let stray := (List.range p.length).filter fun i => !covered i && p.getD i 0 != 0
  ((fs.filter fun f => !f.ok).map (·.off) ++ stray).min?

/-- The bursar that does a command's long work after bursar 0 has accepted it (R360); for PORT_RETRAIN the rule names none. -/
def LongWork.bursar : LongWork → Option Nat
  | .mcrWrite _ | .fwCommit _ => some 1
  | .ctxDestroy _ | .domainDestroy _ | .regRegister _ => some 2
  | .attest _ | .keyInstall _ | .pwrSetState => some 3
  | .portRetrain _ => none

/-- The requests that wait, of every mailbox. -/
def State.waitingReqs (s : State) : List BciReq := (s.mbx.map fun e => e.2.gone ++ e.2.taken.toList).flatten

/-- A request as it is taken: behind every request that waits, and by the controller that serves now (R361, R373). -/
def State.queued (s : State) (r : BciReq) : BciReq :=
  { r with order := s.waitingReqs.foldl (fun n w => max n (w.order + 1)) 0, standby := s.standbyServes }

/-- The request of mailbox `m`, when it carries this command and no mailbox's request was taken before it (R361): the oldest taken before
its endpoint departed, else the one now in the mailbox. -/
def State.request? (s : State) (m code : Nat) : Option (BciReq × Bool) :=
  let b := s.box m
  match (b.gone ++ b.taken.toList).head? with
  | some r =>
    if r.cmd = code ∧ (s.waitingReqs.all fun w => r.order ≤ w.order || w.standby != r.standby) = true then some (r, !b.gone.isEmpty) else none
  | none => none

/-- What the work of a command answers. -/
inductive Res where
  | ok (s : State) (payload : List Byte)
  | accepted (s : State) (work : LongWork) (payload : List Byte)
  | err (code detail : Nat)

/-- Drop a request whose response is discarded (R364). -/
def State.dropGone (s : State) (m : Nat) (r : BciReq) : State :=
  s.modBox m fun b => { b with gone := b.gone.erase r }

/-- DETAIL of a refusal: an offset for the codes that name a field, a fault source for HW_FAULT, and otherwise 0 (R354). -/
def detailOf (code detail : Nat) : Nat :=
  if [rBadParam, rNotFound, rExists, rState, rProtConflict, rHwFault].contains code then detail else 0

/-- Answer with a code that executes nothing. -/
def State.refuseBci (s : State) (m : Nat) (r : BciReq) (gone : Bool) (code detail : Nat) : State :=
  if gone then s.dropGone m r else s.reply m r code (detailOf code detail) 0 []

/-- Answer with what the work gave. -/
def State.answerBci (s : State) (m : Nat) (r : BciReq) (gone : Bool) (res : Res) : State :=
  match res with
  | .ok s p => if gone then s.dropGone m r else s.reply m r rOk 0 0 p
  | .accepted s w p =>
    let b := s.box m
    let l : LongCmd := { token := b.token, cmd := r.cmd, seq := r.seq, work := w, discard := gone }
    let s := s.setBox m { b with token := b.token + 1, long := b.long ++ [l] }
    if gone then s.dropGone m r else s.reply m r rAccepted 0 l.token p
  | .err code detail => s.refuseBci m r gone code detail

/-- The checks of R555 that come before the payload's objects, in order, then the work. `len` is the required length and `fs` the
layout's fields. -/
def State.bci (s : State) (m : Fin 5) (c : BciCmd) (len : List Byte → Nat) (fs : List Byte → List Fld) (work : List Byte → Res) : State :=
  match s.request? m c.code with
  | none => s
  | some (r, gone) =>
    let no (code detail : Nat) : State := s.refuseBci m r gone code detail
    if r.len ≠ len r.payload then no rBadLength 0
    else match s.unavailable m c with
      | some (code, detail) => no code detail
      | none =>
        if !s.mayIssue m c.who then no rDenied 0
        else if c.long && decide (8 ≤ (s.box m).longOut) then no rBusy 0
        else match badParam (fs r.payload) r.payload with
          | some off => no rBadParam off
          | none => s.answerBci m r gone (work r.payload)

/-- The first refusal of a list of conditions in the order of R555: condition, code, DETAIL. -/
def firstRefusal : List (Bool × Nat × Nat) → Option (Nat × Nat)
  | [] => none
  | (bad, code, detail) :: t => if bad then some (code, detail) else firstRefusal t

/-- The work, unless a condition refuses it. -/
def guardBci (cs : List (Bool × Nat × Nat)) (work : Res) : Res :=
  match firstRefusal cs with
  | some (code, detail) => .err code detail
  | none => work

/-! ### Held objects (R362) -/

/-- The works of every accepted long command. -/
def State.works? (s : State) : List LongWork := ((s.mbx.map fun e => e.2.long).flatten).map (·.work)

def State.ctxHeld (s : State) (c : Nat) : Bool := s.works?.contains (.ctxDestroy c)
def State.domainHeld (s : State) (c : Nat) : Bool := s.works?.contains (.domainDestroy c)
def State.regionHeld (s : State) (i : Nat) : Bool := s.works?.contains (.regRegister i)
def State.portHeld (s : State) (p : Nat) : Bool := s.works?.contains (.portRetrain p)
def State.powerHeld (s : State) : Bool := s.works?.contains .pwrSetState
/-- The flash: held by MCR_WRITE and FW_COMMIT. -/
def State.flashHeld (s : State) : Bool :=
  s.works?.any fun w => match w with
    | .mcrWrite _ => true
    | .fwCommit _ => true
    | _ => false

/-- The ports a 64-bit mask at the start of a payload names. -/
def maskPorts (p : List Byte) : List Nat := maskBits (field p 0 8) 64

end Sys2Proof.Machine
end

