-- ==== Sys2Proof/Machine/MailboxCmds.lean ====
section
/-! DEFINITION. The commands of the mailboxes and of the BMC path: doorbells, event areas, I3C and MCTP (R349 to R373). -/
namespace Sys2Proof.Machine

/-- The codes of the command list (R366). -/
def bciCodes : List Nat :=
  [0x0000, 0x0001, 0x0002, 0x0100, 0x0101, 0x0102, 0x0103, 0x0104, 0x0200, 0x0201, 0x0202, 0x0203, 0x0204, 0x0300, 0x0301, 0x0302,
   0x0400, 0x0401, 0x0402, 0x0403, 0x0404, 0x0405, 0x0406, 0x0407, 0x0500, 0x0501, 0x0502, 0x0503, 0x0504, 0x0505, 0x0506, 0x0507,
   0x0508, 0x0600, 0x0601, 0x0602, 0x0603, 0x0604, 0x0605, 0x0606, 0x0700, 0x0701, 0x0702, 0x0703, 0x0704]
  ++ [0x0800, 0x0801, 0x0802, 0x0803, 0x0804, 0x0805, 0x0806, 0x0900, 0x0901, 0x0902, 0x0903, 0x0904, 0x0905, 0x0A00, 0x0A01, 0x0A02,
   0x0A03, 0x0A04, 0x0A05, 0x0B00, 0x0B01, 0x0B02, 0x0B03, 0x0B04, 0x0B05, 0x0B06, 0x0B07, 0x0C00, 0x0C01, 0x0C02, 0x0C03, 0x0C04,
   0x0C05, 0x0D00, 0x0D01, 0x0D02, 0x0D03, 0x0E00, 0x0E01, 0x0E02, 0x0E03, 0x0E04, 0x0F00, 0x0F01, 0x0F02, 0x0F03, 0x0F04, 0x0F05,
   0x0F06]

/-- A request is taken (R352): BUSY is set, DONE cleared. One whose SEQ differs from the doorbell, or whose COMMAND is not in the
list, is answered at once and executes nothing (R353, R555); any other waits for its command, behind those already taken (R361). -/
def State.takeRequest (s : State) (m : Nat) (r : BciReq) : State :=
  let q := s.queued r
  let s := s.modBox m fun b => { b with busy := true, done := false, taken := some q }
  if r.dbSeq ≠ r.seq then s.reply m r rSeqMismatch 0 0 []
  else if !bciCodes.contains r.cmd then s.reply m r rUnknown 0 0 []
  else s

/-- The PF of an endpoint reaches its mailbox page: configuration space is set up (R347). -/
def State.mbxReach (s : State) (e : Fin 4) : Bool := s.hostReaches e

/-- The DOORBELL of a page is written. -/
def State.doorbell (s : State) (e : Fin 4) (v : U32) : State :=
  let b := s.box e.val
  if b.busy then s.setBox e.val { b with overrun := true }
  else s.takeRequest e.val (parseReq (Memory.read b.req 0 1024) v)

/-- MBX_DOORBELL (R352). -/
def execMbxDoorbell (e : Fin 4) (v : U32) (s : State) : Out :=
  if s.mbxReach e then (s.doorbell e v).done else .next s

/-- EVT_TAIL is written: records up to the new tail are consumed, unless it would pass EVT_HEAD (R349). -/
def Mailbox.setTail (b : Mailbox) (v : Byte) : Mailbox :=
  if (v - b.evtTail).toNat ≤ (b.evtHead - b.evtTail).toNat then { b with evtTail := v } else b

/-- EVT_TAIL_WRITE (R349). -/
def execEvtTailWrite (e : Fin 4) (v : Byte) (s : State) : Out :=
  if s.mbxReach e then (s.modBox e.val fun b => b.setTail v).done else .next s

/-- EVT_HELD_WRITE (R357): while a slot is free, the oldest held record is written. -/
def execEvtHeldWrite (m : Fin 5) (s : State) : Out :=
  let b := s.box m.val
  match b.held with
  | [] => .next s
  | h :: t => if b.full then .next s else ((s.setBox m.val { b with held := t }).putRecord m.val h.2).done

/-! ### I3C and MCTP (R371, R372)

The bytes of MCTP control messages are the MCTP base specification's (PRESUMED, log 46). -/

/-- The standby controller runs. -/
def State.standbyOn (s : State) : Bool := s.pwr.st != .off

/-- The standby controller has its dynamic address, so the BMC's messages reach it. -/
def State.bmcReach (s : State) : Bool := s.standbyOn && s.bmc.dynAddr.isSome

/-- I3C_ENTDAA (R371): the target shows its Provisional ID and takes the dynamic address. -/
def execI3cEntdaa (addr : Fin 128) (s : State) : Out :=
  if s.standbyOn then (({ s with bmc := { s.bmc with dynAddr := some addr.val } } : State).emit (.provisional (Config.provisionalId Config.serial))).done
  else .next s

/-- Answer a control command: instance ID, command code, completion code, data. -/
def State.mctpCtl (s : State) (inst : Fin 32) (code cc : Nat) (data : List Byte) : State :=
  s.emit (.mctp ([0x00] ++ leBytes 1 inst.val ++ leBytes 1 code ++ leBytes 1 cc ++ data))

/-- SET_ENDPOINT_ID (R372): operations 0 set and 1 force assign the ID; any other operation, or an ID that MCTP reserves, is invalid
data. -/
def execSetEndpointId (inst : Fin 32) (op : Fin 4) (eid : Byte) (s : State) : Out :=
  if s.bmcReach then
    if op.val ≤ 1 ∧ 8 ≤ eid.toNat ∧ eid.toNat ≠ 255 then
      (({ s with bmc := { s.bmc with eid := eid } } : State).mctpCtl inst 1 0 [0x00, eid, 0x00]).done
    else (s.mctpCtl inst 1 2 []).done
  else .next s

/-- GET_ENDPOINT_ID (R372): a simple endpoint with a dynamic ID. -/
def execGetEndpointId (inst : Fin 32) (s : State) : Out :=
  if s.bmcReach then (s.mctpCtl inst 2 0 [s.bmc.eid, 0x00, 0x00]).done else .next s

/-- GET_ENDPOINT_UUID (R372). -/
def execGetEndpointUuid (inst : Fin 32) (s : State) : Out :=
  if s.bmcReach then (s.mctpCtl inst 3 0 (fit 16 Config.uuid)).done else .next s

/-- GET_MCTP_VERSION_SUPPORT (R372): the versions of a message type; which they are, the spec leaves open (log 46). -/
def execGetMctpVersionSupport (inst : Fin 32) (type : Byte) (s : State) : Out :=
  if s.bmcReach then (s.mctpCtl inst 4 0 (Config.mctpVersions type.toNat)).done else .next s

/-- GET_MESSAGE_TYPE_SUPPORT (R372): one type beside control, vendor defined by PCI vendor ID. -/
def execGetMessageTypeSupport (inst : Fin 32) (s : State) : Out :=
  if s.bmcReach then (s.mctpCtl inst 5 0 [0x01, 0x7E]).done else .next s

/-- GET_VENDOR_MESSAGE_SUPPORT (R372): one vendor, 0x1F2B, as set 0; no further set. The set's version word is open (log 46). -/
def execGetVendorMessageSupport (inst : Fin 32) (selector : Byte) (s : State) : Out :=
  if s.bmcReach then
    if selector = 0 then (s.mctpCtl inst 6 0 ([0xFF, 0x00, 0x1F, 0x2B] ++ leBytes 2 Config.mctpVendorSet)).done
    else (s.mctpCtl inst 6 2 []).done
  else .next s

/-- MCTP_UNSUPPORTED_CMD (R372): any other control command is answered ERROR_UNSUPPORTED_CMD. -/
def execMctpUnsupportedCmd (inst : Fin 32) (code : Byte) (s : State) : Out :=
  if s.bmcReach ∧ ¬ (1 ≤ code.toNat ∧ code.toNat ≤ 6) then (s.mctpCtl inst code.toNat 5 []).done else .next s

/-- BMC_BCI_REQUEST (R373): a vendor message carries a request into mailbox 4 as if a doorbell had been written; while it is BUSY the
request is answered BUSY and has no effect. -/
def execBmcBciRequest (msg : List Byte) (s : State) : Out :=
  if s.bmcReach ∧ msg.take 4 = [0x7E, 0x1F, 0x2B, 0x01] ∧ 20 ≤ msg.length ∧ msg.length ≤ 1028 then
    let b := msg.drop 4
    let r := parseReq b (BitVec.ofNat 32 (field b 4 4))
    if (s.box 4).busy then (s.emit (.mctp (bciMsg 2 (rspBytes r rBusy 0 0 [])))).done
    else (s.takeRequest 4 r).done
  else .next s

end Sys2Proof.Machine
end

