-- ==== Sys2Proof/Machine/BciModule.lean ====
section
/-! DEFINITION. The BCI commands of the mailbox, identity and module configuration groups, but for certificates, measurements and
attestation (R16 to R18, R327, R334, R366, R556). -/
namespace Sys2Proof.Machine

/-! ### Parts of payloads -/

/-- Zero bytes. -/
def zeros (n : Nat) : List Byte := List.replicate n 0

/-- A constant required length. -/
def len (n : Nat) (_ : List Byte) : Nat := n

/-- A layout without fields. -/
def noFields (_ : List Byte) : List Fld := []

/-- A field whose value must satisfy a test. -/
def fIf (p : List Byte) (off size : Nat) (ok : Nat → Bool) : Fld := { off := off, size := size, ok := ok (field p off size) }

/-- A read of up to 992 bytes of a blob, as the reads of R415 and R531 answer it. -/
def blobRead (blob : List Byte) (off : Nat) : List Byte :=
  let d := (blob.drop off).take 992
  leBytes 4 blob.length ++ leBytes 2 d.length ++ zeros 10 ++ d

/-- MODULE (R556): FEID[19:2] and VALID; without VALID the group reads 0xFFF and the position is SLOT_ID's. -/
def State.moduleWord (s : State) : Nat :=
  if s.dieRuns && s.route.valid then s.route.group * 64 + s.route.position + 2 ^ 31
  else 0xFFF * 64 + (if s.dieRuns then s.boot.position else s.pins.slotId.toNat)

/-! ### The module configuration record (R16 to R18) -/

/-- Bytes 0 to 447 of a record. -/
def mcrBytes (seq : Nat) (f : McrFields) : List Byte :=
  [0x48, 0x44, 0x4C, 0x44, 0x4D, 0x43, 0x52, 0x01] ++ leBytes 4 seq ++ zeros 4 ++ leBytes 1 f.faultScheme ++ leBytes 1 f.hostSplit ++ zeros 2
    ++ fit 4 (f.vfCount.map fun n => BitVec.ofNat 8 n) ++ leBytes 1 f.bar4Log2 ++ zeros 423

/-- The whole record, its digest included. -/
def mcrRecord (c : Option McrCopy) (f : McrFields) : List Byte :=
  match c with
  | some c => mcrBytes c.sequence c.fields ++ fit 64 (Config.shake256 64 (mcrBytes c.sequence c.fields))
  | none => mcrBytes 0 f ++ zeros 64

/-- The fields of MCR_WRITE (R556): record bytes 16 to 447. -/
def mcrFields (p : List Byte) : McrFields :=
  { faultScheme := field p 0 1, hostSplit := field p 1 1, vfCount := (List.range 4).map fun i => field p (4 + i) 1, bar4Log2 := field p 8 1 }

/-- The field values R17 accepts. -/
def bar4Ok (n : Nat) : Bool := n == 0 || (30 ≤ n && n ≤ 37)

/-- VF_COUNT of an endpoint is within its bound; the bytes of the b halves are ignored unless their port is bifurcated (R17). -/
def vfOk (split e n : Nat) : Bool := n ≤ 64 || (e == 1 && !bit split 0) || (e == 3 && !bit split 1)

/-- A copy that the module accepts (R17). -/
def McrCopy.accepted (c : McrCopy) : Bool :=
  c.signatureOk && c.version == 1 && c.reservedZero && c.digestOk && c.fields.faultScheme ≤ 1 && c.fields.hostSplit ≤ 3
    && c.fields.vfCount.length == 4 && (List.range 4).all (fun e => vfOk c.fields.hostSplit e (c.fields.vfCount.getD e 0)) && bar4Ok c.fields.bar4Log2

/-- SEQUENCE of an accepted copy; none for an invalid one. -/
def Boot.copySeq (b : Boot) (i : Nat) : Option Nat :=
  match (b.mcrCopies.getD i none) with
  | some c => if c.accepted then some c.sequence else none
  | none => none

/-- The copy R18 writes, and its SEQUENCE: the invalid copy, or the one with the lower SEQUENCE. With both invalid it is copy 0 with
SEQUENCE 1, and with equal SEQUENCEs copy 1 (DESIGN CHOICE, log 140). -/
def Boot.nextCopy (b : Boot) : Nat × Nat :=
  match b.copySeq 0, b.copySeq 1 with
  | none, none => (0, 1)
  | none, some n => (0, n + 1)
  | some n, none => (1, n + 1)
  | some a, some c => if a < c then (0, c + 1) else (1, a + 1)

/-! ### Mailbox group -/

def cNop : BciCmd := { code := 0x0000, long := false, a3 := true, who := .all }
/-- NOP (R366). -/
def execNop (m : Fin 5) (s : State) : Out := (s.bci m cNop (len 0) noFields fun _ => .ok s []).done

def cLongStatus : BciCmd := { code := 0x0001, long := false, a3 := false, who := .all }
/-- The state of a token of a mailbox, and its command (R556). -/
def Mailbox.tokenState (b : Mailbox) (t : U32) : Nat × Nat :=
  match b.long.find? fun l => l.token == t && !l.discard with
  | some l => (1, l.cmd)
  | none => match b.held.find? fun h => h.1 == t with
    | some h => (2, field h.2 16 2)
    | none => (0, 0)
/-- The fields of LongStatus's payload. -/
def fieldsLongStatus (_ : List Byte) : List Fld := [fAny 0 4]
/-- The work of execLongStatus. -/
def workLongStatus (m : Fin 5) (s : State) (p : List Byte) : Res :=
    let r := (s.box m.val).tokenState (BitVec.ofNat 32 (field p 0 4))
    .ok s (leBytes 4 (field p 0 4) ++ leBytes 1 r.1 ++ zeros 1 ++ leBytes 2 r.2)
/-- LONG_STATUS (R556). -/
def execLongStatus (m : Fin 5) (s : State) : Out := (s.bci m cLongStatus (len 4) fieldsLongStatus (workLongStatus m s)).done

def cEvtRead : BciCmd := { code := 0x0002, long := false, a3 := true, who := .b }
/-- The work of execEvtRead. -/
def workEvtRead (s : State) (_ : List Byte) : Res :=
    let b := s.box 4
    let have_ := (b.evtHead - b.evtTail).toNat
    let n := min 15 have_
    let recs := ((List.range n).map fun i => Memory.read b.evt (64 * ((b.evtTail.toNat + i) % 16)) 64).flatten
    .ok (s.setBox 4 { b with evtTail := b.evtTail + BitVec.ofNat 8 n }) (leBytes 2 n ++ leBytes 2 (have_ - n) ++ zeros 12 ++ recs)
/-- EVT_READ (R556): up to 15 records, oldest first, which are consumed. -/
def execEvtRead (m : Fin 5) (s : State) : Out := (s.bci m cEvtRead (len 0) noFields (workEvtRead s)).done

/-! ### Identity group -/

def cGetVersion : BciCmd := { code := 0x0100, long := false, a3 := true, who := .all }
/-- The work of execGetVersion. -/
def workGetVersion (s : State) (_ : List Byte) : Res := .ok s ((Config.versionRsp s.fw.running).take 1008)
/-- GET_VERSION (R366): mint, Balyn and BCI versions and the running slot. The spec lays out no payload: the bytes that carry them are
open (log 47). -/
def execGetVersion (m : Fin 5) (s : State) : Out := (s.bci m cGetVersion (len 0) noFields (workGetVersion s)).done

def cGetIdentity : BciCmd := { code := 0x0101, long := false, a3 := true, who := .all }
/-- The work of execGetIdentity. -/
def workGetIdentity (s : State) (_ : List Byte) : Res :=
    .ok s (leBytes 8 Config.serial.toNat ++ leBytes 2 0x6410 ++ leBytes 1 0x10 ++ leBytes 1 (b2n s.sec.orderO) ++ leBytes 4 s.moduleWord
      ++ leBytes 1 (((List.range 4).map fun e => if s.formed e then 2 ^ e else 0).sum))
/-- GET_IDENTITY (R556). -/
def execGetIdentity (m : Fin 5) (s : State) : Out := (s.bci m cGetIdentity (len 0) noFields (workGetIdentity s)).done

/-! ### Module configuration group -/

def cMcrRead : BciCmd := { code := 0x0200, long := false, a3 := true, who := .mb }
/-- The work of execMcrRead. -/
def workMcrRead (s : State) (_ : List Byte) : Res := .ok s (mcrRecord s.boot.mcrFrom McrFields.default)
/-- MCR_READ (R556). -/
def execMcrRead (m : Fin 5) (s : State) : Out := (s.bci m cMcrRead (len 0) noFields (workMcrRead s)).done

def cMcrWrite : BciCmd := { code := 0x0201, long := true, a3 := true, who := .mb }
/-- The layout of MCR_WRITE; a value R17 would not accept is BAD_PARAM. -/
def fMcrWrite (p : List Byte) : List Fld :=
  [fIf p 0 1 (· ≤ 1), fIf p 1 1 (· ≤ 3)] ++ ((List.range 4).map fun i => fIf p (4 + i) 1 (vfOk (field p 1 1) i)) ++ [fIf p 8 1 bar4Ok]
/-- The work of execMcrWrite. -/
def workMcrWrite (s : State) (p : List Byte) : Res := guardBci [(s.flashHeld, rBusy, 0)] (.accepted s (.mcrWrite p) [])
/-- MCR_WRITE (R18, R362): the flash is held until the record is written. -/
def execMcrWrite (m : Fin 5) (s : State) : Out := (s.bci m cMcrWrite (len 432) fMcrWrite (workMcrWrite s)).done

/-- MCR_WRITE_DONE (R18, R556): the older or invalid copy is written, with the next SEQUENCE, which wraps at 2^32 (DESIGN CHOICE, log
140). -/
def execMcrWriteDone (m : Fin 5) (token : U32) (s : State) : Out :=
  match s.long? m.val token with
  | some l =>
    match l.work with
    | .mcrWrite p =>
      let n := s.boot.nextCopy
      let c : McrCopy :=
        { signatureOk := true, version := 1, sequence := n.2 % 2 ^ 32, reservedZero := true, fields := mcrFields p, digestOk := true }
      let s := { s with boot := { s.boot with mcrCopies := put s.boot.mcrCopies n.1 (some c) } }
      (s.finish m.val l rOk (leBytes 4 (n.2 % 2 ^ 32))).done
    | _ => .next s
  | none => .next s

def cSetMgmtPf : BciCmd := { code := 0x0202, long := false, a3 := false, who := .mb }
/-- The fields of SetMgmtPf's payload. -/
def fieldsSetMgmtPf (p : List Byte) : List Fld := [fIf p 0 1 (· ≤ 3)]
/-- The work of execSetMgmtPf. -/
def workSetMgmtPf (s : State) (p : List Byte) : Res :=
    let e := field p 0 1
    guardBci [(!s.formed e || !(s.ep e).dlUp, rState, 0)]
      (.ok (({ s with host := { s.host with mgmtNamed := some e } } : State).chooseMgmt e) [])
/-- SET_MGMT_PF (R327, R556). -/
def execSetMgmtPf (m : Fin 5) (s : State) : Out := (s.bci m cSetMgmtPf (len 1) fieldsSetMgmtPf (workSetMgmtPf s)).done

def cSetTagPool : BciCmd := { code := 0x0203, long := false, a3 := false, who := .mb }
/-- The fields of SetTagPool's payload. -/
def fieldsSetTagPool (p : List Byte) : List Fld := [fIf p 0 1 (· ≤ 3), fIf p 1 1 fun n => 1 ≤ n && n ≤ 16]
/-- The work of execSetTagPool. -/
def workSetTagPool (s : State) (p : List Byte) : Res :=
    let e := field p 0 1
    guardBci [(!s.formed e, rNotFound, 0)] (.ok ((s.modEp e fun x => { x with poolWanted := field p 1 1 }).tagsBack e) [])
/-- SET_TAG_POOL (R334, R366): a smaller pool applies once OUTSTANDING is at or below it. ENDPOINT in byte 0 and POOL in byte 1 are the
model's reading of a layout the spec does not give (log 47). -/
def execSetTagPool (m : Fin 5) (s : State) : Out := (s.bci m cSetTagPool (len 2) fieldsSetTagPool (workSetTagPool s)).done

/-- POWER_STATE: 0 to 3 for A0 to A3. -/
def PwrState.code : PwrState → Nat
  | .a0 => 0 | .a1 => 1 | .a2 => 2 | .a3 | .off => 3

/-- DIR.ALIVE.STATE (R332). -/
def Alive.code : Alive → Nat
  | .booting => 0 | .running => 1 | .recovery => 2 | .stopped => 3

/-- SEV_VALID of AUD.SUMMARY: bit v, some source is VALID with HIGHEST_SEV v (R532). -/
def Faults.sevValid (f : Faults) : Nat :=
  ((List.range 4).map fun v => if f.captures.any fun e => e.2.valid && sevValue e.2.highestSev == v then 2 ^ v else 0).sum

def Faults.validSources (f : Faults) : Nat := (f.captures.filter fun e => e.2.valid).length

def cGetModuleState : BciCmd := { code := 0x0204, long := false, a3 := true, who := .all }
/-- The work of execGetModuleState. -/
def workGetModuleState (s : State) (_ : List Byte) : Res :=
    let st := leBytes 1 (if s.dieRuns then s.boot.alive.code else 0xFF) ++ leBytes 1 s.pwr.st.code
    if s.dieRuns then
      let t := (match s.time.status with | .lost => 0 | .holdover => 1 | .locked => 2) + 4 * b2n s.time.ntValid + 8 * b2n s.time.root
      .ok s (st ++ leBytes 1 t ++ leBytes 1 (s.faults.sevValid + 16 * b2n s.faults.stopped) ++ leBytes 2 s.faults.validSources
        ++ leBytes 1 (b2n (s.boot.alive == .recovery) + 2 * b2n s.mem.exposed))
    else .ok s (st ++ zeros 5)
/-- GET_MODULE_STATE (R556). -/
def execGetModuleState (m : Fin 5) (s : State) : Out := (s.bci m cGetModuleState (len 0) noFields (workGetModuleState s)).done

end Sys2Proof.Machine
end

