-- ==== Sys2Proof/Machine/BciPorts.lean ====
section
/-! DEFINITION. The port commands of the BCI, and the register words they report (R424, R457, R468, R469, R515). -/
namespace Sys2Proof.Machine

/-! ### Register words (R469) -/

/-- STATUS. -/
def LinkPort.statusWord (l : LinkPort) : Nat :=
  l.st.code + at_ (b2n l.st.up) 4 + at_ l.width 5 + at_ l.rate 9 + at_ (b2n l.tx.replay.isSome) 11 + at_ (b2n l.train.ckLock) 12
    + at_ (b2n l.want.doze) 13 + at_ (b2n l.pwant.doze) 14 + at_ l.train.laneOk.toNat 15

/-- CABLE. -/
def Connector.cableWord (c : Connector) : Nat :=
  b2n c.present + at_ c.ctype 1 + at_ (min c.lengthDm 4095) 3 + at_ (b2n c.powerOk) 15

/-! ### PORT_QUERY -/

def cPortQuery : BciCmd := { code := 0x0300, long := false, a3 := false, who := .all }
/-- The fields of PortQuery's payload. -/
def fieldsPortQuery (p : List Byte) : List Fld := [fIf p 0 1 (· ≤ 63)]
/-- The work of execPortQuery. -/
def workPortQuery (s : State) (p : List Byte) : Res :=
    let q := field p 0 1
    let l := s.link q
    guardBci [(s.portHeld q, rBusy, 0)] (.ok s (leBytes 4 l.statusWord ++ leBytes 4 l.cause.code ++ leBytes 4 (if l.cap.rttKnown then l.cap.rttNs else 0)
      ++ leBytes 4 (s.conn (q / 4)).cableWord ++ fit 64 l.cap.partner))
/-- PORT_QUERY (R468). -/
def execPortQuery (m : Fin 5) (s : State) : Out := (s.bci m cPortQuery (len 1) fieldsPortQuery (workPortQuery s)).done

/-! ### PORT_SET -/

/-- RES[v] of the request: none for no change. -/
def portRes (p : List Byte) (v : Nat) : Option Nat := if field p (24 + 2 * v) 2 = 0 then none else some (field p (24 + 2 * v) 2)

/-- The reservations a port would have. -/
def LinkCfg.newRes (c : LinkCfg) (p : List Byte) : List Nat := (List.range 12).map fun v => (portRes p v).getD (c.res.getD v 0)

/-- The request changes a reservation of the port. -/
def LinkCfg.changesRes (c : LinkCfg) (p : List Byte) : Bool := c.newRes p != c.res

/-- The layout of PORT_SET (R468). A set of reservations that R452 does not allow fails at the first RES given. -/
def State.fPortSet (s : State) (p : List Byte) : List Fld :=
  let given := (List.range 12).filter fun v => (portRes p v).isSome
  let sumBad := (maskPorts p).any fun q => 6144 < ((s.link q).cfg.newRes p).sum
  [fAny 0 8, fIf p 8 1 fun v => v ≤ 1 || v == 0xFF, fIf p 9 1 fun v => [0, 1, 2, 4, 8].contains v, fIf p 10 1 fun v => v ≤ 2 || v == 0xFF,
   fIf p 11 1 fun v => v ≤ 1 || v == 0xFF, fIf p 12 2 fun v => v == 0 || (5 ≤ v && v ≤ 160), fIf p 14 2 fun v => v == 0 || (5 ≤ v && v ≤ 1000),
   fIf p 16 1 (· ≤ 15)]
  ++ ((List.range 12).map fun v =>
      fIf p (24 + 2 * v) 2 fun n => (n == 0 || (130 ≤ n && n ≤ 2048)) && !(sumBad && given.head? == some v))

/-- The settings a PORT_SET leaves. -/
def LinkCfg.apply (c : LinkCfg) (p : List Byte) : LinkCfg :=
  let flag (off : Nat) (old : Bool) : Bool := if field p off 1 = 0xFF then old else field p off 1 == 1
  let num (off n old : Nat) : Nat := if field p off n = 0 then old else field p off n
  { en := flag 8 c.en, maxWidth := num 9 1 c.maxWidth, maxRate := if field p 10 1 = 0xFF then c.maxRate else field p 10 1,
    autoRetrain := flag 11 c.autoRetrain, ackTimer := num 12 2 c.ackTimer, creditTimeout := num 14 2 c.creditTimeout,
    replayLimit := num 16 1 c.replayLimit, res := c.newRes p }

/-- PORT_SET of one port: EN cleared takes the port down (R424), EN set lets it leave DISABLED. -/
def State.portSet (s : State) (p : List Byte) (q : Nat) : State :=
  let s := s.modLink q fun l => { l with cfg := l.cfg.apply p, isolated := l.isolated && field p 8 1 != 1 }
  if field p 8 1 = 0 then s.stopPort q .disabled else s.startPort q

def cPortSet : BciCmd := { code := 0x0301, long := false, a3 := false, who := .mb }
/-- The work of execPortSet. -/
def workPortSet (s : State) (p : List Byte) : Res :=
    let ports := maskPorts p
    let isolated (q : Nat) : Bool := (s.link q).isolated && (s.capture (0x0200 + q)).valid
    guardBci [(ports.any s.portHeld, rBusy, 0), (field p 8 1 == 1 && ports.any isolated, rState, 8),
              (ports.any fun q => (s.link q).cfg.changesRes p && (s.link q).st != .disabled, rState, 24)]
      (.ok (ports.foldl (fun s q => s.portSet p q) s) [])
/-- PORT_SET (R468, R515). -/
def execPortSet (m : Fin 5) (s : State) : Out := (s.bci m cPortSet (len 48) s.fPortSet (workPortSet s)).done

/-! ### PORT_RETRAIN -/

def cPortRetrain : BciCmd := { code := 0x0302, long := true, a3 := false, who := .mb }
/-- The fields of PortRetrain's payload. -/
def fieldsPortRetrain (p : List Byte) : List Fld := [fIf p 0 1 (· ≤ 63)]
/-- The work of execPortRetrain. -/
def workPortRetrain (s : State) (p : List Byte) : Res :=
    let q := field p 0 1
    guardBci [(s.portHeld q, rBusy, 0), (!(s.link q).st.up, rState, 0)] (.accepted (s.declareDown q .retrain) (.portRetrain q) [])
/-- PORT_RETRAIN (R468): the link is declared down with cause RETRAIN. -/
def execPortRetrain (m : Fin 5) (s : State) : Out := (s.bci m cPortRetrain (len 1) fieldsPortRetrain (workPortRetrain s)).done

/-- A retrained port has come to rest: it runs again, or bring-up has fallen back. -/
def PortSt.atRest : PortSt → Bool
  | .active | .doze | .disabled | .detect | .holdoff => true
  | _ => false

/-- PORT_RETRAIN_DONE (R468): the record holds the state reached, width, rate code, and the cause when it is not ACTIVE. -/
def execPortRetrainDone (m : Fin 5) (token : U32) (s : State) : Out :=
  match s.long? m.val token with
  | some l =>
    match l.work with
    | .portRetrain q =>
      let x := s.link q
      if x.st.atRest then
        (s.finish m.val l rOk (leBytes 1 x.st.code ++ leBytes 1 x.width ++ leBytes 1 x.rate
          ++ leBytes 1 (if x.st = .active then 0 else x.cause.code))).done
      else .next s
    | _ => .next s
  | none => .next s

end Sys2Proof.Machine
end

