-- ==== Sys2Proof/Machine/BciRoutes.lean ====
section
/-! DEFINITION. The routes group of the BCI (R62, R63, R70 to R72, R84 to R87, R366, R368, R556). -/
namespace Sys2Proof.Machine

/-! ### Entries as words -/

/-- A port role entry (R70). -/
def Role.word (r : Role) : Nat := r.role + at_ r.index 2 + at_ r.group 5 + at_ (b2n r.en) 17
def Role.ofWord (w : Nat) : Role := { role := bits w 1 0, index := bits w 4 2, group := bits w 16 5, en := bit w 17 }

/-- A path candidate (R86). -/
def Cand.word (c : Cand) : Nat :=
  c.cls + at_ c.via 2 + at_ c.exitPos 14 + at_ (b2n c.exitPin) 20 + at_ c.weight 21 + at_ (b2n c.valid) 63
def Cand.ofWord (w : Nat) : Cand :=
  { cls := bits w 1 0, via := bits w 13 2, exitPos := bits w 19 14, exitPin := bit w 20, weight := bits w 28 21, valid := bit w 63 }

/-- A group route entry of 128 bytes (R85). -/
def GroupRoute.entry (g : GroupRoute) : List Byte :=
  ((List.range 8).map fun i => leBytes 8 (g.cands.getD i Cand.none).word).flatten ++ leBytes 1 g.pair ++ zeros 63
def GroupRoute.ofEntry (b : List Byte) : GroupRoute :=
  { cands := (List.range 8).map fun i => Cand.ofWord (field b (8 * i) 8), pair := field b 64 1 }

/-- Bits of an entry that are RsvdZ must be written zero: a field at the byte that holds the first of them (log 48). -/
def fZero (p : List Byte) (off hi lo : Nat) : Fld := { off := off, size := 1, ok := bits (field p off 1) hi lo == 0 }

/-! ### Identity and roles -/

def cSetIdentity : BciCmd := { code := 0x0400, long := false, a3 := false, who := .mb }
/-- The fields of SetIdentity's payload. -/
def fieldsSetIdentity (p : List Byte) : List Fld := [fIf p 0 2 fun g => decide (g < field p 2 2) || !(1 ≤ field p 2 2 && field p 2 2 ≤ 2048), fIf p 2 2 fun n => 1 ≤ n && n ≤ 2048,
               fIf p 4 1 (· ≤ 63), fIf p 5 1 (· ≤ 1)]
/-- The work of execSetIdentity. -/
def workSetIdentity (s : State) (p : List Byte) : Res :=
    guardBci [(s.route.idSet, rState, 0)]
      (let pos := if bit (field p 5 1) 0 then field p 4 1 else s.route.position
       let s := { s with route := { s.route with group := field p 0 2, systemGroups := field p 2 2, position := pos, valid := true,
                                                 idSet := true } }
       .ok s.announce.checkRoles [])
/-- SET_IDENTITY (R62, R368): once after each device reset; links announce it (R440) and roles are compared (R72). -/
def execSetIdentity (m : Fin 5) (s : State) : Out := (s.bci m cSetIdentity (len 6) fieldsSetIdentity (workSetIdentity s)).done

/-- A role the module refuses (R71), or a field that its ROLE leaves no meaning and that is not 0 (R70). A command that leaves the role as it
is assigns none. -/
def State.roleBad (s : State) (q : Nat) (r : Role) : Bool :=
  let twin := (List.range 64).any fun o => o != q && (s.rport o).role.role == r.role && (s.rport o).role.index == r.index
  let own := if r.role = 1 then s.route.position % 8 else s.route.position / 8
  match r.role with
  | 1 | 2 => twin || r.index == own || r.group != 0
  | 3 => r.index != 0 || r.group == s.route.group
  | _ => r.index != 0 || r.group != 0

/-- The same role: ROLE, PARTNER_INDEX and PARTNER_GROUP agree (R71). -/
def Role.same (a b : Role) : Bool := a.role == b.role && a.index == b.index && a.group == b.group

def cSetPortRole : BciCmd := { code := 0x0401, long := false, a3 := false, who := .mb }
/-- The fields of SetPortRole's payload. -/
def fieldsSetPortRole (s : State) (p : List Byte) : List Fld := [fIf p 0 1 (· ≤ 63), 
  { off := 8, size := 3, ok := (s.rport (field p 0 1)).role.same (Role.ofWord (field p 8 8)) || !s.roleBad (field p 0 1) (Role.ofWord (field p 8 8)) },
  fZero p 10 7 2]
/-- The work of execSetPortRole. -/
def workSetPortRole (s : State) (p : List Byte) : Res :=
      let q := field p 0 1
      let r := Role.ofWord (field p 8 8)
      let old := (s.rport q).role
      guardBci [(s.portHeld q, rBusy, 0), (old.en && !old.same r, rState, 0)]
        (let s := if old.role = r.role then s else s.declareDown q .retrain
         .ok ((s.setRport q { s.rport q with role := r }).checkRole q) [])
/-- SET_PORT_ROLE (R70, R71, R368): a new ROLE retrains a link that is up (R440). -/
def execSetPortRole (m : Fin 5) (s : State) : Out := (s.bci m cSetPortRole (len 16) (fieldsSetPortRole s) (workSetPortRole s)).done

/-! ### Tables -/

def cSetExit : BciCmd := { code := 0x0402, long := false, a3 := false, who := .mb }
/-- The fields of SetExit's payload. -/
def fieldsSetExit (p : List Byte) : List Fld := [fIf p 0 2 (· ≤ 4095), fIf p 2 2 fun n => 1 ≤ n && n ≤ 124 && field p 0 2 + n ≤ 4096, fAny 8 992]
/-- The work of execSetExit. -/
def workSetExit (s : State) (p : List Byte) : Res :=
    let exits := (List.range (field p 2 2)).foldl (fun t i => Tbl.set t (field p 0 2 + i) (field p (8 + 8 * i) 8)) s.route.exits
    .ok { s with route := { s.route with exits := exits } } []
/-- SET_EXIT (R84, R368): N entries from group FIRST. -/
def execSetExit (m : Fin 5) (s : State) : Out := (s.bci m cSetExit (fun p => 8 + 8 * field p 2 2) fieldsSetExit (workSetExit s)).done

def cSetGroupRoute : BciCmd := { code := 0x0403, long := false, a3 := false, who := .mb }
/-- The fields of SetGroupRoute's payload. A MIN candidate's VIA_GROUP is taken as written and never used (DESIGN CHOICE, log 150). -/
def fieldsSetGroupRoute (p : List Byte) : List Fld := [fIf p 0 2 (· ≤ 4095), fAny 8 65, fZero p 72 7 7]
      ++ ((List.range 8).map fun i => fZero p (11 + 8 * i) 7 5)
      ++ ((List.range 24).map fun i => fZero p (12 + 8 * (i / 3) + i % 3) 7 0) ++ ((List.range 8).map fun i => fZero p (15 + 8 * i) 6 0)
/-- The work of execSetGroupRoute. -/
def workSetGroupRoute (s : State) (p : List Byte) : Res :=
      .ok { s with route := { s.route with groups := Tbl.set s.route.groups (field p 0 2) (GroupRoute.ofEntry (p.drop 8)) } } []
/-- SET_GROUP_ROUTE (R85, R87, R368). -/
def execSetGroupRoute (m : Fin 5) (s : State) : Out := (s.bci m cSetGroupRoute (len 136) fieldsSetGroupRoute (workSetGroupRoute s)).done

def cSetPset : BciCmd := { code := 0x0404, long := false, a3 := false, who := .mb }
/-- The fields of SetPset's payload. -/
def fieldsSetPset (p : List Byte) : List Fld := [fIf p 0 1 fun k => 1 ≤ k && k ≤ 15, fAny 1 1]
/-- The work of execSetPset. -/
def workSetPset (s : State) (p : List Byte) : Res :=
    .ok { s with route := { s.route with pset := put s.route.pset (field p 0 1) (field p 1 1) } } []
/-- SET_PSET (R556): PSET[0] is fixed. -/
def execSetPset (m : Fin 5) (s : State) : Out := (s.bci m cSetPset (len 2) fieldsSetPset (workSetPset s)).done

def cSetRouteCtrl : BciCmd := { code := 0x0405, long := false, a3 := false, who := .mb }
/-- The fields of SetRouteCtrl's payload. -/
def fieldsSetRouteCtrl (p : List Byte) : List Fld := [fIf p 0 1 fun v => 1 ≤ v && v ≤ 3, fIf p 1 1 fun v => 1 ≤ v && v ≤ 63]
/-- The work of execSetRouteCtrl. -/
def workSetRouteCtrl (s : State) (p : List Byte) : Res :=
    .ok { s with route := { s.route with policy := field p 0 1, decayUs := field p 1 1 } } []
/-- SET_ROUTE_CTRL (R556). -/
def execSetRouteCtrl (m : Fin 5) (s : State) : Out := (s.bci m cSetRouteCtrl (len 2) fieldsSetRouteCtrl (workSetRouteCtrl s)).done

def cSetCongThresh : BciCmd := { code := 0x0406, long := false, a3 := false, who := .mb }
/-- The fields of SetCongThresh's payload. -/
def fieldsSetCongThresh (p : List Byte) : List Fld := [fAny 0 8, fIf p 8 2 fun v => 64 ≤ v && v ≤ 6144]
/-- The work of execSetCongThresh. -/
def workSetCongThresh (s : State) (p : List Byte) : Res :=
    guardBci [((maskPorts p).any s.portHeld, rBusy, 0)]
      (.ok ((maskPorts p).foldl (fun s q => s.setRport q { s.rport q with thresh := field p 8 2 }) s) [])
/-- SET_CONG_THRESH (R92, R556). -/
def execSetCongThresh (m : Fin 5) (s : State) : Out := (s.bci m cSetCongThresh (len 10) fieldsSetCongThresh (workSetCongThresh s)).done

/-- An entry of a route table as stored (R556). -/
def State.routeEntry (s : State) (table index : Nat) : List Byte :=
  match table with
  | 0 => leBytes 8 (s.rport index).role.word
  | 1 => leBytes 8 (Tbl.getD s.route.exits index 0)
  | 2 => (s.groupRoute index).entry
  | _ => leBytes 1 (s.route.pset.getD index 0)

/-- The indexes of a route table. -/
def routeIndexes (table : Nat) : Nat :=
  match table with
  | 0 => 64
  | 1 | 2 => 4096
  | _ => 16

def cRouteQuery : BciCmd := { code := 0x0407, long := false, a3 := false, who := .all }
/-- The fields of RouteQuery's payload. -/
def fieldsRouteQuery (p : List Byte) : List Fld := [fIf p 0 1 (· ≤ 3), fIf p 2 2 fun i => decide (i < routeIndexes (field p 0 1)) || decide (3 < field p 0 1)]
/-- The work of execRouteQuery. -/
def workRouteQuery (s : State) (p : List Byte) : Res :=
    guardBci [(field p 0 1 == 0 && s.portHeld (field p 2 2), rBusy, 0)]
      (.ok s (leBytes 1 (field p 0 1) ++ zeros 1 ++ leBytes 2 (field p 2 2) ++ zeros 4 ++ s.routeEntry (field p 0 1) (field p 2 2)))
/-- ROUTE_QUERY (R556). -/
def execRouteQuery (m : Fin 5) (s : State) : Out := (s.bci m cRouteQuery (len 4) fieldsRouteQuery (workRouteQuery s)).done

end Sys2Proof.Machine
end

