-- ==== Sys2Proof/Machine/BciCtx.lean ====
section
/-! DEFINITION. The contexts group of the BCI: contexts, match domains and ledgers (R164, R205, R217, R243, R279, R366, R368, R556). -/
namespace Sys2Proof.Machine

/-! ### Objects -/

/-- The endpoint of an existing context. -/
def State.ctxEp (s : State) (c : Nat) : Nat := ((s.ctx? c).map (·.ep)).getD 0

/-- The refusals of a command that names host context `c` at offset `off`: absent, another endpoint's, held (R362, R363, R555). -/
def State.ctxRefusals (s : State) (m c off : Nat) : List (Bool × Nat × Nat) :=
  [(!(s.ctx? c).isSome, rNotFound, off), ((s.ctx? c).isSome && !s.mayAct m (s.ctxEp c), rDenied, off), (s.ctxHeld c, rBusy, off)]

/-- A context number of a payload: a host context. -/
def fCtx (p : List Byte) (off : Nat) : Fld := fIf p off 2 (· ≤ 4095)

/-- An ASID of the host agent of endpoint `e` that is assigned to its PF (R298). -/
def State.asidOf (s : State) (e asid : Nat) : Bool := s.asidEp (e / 2) asid == some e

/-! ### Contexts -/

/-- The endpoint CTX_CREATE names. -/
def namedEp (m e : Nat) : Nat := if e = 0xFF then m else e

/-- SPILL_SIZE, and the ASID of a spill area of endpoint `e`, are in order (R368). -/
def State.fSpill (s : State) (p : List Byte) (e : Nat) : List Fld :=
  [fAny 8 8, fIf p 16 4 (· % 4096 == 0), fIf p 20 2 fun a => a ≤ 4095 && (field p 8 8 == 0 || s.asidOf e a)]

/-- The module's choice of a free host context. -/
def State.newCtx (s : State) (want : Nat) : Option Nat × State :=
  let free (c : Nat) : Bool := decide (c < 4096) && (s.ctx? c).isNone
  if want = 0xFFFF then s.choose 12 free ((List.range 4096).find? free) else (some want, s)

def cCtxCreate : BciCmd := { code := 0x0500, long := false, a3 := false, who := .pm }
/-- The fields of CtxCreate's payload. -/
def fieldsCtxCreate (m : Fin 5) (s : State) (p : List Byte) : List Fld := [fIf p 0 2 fun c => c ≤ 4095 || c == 0xFFFF, fIf p 2 1 fun e => e ≤ 3 || e == 0xFF, fIf p 3 1 (· ≤ 64),
               fIf p 4 1 fun t => t ≤ 63 || t == 0xFF, fIf p 5 1 (· ≤ 3), fIf p 6 2 (· ≤ 16384)] ++ s.fSpill p (namedEp m (field p 2 1))
/-- The work of execCtxCreate. -/
def workCtxCreate (m : Fin 5) (s : State) (p : List Byte) : Res :=
      let want := field p 0 2
      let e := namedEp m (field p 2 1)
      let fn := field p 3 1
      let r := s.newCtx want
      guardBci [(!s.formed e, rNotFound, 2), ((s.ep e).vfs < fn, rNotFound, 3), (!s.mayAct m e, rDenied, 2),
                ((s.ctx? want).isSome && !s.mayAct m (s.ctxEp want), rDenied, 0), (s.ctxHeld want, rBusy, 0),
                ((s.ctx? want).isSome, rExists, 0), (!(s.ep e).dlUp, rState, 2), (r.1.isNone, rNoResource, 0)]
        (match r.1 with
          | none => .err rNoResource 0
          | some c =>
            let tile := if field p 4 1 = 0xFF then c % 64 else field p 4 1
            let x := { Ctx.fresh e fn tile (bit (field p 5 1) 0) (bit (field p 5 1) 1) with
                        eagerLimit := field p 6 2, spillVa := field p 8 8, spillSize := field p 16 4, asid := field p 20 2 }
            .ok (r.2.setCtx c x) (leBytes 2 c ++ leBytes 1 tile))
/-- CTX_CREATE (R164, R368, R374): a host context in OFF. -/
def execCtxCreate (m : Fin 5) (s : State) : Out := (s.bci m cCtxCreate (len 22) (fieldsCtxCreate m s) (workCtxCreate m s)).done

def cCtxDestroy : BciCmd := { code := 0x0501, long := true, a3 := false, who := .pmb }
/-- What CTX_DESTROY begins: the rings drain, the context's QPs enter quarantine to be freed, its nodes go, and its epoch moves
(R253, R314, R366). -/
def State.beginDestroy (s : State) (c : Nat) : State :=
  let lost := ((s.ctx? c).map (·.hostLost)).getD true
  let s := if ((s.ctx? c).map (·.enable)).getD false then s.drain c else s
  let s := s.qps.foldl (fun s e =>
    if e.2.owner ≠ c then s
    else if e.2.st = .quarantine then s.modQp e.1 fun q => { q with freeing := true }
    else s.quarantine e.1 true) s
  let s := s.nodes.foldl (fun s e =>
    if e.2.owner = c ∧ (s.node? e.1).isSome = true then s.destroyMember e.2.lead lost else s) s
  (s.modCtx c fun x => { x with destroying := true }).bumpEpoch (masterCtx c)
/-- The fields of CtxDestroy's payload. -/
def fieldsCtxDestroy (p : List Byte) : List Fld := [fCtx p 0]
/-- The work of execCtxDestroy. -/
def workCtxDestroy (m : Fin 5) (s : State) (p : List Byte) : Res :=
    let c := field p 0 2
    guardBci (s.ctxRefusals m c 0 ++ [(s.domainHeld c, rBusy, 0)]) (.accepted (s.beginDestroy c) (.ctxDestroy c) [])
/-- CTX_DESTROY (R366). -/
def execCtxDestroy (m : Fin 5) (s : State) : Out := (s.bci m cCtxDestroy (len 2) fieldsCtxDestroy (workCtxDestroy m s)).done

/-- Nothing of a context is under way: its rings are off, its QPs are freed and its transfers have ended. -/
def State.ctxQuiet (s : State) (c : Nat) : Bool :=
  (match s.ctx? c with
    | some x => x.idle
    | none => true) && s.qps.all (fun e => e.2.owner != c) && s.mem.xfers.all (fun x => x.ctx != c || x.dead)
    && s.mem.regions.all (fun e => e.2.owner != c || !e.2.registering)

/-- The rest of a context goes: domain, ledgers, regions, and the context (R243, R299, R516). -/
def State.endCtx (s : State) (c : Nat) : State :=
  let s := s.endDomain c
  let s := { s with ledgers := s.ledgers.filter fun e => e.2.owner != c }
  let s := s.mem.regions.foldl (fun s e => if e.2.owner = c ∧ (e.2.valid ∨ e.2.registering) then s.deregister e.1 else s) s
  { s with ctxs := Tbl.erase s.ctxs c,
           perf := { s.perf with ctrs := Tbl.map (fun _ x => if x.grant = some c then { x with grant := none } else x) s.perf.ctrs } }

/-- CTX_DESTROY_DONE (R366): once the context's QPs have left quarantine. -/
def execCtxDestroyDone (m : Fin 5) (token : U32) (s : State) : Out :=
  match s.long? m.val token with
  | some l =>
    match l.work with
    | .ctxDestroy c => if s.ctxQuiet c then ((s.endCtx c).finish m.val l rOk []).done else .next s
    | _ => .next s
  | none => .next s

def cCtxQuery : BciCmd := { code := 0x0502, long := false, a3 := false, who := .pmb }
/-- RING_STATE (R374, R556). -/
def Ctx.ringState (x : Ctx) : Nat := if x.hostLost then 3 else if x.enable then 1 else if x.idle then 0 else 2
/-- The fields of CtxQuery's payload. -/
def fieldsCtxQuery (p : List Byte) : List Fld := [fCtx p 0]
/-- The work of execCtxQuery. -/
def workCtxQuery (m : Fin 5) (s : State) (p : List Byte) : Res :=
    let c := field p 0 2
    guardBci (s.ctxRefusals m c 0)
      (match s.ctx? c with
        | none => .err rNotFound 0
        | some x =>
          .ok s (leBytes 2 c ++ leBytes 1 x.ep ++ leBytes 1 x.fn ++ leBytes 1 x.tile ++ leBytes 1 (b2n x.kernel + 2 * b2n x.addrRank)
            ++ leBytes 2 x.eagerLimit ++ leBytes 8 x.spillVa ++ leBytes 4 x.spillSize ++ leBytes 2 x.asid ++ zeros 2
            ++ leBytes 1 x.ringState ++ leBytes 1 (b2n (s.domain? c).isSome + 2 * b2n x.fenced) ++ zeros 2
            ++ leBytes 4 (s.qps.filter fun e => e.2.owner == c).length ++ leBytes 4 (s.ledgers.filter fun e => e.2.owner == c).length))
/-- CTX_QUERY (R556). -/
def execCtxQuery (m : Fin 5) (s : State) : Out := (s.bci m cCtxQuery (len 2) fieldsCtxQuery (workCtxQuery m s)).done

def cCtxSet : BciCmd := { code := 0x0503, long := false, a3 := false, who := .pm }
/-- The fields of CtxSet's payload. -/
def fieldsCtxSet (s : State) (p : List Byte) : List Fld := [fCtx p 0, fIf p 2 1 (· ≤ 3)]
      ++ (if bit (field p 2 1) 0 then [fIf p 6 2 (· ≤ 16384)] else [fAny 6 2])
      ++ (if bit (field p 2 1) 1 ∧ (s.ctx? (field p 0 2)).isSome then s.fSpill p (s.ctxEp (field p 0 2)) else [fAny 8 8, fAny 16 4, fAny 20 2])
/-- The work of execCtxSet. -/
def workCtxSet (m : Fin 5) (s : State) (p : List Byte) : Res :=
      let c := field p 0 2
      let sel := field p 2 1
      let spilled := s.qps.any fun e => e.2.owner == c && e.2.spilled
      let set (x : Ctx) : Ctx :=
        let x := if bit sel 0 then { x with eagerLimit := field p 6 2 } else x
        if bit sel 1 then { x with spillVa := field p 8 8, spillSize := field p 16 4, asid := field p 20 2 } else x
      guardBci (s.ctxRefusals m c 0 ++ [(bit sel 1 && spilled, rState, 2)]) (.ok (s.modCtx c set) [])
/-- CTX_SET (R556): fields not selected are ignored. -/
def execCtxSet (m : Fin 5) (s : State) : Out := (s.bci m cCtxSet (len 22) (fieldsCtxSet s) (workCtxSet m s)).done

/-! ### Match domains -/

/-- A field of 0 takes its default (R217, R556). -/
def dflt (v d : Nat) : Nat := if v = 0 then d else v

def cDomainCreate : BciCmd := { code := 0x0504, long := false, a3 := false, who := .pm }
/-- The fields of DomainCreate's payload. -/
def fieldsDomainCreate (p : List Byte) : List Fld := [fCtx p 0, fAny 2 2, fIf p 4 1 fun v => v == 0 || (4 ≤ v && v ≤ 16), fIf p 8 4 (· ≤ 1048576), fIf p 12 4 (· ≤ 1048576),
               fIf p 16 1 fun v => v == 0 || (20 ≤ v && v ≤ 34), fAny 18 2]
/-- The work of execDomainCreate. -/
def workDomainCreate (m : Fin 5) (s : State) (p : List Byte) : Res :=
    let c := field p 0 2
    let bytes := 2 ^ dflt (field p 16 1) 26
    let all := bytes + 16 * 2 ^ dflt (field p 4 1) 10
    let r := s.findRun (chunksOf all) poolChunks
    guardBci (s.ctxRefusals m c 0 ++ [((Tbl.get? s.route.jobs (field p 2 2)).isNone, rNotFound, 2), ((s.domain? c).isSome, rExists, 0),
              (((s.ctx? c).map (·.hostLost)).getD false, rState, 0), (r.1.isNone, rNoResource, 16)])
      (match r.1 with
        | none => .err rNoResource 16
        | some chunk =>
          let base := poolBase + chunkBytes * chunk
          let k := r.2.fresh 64
          let d : Domain :=
            { job := field p 2 2, nbinsLog2 := dflt (field p 4 1) 10, maxPosted := dflt (field p 8 4) 65536,
              maxUnexp := dflt (field p 12 4) 65536, poolGranules := bytes / 256, base := base, backoff := dflt (field p 18 2) 20,
              key := BitVec.ofNat 64 k.1, nextPseq := 0, nextAseq := 0, posted := [], msgs := [], nextMsg := 0, used := [], busy := [] }
          .ok ((k.2.hbmZero base (chunkBytes * chunksOf all)).setDomain c d) [])
/-- DOMAIN_CREATE (R217, R221, R556). -/
def execDomainCreate (m : Fin 5) (s : State) : Out := (s.bci m cDomainCreate (len 20) fieldsDomainCreate (workDomainCreate m s)).done

def cDomainDestroy : BciCmd := { code := 0x0505, long := true, a3 := false, who := .pmb }
/-- The fields of DomainDestroy's payload. -/
def fieldsDomainDestroy (p : List Byte) : List Fld := [fCtx p 0]
/-- The work of execDomainDestroy. -/
def workDomainDestroy (m : Fin 5) (s : State) (p : List Byte) : Res :=
    let c := field p 0 2
    guardBci ([(!(s.ctx? c).isSome || (s.domain? c).isNone, rNotFound, 0)] ++ (s.ctxRefusals m c 0) ++ [(s.domainHeld c, rBusy, 0)])
      (.accepted s (.domainDestroy c) [])
/-- DOMAIN_DESTROY (R243). -/
def execDomainDestroy (m : Fin 5) (s : State) : Out := (s.bci m cDomainDestroy (len 2) fieldsDomainDestroy (workDomainDestroy m s)).done

/-- DOMAIN_DESTROY_DONE (R243). -/
def execDomainDestroyDone (m : Fin 5) (token : U32) (s : State) : Out :=
  match s.long? m.val token with
  | some l =>
    match l.work with
    | .domainDestroy c => ((s.endDomain c).finish m.val l rOk []).done
    | _ => .next s
  | none => .next s

/-! ### Ledgers -/

/-- The ledgers `first` to `first + n - 1`. -/
def ledgerRange (first n : Nat) : List Nat := (List.range n).map (first + ·)

/-- `n` ledgers from `first` on are free, and homed as asked (R279). -/
def State.ledgersFree (s : State) (tile n first : Nat) : Bool :=
  decide (first + n ≤ 1048576) && (tile == 0xFF || first % 64 == tile) && s.ledgers.all fun e => decide (e.1 < first ∨ first + n ≤ e.1)

/-- The module's choice of a run of free ledgers. -/
def State.newLedgers (s : State) (tile n : Nat) : Option Nat × State :=
  let starts := if tile = 0xFF then 0 :: s.ledgers.map (·.1 + 1) else (List.range (s.ledgers.length + 1)).map fun i => 64 * i + tile
  s.choose 20 (s.ledgersFree tile n) (starts.find? (s.ledgersFree tile n))

/-- The fields CONTEXT, N and, for an existing range, FIRST. -/
def fLedgers (p : List Byte) : List Fld := [fCtx p 0, fIf p 2 2 fun n => 1 ≤ n && n ≤ 1024, fIf p 4 4 (· < 1048576)]

/-- Every ledger of the range belongs to the context. -/
def State.ownsLedgers (s : State) (c first n : Nat) : Bool :=
  (ledgerRange first n).all fun i => match Tbl.get? s.ledgers i with
    | some g => g.owner == c
    | none => false

def cLedgerAlloc : BciCmd := { code := 0x0506, long := false, a3 := false, who := .pm }
/-- The fields of LedgerAlloc's payload. -/
def fieldsLedgerAlloc (p : List Byte) : List Fld := [fCtx p 0, fIf p 2 2 fun n => 1 ≤ n && n ≤ 1024, fIf p 4 1 fun t => t == 0xFF || (t ≤ 63 && field p 2 2 == 1)]
/-- The work of execLedgerAlloc. -/
def workLedgerAlloc (m : Fin 5) (s : State) (p : List Byte) : Res :=
    let c := field p 0 2
    let n := field p 2 2
    let r := s.newLedgers (field p 4 1) n
    guardBci (s.ctxRefusals m c 0 ++ [(r.1.isNone, rNoResource, 2)])
      (match r.1 with
        | none => .err rNoResource 2
        | some first =>
          let g : Ledger := { count := 0, poison := false, owner := c, remote := false, share := false }
          .ok { r.2 with ledgers := (ledgerRange first n).foldl (fun t i => Tbl.set t i g) r.2.ledgers } (leBytes 4 first))
/-- LEDGER_ALLOC (R279, R556). -/
def execLedgerAlloc (m : Fin 5) (s : State) : Out := (s.bci m cLedgerAlloc (len 5) fieldsLedgerAlloc (workLedgerAlloc m s)).done

def cLedgerFree : BciCmd := { code := 0x0507, long := false, a3 := false, who := .pmb }
/-- The work of execLedgerFree. -/
def workLedgerFree (m : Fin 5) (s : State) (p : List Byte) : Res :=
    let c := field p 0 2
    let first := field p 4 4
    let n := field p 2 2
    guardBci ([(!(s.ctx? c).isSome, rNotFound, 0), (!s.ownsLedgers c first n, rNotFound, 4)] ++ s.ctxRefusals m c 0)
      (.ok { s with ledgers := s.ledgers.filter fun e => !(first ≤ e.1 && e.1 < first + n) } [])
/-- LEDGER_FREE (R556). -/
def execLedgerFree (m : Fin 5) (s : State) : Out := (s.bci m cLedgerFree (len 8) fLedgers (workLedgerFree m s)).done

def cLedgerAttr : BciCmd := { code := 0x0508, long := false, a3 := false, who := .pm }
/-- The fields of LedgerAttr's payload. -/
def fieldsLedgerAttr (p : List Byte) : List Fld := fLedgers p ++ [fIf p 8 1 (· ≤ 1), fIf p 9 1 (· ≤ 1)]
/-- The work of execLedgerAttr. -/
def workLedgerAttr (m : Fin 5) (s : State) (p : List Byte) : Res :=
    let c := field p 0 2
    let first := field p 4 4
    let n := field p 2 2
    let set (e : Nat × Ledger) : Nat × Ledger :=
      if first ≤ e.1 ∧ e.1 < first + n then (e.1, { e.2 with remote := field p 8 1 == 1, share := field p 9 1 == 1 }) else e
    guardBci ([(!(s.ctx? c).isSome, rNotFound, 0), (!s.ownsLedgers c first n, rNotFound, 4)] ++ s.ctxRefusals m c 0)
      (.ok { s with ledgers := List.map set s.ledgers } [])
/-- LEDGER_ATTR (R279, R556). -/
def execLedgerAttr (m : Fin 5) (s : State) : Out := (s.bci m cLedgerAttr (len 10) fieldsLedgerAttr (workLedgerAttr m s)).done

end Sys2Proof.Machine
end

