-- ==== Sys2Proof/Machine/BciJobs.lean ====
section
/-! DEFINITION. The jobs group of the BCI: jobs, ranks and collective nodes (R64 to R68, R250 to R253, R260, R366, R368, R556). -/
namespace Sys2Proof.Machine

/-! ### Jobs -/

/-- The rank table's size (R65). -/
def rankEntries : Nat := 4194304

/-- A job descriptor (R64). -/
def JobDesc.word (d : JobDesc) : Nat := d.base + at_ d.count 22 + at_ d.policy 45 + at_ (b2n d.prot) 47 + at_ 1 63
def JobDesc.ofWord (w : Nat) : JobDesc := { base := bits w 21 0, count := bits w 44 22, policy := bits w 46 45, prot := bit w 47 }

/-- Ranges of two jobs overlap (R67). -/
def JobDesc.overlaps (a b : JobDesc) : Bool := decide (a.base < b.base + b.count) && decide (b.base < a.base + a.count)

def State.job? (s : State) (j : Nat) : Option JobDesc := Tbl.get? s.route.jobs j

def cJobCreate : BciCmd := { code := 0x0600, long := false, a3 := false, who := .mb }
/-- The fields of JobCreate's payload. -/
def fieldsJobCreate (s : State) (p : List Byte) : List Fld :=
      let d := JobDesc.ofWord (field p 8 8)
      let clash := s.route.jobs.any fun e => e.1 != field p 0 2 && e.2.overlaps d
      [fAny 0 2, { off := 8, size := 2, ok := !clash }, fIf p 10 4 fun _ => decide (1 ≤ d.count ∧ d.base + d.count ≤ rankEntries),
       fZero p 14 7 0, fZero p 15 6 0, fIf p 15 1 (fun v => bit v 7)]
/-- The work of execJobCreate. -/
def workJobCreate (s : State) (p : List Byte) : Res :=
    let d := JobDesc.ofWord (field p 8 8)
    guardBci [((s.job? (field p 0 2)).isSome, rExists, 0), (d.prot && s.mem.exposed, rProtConflict, 13)]
      (.ok { s with route := { s.route with jobs := Tbl.set s.route.jobs (field p 0 2) d } } [])
/-- JOB_CREATE (R64, R67, R368). -/
def execJobCreate (m : Fin 5) (s : State) : Out := (s.bci m cJobCreate (len 16) (fieldsJobCreate s) (workJobCreate s)).done

/-- Some QP, region, node, domain or key of the job exists (R366). -/
def State.jobUsed (s : State) (j : Nat) : Bool :=
  s.qps.any (fun e => e.2.job == j) || s.mem.regions.any (fun e => (e.2.valid || e.2.registering) && e.2.job == j)
    || s.nodes.any (fun e => e.2.job == j) || s.domains.any (fun e => e.2.job == j)
    || s.sec.handles.any fun e => e.2.st != .free && e.2.job == j

def cJobDestroy : BciCmd := { code := 0x0601, long := false, a3 := false, who := .mb }
/-- The fields of JobDestroy's payload. -/
def fieldsJobDestroy (_ : List Byte) : List Fld := [fAny 0 2]
/-- The work of execJobDestroy. -/
def workJobDestroy (s : State) (p : List Byte) : Res :=
    let j := field p 0 2
    guardBci [((s.job? j).isNone, rNotFound, 0), (s.jobUsed j, rState, 0)]
      (.ok { s with route := { s.route with jobs := Tbl.erase s.route.jobs j } } [])
/-- JOB_DESTROY (R366). -/
def execJobDestroy (m : Fin 5) (s : State) : Out := (s.bci m cJobDestroy (len 2) fieldsJobDestroy (workJobDestroy s)).done

/-- A rank table entry (R65). -/
def RankEntry.word (r : RankEntry) : Nat := r.feid.toNat + at_ r.pset 20 + at_ (b2n r.valid) 63
def RankEntry.ofWord (w : Nat) : RankEntry := { feid := BitVec.ofNat 20 w, pset := bits w 23 20, valid := bit w 63 }

def cRankWrite : BciCmd := { code := 0x0602, long := false, a3 := false, who := .mb }
/-- The fields of RankWrite's payload. -/
def fieldsRankWrite (s : State) (p : List Byte) : List Fld :=
      let count := match s.job? (field p 0 2) with
        | some d => d.count
        | none => rankEntries
      [fAny 0 2, fIf p 2 2 fun n => 1 ≤ n && n ≤ 124, fIf p 4 4 fun f => f + field p 2 2 ≤ count, fAny 8 992]
      ++ ((List.range 124).map fun i => { off := 11 + 8 * i, size := 4, ok := field p (11 + 8 * i) 4 == 0 })
      ++ ((List.range 124).map fun i => fZero p (15 + 8 * i) 6 0)
/-- The work of execRankWrite. -/
def workRankWrite (s : State) (p : List Byte) : Res :=
    match s.job? (field p 0 2) with
    | none => .err rNotFound 0
    | some d =>
      let ranks := (List.range (field p 2 2)).foldl (fun t i =>
        Tbl.set t (d.base + field p 4 4 + i) (RankEntry.ofWord (field p (8 + 8 * i) 8))) s.route.ranks
      .ok { s with route := { s.route with ranks := ranks } } []
/-- RANK_WRITE (R65, R68, R368). A range past COUNT of an existing job is BAD_PARAM. -/
def execRankWrite (m : Fin 5) (s : State) : Out := (s.bci m cRankWrite (fun p => 8 + 8 * field p 2 2) (fieldsRankWrite s) (workRankWrite s)).done

def cJobQuery : BciCmd := { code := 0x0603, long := false, a3 := false, who := .all }
/-- The fields of JobQuery's payload. -/
def fieldsJobQuery (s : State) (p : List Byte) : List Fld :=
      let count := match s.job? (field p 0 2) with
        | some d => d.count
        | none => 2 ^ 33
      [fAny 0 2, fIf p 2 2 (· ≤ 124), fIf p 4 4 fun f => f + field p 2 2 ≤ count]
/-- The work of execJobQuery. -/
def workJobQuery (s : State) (p : List Byte) : Res :=
    match s.job? (field p 0 2) with
    | none => .err rNotFound 0
    | some d =>
      let one (i : Nat) : List Byte := match Tbl.get? s.route.ranks (d.base + field p 4 4 + i) with
        | some r => leBytes 8 r.word
        | none => zeros 8
      .ok s (leBytes 8 d.word ++ ((List.range (field p 2 2)).map one).flatten)
/-- JOB_QUERY (R556). -/
def execJobQuery (m : Fin 5) (s : State) : Out := (s.bci m cJobQuery (len 8) (fieldsJobQuery s) (workJobQuery s)).done

/-! ### Collective nodes

COLL_NODE_CREATE carries bytes 0 to 171 of the descriptor of R250 and answers NODE in bytes 0–1 and WINDOW_RKEY in bytes 4–7;
COLL_NODE_LINK carries NODE and the QPNs and keys at their offsets; COLL_NODE_DESTROY carries NODE (a layout the spec does not give,
log 47). NODE of a create names the member's stripe-0 node when STRIPE is not 0. -/

/-- Context numbers as objects name them: a host context, or an engine context with bit 15 set (R171, R250). -/
def ownerOk (c : Nat) : Bool := c < 4096 || (0x8000 ≤ c && c < 0x9000)

/-- The owner exists: engine contexts are Balyn's and always do (log 49). -/
def State.ownerExists (s : State) (c : Nat) : Bool := 0x8000 ≤ c || (s.ctx? c).isSome

/-- The mailbox may act on what a context owns (R363): what is an engine context's is the management PF's and the BMC's. -/
def State.mayActOn (s : State) (m c : Nat) : Bool := if 0x8000 ≤ c then m == 4 || s.isMgmt m else s.mayAct m (s.ctxEp c)

/-- SRAM a node reserves in its clearing unit (R260). -/
def Node.sram (x : Node) : Nat := 2 * x.slots * (2 ^ x.segLog2 * accBytes x.accClass * (if x.fixed then 1 + x.degree else 1))

/-- SRAM reserved in the clearing unit of a tile (R9, R260). -/
def State.cuReserved (s : State) (t : Nat) : Nat := ((s.nodes.filter fun e => e.2.tile / 4 == t / 4).map fun e => e.2.sram).sum

/-- The descriptor of R250 as the request spells it. -/
def nodeOf (p : List Byte) : Node :=
  { job := field p 2 2, owner := field p 4 2, tile := field p 6 2, rank := field p 8 4, members := field p 12 4, stripe := field p 16 1 % 16,
    stripes := field p 16 1 / 16 + 1, degree := field p 17 1, parentSlot := field p 18 1, root := bit (field p 19 1) 0,
    fixed := bit (field p 19 1) 1, prot := bit (field p 19 1) 2, accClass := bits (field p 19 1) 4 3, segLog2 := field p 20 1,
    slots := field p 21 1, st := .linking, next := 0, parentQpn := field p 24 4, parentRkey := field p 28 4,
    childQpn := (List.range 16).map fun k => field p (32 + 4 * k) 4, childRkey := (List.range 16).map fun k => field p (96 + 4 * k) 4,
    windowRkey := 0, releaseDelay := dflt (field p 164 2) 10, backoff := dflt (field p 166 2) 5, timeoutMs := field p 168 4,
    lead := field p 0 2, insts := [], skipped := [], failRank := 0 }

/-- Fields of the QPNs and keys: those of edges the node does not have are zero. -/
def fEdges (p : List Byte) (root : Bool) (degree : Nat) : List Fld :=
  let qpn (off : Nat) (used : Bool) : Fld := fIf p off 4 fun v => if used then v < 4194304 else v == 0
  let key (off : Nat) (used : Bool) : Fld := fIf p off 4 fun v => used || v == 0
  [qpn 24 (!root), key 28 (!root)] ++ ((List.range 16).map fun k => qpn (32 + 4 * k) (k < degree))
    ++ (List.range 16).map fun k => key (96 + 4 * k) (k < degree)

/-- A QP meets R251 for a node. -/
def State.edgeOk (s : State) (x : Node) (qpn : Nat) : Bool :=
  match s.qp? qpn with
  | some q => q.owner == x.owner && qpn % 64 == x.tile && q.job == x.job
  | none => false

/-- The QPs named that do not exist, and those that break R251, with the offsets of their fields. -/
def State.edgeRefusals (s : State) (x : Node) (named : Nat → Bool) : List (Bool × Nat × Nat) :=
  let l := ((24, x.parentQpn) :: (List.range 16).map fun k => (32 + 4 * k, x.childQpn.getD k 0)).filter fun e =>
    x.edges.contains e.2 && named e.2
  (l.map fun e => ((s.qp? e.2).isNone, rNotFound, e.1)) ++ l.map fun e => (!s.edgeOk x e.2, rState, e.1)

def cCollNodeCreate : BciCmd := { code := 0x0604, long := false, a3 := false, who := .pm }
/-- The fields of CollNodeCreate's payload. -/
def fieldsCollNodeCreate (p : List Byte) : List Fld :=
      [fIf p 0 2 fun n => n < 16384 && (n == 0 || field p 16 1 % 16 != 0), fAny 2 2,
       fIf p 4 2 fun c => ownerOk c && (decide (0x8000 ≤ c) == (field p 16 1 % 16 != 0)), fIf p 6 2 (· < 64), fIf p 8 4 (· < field p 12 4),
       fIf p 12 4 fun n => 1 ≤ n && n ≤ 262144, fIf p 16 1 fun v => v % 16 ≤ v / 16, fIf p 17 1 (· ≤ 16), fIf p 18 1 (· ≤ 15),
       fIf p 19 1 (· < 32), fIf p 20 1 fun v => 4 ≤ v && v ≤ 12, fIf p 21 1 fun v => 2 ≤ v && v ≤ 64, fIf p 164 2 (· ≤ 1000),
       fIf p 166 2 (· ≤ 1000), fAny 168 4] ++ fEdges p (bit (field p 19 1) 0) (field p 17 1)
/-- The work of execCollNodeCreate. -/
def workCollNodeCreate (m : Fin 5) (s : State) (p : List Byte) : Res :=
      let x := nodeOf p
      let prot := ((s.job? x.job).map (·.prot)).getD false
      let r := s.choose 14 (fun n => (s.node? n).isNone) ((List.range 16384).find? fun n => (s.node? n).isNone)
      let w := r.2.newIndex
      let leadOk := x.stripe == 0 || match s.node? x.lead with
        | some y => y.stripe == 0 && y.job == x.job
        | none => false
      let mates := s.memberNodes x.lead
      let again := x.stripe != 0 && mates.any fun e => e.2.stripe == x.stripe || e.2.stripes != x.stripes
      let numbered (y : Node) : Node := match s.node? x.lead with
        | some z => if x.stripe = 0 then y else { y with next := z.next, skipped := z.skipped }
        | none => y
      guardBci ([((s.job? x.job).isNone, rNotFound, 2), (!s.ownerExists x.owner, rNotFound, 4), (!leadOk, rNotFound, 0),
                 (!s.mayActOn m x.owner, rDenied, 4), (s.ctxHeld x.owner, rBusy, 4)]
                ++ s.edgeRefusals x (· != 0)
                ++ [(s.ctxTile x.owner != x.tile, rState, 6), (again, rState, 16), (x.prot != prot, rProtConflict, 19),
                    (r.1.isNone || w.1.isNone || decide (4194304 < s.cuReserved x.tile + x.sram), rNoResource, 0)])
        (match r.1, w.1 with
          | some n, some i =>
            let tag := s.nextTag i
            let region : Region :=
              { tag := tag, kind := .cuWindow, perm := 8, valid := true, prot := prot, user := false, job := x.job, owner := x.owner,
                base := n, size := 2 ^ 48, asid := 0, agent := 0, hold := none, registering := false }
            let key := 256 * i + tag
            .ok ((w.2.setRegion i region).setNode n (numbered { x with windowRkey := key, lead := if x.stripe = 0 then n else x.lead }))
              (leBytes 2 n ++ zeros 2 ++ leBytes 4 key)
          | _, _ => .err rNoResource 0)
/-- COLL_NODE_CREATE (R250 to R253, R260). -/
def execCollNodeCreate (m : Fin 5) (s : State) : Out := (s.bci m cCollNodeCreate (len 172) fieldsCollNodeCreate (workCollNodeCreate m s)).done

/-- Refusals of a command that names an existing node in bytes 0–1. -/
def State.nodeRefusals (s : State) (m n : Nat) : List (Bool × Nat × Nat) :=
  match s.node? n with
  | none => [(true, rNotFound, 0)]
  | some x => [(!s.mayActOn m x.owner, rDenied, 0), (s.ctxHeld x.owner, rBusy, 0)]

def cCollNodeLink : BciCmd := { code := 0x0605, long := false, a3 := false, who := .pm }
/-- The fields of CollNodeLink's payload. -/
def fieldsCollNodeLink (s : State) (p : List Byte) : List Fld := fIf p 0 2 (· < 16384) :: match s.node? (field p 0 2) with
      | some x => fEdges p x.root x.degree
      | none => [fAny 24 136]
/-- The work of execCollNodeLink. -/
def workCollNodeLink (m : Fin 5) (s : State) (p : List Byte) : Res :=
    match s.node? (field p 0 2) with
    | none => .err rNotFound 0
    | some x =>
      let y := { x with parentQpn := field p 24 4, parentRkey := field p 28 4, childQpn := (List.range 16).map fun k => field p (32 + 4 * k) 4,
                        childRkey := (List.range 16).map fun k => field p (96 + 4 * k) 4, st := .ready }
      guardBci (s.nodeRefusals m (field p 0 2) ++ s.edgeRefusals y (fun _ => true) ++ [(x.st != .linking, rState, 0)])
        (.ok (s.setNode (field p 0 2) y) [])
/-- COLL_NODE_LINK (R253): it supplies every QPN and key. -/
def execCollNodeLink (m : Fin 5) (s : State) : Out := (s.bci m cCollNodeLink (len 160) (fieldsCollNodeLink s) (workCollNodeLink m s)).done

def cCollNodeDestroy : BciCmd := { code := 0x0606, long := false, a3 := false, who := .pmb }
/-- The fields of CollNodeDestroy's payload. -/
def fieldsCollNodeDestroy (p : List Byte) : List Fld := [fIf p 0 2 (· < 16384)]
/-- The work of execCollNodeDestroy. -/
def workCollNodeDestroy (m : Fin 5) (s : State) (p : List Byte) : Res :=
    match s.node? (field p 0 2) with
    | none => .err rNotFound 0
    | some x => guardBci (s.nodeRefusals m (field p 0 2)) (.ok (s.destroyMember x.lead false) [])
/-- COLL_NODE_DESTROY (R253): the nodes of a member go together. -/
def execCollNodeDestroy (m : Fin 5) (s : State) : Out := (s.bci m cCollNodeDestroy (len 2) fieldsCollNodeDestroy (workCollNodeDestroy m s)).done

end Sys2Proof.Machine
end

