-- ==== Sys2Proof/Machine/BciQp.lean ====
section
/-! DEFINITION. The QP group of the BCI (R163 to R172, R205, R214, R368, R418, R419). -/
namespace Sys2Proof.Machine

/-! ### Handles and traffic keys (R415, R416, R418) -/

/-- HANDLE: the index in bits [9:0], the reuse count in bits [31:16] (R415). -/
def handleOf (index reuse : Nat) : Nat := index + at_ (reuse % 65536) 16

/-- The handle a HANDLE names: not free, and of the same reuse count. -/
def State.handle? (s : State) (h : Nat) : Option KeyHandle :=
  let x := Tbl.getD s.sec.handles (h % 1024) KeyHandle.reset
  if x.st ≠ .free ∧ h = handleOf (h % 1024) x.reuse then some x else none

/-- A string as bytes. -/
def ascii (l : List Nat) : List Byte := l.map fun n => BitVec.ofNat 8 n

/-- One end of a connection: FEID, QPN and GEN (R418). -/
structure KeyEnd where
  feid : Nat
  qpn : Nat
  gen : Nat
deriving DecidableEq, Repr

def KeyEnd.bytes (e : KeyEnd) : List Byte := leBytes 4 e.feid ++ leBytes 4 e.qpn ++ leBytes 1 e.gen
def KeyEnd.order (e : KeyEnd) : Nat := e.feid * 4194304 + e.qpn

/-- The traffic key of a connection (R418). -/
def trafficKey (kjob : List Byte) (job : Nat) (a b : KeyEnd) : List Byte :=
  let lo := if a.order ≤ b.order then a else b
  let hi := if a.order ≤ b.order then b else a
  Config.shake256 32 (ascii [0x41, 0x56, 0x4E, 0x2D, 0x54, 0x52, 0x46] ++ kjob ++ leBytes 2 job ++ lo.bytes ++ hi.bytes)

/-! ### QP_CREATE -/

/-- The module's choice of a free QPN of a tile (R163). -/
def State.newQpn (s : State) (tile : Nat) : Option Nat × State :=
  let free (i : Nat) : Bool := decide (i < 65536) && (s.qp? (64 * i + tile)).isNone
  let r := s.choose 16 free ((List.range (s.qps.length + 1)).find? free)
  (r.1.map fun i => 64 * i + tile, r.2)

/-- Pinned QPs of a tile (R205). -/
def State.pinned (s : State) (tile : Nat) : Nat := (s.qps.filter fun e => e.2.pin && e.1 % 64 == tile).length

/-- A QP Balyn may move to its context's spill area: connected, idle, not pinned, not protected (R205, R419). -/
def State.spillable (s : State) (q : Qp) : Bool :=
  q.st == .rts && !q.pin && !q.prot && !q.spilled && !q.fetchingCtx
    && q.chans.all (fun c => c.msgs.isEmpty && c.tracks.isEmpty && c.rsps.isEmpty && c.ackFrom.isNone && c.slots.all fun e => !e.2.busy)
    && match s.ctx? q.owner with
      | some x => x.spillVa != 0 && decide (256 + 3 * 2 ^ q.winLog2 * 2 ≤ x.spillSize)
      | none => false

/-- Making room for a new QP, Balyn may move an idle one to its spill area: its choice (R205, log 50). -/
def State.maySpill (s : State) : State :=
  let r := s.fresh 1
  match r.2.qps.find? fun e => r.2.spillable e.2 with
  | some e => if r.1 = 1 then (r.2.setQp e.1 { e.2 with spilled := true }).modTile (e.1 % 64) fun t =>
      { t with cached := t.cached.filter (· ≠ e.1) } else r.2
  | none => r.2

/-- The slots of a new QP. -/
def slotOfByte (b : Nat) (en : Bool) : Chan := { Chan.reset with en := en, tc := b % 8, ordered := bit b 4 }

def cQpCreate : BciCmd := { code := 0x0700, long := false, a3 := false, who := .pm }
/-- The fields of QpCreate's payload. -/
def fieldsQpCreate (p : List Byte) : List Fld :=
      [fIf p 0 2 ownerOk, fAny 2 2, fIf p 4 1 fun v => v < 32 && !bit v 3,
       fIf p 5 1 fun v => v < 32 && !(bit v 3 && v % 8 == field p 4 1 % 8), fIf p 6 1 (· ≤ 5), fIf p 7 1 fun v => 8 ≤ v && v ≤ 14,
       fIf p 8 1 fun v => 1 ≤ v % 8 && !bit v 3 && 2 ≤ v / 16, fIf p 9 1 (· ≤ 1), fIf p 10 2 fun v => 1 ≤ v && v ≤ 1000,
       fIf p 12 2 (· ≤ 1000), fAny 16 4]
/-- The work of execQpCreate. -/
def workQpCreate (m : Fin 5) (s : State) (p : List Byte) : Res :=
    let c := field p 0 2
    let j := field p 2 2
    let tile := s.ctxTile c
    let prot := ((s.job? j).map (·.prot)).getD false
    let en1 := bit (field p 5 1) 3
    let pin := field p 4 1 % 8 == 0 || (en1 && field p 5 1 % 8 == 0)
    let keyOk := match s.handle? (field p 16 4) with
      | some h => h.st == .installed && h.job == j
      | none => false
    let lost := ((s.ctx? c).map (·.hostLost)).getD false
    let r := s.newQpn tile
    let w := r.2.maySpill.findWindow (3 * 2 ^ field p 7 1 * (1 + b2n en1))
    guardBci [(!s.ownerExists c, rNotFound, 0), ((s.job? j).isNone, rNotFound, 2), (!s.mayActOn m c, rDenied, 0), (s.ctxHeld c, rBusy, 0),
              (lost, rState, 0), (prot && !keyOk, rProtConflict, 16), (pin && decide (256 ≤ s.pinned tile), rNoResource, 4),
              (r.1.isNone || w.1.isNone, rNoResource, 0)]
      (match r.1, w.1 with
        | none, _ | _, none => .err rNoResource 0
        | some qpn, some window =>
          let gen := Tbl.getD s.gens qpn 0
          let q : Qp :=
            { st := .reset, errCode := 0, addrRank := ((s.ctx? c).map (·.addrRank)).getD false, prot := prot, pin := pin, spilled := false,
              fetchingCtx := false, tgtCqe := bit (field p 9 1) 0, hostLost := false, gen := gen, owner := c, job := j, peer := 0, pset := 0,
              peerGen := 0, peerQpn := 0, peerRank := 0, mtuCode := field p 6 1, winLog2 := field p 7 1, peerWinLog2 := 8,
              retryMax := field p 8 1 % 8, lifeMax := field p 8 1 / 16, rtoBase := field p 10 2, ackDelay := field p 12 2,
              window := window, handle := if prot then field p 16 4 else 0, tkey := none, keyErased := false, fetchFrom := 0, quarFrom := 0, freeing := false,
              chans := [slotOfByte (field p 4 1) true, slotOfByte (field p 5 1) en1] }
          .ok (w.2.setQp qpn q) (leBytes 4 qpn ++ leBytes 1 ((gen + 1) % 256) ++ leBytes 1 (b2n pin)))
/-- QP_CREATE (R163, R166 to R168, R205, R368). -/
def execQpCreate (m : Fin 5) (s : State) : Out := (s.bci m cQpCreate (len 20) fieldsQpCreate (workQpCreate m s)).done

/-! ### The other commands -/

/-- Refusals of a command that names a QP in bytes 0–3. -/
def State.qpRefusals (s : State) (m qpn : Nat) : List (Bool × Nat × Nat) :=
  match s.qp? qpn with
  | none => [(true, rNotFound, 0)]
  | some q => [(!s.mayActOn m q.owner, rDenied, 0), (s.ctxHeld q.owner, rBusy, 0)]

/-- The field QPN. -/
def fQpn (p : List Byte) : Fld := fIf p 0 4 (· < 4194304)

/-- A slot with the sequence numbers of START (R368). -/
def Chan.connect (c : Chan) (p : List Byte) (off : Nat) : Chan :=
  { Chan.reset with en := c.en, tc := c.tc, ordered := c.ordered, sndNext := field p off 3, sndCum := field p off 3,
                    rcvBase := field p (off + 3) 3, rspNext := field p (off + 6) 3, rspBase := field p (off + 6) 3,
                    sndSsn := field p (off + 9) 2, rcvSsn := field p (off + 11) 2 }

/-- The QP connected by the command. -/
def Qp.connect (q : Qp) (p : List Byte) : Qp :=
  { q with st := .rts, errCode := 0, gen := (q.gen + 1) % 256, peer := if q.addrRank then 0 else BitVec.ofNat 20 (field p 4 4),
           pset := if q.addrRank then 0 else bits (field p 4 4) 23 20, peerGen := bits (field p 4 4) 31 24, peerQpn := field p 8 4,
           peerRank := field p 12 4, peerWinLog2 := field p 16 1, chans := [(q.chan 0).connect p 20, if (q.chan 1).en then (q.chan 1).connect p 36 else q.chan 1] }

def cQpConnect : BciCmd := { code := 0x0701, long := false, a3 := false, who := .pm }
/-- The fields of QpConnect's payload. -/
def fieldsQpConnect (p : List Byte) : List Fld := [fQpn p, fAny 4 4, fIf p 8 4 (· < 4194304), fIf p 12 4 (· < 4194304), fIf p 16 1 (fun v => 8 ≤ v && v ≤ 14), fAny 20 13, fAny 36 13]
/-- The work of execQpConnect. -/
def workQpConnect (m : Fin 5) (s : State) (p : List Byte) : Res :=
      let qpn := field p 0 4
      match s.qp? qpn with
      | none => .err rNotFound 0
      | some q =>
        let y := q.connect p
        let peer := s.peerOf y
        let h := s.handle? q.handle
        let used := (h.map fun x => Tbl.getD x.byQpn qpn 0).getD 0
        let keyed := match h with
          | some x => x.st == .installed
          | none => false
        guardBci (s.qpRefusals m qpn ++ [(q.prot && peer.isNone, rNotFound, 12), (q.st != .reset || q.hostLost, rState, 0),
                  (q.prot && !keyed, rProtConflict, 0), (q.prot && decide (255 ≤ used), rNoResource, 0)])
          (match q.prot, h, peer with
            | true, some x, some r =>
              let mine : KeyEnd := { feid := (s.srcFeid q.owner).toNat, qpn := qpn, gen := y.gen }
              let theirs : KeyEnd := { feid := r.1.toNat, qpn := y.peerQpn, gen := y.peerGen }
              let s := s.modSec fun v => { v with
                handles := Tbl.set v.handles (q.handle % 1024) { x with byQpn := Tbl.set x.byQpn qpn (used + 1) } }
              .ok (s.setQp qpn { y with tkey := some (trafficKey x.kjob q.job mine theirs), keyErased := false }) (leBytes 1 y.gen)
            | _, _, _ => .ok (s.setQp qpn y) (leBytes 1 y.gen))
/-- QP_CONNECT (R168, R169, R214, R368, R419): a protected QP derives its traffic key. -/
def execQpConnect (m : Fin 5) (s : State) : Out := (s.bci m cQpConnect (len 52) fieldsQpConnect (workQpConnect m s)).done

def cQpReset : BciCmd := { code := 0x0702, long := false, a3 := false, who := .pm }
/-- The fields of QpReset's payload. -/
def fieldsQpReset (p : List Byte) : List Fld := [fQpn p]
/-- The work of execQpReset. -/
def workQpReset (m : Fin 5) (s : State) (p : List Byte) : Res :=
    match s.qp? (field p 0 4) with
    | none => .err rNotFound 0
    | some q =>
      guardBci (s.qpRefusals m (field p 0 4) ++ [(q.st != .rts && q.st != .err, rState, 0)]) (.ok (s.quarantine (field p 0 4) false) [])
/-- QP_RESET (R168): from RTS or ERR. -/
def execQpReset (m : Fin 5) (s : State) : Out := (s.bci m cQpReset (len 4) fieldsQpReset (workQpReset m s)).done

def cQpDestroy : BciCmd := { code := 0x0703, long := false, a3 := false, who := .pmb }
/-- The fields of QpDestroy's payload. -/
def fieldsQpDestroy (p : List Byte) : List Fld := [fQpn p]
/-- The work of execQpDestroy. -/
def workQpDestroy (m : Fin 5) (s : State) (p : List Byte) : Res :=
    match s.qp? (field p 0 4) with
    | none => .err rNotFound 0
    | some q =>
      guardBci (s.qpRefusals m (field p 0 4) ++ [(q.st == .rts, rState, 0)])
        (if q.st = .quarantine then .ok (s.setQp (field p 0 4) { q with freeing := true }) [] else .ok (s.quarantine (field p 0 4) true) [])
/-- QP_DESTROY (R168): from RESET, ERR or QUARANTINE; the QPN is freed when the timer expires. -/
def execQpDestroy (m : Fin 5) (s : State) : Out := (s.bci m cQpDestroy (len 4) fieldsQpDestroy (workQpDestroy m s)).done

/-- STATE (R167). -/
def QpSt.code : QpSt → Nat
  | .reset => 0 | .rts => 1 | .err => 2 | .quarantine => 3

/-- A channel slot as R172 lays it out; bytes 44 to 63 are the module's own. -/
def Chan.bytes (c : Chan) (own : List Byte) : List Byte :=
  let lo (n : Nat) : List Byte := leBytes 3 n
  let hi (n : Nat) : List Byte := leBytes 3 (n / 2 ^ 24)
  leBytes 1 (c.tc + at_ (b2n c.en) 3 + at_ (b2n c.ordered) 4) ++ lo c.sndNext ++ lo c.sndCum ++ lo c.rcvBase ++ lo c.rspNext ++ lo c.rspBase
    ++ leBytes 2 c.sndSsn ++ leBytes 2 c.rcvSsn ++ lo c.asnTx ++ lo c.asnRx ++ hi c.sndNext ++ hi c.rcvBase ++ hi c.rspNext ++ hi c.rspBase
    ++ hi c.asnTx ++ hi c.asnRx ++ fit 20 own

/-- Bytes 0 to 175 of a QP context (R171). -/
def Qp.bytes (q : Qp) (qpn : Nat) (own0 own1 : List Byte) : List Byte :=
  let flags := b2n q.addrRank + 2 * b2n q.prot + 4 * b2n q.pin + 8 * b2n q.spilled + 16 * b2n q.tgtCqe + 32 * b2n q.hostLost
  leBytes 4 qpn ++ leBytes 1 q.st.code ++ leBytes 1 q.errCode ++ leBytes 1 flags ++ leBytes 1 q.gen ++ leBytes 2 q.owner ++ leBytes 2 q.job
    ++ leBytes 4 (q.peer.toNat + at_ q.pset 20 + at_ q.peerGen 24) ++ leBytes 4 q.peerQpn ++ leBytes 4 q.peerRank ++ leBytes 1 q.mtuCode
    ++ leBytes 1 q.winLog2 ++ leBytes 1 q.peerWinLog2 ++ leBytes 1 (q.retryMax + at_ q.lifeMax 4) ++ leBytes 2 q.rtoBase
    ++ leBytes 2 q.ackDelay ++ leBytes 8 q.window ++ leBytes 4 q.handle ++ zeros 4
    ++ (q.chan 0).bytes own0 ++ (q.chan 1).bytes own1

def cQpQuery : BciCmd := { code := 0x0704, long := false, a3 := false, who := .pmb }
/-- The fields of QpQuery's payload. -/
def fieldsQpQuery (p : List Byte) : List Fld := [fQpn p]
/-- The work of execQpQuery. -/
def workQpQuery (m : Fin 5) (s : State) (p : List Byte) : Res :=
    match s.qp? (field p 0 4) with
    | none => .err rNotFound 0
    | some q =>
      let a := s.fresh 160
      let b := a.2.fresh 160
      guardBci (s.qpRefusals m (field p 0 4)) (.ok b.2 (q.bytes (field p 0 4) (leBytes 20 a.1) (leBytes 20 b.1)))
/-- QP_QUERY (R171, R366): the module's own bytes of each slot are open (log 2). -/
def execQpQuery (m : Fin 5) (s : State) : Out := (s.bci m cQpQuery (len 4) fieldsQpQuery (workQpQuery m s)).done

end Sys2Proof.Machine
end

