-- ==== Sys2Proof/Machine/BciMem.lean ====
section
/-! DEFINITION. The memory regions group of the BCI, and the measurement log (R291, R295, R297 to R301, R303, R368, R411, R556). -/
namespace Sys2Proof.Machine

/-! ### Measurements (R411) -/

/-- A log entry's 96 bytes. -/
def Meas.bytes (e : Meas) : List Byte :=
  leBytes 4 e.index.toNat ++ leBytes 2 e.type ++ leBytes 2 (b2n e.ntInvalid) ++ leBytes 8 e.nt.toNat ++ leBytes 4 e.arg.toNat ++ zeros 12
    ++ fit 64 e.digest

/-- A measurement entry is added: ACC and the count advance, and the entry is kept while there is room. -/
def State.measure (s : State) (type arg : Nat) (digest : List Byte) : State :=
  let v := s.sec
  let e : Meas :=
    { index := v.measCount + 1, type := type, ntInvalid := !s.time.ntValid, nt := if s.time.ntValid then s.clk.nt else 0,
      arg := BitVec.ofNat 32 arg, digest := digest }
  let full := decide (1024 ≤ v.log.length)
  { s with sec := { v with acc := fit 64 (Config.shake256 64 (v.acc ++ e.bytes)), measCount := v.measCount + 1,
                           log := if full then v.log else v.log ++ [e], logTruncated := v.logTruncated || full } }

/-! ### Regions -/

/-- PERM, FLAGS, AGENT, BASE, SIZE and ASID agree with KIND and with the module (R297, R298, R368). -/
def State.fRegister (s : State) (p : List Byte) : List Fld :=
  let host := field p 0 1 == 1
  let bar4 := bit (field p 1 1) pBar4
  let prot := bit (field p 2 1) 1
  let owner := s.ctx? (field p 6 2)
  let agentOk (a : Nat) : Bool := match owner with
    | some x => a == x.ep / 2
    | none => a ≤ 1
  let asidOk (a : Nat) : Bool := match owner with
    | some x => a ≤ 4095 && s.asidOf x.ep a
    | none => a ≤ 4095
  [fIf p 0 1 (· ≤ 1), fIf p 1 1 fun v => v < 64 && !(bar4 && (host || s.boot.mcr.bar4Log2 == 0)),
   fIf p 2 1 fun v => v < 8 && !bit v 0 && !(prot && (host || bar4)), fIf p 3 1 fun a => if host then agentOk a else a == 0, fAny 4 2,
   fCtx p 6, fIf p 8 8 fun b => if host then b < 2 ^ 48 else b == 0, fIf p 16 8 fun n => 1 ≤ n && n ≤ (if host then 2 ^ 48 else 2 ^ 37),
   fIf p 24 2 fun a => if host then asidOk a else a == 0]

/-- The end of the chunks a region may take: within BAR4 when it is mapped there (R298). -/
def State.runLimit (s : State) (bar4 : Bool) : Nat :=
  if bar4 then min poolChunks (2 ^ s.boot.mcr.bar4Log2 / chunkBytes) else poolChunks

def cRegRegister : BciCmd := { code := 0x0800, long := true, a3 := false, who := .pm }
/-- The work of execRegRegister. -/
def workRegRegister (m : Fin 5) (s : State) (p : List Byte) : Res :=
    let c := field p 6 2
    let j := field p 4 2
    let host := field p 0 1 == 1
    let prot := bit (field p 2 1) 1
    let size := field p 16 8
    let r := s.newIndex
    let run := if host then (some 0, r.2) else r.2.findRun (chunksOf size) (s.runLimit (bit (field p 1 1) pBar4))
    guardBci [((s.job? j).isNone, rNotFound, 4), ((s.ctx? c).isNone, rNotFound, 6), (!s.mayAct m (s.ctxEp c), rDenied, 0),
              (s.ctxHeld c, rBusy, 0), (((s.ctx? c).map (·.hostLost)).getD false, rState, 6),
              (prot && !((s.job? j).map (·.prot)).getD false, rProtConflict, 2), (r.1.isNone || run.1.isNone, rNoResource, 0)]
      (match r.1, run.1 with
        | some i, some chunk =>
          let tag := s.nextTag i
          let region : Region :=
            { tag := tag, kind := if host then .host else .hbm, perm := field p 1 1, valid := false, prot := prot,
              user := bit (field p 2 1) 2, job := j, owner := c, base := if host then field p 8 8 else poolBase + chunkBytes * chunk,
              size := size, asid := field p 24 2, agent := field p 3 1, hold := none, registering := true }
          .accepted (run.2.setRegion i region) (.regRegister i) (leBytes 4 (256 * i + tag))
        | _, _ => .err rNoResource 0)
/-- REG_REGISTER (R297, R298, R368): the index and the chunks are taken, and the RKEY answered. -/
def execRegRegister (m : Fin 5) (s : State) : Out := (s.bci m cRegRegister (len 26) s.fRegister (workRegRegister m s)).done

/-- REG_REGISTER_DONE (R295, R368): the chunks are zeroed and the region reads VALID. One that KEY_WITHDRAW has taken away meanwhile ends
PROT_CONFLICT (log 51). -/
def execRegRegisterDone (m : Fin 5) (token : U32) (s : State) : Out :=
  match s.long? m.val token with
  | some l =>
    match l.work with
    | .regRegister i =>
      match s.region? i with
      | some r =>
        if r.registering then
          let s := if r.kind = .hbm then s.hbmZero r.base (chunkBytes * chunksOf r.size) else s
          let off := if bit r.perm pBar4 then r.base - poolBase else 2 ^ 64 - 1
          ((s.setRegion i { r with valid := true, registering := false }).finish m.val l rOk
            (leBytes 4 (256 * i + r.tag) ++ zeros 4 ++ leBytes 8 off)).done
        else (s.finish m.val l rProtConflict []).done
      | none => .next s
    | _ => .next s
  | none => .next s

/-- The region an RKEY names, one still being registered among them. -/
def State.namedRegion (s : State) (key : Nat) : Option Region :=
  match s.region? (key / 256) with
  | some r => if (r.valid || r.registering) && r.tag == key % 256 then some r else none
  | none => none

/-- Refusals of a command that names a region in bytes 0–3. -/
def State.regionRefusals (s : State) (m key : Nat) : List (Bool × Nat × Nat) :=
  match s.namedRegion key with
  | none => [(true, rNotFound, 0)]
  | some r => [(!s.mayActOn m r.owner, rDenied, 0), (s.regionHeld (key / 256), rBusy, 0)]

def cRegDeregister : BciCmd := { code := 0x0801, long := false, a3 := false, who := .pmb }
/-- The fields of RegDeregister's payload. -/
def fieldsRegDeregister (_ : List Byte) : List Fld := [fAny 0 4]
/-- The work of execRegDeregister. -/
def workRegDeregister (m : Fin 5) (s : State) (p : List Byte) : Res :=
    guardBci (s.regionRefusals m (field p 0 4)) (.ok (s.deregister (field p 0 4 / 256)) [])
/-- REG_DEREGISTER (R299). -/
def execRegDeregister (m : Fin 5) (s : State) : Out := (s.bci m cRegDeregister (len 4) fieldsRegDeregister (workRegDeregister m s)).done

/-- KIND (R297). -/
def RegKind.code : RegKind → Nat
  | .hbm => 0 | .host => 1 | .cuWindow => 2

/-- Bytes 0 to 26 of a region descriptor (R297). -/
def Region.bytes (r : Region) : List Byte :=
  leBytes 1 r.tag ++ leBytes 1 r.kind.code ++ leBytes 1 r.perm ++ leBytes 1 (b2n r.valid + 2 * b2n r.prot + 4 * b2n r.user) ++ leBytes 2 r.job
    ++ leBytes 2 r.owner ++ leBytes 8 r.base ++ leBytes 8 r.size ++ leBytes 2 r.asid ++ leBytes 1 r.agent

def cRegQuery : BciCmd := { code := 0x0802, long := false, a3 := false, who := .pmb }
/-- The fields of RegQuery's payload. -/
def fieldsRegQuery (_ : List Byte) : List Fld := [fAny 0 4]
/-- The work of execRegQuery. -/
def workRegQuery (m : Fin 5) (s : State) (p : List Byte) : Res :=
    match s.namedRegion (field p 0 4) with
    | none => .err rNotFound 0
    | some r => guardBci (s.regionRefusals m (field p 0 4)) (.ok s r.bytes)
/-- REG_QUERY (R297, R366). -/
def execRegQuery (m : Fin 5) (s : State) : Out := (s.bci m cRegQuery (len 4) fieldsRegQuery (workRegQuery m s)).done

/-! ### ASIDs -/

/-- ROOT: the physical address of a level-3 table (R556). -/
def rootOk (v : Nat) : Bool := v % 4096 == 0 && v < 2 ^ 52

/-- The module's choice of a free ASID of a host agent. -/
def State.newAsid (s : State) (agent : Nat) : Option Nat × State :=
  let free (a : Nat) : Bool := decide (a < 4096) && (s.asidEp agent a).isNone
  s.choose 12 free ((List.range 4096).find? free)

def cAsidAlloc : BciCmd := { code := 0x0803, long := false, a3 := false, who := .pm }
/-- The fields of AsidAlloc's payload. -/
def fieldsAsidAlloc (p : List Byte) : List Fld := [fIf p 0 1 fun e => e ≤ 3 || e == 0xFF, fIf p 8 8 rootOk]
/-- The work of execAsidAlloc. -/
def workAsidAlloc (m : Fin 5) (s : State) (p : List Byte) : Res :=
    let e := namedEp m (field p 0 1)
    let r := s.newAsid (e / 2)
    guardBci [(!s.formed e, rNotFound, 0), (!s.mayAct m e, rDenied, 0), (r.1.isNone, rNoResource, 0)]
      (match r.1 with
        | none => .err rNoResource 0
        | some a =>
          let x : AsidRec := { ep := e, root := some (field p 8 8 / 4096) }
          .ok (r.2.modMem fun q => { q with asids := Tbl.set q.asids (4096 * (e / 2) + a) x }) (leBytes 2 a ++ leBytes 1 (e / 2)))
/-- ASID_ALLOC (R303, R556). -/
def execAsidAlloc (m : Fin 5) (s : State) : Out := (s.bci m cAsidAlloc (len 16) fieldsAsidAlloc (workAsidAlloc m s)).done

/-- Refusals of a command that names an ASID in bytes 0 to 3. -/
def State.asidRefusals (s : State) (m agent asid : Nat) : List (Bool × Nat × Nat) :=
  match s.asidEp agent asid with
  | none => [(true, rNotFound, 2)]
  | some e => [(!s.mayAct m e, rDenied, 0)]

/-- The fields AGENT and ASID. -/
def fAsid (p : List Byte) : List Fld := [fIf p 0 1 (· ≤ 1), fIf p 2 2 (· ≤ 4095)]

def cAsidSetRoot : BciCmd := { code := 0x0804, long := false, a3 := false, who := .pm }
/-- The fields of AsidSetRoot's payload. -/
def fieldsAsidSetRoot (p : List Byte) : List Fld := fAsid p ++ [fIf p 8 8 rootOk]
/-- The work of execAsidSetRoot. -/
def workAsidSetRoot (m : Fin 5) (s : State) (p : List Byte) : Res :=
    let key := 4096 * field p 0 1 + field p 2 2
    match Tbl.get? s.mem.asids key with
    | none => .err rNotFound 2
    | some x =>
      guardBci (s.asidRefusals m (field p 0 1) (field p 2 2))
        (.ok (s.modMem fun q => { q with asids := Tbl.set q.asids key { x with root := some (field p 8 8 / 4096) } }) [])
/-- ASID_SET_ROOT (R556): the host invalidates by R309. -/
def execAsidSetRoot (m : Fin 5) (s : State) : Out := (s.bci m cAsidSetRoot (len 16) fieldsAsidSetRoot (workAsidSetRoot m s)).done

/-- A region uses an ASID of a host agent. -/
def State.asidUsed (s : State) (agent asid : Nat) : Bool :=
  s.mem.regions.any fun e => (e.2.valid || e.2.registering) && e.2.kind == .host && e.2.agent == agent && e.2.asid == asid

def cAsidFree : BciCmd := { code := 0x0805, long := false, a3 := false, who := .pmb }
/-- The work of execAsidFree. -/
def workAsidFree (m : Fin 5) (s : State) (p : List Byte) : Res :=
    guardBci (s.asidRefusals m (field p 0 1) (field p 2 2) ++ [(s.asidUsed (field p 0 1) (field p 2 2), rState, 2)])
      (.ok (s.modMem fun q => { q with asids := Tbl.erase q.asids (4096 * field p 0 1 + field p 2 2) }) [])
/-- ASID_FREE (R366). -/
def execAsidFree (m : Fin 5) (s : State) : Out := (s.bci m cAsidFree (len 4) fAsid (workAsidFree m s)).done

/-! ### The interleave key -/

def cHbmExposeKey : BciCmd := { code := 0x0806, long := false, a3 := false, who := .mb }
/-- The work of execHbmExposeKey. -/
def workHbmExposeKey (s : State) (_ : List Byte) : Res :=
    guardBci [(s.route.jobs.any fun e => e.2.prot, rProtConflict, 0)]
      (.ok ((s.modMem fun q => { q with expose := true, exposed := true }).measure 0x0012 0 (Config.shake256 64 (zeros 64))) [])
/-- HBM_EXPOSE_KEY (R291, R411): refused while a protected job exists. -/
def execHbmExposeKey (m : Fin 5) (s : State) : Out := (s.bci m cHbmExposeKey (len 0) noFields (workHbmExposeKey s)).done

end Sys2Proof.Machine
end

