-- ==== Sys2Proof/Machine/BciKeys.lean ====
section
/-! DEFINITION. Certificates, measurements, attestation and job keys (R411 to R421). -/
namespace Sys2Proof.Machine

/-- Sets a bit of SEC.INT_STATUS: AUTH_FAIL 0, KEY_INSTALLED 1, KEY_WITHDRAWN 2, FUSE_DONE 3, RNG_FAIL 4 (R422). -/
def State.secInt (s : State) (b : Nat) : State :=
  let old := s.sec.intStatus
  let new := old ||| BitVec.ofNat 5 (2 ^ b)
  (s.modSec fun v => { v with intStatus := new }).notify old new s.sec.intEnable

def State.setHandle (s : State) (i : Nat) (h : KeyHandle) : State := s.modSec fun v => { v with handles := Tbl.set v.handles i h }

/-! ### Identity and measurements -/

/-- The identity key pair, public and private, that the vault derives at every device reset (R412). -/
def identityKeys : List Byte × List Byte :=
  let h := fit 96 (Config.shake256 96 (ascii [0x41, 0x56, 0x4E, 0x2D, 0x49, 0x44] ++ Config.identitySeed))
  Config.slhKeygen (h.take 32) ((h.drop 32).take 32) (h.drop 64)

/-- "AVN6410-ATTEST", the context string of the report's signature (R412). -/
def attestContext : List Byte := ascii [0x41, 0x56, 0x4E, 0x36, 0x34, 0x31, 0x30, 0x2D, 0x41, 0x54, 0x54, 0x45, 0x53, 0x54]

/-- The chain blob (R413): "HDLDCRT", VERSION, COUNT, and each certificate after its length. -/
def certChain : List Byte :=
  let one (c : List Byte) : List Byte := leBytes 4 c.length ++ c
  ascii [0x48, 0x44, 0x4C, 0x44, 0x43, 0x52, 0x54, 0x01] ++ leBytes 4 3 ++ one (Config.deviceCert Config.serial identityKeys.1) ++ one Config.caCert
    ++ one Config.rootCert

def cGetCertChain : BciCmd := { code := 0x0102, long := false, a3 := false, who := .all }
/-- The fields of GetCertChain's payload. -/
def fieldsGetCertChain (_ : List Byte) : List Fld := [fAny 0 4]
/-- The work of execGetCertChain. -/
def workGetCertChain (s : State) (p : List Byte) : Res := .ok s (blobRead certChain (field p 0 4))
/-- GET_CERT_CHAIN (R413, R415). -/
def execGetCertChain (m : Fin 5) (s : State) : Out := (s.bci m cGetCertChain (len 4) fieldsGetCertChain (workGetCertChain s)).done

def cGetMeasurements : BciCmd := { code := 0x0103, long := false, a3 := false, who := .all }
/-- The fields of GetMeasurements's payload. -/
def fieldsGetMeasurements (p : List Byte) : List Fld := [fIf p 0 1 (· ≤ 1), fAny 4 4]
/-- The work of execGetMeasurements. -/
def workGetMeasurements (m : Fin 5) (s : State) (p : List Byte) : Res :=
    if field p 0 1 = 0 then .ok s (blobRead (s.sec.log.map Meas.bytes).flatten (field p 4 4))
    else match Tbl.get? s.sec.reports m.val with
      | some r => .ok s (blobRead r (field p 4 4))
      | none => .err rNotFound 0
/-- GET_MEASUREMENTS (R411, R414, R415): the log, or the mailbox's last report. -/
def execGetMeasurements (m : Fin 5) (s : State) : Out := (s.bci m cGetMeasurements (len 8) fieldsGetMeasurements (workGetMeasurements m s)).done

/-! ### Attestation (R414) -/

/-- STATE (R416). -/
def HandleSt.code : HandleSt → Nat
  | .free => 0 | .open_ => 1 | .installed => 2

/-- KEY_CHECK of a job key (R418). -/
def keyCheck (kjob : List Byte) : List Byte := fit 16 (Config.shake256 16 (ascii [0x41, 0x56, 0x4E, 0x2D, 0x43, 0x48, 0x4B] ++ kjob))

/-- The image the mint booted. -/
def Fw.image (f : Fw) : Option ImageHdr := f.running.bind fun i => (f.slots.getD i { hdr := none, valid := false }).hdr

/-- HANDLE of a request that names none. -/
def noHandle : Nat := 0xFFFFFFFF

/-- Bytes 0 to 511 of a report: NONCE and HANDLE as the request gives them (R414). -/
def State.reportBody (s : State) (p : List Byte) : List Byte :=
  let v := s.sec
  let h := s.handle? (field p 64 4)
  let img := s.fw.image
  let st := (h.map (·.st)).getD .free
  ascii [0x48, 0x44, 0x4C, 0x44, 0x41, 0x54, 0x54, 0x01] ++ fit 64 p ++ leBytes 8 Config.serial.toNat ++ leBytes 2 0x6410 ++ leBytes 1 0x10
    ++ leBytes 1 (b2n v.orderO + 2 * b2n v.ownerRequired + 4 * b2n s.fw.trial + 8 * b2n s.mem.exposed + 16 * b2n v.logTruncated
        + 32 * b2n (!s.time.ntValid))
    ++ leBytes 4 s.moduleWord ++ leBytes 8 s.clk.nt.toNat ++ leBytes 1 v.fusedSvn ++ leBytes 1 ((img.map fun i : ImageHdr => i.svn).getD 0)
    ++ leBytes 1 (s.fw.running.getD 0) ++ zeros 5 ++ leBytes 8 ((img.map fun i : ImageHdr => i.version).getD 0).toNat ++ leBytes 4 v.measCount.toNat ++ zeros 12
    ++ fit 64 v.acc ++ fit 64 v.ownerHash ++ fit 64 identityKeys.1 ++ leBytes 4 (field p 64 4) ++ leBytes 2 ((h.map (·.job)).getD 0)
    ++ leBytes 1 st.code ++ zeros 1
    ++ (match h with
        | some x => if x.st = .open_ then fit 64 (Config.shake256 64 x.ek) else zeros 64
        | none => zeros 64)
    ++ (match h with
        | some x => if x.st = .installed then fit 16 x.keyCheck else zeros 16
        | none => zeros 16) ++ zeros 104

/-- The index of the handle an ATTEST holds. -/
def attestHandle (p : List Byte) : Option Nat := if field p 64 4 = noHandle then none else some (field p 64 4 % 1024)

/-- Refusals of a command that names a key handle at offset `off`. -/
def State.handleRefusals (s : State) (h off : Nat) : List (Bool × Nat × Nat) :=
  [((s.handle? h).isNone, rNotFound, off), (((s.handle? h).map (·.held)).getD false, rBusy, 0)]

/-- A handle is held by a long command, or no longer (R362). -/
def State.holdHandle (s : State) (i : Nat) (b : Bool) : State :=
  match Tbl.get? s.sec.handles i with
  | some x => s.setHandle i { x with held := b }
  | none => s

def cAttest : BciCmd := { code := 0x0104, long := true, a3 := false, who := .all }
/-- The fields of Attest's payload. -/
def fieldsAttest (_ : List Byte) : List Fld := [fAny 0 64, fAny 64 4]
/-- The report of mailbox `m` is no longer readable (R414). -/
def State.dropReport (s : State) (m : Nat) : State := s.modSec fun v => { v with reports := Tbl.erase v.reports m }
/-- The work of execAttest. -/
def workAttest (m : Fin 5) (s : State) (p : List Byte) : Res :=
    let s := s.dropReport m.val
    match attestHandle p with
    | none => .accepted s (.attest p) []
    | some i => guardBci (s.handleRefusals (field p 64 4) 64) (.accepted (s.holdHandle i true) (.attest p) [])
/-- ATTEST (R414, R415): an accepted one ends the mailbox's earlier report. -/
def execAttest (m : Fin 5) (s : State) : Out := (s.bci m cAttest (len 68) fieldsAttest (workAttest m s)).done

/-- ATTEST_DONE (R412, R414): the report is signed over bytes 0 to 511 as they stand now. -/
def execAttestDone (m : Fin 5) (token : U32) (s : State) : Out :=
  match s.long? m.val token with
  | some l =>
    match l.work with
    | .attest p =>
      let body := fit 512 (s.reportBody p)
      let s := s.modSec fun v => { v with reports := Tbl.set v.reports m.val (body ++ fit 49856 (Config.slhSign identityKeys.2 attestContext body)) }
      let s := match attestHandle p with
        | some i => s.holdHandle i false
        | none => s
      (s.finish m.val l rOk (leBytes 4 50368)).done
    | _ => .next s
  | none => .next s

/-! ### Job keys (R416, R417) -/

/-- The module's choice of a free handle. -/
def State.newHandle (s : State) : Option Nat × State :=
  let free (i : Nat) : Bool := decide (i < 1024) && (Tbl.getD s.sec.handles i KeyHandle.reset).st == .free
  s.choose 10 free ((List.range 1024).find? free)

def cKeyKemOpen : BciCmd := { code := 0x0900, long := false, a3 := false, who := .all }
/-- The fields of KeyKemOpen's payload. -/
def fieldsKeyKemOpen (_ : List Byte) : List Fld := [fAny 0 2]
/-- The work of execKeyKemOpen. -/
def workKeyKemOpen (s : State) (p : List Byte) : Res :=
    let j := field p 0 2
    let r := s.newHandle
    guardBci [((s.job? j).isNone, rNotFound, 0), (!((s.job? j).map (·.prot)).getD false, rProtConflict, 0), (r.1.isNone, rNoResource, 0)]
      (match r.1 with
        | none => .err rNoResource 0
        | some i =>
          let seed := r.2.fresh 512
          let old := Tbl.getD s.sec.handles i KeyHandle.reset
          let h := { KeyHandle.reset with st := .open_, job := j, reuse := (old.reuse + 1) % 65536, seed := seed.1,
                                          ek := fit 1568 (Config.kemPublic seed.1), blob := zeros 1616 }
          .ok (seed.2.setHandle i h) (leBytes 4 (handleOf i h.reuse)))
/-- KEY_KEM_OPEN (R415, R416): a new key pair under the next reuse count of a handle. -/
def execKeyKemOpen (m : Fin 5) (s : State) : Out := (s.bci m cKeyKemOpen (len 2) fieldsKeyKemOpen (workKeyKemOpen s)).done

def cKeyKemPublic : BciCmd := { code := 0x0901, long := false, a3 := false, who := .all }
/-- The fields of KeyKemPublic's payload. -/
def fieldsKeyKemPublic (_ : List Byte) : List Fld := [fAny 0 4, fAny 4 4]
/-- The work of execKeyKemPublic. -/
def workKeyKemPublic (s : State) (p : List Byte) : Res :=
    match s.handle? (field p 0 4) with
    | none => .err rNotFound 0
    | some h => guardBci (s.handleRefusals (field p 0 4) 0) (.ok s (blobRead h.ek (field p 4 4)))
/-- KEY_KEM_PUBLIC (R415). -/
def execKeyKemPublic (m : Fin 5) (s : State) : Out := (s.bci m cKeyKemPublic (len 8) fieldsKeyKemPublic (workKeyKemPublic s)).done

/-- Bytes of a blob replaced from an offset. -/
def patch (l : List Byte) (off : Nat) (d : List Byte) : List Byte := l.take off ++ d ++ l.drop (off + d.length)

def cKeyCtWrite : BciCmd := { code := 0x0902, long := false, a3 := false, who := .all }
/-- The fields of KeyCtWrite's payload. -/
def fieldsKeyCtWrite (p : List Byte) : List Fld := [fAny 0 4, fIf p 4 2 (· < 1616), fIf p 6 2 fun n => 1 ≤ n && n ≤ 992 && field p 4 2 + n ≤ 1616, fAny 16 992]
/-- The work of execKeyCtWrite. -/
def workKeyCtWrite (s : State) (p : List Byte) : Res :=
    match s.handle? (field p 0 4) with
    | none => .err rNotFound 0
    | some h =>
      guardBci (s.handleRefusals (field p 0 4) 0 ++ [(h.st != .open_, rState, 0)])
        (.ok (s.setHandle (field p 0 4 % 1024) { h with blob := patch h.blob (field p 4 2) (fit (field p 6 2) (p.drop 16)) }) [])
/-- KEY_CT_WRITE (R415, R416): past byte 1,616 is BAD_PARAM. -/
def execKeyCtWrite (m : Fin 5) (s : State) : Out := (s.bci m cKeyCtWrite (fun p => 16 + field p 6 2) fieldsKeyCtWrite (workKeyCtWrite s)).done

/-- The job has an INSTALLED handle. -/
def State.jobKeyed (s : State) (j : Nat) : Bool := s.sec.handles.any fun e => e.2.st == .installed && e.2.job == j

def cKeyInstall : BciCmd := { code := 0x0903, long := true, a3 := false, who := .all }
/-- The fields of KeyInstall's payload. -/
def fieldsKeyInstall (_ : List Byte) : List Fld := [fAny 0 4]
/-- The work of execKeyInstall. -/
def workKeyInstall (s : State) (p : List Byte) : Res :=
    match s.handle? (field p 0 4) with
    | none => .err rNotFound 0
    | some h =>
      let i := field p 0 4 % 1024
      guardBci (s.handleRefusals (field p 0 4) 0 ++ [(s.jobKeyed h.job, rExists, 0), (h.st != .open_, rState, 0)])
        (.accepted (s.holdHandle i true) (.keyInstall i) [])
/-- KEY_INSTALL (R416, R417). -/
def execKeyInstall (m : Fin 5) (s : State) : Out := (s.bci m cKeyInstall (len 4) fieldsKeyInstall (workKeyInstall s)).done

/-- K_job as the blob of handle `i` carries it (R417, R418). -/
def KeyHandle.unwrap (h : KeyHandle) (i : Nat) : Option (List Byte) :=
  let bound := leBytes 8 Config.serial.toNat ++ leBytes 2 h.job ++ leBytes 4 (handleOf i h.reuse)
  let kek := Config.shake256 32 (ascii [0x41, 0x56, 0x4E, 0x2D, 0x4B, 0x45, 0x4B] ++ Config.kemDecaps h.seed (h.blob.take 1568) ++ bound)
  Config.gcmOpen kek 0 bound (h.blob.drop 1568)

/-- KEY_INSTALL_DONE (R416, R417): the key is kept, or the install fails, the 16th time for good. -/
def execKeyInstallDone (m : Fin 5) (token : U32) (s : State) : Out :=
  match s.long? m.val token with
  | some l =>
    match l.work with
    | .keyInstall i =>
      let h := Tbl.getD s.sec.handles i KeyHandle.reset
      if h.st ≠ .open_ ∨ s.jobKeyed h.job = true then ((s.holdHandle i false).finish m.val l rExists []).done
      else match h.unwrap i with
        | some k =>
          let h := { h with st := .installed, held := false, kjob := k, keyCheck := keyCheck k, blob := [], seed := 0 }
          (((s.setHandle i h).secInt 1).finish m.val l rOk (fit 16 (keyCheck k))).done
        | none =>
          let h := if h.fails < 15 then { h with fails := h.fails + 1, held := false } else { KeyHandle.reset with reuse := h.reuse }
          ((s.setHandle i h).finish m.val l rBadParam []).done
    | _ => .next s
  | none => .next s

/-- The oldest unfinished message of a QP: the one a withdrawn key stops (R168). -/
def Qp.oldest (q : Qp) : Option (Nat × Nat) :=
  match (q.chan 0).msgs.head?, (q.chan 1).msgs.head? with
  | some m, _ => some (0, m.id)
  | none, some m => some (1, m.id)
  | none, none => none

/-- The keys of a job are withdrawn (R420). -/
def State.withdraw (s : State) (j : Nat) : State :=
  let s := s.qps.foldl (fun s e =>
    if e.2.prot && e.2.job == j then
      let s := if e.2.st = .rts then s.stopQp e.1 .err ccProtected e.2.oldest ccProtected else s
      s.modQp e.1 fun q => { q with tkey := none, keyErased := q.keyErased || q.tkey.isSome }
    else s) s
  let s := s.mem.regions.foldl (fun s e =>
    if e.2.prot && e.2.job == j && (e.2.valid || e.2.registering) then s.deregister e.1 else s) s
  s.modSec fun v => { v with
    handles := Tbl.map (fun _ h => if h.job = j then { KeyHandle.reset with reuse := h.reuse } else h) v.handles }

def cKeyWithdraw : BciCmd := { code := 0x0904, long := false, a3 := false, who := .mb }
/-- The fields of KeyWithdraw's payload. -/
def fieldsKeyWithdraw (_ : List Byte) : List Fld := [fAny 0 2]
/-- The work of execKeyWithdraw. -/
def workKeyWithdraw (s : State) (p : List Byte) : Res :=
    let j := field p 0 2
    guardBci [((s.job? j).isNone, rNotFound, 0), (s.sec.handles.any fun e => e.2.job == j && e.2.held, rBusy, 0)]
      (.ok ((s.withdraw j).secInt 2) [])
/-- KEY_WITHDRAW (R420). -/
def execKeyWithdraw (m : Fin 5) (s : State) : Out := (s.bci m cKeyWithdraw (len 2) fieldsKeyWithdraw (workKeyWithdraw s)).done

def cKeyQuery : BciCmd := { code := 0x0905, long := false, a3 := false, who := .all }
/-- The fields of KeyQuery's payload. -/
def fieldsKeyQuery (_ : List Byte) : List Fld := [fAny 0 4]
/-- The work of execKeyQuery. -/
def workKeyQuery (s : State) (p : List Byte) : Res :=
    match s.handle? (field p 0 4) with
    | none => .err rNotFound 0
    | some h =>
      guardBci (s.handleRefusals (field p 0 4) 0)
        (.ok s (leBytes 2 h.job ++ leBytes 1 h.st.code ++ leBytes 1 h.fails ++ leBytes 2 (min 65535 (h.byQpn.map (·.2)).sum) ++ zeros 10
          ++ fit 16 h.keyCheck))
/-- KEY_QUERY (R415, R416). CONNECTS adds up the connections R214 counts for each QPN (log 52). -/
def execKeyQuery (m : Fin 5) (s : State) : Out := (s.bci m cKeyQuery (len 4) fieldsKeyQuery (workKeyQuery s)).done

end Sys2Proof.Machine
end

