-- ==== Sys2Proof/Machine/BciTime.lean ====
section
/-! DEFINITION. The time group of the BCI (R26, R27, R30, R40, R43, R46, R53, R54, R58, R368, R556). -/
namespace Sys2Proof.Machine

/-! ### Register words (R58) -/

/-- STATUS. -/
def State.timeStatusWord (s : State) : Nat :=
  let slewing := decide (128 < s.time.theta.natAbs) && s.time.parent.isSome
  s.time.status.code + at_ (b2n s.time.ntValid) 2 + at_ (b2n s.time.root) 3 + at_ (b2n s.time.refLock) 4 + at_ (b2n slewing) 5
    + at_ (s.time.parent.getD 0xFF) 8 + at_ s.depth 16
/-- CTRL. -/
def TimeState.ctrlWord (t : TimeState) : Nat := b2n t.root + at_ t.rootRef 1 + at_ (b2n t.lostRun) 3 + at_ t.maxDepth 4
/-- PARENT_CAND. -/
def TimeState.candWord (t : TimeState) : Nat := ((List.range 4).map fun k => at_ (t.cands.getD k 0xFF) (8 * k)).sum

def State.modTime (s : State) (f : TimeState → TimeState) : State := { s with time := f s.time }

/-! ### Roles (R43) -/

/-- A member with NT loaded becomes the root: it drops its parent, runs on its own oscillator and enters LOCKED. -/
def State.becomeRoot (s : State) : State :=
  let old := s.time.parent
  let s := s.modTime fun t => { t with root := true, parent := none, rateAdj := 0, integ := 0, theta := 0, refLock := false }
  let s := match old with
    | some p => s.timeEvent 0x0012 2 (timeData s.time.status s.time.status (some p) none s.errBound)
    | none => s
  s.setStatus .locked

/-- TIME_SET_ROOT by the state the module is in (R40, R43): NT is loaded only when it never was. -/
def State.setRoot (s : State) (ref : Nat) (nt epoch : U64) : State :=
  let s := (if s.time.rootRef = ref then s else s.refLost).modTime fun t => { t with rootRef := ref, epoch := epoch }
  if s.time.root then s else if s.time.ntValid then s.becomeRoot else (s.loadNt nt).becomeRoot

def cTimeSetRoot : BciCmd := { code := 0x0A00, long := false, a3 := false, who := .mb }
/-- The fields of TimeSetRoot's payload. -/
def fieldsTimeSetRoot (p : List Byte) : List Fld := [fIf p 0 1 (· ≤ 2), fAny 8 8, fAny 16 8]
/-- The work of execTimeSetRoot. -/
def workTimeSetRoot (s : State) (p : List Byte) : Res :=
    let s := s.setRoot (field p 0 1) (BitVec.ofNat 64 (field p 8 8)) (BitVec.ofNat 64 (field p 16 8))
    .ok s (leBytes 8 s.clk.nt.toNat)
/-- TIME_SET_ROOT (R40, R43, R368): the response is the NT at execution. -/
def execTimeSetRoot (m : Fin 5) (s : State) : Out := (s.bci m cTimeSetRoot (len 24) fieldsTimeSetRoot (workTimeSetRoot s)).done

/-- A root becomes a member (R43): HOLDOVER, its bound growing from 0, its own ID as reference. -/
def State.becomeMember (s : State) : State :=
  let id := s.moduleId
  (s.refLost.modTime fun t =>
    { t with root := false, refRoot := some id, accept := none, errBase := 0, errFrom := s.clk.now, rateAdj := 0, integ := 0, theta := 0,
             lastParent := none }).setStatus .holdover

/-- The parameters of TIME_SET_MEMBER. -/
def TimeState.setParams (t : TimeState) (p : List Byte) : TimeState :=
  { t with maxDepth := dflt (field p 0 1) t.maxDepth, lostRun := if field p 1 1 = 0xFF then t.lostRun else field p 1 1 == 1,
           holdLimit := dflt (field p 2 2) t.holdLimit,
           cands := if bit (field p 12 1) 1 then t.cands else (List.range 4).map fun k => field p (4 + k) 1 }

/-- A candidate byte: a port, or 0xFF for none. -/
def candOk (v : Nat) : Bool := v < 64 || v == 0xFF

def cTimeSetMember : BciCmd := { code := 0x0A01, long := false, a3 := false, who := .mb }
/-- The fields of TimeSetMember's payload. -/
def fieldsTimeSetMember (p : List Byte) : List Fld := [fIf p 0 1 (· ≤ 14), fIf p 1 1 fun v => v ≤ 1 || v == 0xFF, fIf p 2 2 fun v => v == 0 || (8 ≤ v && v ≤ 1024)]
      ++ ((List.range 4).map fun k => fIf p (4 + k) 1 fun v => candOk v || bit (field p 12 1) 1)
      ++ [fAny 8 4, fZero p 10 7 2, fZero p 11 6 0, fIf p 12 1 (· ≤ 3)]
/-- The work of execTimeSetMember. -/
def workTimeSetMember (s : State) (p : List Byte) : Res :=
    let s := s.modTime fun t => t.setParams p
    let s := if bit (field p 12 1) 0 && s.time.root then s.becomeMember else s
    let s := if bit (field p 8 4) 31 && !s.time.root then s.modTime fun t => { t with accept := some (field p 8 4 % 2 ^ 18) } else s
    .ok s.timeStep []
/-- TIME_SET_MEMBER (R27, R43, R368): MEMBER first, then ACCEPT_ROOT; a member without a parent then selects one (R41). -/
def execTimeSetMember (m : Fin 5) (s : State) : Out := (s.bci m cTimeSetMember (len 13) fieldsTimeSetMember (workTimeSetMember s)).done

/-! ### Settings -/

def cTimeSetAsym : BciCmd := { code := 0x0A02, long := false, a3 := false, who := .mb }
/-- The fields of TimeSetAsym's payload. -/
def fieldsTimeSetAsym (p : List Byte) : List Fld := [fIf p 0 1 (· ≤ 63), fIf p 4 4 fun v => decide ((toSigned 32 v).natAbs ≤ 65536)]
/-- The work of execTimeSetAsym. -/
def workTimeSetAsym (s : State) (p : List Byte) : Res :=
    let q := field p 0 1
    let u := s.setTport q { s.tport q with asym := toSigned 32 (field p 4 4) }
    guardBci [(s.portHeld q, rBusy, 0)] (.ok (if s.time.parent = some q ∧ s.time.root = false then u.follow q else u) [])
/-- TIME_SET_ASYM (R556). -/
def execTimeSetAsym (m : Fin 5) (s : State) : Out := (s.bci m cTimeSetAsym (len 8) fieldsTimeSetAsym (workTimeSetAsym s)).done

def cTimeSetLt : BciCmd := { code := 0x0A03, long := false, a3 := false, who := .mb }
/-- The fields of TimeSetLt's payload. -/
def fieldsTimeSetLt (p : List Byte) : List Fld := [fIf p 0 2 fun v => 157 ≤ v && v ≤ 62500]
/-- The work of execTimeSetLt. -/
def workTimeSetLt (s : State) (p : List Byte) : Res :=
    guardBci [(!s.qps.isEmpty, rState, 0)] (.ok (s.modTime fun t => { t with lt := field p 0 2 }) [])
/-- TIME_SET_LT (R46, R368): refused while any QP exists. -/
def execTimeSetLt (m : Fin 5) (s : State) : Out := (s.bci m cTimeSetLt (len 2) fieldsTimeSetLt (workTimeSetLt s)).done

def cTimeSetLaunch : BciCmd := { code := 0x0A04, long := false, a3 := false, who := .mb }
/-- The fields of TimeSetLaunch's payload. -/
def fieldsTimeSetLaunch (p : List Byte) : List Fld := [fIf p 0 1 (· ≤ 1), fIf p 2 2 (1 ≤ ·)]
/-- The work of execTimeSetLaunch. -/
def workTimeSetLaunch (s : State) (p : List Byte) : Res :=
    .ok (s.modTime fun t => { t with latePolicy := field p 0 1 == 1, horizon := field p 2 2 }) []
/-- TIME_SET_LAUNCH (R556). -/
def execTimeSetLaunch (m : Fin 5) (s : State) : Out := (s.bci m cTimeSetLaunch (len 4) fieldsTimeSetLaunch (workTimeSetLaunch s)).done

def cTimeQuery : BciCmd := { code := 0x0A05, long := false, a3 := false, who := .all }
/-- The work of execTimeQuery. -/
def workTimeQuery (s : State) (_ : List Byte) : Res :=
    let t := s.time
    .ok s (leBytes 4 s.timeStatusWord ++ leBytes 4 t.ctrlWord ++ leBytes 4 s.errBound ++ leBytes 4 s.rootId ++ leBytes 8 s.clk.nt.toNat
      ++ leBytes 4 (ofSigned 32 t.theta) ++ leBytes 4 (ofSigned 32 t.rateAdj) ++ leBytes 4 t.candWord ++ leBytes 2 t.holdLimit
      ++ leBytes 2 t.lt)
/-- TIME_QUERY (R58, R556). -/
def execTimeQuery (m : Fin 5) (s : State) : Out := (s.bci m cTimeQuery (len 0) noFields (workTimeQuery s)).done

end Sys2Proof.Machine
end

