-- ==== Sys2Proof/Machine/BciSched.lean ====
section
/-! DEFINITION. The scheduling group of the BCI (R142, R146 to R156, R368, R556). -/
namespace Sys2Proof.Machine

/-- The mask PORTS of a payload, and what is done at each port it names. -/
def State.eachPort (s : State) (p : List Byte) (f : Nat → State → State) : State := (maskPorts p).foldl (fun s q => f q s) s

/-- A named port is held (R362). -/
def State.portsHeld (s : State) (p : List Byte) : Bool := (maskPorts p).any s.portHeld

/-- Whether some entry of a bank's list closes TC0. -/
def GclBank.closesTc0 (b : GclBank) : Bool := (List.range b.len).any fun i => !bit (Tbl.getD b.entries i (0xFF, 1000000)).1 0
/-- The bank is active, or a switch to it is pending, at a port (R154). -/
def SchedPort.bankTaken (x : SchedPort) (b : Nat) : Bool := x.active == b || x.pend
/-- The active or the pending bank of a port closes TC0 (R537). -/
def SchedPort.closesTc0 (x : SchedPort) : Bool :=
  (List.range 2).any fun b => x.bankTaken b && (x.banks.getD b GclBank.reset).closesTc0

def cSchedTc0 : BciCmd := { code := 0x0B00, long := false, a3 := false, who := .mb }
/-- The fields of SchedTc0's payload. -/
def fieldsSchedTc0 (p : List Byte) : List Fld := [fIf p 0 1 (· ≤ 1), fIf p 2 2 fun v => 512 ≤ v && v ≤ 4096]
/-- The work of execSchedTc0. -/
def workSchedTc0 (s : State) (p : List Byte) : Res :=
    let en := field p 0 1 == 1
    let changed := (s.sched 0).tc0En != en
    let r := (List.range 64).foldl (fun s q => s.modSched q fun x => { x with tc0En := en, qlimit := field p 2 2 }) s
    guardBci [(en && changed && (List.range 64).any fun q => (s.sched q).closesTc0, rState, 0)] (.ok (if changed then r.announce else r) [])
/-- SCHED_TC0 (R142, R440, R537): all 64 ports at once; TC0 is not enabled while a gate list in force or pending closes it. -/
def execSchedTc0 (m : Fin 5) (s : State) : Out := (s.bci m cSchedTc0 (len 4) fieldsSchedTc0 (workSchedTc0 s)).done

def cSchedShaper : BciCmd := { code := 0x0B01, long := false, a3 := false, who := .mb }
/-- A shaper changes at a port (R149). -/
def State.setShaper (s : State) (p : List Byte) (q : Nat) : State :=
  let s := s.syncTc0 q
  s.modSched q fun x =>
    let b := x.shapers.getD (field p 8 1) (Bucket.full false 1600000 65536)
    { x with shapers := put x.shapers (field p 8 1) (b.config s.clk.now (field p 9 1 == 1) (field p 12 4) (field p 16 4)) }
/-- The fields of SchedShaper's payload. -/
def fieldsSchedShaper (p : List Byte) : List Fld := [fAny 0 8, fIf p 8 1 (· ≤ 7), fIf p 9 1 fun v => v == 1 || (v == 0 && field p 8 1 != 0),
               fIf p 12 4 fun v => 1 ≤ v && v ≤ 1600000, fIf p 16 4 fun v => 64 ≤ v && v ≤ 16777215]
/-- The work of execSchedShaper. -/
def workSchedShaper (s : State) (p : List Byte) : Res :=
    guardBci [(s.portsHeld p, rBusy, 0)] (.ok (s.eachPort p fun q s => s.setShaper p q) [])
/-- SCHED_SHAPER (R147 to R149, R368). -/
def execSchedShaper (m : Fin 5) (s : State) : Out := (s.bci m cSchedShaper (len 20) fieldsSchedShaper (workSchedShaper s)).done

def cSchedDrr : BciCmd := { code := 0x0B02, long := false, a3 := false, who := .mb }
/-- The fields of SchedDrr's payload. -/
def fieldsSchedDrr (p : List Byte) : List Fld := [fAny 0 8, fIf p 8 1 fun v => 1 ≤ v && v ≤ 7, fIf p 12 4 fun v => 64 ≤ v && v ≤ 1048576]
/-- The work of execSchedDrr. -/
def workSchedDrr (s : State) (p : List Byte) : Res :=
    guardBci [(s.portsHeld p, rBusy, 0)]
      (.ok (s.eachPort p fun q s => s.modSched q fun x => { x with quanta := put x.quanta (field p 8 1) (field p 12 4) }) [])
/-- SCHED_DRR (R146, R556). -/
def execSchedDrr (m : Fin 5) (s : State) : Out := (s.bci m cSchedDrr (len 16) fieldsSchedDrr (workSchedDrr s)).done

def cSchedOverhead : BciCmd := { code := 0x0B03, long := false, a3 := false, who := .mb }
/-- The fields of SchedOverhead's payload. -/
def fieldsSchedOverhead (_ : List Byte) : List Fld := [fAny 0 8, fAny 8 1]
/-- The work of execSchedOverhead. -/
def workSchedOverhead (s : State) (p : List Byte) : Res :=
    guardBci [(s.portsHeld p, rBusy, 0)] (.ok (s.eachPort p fun q s => s.modSched q fun x => { x with overhead := field p 8 1 }) [])
/-- SCHED_OVERHEAD (R148, R556). -/
def execSchedOverhead (m : Fin 5) (s : State) : Out := (s.bci m cSchedOverhead (len 9) fieldsSchedOverhead (workSchedOverhead s)).done

def cSchedGclWrite : BciCmd := { code := 0x0B04, long := false, a3 := false, who := .mb }
/-- A bank after the write (R151, R368). -/
def GclBank.write (b : GclBank) (p : List Byte) : GclBank :=
  { base := BitVec.ofNat 64 (field p 16 8), cycle := field p 24 4, len := field p 14 2,
    entries := (List.range (field p 12 2)).foldl (fun t i => Tbl.set t (field p 10 2 + i) (field p (32 + 4 * i) 1, field p (33 + 4 * i) 3))
      b.entries }
/-- The list of a bank would take in entries written earlier that close TC0, at a named port (R155). -/
def State.olderCloses (s : State) (p : List Byte) : Bool :=
  let first := field p 10 2
  (maskPorts p).any fun q => (List.range (field p 14 2)).any fun i =>
    !(decide (first ≤ i) && decide (i < first + field p 12 2))
      && !bit (Tbl.getD ((s.sched q).banks.getD (field p 8 1) GclBank.reset).entries i (0xFF, 1000000)).1 0

/-- The fields of SchedGclWrite's payload. While TC0 is enabled no entry of the list may close it: one of the command is refused at its
OPEN_MASK, one written earlier at LIST_LEN, which takes it in (R155; log 148). -/
def fieldsSchedGclWrite (s : State) (p : List Byte) : List Fld :=
      let used (i : Nat) : Bool := decide (i < field p 12 2)
      let listed (i : Nat) : Bool := used i && decide (field p 10 2 + i < field p 14 2)
      let tc0 := (s.sched 0).tc0En
      [fAny 0 8, fIf p 8 1 (· ≤ 1), fIf p 10 2 (· ≤ 255), fIf p 12 2 fun n => 1 ≤ n && n ≤ 240 && field p 10 2 + n ≤ 256,
       fIf p 14 2 fun n => 1 ≤ n && n ≤ 256 && !(tc0 && s.olderCloses p), fAny 16 8, fIf p 24 4 fun n => 64 ≤ n && n ≤ 1000000000]
      ++ ((List.range 240).map fun i => fIf p (32 + 4 * i) 1 fun v => !listed i || bit v 0 || !tc0)
      ++ (List.range 240).map fun i => fIf p (33 + 4 * i) 3 fun v => !used i || 32 ≤ v
/-- The work of execSchedGclWrite. -/
def workSchedGclWrite (s : State) (p : List Byte) : Res :=
    let b := field p 8 1
    guardBci [(s.portsHeld p, rBusy, 0), ((maskPorts p).any fun q => (s.sched q).bankTaken b, rState, 8)]
      (.ok (s.eachPort p fun q s => s.modSched q fun x =>
        { x with banks := put x.banks b ((x.banks.getD b GclBank.reset).write p) }) [])
/-- SCHED_GCL_WRITE (R151, R154, R155, R368). -/
def execSchedGclWrite (m : Fin 5) (s : State) : Out := (s.bci m cSchedGclWrite (fun p => 32 + 4 * field p 12 2) (fieldsSchedGclWrite s) (workSchedGclWrite s)).done

def cSchedGclSwitch : BciCmd := { code := 0x0B05, long := false, a3 := false, who := .mb }
/-- The fields of SchedGclSwitch's payload. -/
def fieldsSchedGclSwitch (_ : List Byte) : List Fld := [fAny 0 8, fAny 8 8]
/-- The work of execSchedGclSwitch. -/
def workSchedGclSwitch (s : State) (p : List Byte) : Res :=
    guardBci [(s.portsHeld p, rBusy, 0), ((maskPorts p).any fun q => (s.sched q).pend, rState, 0)]
      (.ok (s.eachPort p fun q s => s.modSched q fun x =>
        { x with switchAt := BitVec.ofNat 64 (field p 8 8), pend := true, pendFrom := s.countedNt }) [])
/-- SCHED_GCL_SWITCH (R154, R556). -/
def execSchedGclSwitch (m : Fin 5) (s : State) : Out := (s.bci m cSchedGclSwitch (len 16) fieldsSchedGclSwitch (workSchedGclSwitch s)).done

def cSchedGate : BciCmd := { code := 0x0B06, long := false, a3 := false, who := .mb }
/-- Gates are set on or off at a port, at once (R152, R156, R542): the gates that were in force have their effect until now, and a switch that is
pending waits for a cycle start from now on. -/
def State.setGate (s : State) (q : Nat) (en : Bool) (guard : Nat) : State :=
  let s := s.gateSync q
  (s.modSched q fun x => { x with gateEn := en, guard := guard, pendFrom := if x.gateEn then x.pendFrom else s.countedNt }).gateSync q
/-- The fields of SchedGate's payload. -/
def fieldsSchedGate (p : List Byte) : List Fld := [fAny 0 8, fIf p 8 1 (· ≤ 1), fAny 10 2]
/-- The work of execSchedGate. -/
def workSchedGate (s : State) (p : List Byte) : Res :=
    guardBci [(s.portsHeld p, rBusy, 0)]
      (.ok (s.eachPort p fun q s => s.setGate q (field p 8 1 == 1) (field p 10 2)) [])
/-- SCHED_GATE (R152, R156, R556): the gates act at once. -/
def execSchedGate (m : Fin 5) (s : State) : Out := (s.bci m cSchedGate (len 12) fieldsSchedGate (workSchedGate s)).done

def cSchedCtxBucket : BciCmd := { code := 0x0B07, long := false, a3 := false, who := .mb }
/-- The fields of SchedCtxBucket's payload. -/
def fieldsSchedCtxBucket (p : List Byte) : List Fld := [fCtx p 0, fAny 2 1, fIf p 3 1 (· ≤ 1), fIf p 4 4 fun v => 1 ≤ v && v ≤ 1600000, fIf p 8 4 fun v => 64 ≤ v && v ≤ 16777215]
/-- The work of execSchedCtxBucket. -/
def workSchedCtxBucket (m : Fin 5) (s : State) (p : List Byte) : Res :=
      let c := field p 0 2
      guardBci (s.ctxRefusals m c 0)
        (.ok (s.modCtx c fun x =>
          { x with classMask := field p 2 1, bucket := x.bucket.config s.clk.now (field p 3 1 == 1) (field p 4 4) (field p 8 4) }) [])
/-- SCHED_CTX_BUCKET (R149, R150, R556). -/
def execSchedCtxBucket (m : Fin 5) (s : State) : Out := (s.bci m cSchedCtxBucket (len 12) fieldsSchedCtxBucket (workSchedCtxBucket m s)).done

end Sys2Proof.Machine
end

