-- ==== Sys2Proof/Machine/BciFaults.lean ====
section
/-! DEFINITION. The faults group of the BCI (R368, R403, R511, R513, R514, R520, R522, R523, R531). -/
namespace Sys2Proof.Machine

/-! ### Sources -/

/-- A source that exists: an endpoint's only when the endpoint is formed (R502). -/
def State.sourceOk (s : State) (n : Nat) : Bool := isSource n && (!(0x0300 ≤ n) || s.formed (n - 0x0300))

/-- SOURCE in bytes 0–1. -/
def fSource (p : List Byte) : Fld := fIf p 0 2 isSource

/-- INFO_A of REGION_SKEW for a pair (R519). -/
def Supply.skewInfo (x : Supply) (i : Nat) : Nat := i + at_ (x.skewMv.getD i 0 % 256) 8 + at_ (x.skewC.getD i 0 % 256) 16

/-- The cause of a detection still holds (R513). -/
def State.causeHolds (s : State) (src : Nat) (d : Detection) : Bool :=
  match d.kind with
  | .regionSkew => s.sup.skew.getD (d.infoA.toNat % 4) false
  | .timeLost => s.time.status == .lost
  | .cablePower => (s.conn ((src - 0x0200) / 4)).failed
  | .planeDown => true
  | .wireFault => (s.capture src).unwatched
  | .vaultRng => !s.sec.rngOk
  | _ => false

/-- The causes that persist at a source, the most severe first (R511, R513). REGION_SKEW shows the present difference. -/
def State.persisting (s : State) (src : Nat) : List Detection :=
  let ds := (s.faults.causes.filter fun e => e.1 == src && s.causeHolds src e.2).map (·.2)
  let ds := ds.map fun d => if d.kind = .regionSkew then { d with infoA := BitVec.ofNat 32 (s.sup.skewInfo (d.infoA.toNat % 4)) } else d
  (ds.filter fun d => sevValue (Sev.of d.kind d.fatal) == 2) ++ ds.filter fun d => sevValue (Sev.of d.kind d.fatal) != 2

/-- Clear a source, which sets again at once while a cause persists (R513). -/
def State.clearSource (s : State) (src : Nat) : State :=
  let ds := s.persisting src
  ds.foldl (fun s d => s.record src { d := d, injected := false, full := true, persist := true }) (s.clearCapture src)

def cFaultQuery : BciCmd := { code := 0x0C00, long := false, a3 := true, who := .all }
/-- The fields of FaultQuery's payload. -/
def fieldsFaultQuery (p : List Byte) : List Fld := [fSource p]
/-- The work of execFaultQuery. -/
def workFaultQuery (s : State) (p : List Byte) : Res :=
    let c := s.capture (field p 0 2)
    guardBci [(!s.sourceOk (field p 0 2), rNotFound, 0)]
      (.ok s (leBytes 4 (b2n c.valid + 2 * b2n c.second) ++ leBytes 4 c.count.toNat
        ++ (match c.record with
            | some r => r.bytes
            | none => zeros 32)))
/-- FAULT_QUERY (R368, R511). -/
def execFaultQuery (m : Fin 5) (s : State) : Out := (s.bci m cFaultQuery (len 2) fieldsFaultQuery (workFaultQuery s)).done

def cFaultClear : BciCmd := { code := 0x0C01, long := false, a3 := false, who := .mb }
/-- The fields of FaultClear's payload. -/
def fieldsFaultClear (p : List Byte) : List Fld := [fSource p]
/-- The work of execFaultClear. -/
def workFaultClear (s : State) (p : List Byte) : Res :=
    let src := field p 0 2
    guardBci [(!s.sourceOk src, rNotFound, 0)] (.ok (s.clearSource src) (leBytes 1 (b2n !(s.persisting src).isEmpty)))
/-- FAULT_CLEAR (R368, R513). -/
def execFaultClear (m : Fin 5) (s : State) : Out := (s.bci m cFaultClear (len 2) fieldsFaultClear (workFaultClear s)).done

/-! ### Reactions and injection -/

/-- The masks R514 accepts for a kind. -/
def reactionOk (k : FaultKind) (v : Nat) : Bool :=
  let kv := kindValue k
  v < 32 && bit v 0 && (Sev.of k false != .uf || bit v 4) && (!bit v 2 || kv == 0x0A || kv == 0x0B)
    && (!bit v 3 || kv == 0x04 || kv == 0x05 || kv == 0x06 || kv == 0x0F)

def cFaultReaction : BciCmd := { code := 0x0C02, long := false, a3 := false, who := .mb }
/-- The fields of FaultReaction's payload. -/
def fieldsFaultReaction (p : List Byte) : List Fld := [fIf p 0 1 fun v => (kindOf v).isSome, fIf p 1 1 fun v => match kindOf (field p 0 1) with
      | some k => reactionOk k v
      | none => true]
/-- The work of execFaultReaction. -/
def workFaultReaction (s : State) (p : List Byte) : Res :=
    .ok { s with faults := { s.faults with react := Tbl.set s.faults.react (field p 0 1) (BitVec.ofNat 5 (field p 1 1)) } } []
/-- FAULT_REACTION (R514, R531). -/
def execFaultReaction (m : Fin 5) (s : State) : Out := (s.bci m cFaultReaction (len 2) fieldsFaultReaction (workFaultReaction s)).done

/-- CHECKER, ARG and MASK lie within the checkers of a source (R523, R531). -/
def State.checkerOk (s : State) (src checker : Nat) : Bool :=
  checker < min 0x80 (Config.arrays src) || (checker == 0x80 && 0x0100 ≤ src && src < 0x0140) || (checker == 0x81 && 0x0010 ≤ src && src < 0x0014)
    || (checker == 0x82 && (portOf src).isSome) || (checker == 0xFF && s.faults.scheme == 0)
def injectArgOk (src checker arg : Nat) : Bool :=
  if checker = 0x80 then arg < 8 else if checker = 0x81 then arg / 32 == src - 0x0010 else true
def injectMaskOk (checker mask : Nat) : Bool :=
  if checker < 0x80 then mask < 2 ^ 8 else if checker = 0x80 then mask < 2 ^ 16 else if checker = 0x81 then mask < 2 ^ 32
  else if checker = 0x82 then mask < 2 ^ 30 else true

def cFaultInject : BciCmd := { code := 0x0C03, long := false, a3 := false, who := .mb }
/-- The fields of FaultInject's payload. -/
def fieldsFaultInject (s : State) (p : List Byte) : List Fld := [fSource p, fIf p 2 1 (s.checkerOk (field p 0 2)), fIf p 3 1 (· ≤ 1), fIf p 4 4 (injectArgOk (field p 0 2) (field p 2 1)),
               fIf p 8 8 (injectMaskOk (field p 2 1)), fIf p 16 1 (1 ≤ ·)]
/-- The work of execFaultInject. -/
def workFaultInject (s : State) (p : List Byte) : Res :=
    let src := field p 0 2
    let i : Injection :=
      { checker := field p 2 1, arg := field p 4 4, mask := BitVec.ofNat 64 (field p 8 8), left := field p 16 1, full := field p 3 1 == 1 }
    guardBci [(!s.sourceOk src, rNotFound, 0)] (.ok (s.setCapture src { s.capture src with inject := some i }) [])
/-- FAULT_INJECT (R523, R531): arms an inversion at one checker; a second one replaces it. -/
def execFaultInject (m : Fin 5) (s : State) : Out := (s.bci m cFaultInject (len 17) (fieldsFaultInject s) (workFaultInject s)).done

/-! ### LOG_READ -/

/-- Records the persistent partition holds (R16). -/
def plogSlots : Nat := 131072

/-- The record in a slot of the partition, which is written circularly: the newest whose number fits (R522). -/
def PLog.slot (l : PLog) (i : Nat) : Option LogRec :=
  let n := l.recs.length
  let back := (n + plogSlots - 1 - i % plogSlots) % plogSlots
  if back < n then l.recs[back]? else none

/-- The slot the next record goes to. -/
def PLog.next (l : PLog) : Nat := l.recs.length % plogSlots

/-- Up to 15 records from a slot on, not past the newest. -/
def PLog.from_ (l : PLog) (i : Nat) : List LogRec :=
  let room := if l.recs.length < plogSlots then l.recs.length - i else if i = l.next then 15 else (l.next + plogSlots - i) % plogSlots
  (List.range (min 15 room)).filterMap fun k => l.slot (i + k)

/-- Up to 15 records of the module event log whose SEQ is `seq` or later, oldest first (R520). -/
def Faults.from_ (f : Faults) (seq : Nat) : List LogRec :=
  ((f.evlog.reverse.filter fun r => decide (0 ≤ circ 32 r.seq.toNat seq))).take 15

def cLogRead : BciCmd := { code := 0x0C04, long := false, a3 := true, who := .mb }
/-- The fields of LogRead's payload. -/
def fieldsLogRead (p : List Byte) : List Fld := [fIf p 0 1 (· ≤ 1), fIf p 4 4 fun v => field p 0 1 != 0 || (v % 64 == 0 && v < 64 * plogSlots)]
/-- The work of execLogRead. -/
def workLogRead (s : State) (p : List Byte) : Res :=
    let start := field p 4 4
    if field p 0 1 = 0 then
      let rs := s.plog.from_ (start / 64)
      .ok s (leBytes 4 ((start + 64 * rs.length) % (64 * plogSlots)) ++ leBytes 2 rs.length ++ zeros 2 ++ leBytes 4 (64 * s.plog.next) ++ zeros 4
        ++ (rs.map LogRec.bytes).flatten)
    else
      let rs := s.faults.from_ start
      let next := match rs.getLast? with
        | some r => r.seq.toNat + 1
        | none => start
      let oldest := match s.faults.evlog.getLast? with
        | some r => r.seq.toNat
        | none => 0
      guardBci [(s.standbyServes, rNotAvailable, 0)]
        (.ok s (leBytes 4 next ++ leBytes 2 rs.length ++ zeros 2 ++ leBytes 4 oldest ++ zeros 4 ++ (rs.map LogRec.bytes).flatten))
/-- LOG_READ (R520, R522, R531). -/
def execLogRead (m : Fin 5) (s : State) : Out := (s.bci m cLogRead (len 8) fieldsLogRead (workLogRead s)).done

/-! ### MEM_DUMP -/

/-- Node states in the order of R253. -/
def NodeSt.code : NodeSt → Nat
  | .linking => 0 | .ready => 1 | .busy => 2 | .failed => 3

/-- Bytes 0 to 171 of a node descriptor (R250). -/
def Node.bytes (x : Node) (n : Nat) : List Byte :=
  leBytes 2 n ++ leBytes 2 x.job ++ leBytes 2 x.owner ++ leBytes 2 x.tile ++ leBytes 4 x.rank ++ leBytes 4 x.members
    ++ leBytes 1 (x.stripe + 16 * (x.stripes - 1)) ++ leBytes 1 x.degree ++ leBytes 1 x.parentSlot
    ++ leBytes 1 (b2n x.root + 2 * b2n x.fixed + 4 * b2n x.prot + 8 * x.accClass) ++ leBytes 1 x.segLog2 ++ leBytes 1 x.slots
    ++ leBytes 1 x.st.code ++ leBytes 1 x.next ++ leBytes 4 x.parentQpn ++ leBytes 4 x.parentRkey
    ++ ((List.range 16).map fun i => leBytes 4 (x.childQpn.getD i 0)).flatten ++ ((List.range 16).map fun i => leBytes 4 (x.childRkey.getD i 0)).flatten
    ++ leBytes 4 x.windowRkey ++ leBytes 2 x.releaseDelay ++ leBytes 2 x.backoff ++ leBytes 4 x.timeoutMs

/-- The entry after or before entry `i` in a chain of entries; bit 31 set for none (R244), its low bits `v` then open. -/
def chainLink (l : List Nat) (i : Nat) (after : Bool) (v : Nat) : Nat :=
  let k := l.idxOf i
  let j := if after then l[k + 1]? else if k = 0 then none else l[k - 1]?
  j.getD (2 ^ 31 + v % 2 ^ 31)

/-- A posted receive entry (R244). -/
def Posted.bytes (r : Posted) (next : Nat) : List Byte :=
  leBytes 8 r.tagv.toNat ++ leBytes 8 r.mask.toNat ++ leBytes 8 r.pseq ++ leBytes 4 (r.rank + at_ (b2n r.any) 22) ++ leBytes 2 r.comm
    ++ leBytes 1 (b2n r.ledger.isSome + 2 * b2n r.cqe) ++ zeros 1 ++ leBytes 4 r.lkey ++ leBytes 4 r.length ++ leBytes 8 r.loff
    ++ leBytes 4 (r.ledger.getD 0) ++ leBytes 4 next ++ leBytes 8 r.cookie.toNat

/-- An unexpected record (R245), with its links in the bin's chain and the arrival chain. -/
def InMsg.bytes (x : InMsg) (bin arr : List Nat) (v : Nat) : List Byte :=
  leBytes 8 x.tagv.toNat ++ leBytes 8 x.aseq ++ leBytes 4 (x.rank + at_ (b2n x.rndv) 22 + at_ (b2n x.complete) 23 + at_ x.slot 24)
    ++ leBytes 2 x.comm ++ leBytes 2 x.ssn ++ leBytes 4 x.msgLen ++ leBytes 4 x.qpn ++ leBytes 4 (if x.rndv then x.rkey else x.pool.getD 0)
    ++ zeros 4 ++ leBytes 8 (if x.rndv then x.offset else 0)
    ++ leBytes 4 (chainLink bin x.entry true v) ++ leBytes 4 (chainLink bin x.entry false v)
    ++ leBytes 4 (chainLink arr x.entry true v) ++ leBytes 4 (chainLink arr x.entry false v)

/-- The match entries of a domain: their numbers and bytes; `v` fills what is open. -/
def Domain.entries (d : Domain) (v : Nat) : List (Nat × List Byte) :=
  let chain (r : Posted) : List Nat := (if r.exact then d.binPosted (d.bin r.comm r.rank r.tagv) else d.wild).map (·.entry)
  (d.posted.map fun r => (r.entry, r.bytes (chainLink (chain r) r.entry true v)))
    ++ d.unexp.map fun x => (x.entry, x.bytes ((d.binUnexp (d.bin x.comm x.rank x.tagv)).map (·.entry)) (d.arrival.map (·.entry)) v)

/-- The match entry of a number, with its job, when it is in use (R219). -/
def State.matchEntry (s : State) (i v : Nat) : Option (Nat × List Byte) :=
  s.domains.findSome? fun e => ((e.2.entries v).find? fun x => x.1 == i).map fun x => (e.2.job, x.2)

/-- The job is protected. -/
def State.jobProt (s : State) (j : Nat) : Bool := ((s.job? j).map (·.prot)).getD false

/-- A structure's bytes, none when it does not exist, and whether it is a protected job's. What a match entry not in use holds, the
layout of a ledger's attribute entry and every module-private byte are the module's: free values (log 2, log 47). -/
def State.structure (s : State) (st i v : Nat) : Option (Bool × List Byte) :=
  match st with
  | 0 => (s.qp? i).map fun q => (q.prot, q.bytes i (leBytes 20 v) (leBytes 20 (v / 2 ^ 160)) ++ leBytes 80 (v / 2 ^ 320))
  | 1 =>
    match s.matchEntry i v with
    | some e => some (s.jobProt e.1, e.2)
    | none => some (false, leBytes 64 v)
  | 2 => (s.region? i).map fun r => (r.prot, r.bytes ++ leBytes 37 v)
  | 3 => (s.node? i).map fun x => (x.prot, x.bytes i ++ leBytes 84 v)
  | 4 => some (s.route.jobs.any fun e => e.2.prot && e.2.base ≤ i && i < e.2.base + e.2.count, leBytes 8 (((Tbl.get? s.route.ranks i).map RankEntry.word).getD 0))
  | 5 => (Tbl.get? s.ledgers i).map fun g => (false, leBytes 8 (g.count + at_ (b2n g.poison) 63))
  | _ => (s.job? i).map fun d => (d.prot, leBytes 8 d.word)

/-- Entries of the table of a STRUCT. -/
def structLimit : Nat → Nat
  | 0 | 1 | 4 => 4194304
  | 2 | 5 => 1048576
  | 3 => 16384
  | _ => 65536

def cMemDump : BciCmd := { code := 0x0C05, long := false, a3 := false, who := .mb }
/-- The fields of MemDump's payload. -/
def fieldsMemDump (p : List Byte) : List Fld := [fIf p 0 1 (· ≤ 6), fIf p 4 4 (· < structLimit (field p 0 1)), fAny 8 4]
/-- The work of execMemDump. -/
def workMemDump (s : State) (p : List Byte) : Res :=
    let f := s.fresh 1024
    match f.2.structure (field p 0 1) (field p 4 4) f.1 with
    | none => .err rNotFound 4
    | some (prot, b) => guardBci [(prot, rProtConflict, 4)] (.ok f.2 (blobRead b (field p 8 4)))
/-- MEM_DUMP (R366, R403, R531). -/
def execMemDump (m : Fin 5) (s : State) : Out := (s.bci m cMemDump (len 12) fieldsMemDump (workMemDump s)).done

end Sys2Proof.Machine
end

