-- ==== Sys2Proof/Machine/BciPerf.lean ====
section
/-! DEFINITION. The counters group of the BCI (R525 to R531). -/
namespace Sys2Proof.Machine

/-- The instances of an event, none for a value that names no event (R525). -/
def eventInstance (ev : Nat) : Option (Nat → Bool) :=
  let lo := ev % 256
  let upTo (n : Nat) : Nat → Bool := fun i => decide (i < n)
  match ev / 256 with
  | 0 => if lo = 0 then some fun _ => true else none
  | 1 => if lo = 0 then some fun _ => true else if lo ≤ 4 then some (upTo 64) else none
  | 2 => if lo ≤ 5 then some (upTo 64) else none
  | 3 => if lo ≤ 2 then some (upTo 64) else none
  | 4 => if lo ≤ 4 then some (upTo 64) else none
  | 5 => if lo ≤ 5 then some (upTo 64) else none
  | 6 => if lo ≤ 2 then some (upTo 64) else none
  | 7 => if lo = 0 then some (upTo 16) else if lo ≤ 2 then some (upTo 64) else none
  | 8 => if lo ≤ 3 then some (upTo 128) else none
  | 9 => if lo ≤ 2 then some (upTo 19) else none
  | 10 => if lo ≤ 3 then some (upTo 4) else none
  | 11 => if lo ≤ 3 then some ownerOk else none
  | 12 => if lo ≤ 3 then some isSource else none
  | _ => none

def State.ctr (s : State) (n : Nat) : PerfCtr := Tbl.getD s.perf.ctrs n PerfCtr.reset
def State.setCtr (s : State) (n : Nat) (c : PerfCtr) : State := { s with perf := { s.perf with ctrs := Tbl.set s.perf.ctrs n c } }

def cPerfSelect : BciCmd := { code := 0x0D00, long := false, a3 := false, who := .mb }
/-- The fields of PerfSelect's payload. -/
def fieldsPerfSelect (p : List Byte) : List Fld := [fIf p 0 2 (· < 2048), fIf p 2 2 fun v => (eventInstance v).isSome, fIf p 4 2 fun v => v == 0xFFFF ||
      (match eventInstance (field p 2 2) with
        | some f => f v
        | none => true), fAny 6 2]
/-- The work of execPerfSelect. -/
def workPerfSelect (s : State) (p : List Byte) : Res :=
    let n := field p 0 2
    .ok (s.setCtr n { s.ctr n with count := 0, ovf := false, event := field p 2 2, instance_ := field p 4 2, qual := field p 6 2, resel := true }) []
/-- PERF_SELECT (R525, R526, R531): the counter and its OVF bit are zeroed. -/
def execPerfSelect (m : Fin 5) (s : State) : Out := (s.bci m cPerfSelect (len 8) fieldsPerfSelect (workPerfSelect s)).done

def cPerfGrant : BciCmd := { code := 0x0D01, long := false, a3 := false, who := .mb }
/-- The fields of PerfGrant's payload. -/
def fieldsPerfGrant (p : List Byte) : List Fld := [fCtx p 0, fIf p 2 2 (· ≤ 2047), fIf p 4 2 fun n => 1 ≤ n && field p 2 2 + n ≤ 2048, fIf p 6 1 (· ≤ 1)]
/-- The work of execPerfGrant. -/
def workPerfGrant (m : Fin 5) (s : State) (p : List Byte) : Res :=
    let c := field p 0 2
    let to_ := if field p 6 1 = 1 then some c else none
    guardBci (s.ctxRefusals m c 0)
      (.ok ((List.range (field p 4 2)).foldl (fun s i => s.setCtr (field p 2 2 + i) { s.ctr (field p 2 2 + i) with grant := to_ }) s) [])
/-- PERF_GRANT (R368, R527): it replaces any earlier grant of the counters. -/
def execPerfGrant (m : Fin 5) (s : State) : Out := (s.bci m cPerfGrant (len 7) fieldsPerfGrant (workPerfGrant m s)).done

/-- Bytes of a slot of `n` counters (R528). -/
def slotBytes (n : Nat) : Nat := 64 * ceilDiv (72 + 8 * n) 64

def cSweepConfig : BciCmd := { code := 0x0D02, long := false, a3 := false, who := .mb }
/-- The fields of SweepConfig's payload. -/
def fieldsSweepConfig (s : State) (p : List Byte) : List Fld :=
      let key := field p 12 4
      [fIf p 0 2 (· ≤ 2047), fIf p 2 2 fun n => 1 ≤ n && field p 0 2 + n ≤ 2048,
       fIf p 4 4 fun v => 1000 ≤ v && v ≤ 1000000000 && slotBytes (field p 2 2) ≤ 2 * v, fIf p 8 1 fun v => 1 ≤ v && v ≤ 16,
       fIf p 12 4 fun _ => match s.keyRegion key with
         | some r => bit r.perm pLocalWrite && r.kind != .cuWindow
         | none => true,
       fIf p 16 8 fun off => match s.keyRegion key with
         | some r => off + 2 ^ field p 8 1 * slotBytes (field p 2 2) ≤ r.size
         | none => true]
/-- The work of execSweepConfig. -/
def workSweepConfig (m : Fin 5) (s : State) (p : List Byte) : Res :=
    guardBci [((s.namedRegion (field p 12 4)).isNone, rNotFound, 12), (s.regionHeld (field p 12 4 / 256), rBusy, 0), (s.perf.running, rState, 0)]
      (.ok { s with perf := { s.perf with first := field p 0 2, n := field p 2 2, period := field p 4 4, slotsLog2 := field p 8 1,
                                          lkey := BitVec.ofNat 32 (field p 12 4), offset := field p 16 8, owner := m.val } } [])
/-- SWEEP_CONFIG (R528, R531). -/
def execSweepConfig (m : Fin 5) (s : State) : Out := (s.bci m cSweepConfig (len 24) (fieldsSweepConfig s) (workSweepConfig m s)).done

def cSweepCtrl : BciCmd := { code := 0x0D03, long := false, a3 := false, who := .mb }
/-- The fields of SweepCtrl's payload. -/
def fieldsSweepCtrl (p : List Byte) : List Fld := [fIf p 0 1 (· ≤ 1)]
/-- The work of execSweepCtrl. -/
def workSweepCtrl (s : State) (p : List Byte) : Res :=
    let start := field p 0 1 == 1
    let s' : State :=
      if start then
        if s.perf.running then s
        else { s with perf := { s.perf with running := true, stoppedDest := false, firstDump := true, startNt := s.clk.nt } }
      else { s with perf := { s.perf with running := false } }
    guardBci [(start && (s.perf.n == 0 || (s.keyRegion s.perf.lkey.toNat).isNone), rState, 0)] (.ok s' (leBytes 4 s'.perf.seq.toNat))
/-- SWEEP_CTRL (R528, R531): a stop lets a dump in progress finish; a start while the sweep runs changes nothing. A sweep without a
valid destination does not start. -/
def execSweepCtrl (m : Fin 5) (s : State) : Out := (s.bci m cSweepCtrl (len 1) fieldsSweepCtrl (workSweepCtrl s)).done

end Sys2Proof.Machine
end

