-- ==== Sys2Proof/Machine/PowerOps.lean ====
section
/-! DEFINITION. The operations of power and reset: power states, the eFuse's attempts and trips, device reset and its release, the mint
(R14, R15, R17, R23, R345, R369, R407, R410, R480 to R501). -/
namespace Sys2Proof.Machine

def State.modPwr (s : State) (f : Power → Power) : State := { s with pwr := f s.pwr }
def State.modSup (s : State) (f : Supply → Supply) : State := { s with sup := f s.sup }
def State.modBoot (s : State) (f : Boot → Boot) : State := { s with boot := f s.boot }

/-! ### Events (R501, R521) -/

/-- LAST_CAUSE. -/
def TripCause.code : TripCause → Nat
  | .none => 0 | .curve => 1 | .fast => 2 | .rampTimeout => 3 | .pgTimeout => 4 | .thermal => 5

/-- ALERT_N is asserted while any of bits 0 to 3 of INT_STATUS is set, whatever INT_ENABLE holds (R501). -/
def State.alertN (s : State) : Bool := s.sup.intStatus.extractLsb' 0 4 != 0

/-- FAULT_N is asserted: from a trip until PWR_GOOD next asserts, and while a UF fault has stopped the module (R487, R517). -/
def State.faultN (s : State) : Bool := s.pwr.faultN || s.faults.stopped

/-- Data of a power event (R521). -/
def State.pwrData (s : State) (old new : PwrState) : List Byte :=
  leBytes 1 s.pwr.lastCause.code ++ leBytes 1 s.pwr.used ++ leBytes 1 old.code ++ leBytes 1 new.code ++ leBytes 4 s.sup.vinMv
    ++ ((List.range 4).map fun q => leBytes 2 (s.sup.vcoreMv.getD q 0)).flatten ++ ((List.range 4).map fun q => leBytes 1 (s.sup.tj.getD q 0)).flatten

/-- A power event while the state does not change. -/
def State.pwrEvent (s : State) (code : Nat) : State := s.powerEvent code (s.pwrData s.pwr.st s.pwr.st)

/-- Set a bit of PWR.INT_STATUS: SAG_WARN 0, VCORE_WARN 1, TEMP_WARN 2, COOLANT_WARN 3, STATE_CHANGED 4 (R501). -/
def State.supInt (s : State) (b : Nat) : State :=
  let old := s.sup.intStatus
  let new := old ||| BitVec.ofNat 5 (2 ^ b)
  (s.modSup fun x => { x with intStatus := new }).notify old new s.sup.intEnable

/-- The power state changes (R494). -/
def State.setPwr (s : State) (new : PwrState) : State :=
  let old := s.pwr.st
  if old = new then s
  else
    let s := s.modPwr fun x => { x with st := new }
    (s.powerEvent 0x0068 (s.pwrData old new)).supInt 4

/-- Every port wants an operating point (R463, R495, R497). -/
def State.wantAll (s : State) (w : Point) : State := (List.range 64).foldl (fun s p => s.setWant p w) s

/-- What a port wants in A1 and in A2. -/
def PwrCfg.a1Point (c : PwrCfg) : Point := { doze := false, width := c.a1Width, rate := c.a1Rate }
def Point.dozed : Point := { doze := true, width := 8, rate := 0 }

/-- An asked-for change that is still under way fails. -/
def State.failChange (s : State) : State :=
  s.modPwr fun x => { x with change := x.change.map fun c => if c.ok then c else { c with attempted := true, failed := true } }

/-- An asked-for change to `target` is reached. -/
def State.okChange (s : State) (target : PwrState) : State :=
  s.modPwr fun x => { x with change := x.change.map fun c => if c.target = target ∧ c.failed = false then { c with attempted := true, ok := true } else c }

/-! ### The module configuration record (R17, R508) -/

/-- The record in force after both copies are read: the accepted one with the higher SEQUENCE, else the defaults. With equal SEQUENCEs it
is copy 0 (DESIGN CHOICE, log 140). -/
def Boot.readMcr (b : Boot) : Option McrCopy :=
  match b.copySeq 0, b.copySeq 1 with
  | none, none => none
  | some _, none => b.mcrCopies.getD 0 none
  | none, some _ => b.mcrCopies.getD 1 none
  | some x, some y => if x < y then b.mcrCopies.getD 1 none else b.mcrCopies.getD 0 none

/-- INFO_A of CONFIG_DEFAULTED (R519). -/
def Boot.defaultedInfo (b : Boot) : Nat :=
  let f (g : McrCopy → Bool) (i : Nat) : Nat := b2n (((b.mcrCopies.getD i none).map g).getD false)
  f (·.signatureOk) 0 + 2 * f (·.signatureOk) 1 + 4 * f (·.digestOk) 0 + 8 * f (·.digestOk) 1

/-- The record is read again, and CONFIG_DEFAULTED reported when no copy is accepted. -/
def State.loadMcr (s : State) : State :=
  let c := s.boot.readMcr
  let f := match c with
    | some x => x.fields
    | none => McrFields.default
  let s := s.modBoot fun b => { b with mcr := f, mcrFrom := c }
  let s := { s with faults := { s.faults with scheme := f.faultScheme } }
  if c.isNone then s.fault 0x0000 .configDefaulted none s.boot.defaultedInfo 0 else s

/-! ### Device reset (R345, R493) -/

/-- A cause of device reset holds. -/
def State.resetCause (s : State) : Bool := s.pins.modReset || !s.pwr.pwrGood || s.sup.vinRst || s.sup.vcRst.any id

/-- T_REL runs once no cause is left. -/
def State.relSync (s : State) : State :=
  if s.boot.inReset && !s.resetCause then s.modBoot fun b => { b with relFrom := s.clk.now } else s

/-- Mailbox 4 over a device reset: the page is the standby controller's. Of the accepted long commands only PWR_SET_STATE goes on, and a request
that bursar 0 had taken ends (R364, R373). -/
def Mailbox.overReset (b : Mailbox) : Mailbox :=
  let mine := match b.taken with | some r => r.standby | none => false
  { b with long := b.long.filter fun l => l.work == .pwrSetState, busy := b.busy && mine, taken := if mine then b.taken else none }

/-- What a device reset leaves of the fabric die: nothing of it keeps its state. Fuses, flash, the standby controller, the pins and the
cables are kept (R345, R410, R493). -/
def State.dieReset (s : State) : State :=
  let sec := Sec.reset s.sec.testLocked s.sec.ownerRequired s.sec.orderO s.sec.ownerHash s.sec.fusedSvn
  { s with clk := { s.clk with nt := 0, frac := 0 },
           boot := { s.boot with inReset := true, alive := .booting, heartbeat := 0, mintDone := false, balyn := false },
           host := HostPorts.reset, mbx := [(4, (s.box 4).overReset)], faults := Faults.reset, perf := Perf.reset, time := TimeState.reset,
           route := Route.reset s.boot.position 0, links := [], scheds := [], tiles := [], planes := [true, true], net := Net.reset,
           conns := Tbl.map (fun _ c => { Connector.reset with present := c.present }) s.conns,
           sec := { sec with fuseBusy := s.sec.fuseBusy, burnSvn := s.sec.burnSvn, burnOwner := s.sec.burnOwner },
           fw := { s.fw with running := none, session := none }, mem := Mem.reset 0, ctxs := [], ledgers := [], qps := [], gens := [],
           domains := [], nodes := [], violAt := [], pins := { s.pins with ppsOut := false } }

/-- The die enters device reset. A1 and A2 return to A0; a change to A2 under way ends, and so does one that a PF mailbox asked for. -/
def State.enterReset (s : State) : State :=
  if s.boot.inReset then s
  else
    let s := if s.pwr.st = .a1 ∨ s.pwr.st = .a2 then s.setPwr .a0 else s
    let s := (s.okChange .a0).modPwr fun x => { x with wakeFrom := none }
    let s := s.failChange
    let s := s.dieReset
    let s := if s.powerHeld then s else s.modPwr fun x => { x with change := none }
    s.loadMcr

/-! ### The eFuse (R480 to R489) -/

/-- The gate is turned off, and with it the converters and PWR_GOOD. -/
def State.gateOff (s : State) : State :=
  let s := s.modPwr fun x =>
    { x with gate := .off, gateOffAt := if x.gate = .off then x.gateOffAt else s.clk.now, converters := false, pwrGood := false }
  s.modSup fun x => { x with iinMa := 0 }

/-- An attempt: the gate ramps (R482, R488). -/
def State.startAttempt (s : State) : State := s.modPwr fun x => { x with gate := .ramping, attemptAt := s.clk.now }

/-- A trip (R487, R488): it counts in USED unless it is the first, and with USED equal to COUNT the eFuse latches. -/
def State.trip (s : State) (cause : TripCause) (point : Nat) : State :=
  if s.pwr.gate = .off then s
  else
    let count := s.pwrCfg.count
    let latch := count != 255 && decide (count ≤ s.pwr.used)
    let s := s.modPwr fun x =>
      { x with faultN := true, lastCause := cause, lastPoint := if cause = .curve then point else x.lastPoint,
               tripCount := x.tripCount + 1, used := if x.tripped then min 255 (x.used + 1) else x.used, tripped := true,
               latched := x.latched || latch }
    let s := s.gateOff.pwrEvent 0x0062
    let s := if latch then s.pwrEvent 0x0063 else s
    let s := s.failChange
    (s.setPwr .a3).enterReset

/-- Seat loss (R481). -/
def State.seatLoss (s : State) : State :=
  let s := (s.modPwr fun x => { x with qualified := false, used := 0, tripped := false }).gateOff
  let s := s.pwrEvent 0x0061
  let s := s.failChange
  (s.setPwr .a3).enterReset

/-- An attempt may start once the off time is over, and no overvoltage keeps the eFuse off (R488, R490, R494). -/
def State.mayAttempt (s : State) : Bool :=
  s.pwr.st == .a3 && s.pwr.gate == .off && s.pwr.qualified && !s.pwr.latched && !s.pwr.holdA3 && !s.sup.ov

/-- The eFuse ramps when the overvoltage that kept it off clears (R490); after a trip a retry waits for its off time (R488). -/
def State.rampsAgain (s : State) : Bool :=
  s.pwr.gate == .off && s.pwr.qualified && !s.pwr.latched && !s.pwr.holdA3 && (s.pwr.st != .a3 || !s.pwr.tripped)

/-- A curve timer is above 0. -/
def PwrCfg.ocTimer (c : PwrCfg) : Bool := c.timers.any fun t => decide (0 < t)

/-- Time in µs until timer `k` reaches T_k at a current of `ma` mA; none while the current does not exceed I_k (R484). -/
def PwrCfg.tripUs (c : PwrCfg) (ma k : Nat) : Option Nat :=
  let pt := c.curve.getD k (0, 0)
  if 100 * pt.1 < ma then some (ceilDiv (8 * pt.2 - c.timers.getD k 0) 8) else none

/-- The point whose timer is the first to reach its time at that current: `k`, unless another one is earlier (R484). -/
def PwrCfg.firstTrip (c : PwrCfg) (ma k : Nat) : Nat :=
  (List.range 8).foldl (fun j i => match c.tripUs ma i, c.tripUs ma j with
    | some a, some b => if a < b then i else j
    | _, _ => j) k

/-- The first point whose timer is at or above its time. -/
def PwrCfg.tripPoint (c : PwrCfg) : Option Nat := (List.range 8).find? fun k => 8 * (c.curve.getD k (0, 0)).2 ≤ c.timers.getD k 0

/-! ### The mint (R369, R407, R410) -/

/-- Checks 1 to 5 (R407). -/
def ImageHdr.valid (h : ImageHdr) (v : Sec) : Bool :=
  h.magicOk && h.haldoldOk && (!h.ownerSigned || h.ownerSigOk)
    && (!v.ownerRequired || (h.ownerSigned && fit 64 (Config.shake256 64 h.ownerPk) == v.ownerHash)) && h.digestOk

/-- The mint accepts a slot: all six checks, and TEST_LOCK blown (R404). -/
def FwSlot.boots (x : FwSlot) (v : Sec) : Bool :=
  x.valid && v.testLocked && (match x.hdr with
    | some h => h.valid v && decide (v.fusedSvn ≤ h.svn)
    | none => false)

/-- The slot of an index. -/
def Fw.slot (f : Fw) (i : Nat) : FwSlot := f.slots.getD i { hdr := none, valid := false }

/-- The mint picks a slot: one booted with TRIAL and not confirmed since gives way to the other; a slot that fails its checks too. -/
def Fw.boot (f : Fw) (v : Sec) : Fw :=
  let f := if f.selTrial && f.selBooted then { f with sel := 1 - f.sel, selTrial := false, selBooted := false } else f
  if (f.slot f.sel).boots v then { f with running := some f.sel, trial := f.selTrial, selBooted := f.selTrial }
  else if (f.slot (1 - f.sel)).boots v then { f with running := some (1 - f.sel), trial := false }
  else { f with running := none, trial := false }

/-- The fuses of the burn intent are blown: SVN, OWNER_KEY_HASH, OWNER_REQUIRED (R410). -/
def Sec.burn (v : Sec) : Sec :=
  let v := { v with fusedSvn := max v.fusedSvn v.burnSvn }
  let v := match v.burnOwner with
    | some h => { v with ownerHash := h, ownerRequired := true }
    | none => v
  { v with fuseBusy := false, burnOwner := none, burnSvn := 0 }

/-- Measurement entries 1 to 5 (R411). -/
def State.mintMeasures (s : State) : State :=
  let v := s.sec
  let h64 (l : List Byte) : List Byte := Config.shake256 64 l
  let s := s.measure 0x0001 Config.mintVersion (h64 Config.mintRom)
  let s := s.measure 0x0002 v.fusedSvn (h64 (Config.fuseBytes v.orderO v.ownerRequired v.ownerHash v.fusedSvn))
  let s := s.measure 0x0003 0 (h64 (match s.boot.mcrFrom with
    | some c => mcrRecord (some c) c.fields
    | none => zeros 64))
  match s.fw.running, s.fw.image with
  | some i, some h => (s.measure 0x0004 i (h64 h.raw)).measure 0x0005 h.svn h.bodyDigest
  | _, _ => s

end Sys2Proof.Machine
end

