-- ==== Sys2Proof/Machine/BootCmds.lean ====
section
/-! DEFINITION. The commands of standby power, device reset, start-up and the vault's random source and fuses, and of the measured
supplies and eFuse (rows 0 to 30, 297). -/
namespace Sys2Proof.Machine

/-! ### Standby power and device reset -/

/-- STANDBY_POWER_UP (R479, R494): the standby controller starts, and every setting it keeps is at its default. -/
def execStandbyPowerUp (s : State) : Out :=
  if s.pwr.st ≠ .off then .next s
  else
    let s := { s with pwrCfg := PwrCfg.reset, sup := Supply.reset, bmc := Bmc.reset, mbx := [] }
    let s := s.modPwr fun x =>
      { x with qualified := false, holdA3 := false, gate := .off, attemptAt := s.clk.now, gateOffAt := s.clk.now, converters := false,
               pwrGood := false, faultN := false, lastCause := .none, lastPoint := 0, tripped := false, used := 0, latched := false,
               tripCount := 0, change := none, wakeFrom := none }
    let s := { s with plog := { s.plog with standbySeq := 0 } }
    let s := (s.modBoot fun b => { b with releases := 0 }).dieReset
    (s.loadMcr.setPwr .a3).done

/-- STANDBY_POWER_LOSS (R485, R494): the module is off, and the standby controller's settings are lost. -/
def execStandbyPowerLoss (s : State) : Out :=
  if s.pwr.st = .off then .next s
  else
    let s := (s.gateOff.setPwr .off).dieReset
    let s := s.modPwr fun x => { x with qualified := false, holdA3 := false, latched := false, faultN := false, change := none }
    ({ s with pwrCfg := PwrCfg.reset, sup := Supply.reset, bmc := Bmc.reset, mbx := [] } : State).done

/-- MOD_RESET_ASSERT (R493): the pin has been low for `us` µs. Up to 1 µs it is ignored, above 10 µs always honoured, and between the two
a free value decides (log 2). -/
def execModResetAssert (us : Nat) (s : State) : Out :=
  if s.pins.modReset ∨ us ≤ 1 then .next s
  else
    let f := s.fresh 1
    let s := if us ≤ 10 then f.2 else s
    if us ≤ 10 ∧ f.1 = 0 then s.done
    else (({ s with pins := { s.pins with modReset := true } } : State).enterReset).done

/-- MOD_RESET_DEASSERT (R493): T_REL starts once no other cause is left. -/
def execModResetDeassert (s : State) : Out :=
  if !s.pins.modReset then .next s else (({ s with pins := { s.pins with modReset := false } } : State).relSync).done

/-- Cables that are present are powered as their presence asks (R477). -/
def State.powerCables (s : State) : State :=
  { s with conns := Tbl.map (fun _ c => if c.present then { c with vcc := true, onAt := s.clk.now } else c) s.conns }

/-- Neighbouring regions in the order of REGION_SKEW's pairs (R519). -/
def skewPairs : List (Nat × Nat) := [(0, 1), (0, 2), (1, 3), (2, 3)]

def absDiff (a b : Nat) : Nat := (a - b) + (b - a)

/-- REGION_SKEW is reported for a pair. -/
def State.tellSkew (s : State) (i : Nat) : State := s.fault 0x0002 .regionSkew none (s.sup.skewInfo i) 0

/-- What has been in force for 10 comparisons when the die leaves device reset is reported then (R14). -/
def State.tellSkews (s : State) : State :=
  (List.range 4).foldl (fun s i => if s.sup.skew.getD i false then s.tellSkew i else s) s

/-- One pair's comparison: over its limit, REGION_SKEW is reported once while the die runs (R14). -/
def State.comparePair (s : State) (i : Nat) : State :=
  let pr := skewPairs.getD i (0, 0)
  let dv := absDiff (s.sup.vcoreMv.getD pr.1 0) (s.sup.vcoreMv.getD pr.2 0)
  let dc := absDiff (s.sup.tj.getD pr.1 0) (s.sup.tj.getD pr.2 0)
  let is := decide (40 < dv) || decide (25 < dc)
  let was := s.sup.skew.getD i false
  let s := s.modSup fun x => { x with skewMv := put x.skewMv i dv, skewC := put x.skewC i dc, skew := put x.skew i is }
  if is && !was && s.dieRuns then s.tellSkew i else s

/-- DEVICE_RESET_RELEASE (R62, R369, R407, R410, R493): T_REL, 90 to 110 µs, after the last cause. The straps are sampled, an
interrupted fuse burn is completed, and the mint picks a slot or starts the recovery configuration. -/
def execDeviceResetRelease (s : State) : Out :=
  if !s.boot.inReset || s.resetCause || s.pwr.st == .off || s.pwr.st == .a3 then .next s
  else
    let f := s.fresh 15
    let k := f.2.fresh 64
    let s := k.2.reach (s.boot.relFrom + 90 * usTicks + f.1 % (20 * usTicks))
    let pos := s.pins.slotId.toNat
    let s := s.modSec fun v => if v.fuseBusy then v.burn else v
    let s := { s with fw := s.fw.boot s.sec, route := Route.reset pos (BitVec.ofNat 64 k.1) }
    let s := s.modBoot fun b =>
      { b with inReset := false, releases := b.releases + 1, position := pos, mintDone := s.fw.running.isNone,
               alive := if s.fw.running.isNone then .recovery else .booting }
    s.powerCables.tellSkews.done

/-- BALYN_START (R111, R290, R408): measurements 1 to 5, the interleave key and the tiles' salts. -/
def execBalynStart (s : State) : Out :=
  if !s.dieRuns || s.boot.mintDone || s.fw.running.isNone || s.boot.alive != .booting then .next s
  else
    let f := s.fresh 16
    let s := (f.2.mintMeasures).modBoot fun b => { b with mintDone := true, balyn := true }
    let s := s.modMem fun m => { m with key := BitVec.ofNat 16 f.1, engineGen := f.2.free }
    let s := s.modSec fun x => { x with saltAt := s.clk.now }
    ((List.range 64).foldl (fun s t =>
      let f := s.fresh 32
      f.2.modTile t fun x => { x with salt := BitVec.ofNat 32 f.1 }) s).done

/-- ALIVE_RUNNING (R424, R551): every register is written, and the ports whose EN is set leave DISABLED. -/
def execAliveRunning (s : State) : Out :=
  if !s.dieRuns || !s.boot.balyn || s.boot.alive != .booting then .next s
  else
    let s := s.modBoot fun b => { b with alive := .running }
    ((List.range 64).foldl (fun s p => s.startPort p) s).done

/-- CONFIG_SPACE_READY (R329): by Balyn, or by the mint's recovery configuration. -/
def execConfigSpaceReady (e : Fin 4) (s : State) : Out :=
  if !s.dieRuns || !s.formed e.val || (s.ep e.val).configured || s.pins.perst.getD (e.val / 2) true || !s.boot.mintDone then .next s
  else (s.modEp e.val fun x => { x with configured := true }).done

/-- HEARTBEAT (R332). -/
def execHeartbeat (s : State) : Out :=
  if s.dieRuns && s.boot.balyn then (s.modBoot fun b => { b with heartbeat := b.heartbeat + 1 }).done else .next s

/-! ### The vault -/

/-- FUSE_BURN_DONE (R410). -/
def execFuseBurnDone (s : State) : Out :=
  if s.dieRuns && s.sec.fuseBusy then ((s.modSec Sec.burn).secInt 3).done else .next s

/-- VAULT_RNG_FAIL (R421): health test `test` fails. Before Balyn starts the fault is UF and the module stops. -/
def execVaultRngFail (test : Nat) (s : State) : Out :=
  if !s.dieRuns || !s.sec.rngOk then .next s
  else
    let fatal := !s.boot.balyn
    let s := (s.modSec fun v => { v with rngOk := false }).secInt 4
    let d : Detection := { kind := .vaultRng, fatal := fatal, context := none, infoA := BitVec.ofNat 32 test, infoB := 0 }
    (s.record 0x0003 { d := d, injected := false, full := true, persist := false }).done

/-- RNG_SOURCE_PASS (R421). -/
def execRngSourcePass (s : State) : Out :=
  if s.dieRuns && !s.sec.rngOk then (s.modSec fun v => { v with rngOk := true }).done else .next s

/-! ### Seating -/

/-- SEAT_QUALIFIED (R480, R488): both contacts low for 25 ms. A new qualification clears USED and a latch, and ramps unless A3 is held. -/
def execSeatQualified (s : State) : Out :=
  if s.pwr.st = .off ∨ s.pwr.qualified = true then .next s
  else
    let s := s.passTime (25 * msTicks)
    let s := s.modPwr fun x => { x with seatA := true, seatB := true, qualified := true, used := 0, tripped := false, latched := false }
    let s := s.pwrEvent 0x0060
    (if s.mayAttempt then s.startAttempt else s).done

/-- SEAT_LOSS (R481): the contacts that still read low; at least one does not. -/
def execSeatLoss (a b : Bool) (s : State) : Out :=
  if (a && b) || s.pwr.st == .off then .next s
  else
    let was := s.pwr.qualified
    let s := s.modPwr fun x => { x with seatA := a, seatB := b }
    (if was then s.seatLoss else s).done

/-! ### The eFuse -/

/-- EFUSE_RAMP_DONE (R482): the gate is fully on, the curve armed and the converters running, at a current of `ma` mA. -/
def execEfuseRampDone (ma : Nat) (s : State) : Out :=
  if s.pwr.gate ≠ .ramping then .next s
  else ((s.modPwr fun x => { x with gate := .on, converters := !s.sup.vinRst }).modSup fun x => { x with iinMa := ma }).done

/-- RAMP_TIMEOUT (R482): 15 ms after the ramp started. -/
def execRampTimeout (s : State) : Out :=
  if s.pwr.gate ≠ .ramping then .next s else ((s.reach (s.pwr.attemptAt + 15 * msTicks)).trip .rampTimeout 0).done

/-- FAST_TRIP (R483, R489): more than 45 A at any time the gate is on. -/
def execFastTrip (s : State) : Out := if s.pwr.gate = .off then .next s else (s.trip .fast 0).done

/-- CURVE_TRIP (R484): a current of `ma` mA flows until timer `k` reaches its T_k, or another timer its own before that. -/
def execCurveTrip (k : Fin 8) (ma : Nat) (s : State) : Out :=
  let j := s.pwrCfg.firstTrip ma k.val
  match s.pwrCfg.tripUs ma k.val, s.pwrCfg.tripUs ma j with
  | some _, some us =>
    if s.pwr.gate ≠ .on then .next s
    else (((s.modSup fun x => { x with iinMa := ma }).passTime (us * usTicks)).trip .curve j).done
  | _, _ => .next s

/-- An attempt of R488 is under way: the gate has been on since it began, and PWR_GOOD has not asserted. -/
def State.attempting (s : State) : Bool :=
  s.pwr.gate != .off && !s.pwr.pwrGood && (s.pwr.st == .a3 || decide (s.pwr.pgSince < s.pwr.attemptAt))

/-- PWR_GOOD_ASSERT (R486, R488, R494): the supplies regulate at these readings. In A3 this ends the attempt, within its 20 ms, in A0. -/
def execPwrGoodAssert (vin ma : Nat) (vcore : List Nat) (s : State) : Out :=
  let late := s.attempting && decide (s.pwr.attemptAt + 20 * msTicks < s.clk.now)
  if s.pwr.gate ≠ .on ∨ s.pwr.converters = false ∨ s.pwr.pwrGood = true ∨ s.sup.vinRst = true ∨ s.pwrCfg.ocTimer = true ∨ late = true then .next s
  else
    let s := s.modSup fun x => { x with vinMv := vin, iinMa := ma, vcoreMv := vcore }
    let s := s.modPwr fun x => { x with pwrGood := true, pgSince := s.clk.now, faultN := false }
    let s := if s.pwr.st = .a3 then (s.setPwr .a0).okChange .a0 else s
    s.relSync.done

/-- PG_TIMEOUT (R488): 20 ms after the attempt started. -/
def execPgTimeout (s : State) : Out :=
  if !s.attempting then .next s
  else ((s.reach (s.pwr.attemptAt + 20 * msTicks)).trip .pgTimeout 0).done

/-- EFUSE_RETRY (R488, R494, R500): the off time has elapsed, and after a THERMAL trip every junction reads 85 °C or less. -/
def execEfuseRetry (tj : List Nat) (s : State) : Out :=
  if !s.mayAttempt || (s.pwr.lastCause == .thermal && tj.any fun t => decide (85 < t)) then .next s
  else ((s.reach (s.pwr.gateOffAt + s.pwrCfg.offS * secTicks)).startAttempt).done

/-- RETRY_COUNT_RESET (R488): PWR_GOOD has stayed asserted for 60 s. -/
def execRetryCountReset (s : State) : Out :=
  if !s.pwr.pwrGood then .next s
  else ((s.reach (s.pwr.pgSince + 60 * secTicks)).modPwr fun x => { x with used := 0, tripped := false }).done

/-! ### Supply supervision (R14, R15, R490) -/

/-- The standby controller supervises: it runs, and the input is on. -/
def State.supervised (s : State) : Bool := s.pwr.st != .off

/-- VIN falls below its warning threshold. -/
def State.sagWarn (s : State) : State :=
  if s.sup.sag then s else ((s.modSup fun x => { x with sag := true }).supInt 0).pwrEvent 0x0064

/-- VIN_SAG (R490): VIN reads `mv`. -/
def execVinSag (mv : Nat) (s : State) : Out :=
  if !s.supervised || s.sup.sag || decide (s.pwrCfg.vinWarn * 100 ≤ mv) then .next s
  else (((s.passTime (10 * usTicks)).modSup fun x => { x with vinMv := mv }).sagWarn).done

/-- VIN_RESET (R490): a warning crossing too; the converters stop and PWR_GOOD deasserts, the eFuse stays on. -/
def execVinReset (mv : Nat) (s : State) : Out :=
  if !s.supervised || s.sup.vinRst || decide (s.pwrCfg.vinReset * 100 ≤ mv) then .next s
  else
    let s := ((s.passTime (5 * usTicks)).modSup fun x => { x with vinMv := mv, vinRst := true }).sagWarn
    ((s.modPwr fun x => { x with converters := false, pwrGood := false }).enterReset).done

/-- VIN_OVERVOLTAGE (R490): the eFuse turns off without counting a trip. -/
def execVinOvervoltage (mv : Nat) (s : State) : Out :=
  if !s.supervised || s.sup.ov || decide (mv ≤ 63000) then .next s
  else
    let s := (s.passTime (10 * usTicks)).modSup fun x => { x with vinMv := mv, ov := true }
    s.gateOff.enterReset.done

/-- VCORE_LOW (R15, R161, R490): region `q` reads `mv`; BOUND_OK falls as the command ends. -/
def execVcoreLow (q : Fin 4) (mv : Nat) (s : State) : Out :=
  if !s.pwr.converters || s.sup.vcLow.getD q.val false || decide (s.pwrCfg.vcWarn ≤ mv) then .next s
  else
    let s := (s.passTime (10 * usTicks)).modSup fun x => { x with vcoreMv := put x.vcoreMv q.val mv, vcLow := put x.vcLow q.val true }
    ((s.supInt 1).pwrEvent 0x0065).done

/-- VCORE_RESET (R15, R490): device reset. -/
def execVcoreReset (q : Fin 4) (mv : Nat) (s : State) : Out :=
  if !s.pwr.converters || s.sup.vcRst.getD q.val false || decide (s.pwrCfg.vcReset ≤ mv) then .next s
  else
    let s := (s.passTime usTicks).modSup fun x => { x with vcoreMv := put x.vcoreMv q.val mv, vcRst := put x.vcRst q.val true }
    s.enterReset.done

/-- A junction of region `q` is above 105 °C. -/
def State.hotWarn (s : State) (q : Nat) : State :=
  if s.sup.hot.getD q false then s else ((s.modSup fun x => { x with hot := put x.hot q true }).supInt 2).pwrEvent 0x0066

/-- TEMP_HIGH (R490): the hottest junction of region `q` reads `c` °C. -/
def execTempHigh (q : Fin 4) (c : Nat) (s : State) : Out :=
  if !s.supervised || s.sup.hot.getD q.val false || decide (c ≤ 105) then .next s
  else (((s.passTime msTicks).modSup fun x => { x with tj := put x.tj q.val c }).hotWarn q.val).done

/-- TEMP_SHUTDOWN (R490): a trip with cause THERMAL; the warning threshold is passed too. -/
def execTempShutdown (q : Fin 4) (c : Nat) (s : State) : Out :=
  if !s.supervised || s.pwr.gate == .off || decide (c ≤ 115) then .next s
  else ((((s.passTime msTicks).modSup fun x => { x with tj := put x.tj q.val c }).hotWarn q.val).trip .thermal 0).done

/-- COOLANT_WARN (R490): inlet in °C and flow in mL/min, for 1 s. -/
def execCoolantWarn (inlet flow : Nat) (s : State) : Out :=
  if !s.supervised || s.sup.cool || (decide (inlet ≤ 45) && decide (1200 ≤ flow)) then .next s
  else
    let s := (s.passTime secTicks).modSup fun x => { x with inlet := inlet, flow := flow, cool := true }
    ((s.supInt 3).pwrEvent 0x0067).done

/-- THRESHOLD_CLEAR (R490): a reading has passed its threshold by the hysteresis. -/
def execThresholdClear (w : Clearing) (s : State) : Out :=
  let cfg := s.pwrCfg
  if !s.supervised then .next s
  else match w with
    | .vinWarn mv =>
      if s.sup.sag && decide (cfg.vinWarn * 100 + 1000 ≤ mv) then (s.modSup fun x => { x with vinMv := mv, sag := false }).done else .next s
    | .vinReset mv =>
      if s.sup.vinRst && decide (cfg.vinReset * 100 + 2000 ≤ mv) then
        let s := s.modSup fun x => { x with vinMv := mv, vinRst := false }
        ((s.modPwr fun x => { x with converters := x.gate == .on }).relSync).done
      else .next s
    | .vinOver mv =>
      if s.sup.ov && decide (mv + 2000 ≤ 63000) then
        let s := s.modSup fun x => { x with vinMv := mv, ov := false }
        (if s.rampsAgain then s.startAttempt else s).done
      else .next s
    | .vcoreWarn q mv =>
      if s.sup.vcLow.getD q.val false && decide (cfg.vcWarn + 10 ≤ mv) then
        (s.modSup fun x => { x with vcoreMv := put x.vcoreMv q.val mv, vcLow := put x.vcLow q.val false }).done
      else .next s
    | .vcoreReset q mv =>
      if s.sup.vcRst.getD q.val false && decide (cfg.vcReset + 20 ≤ mv) then
        ((s.modSup fun x => { x with vcoreMv := put x.vcoreMv q.val mv, vcRst := put x.vcRst q.val false }).relSync).done
      else .next s
    | .junction q c =>
      if s.sup.hot.getD q.val false && decide (c + 3 ≤ 105) then
        (s.modSup fun x => { x with tj := put x.tj q.val c, hot := put x.hot q.val false }).done
      else .next s
    | .coolant inlet flow =>
      if s.sup.cool && decide (inlet + 1 ≤ 45) && decide (1300 ≤ flow) then
        (s.modSup fun x => { x with inlet := inlet, flow := flow, cool := false }).done
      else .next s

/-- REGION_SKEW (R14, R479), in every power state: these readings of VCORE_Q0 to VCORE_Q3 and of the hottest junctions have held for 10 comparisons, 100 µs apart. -/
def execRegionSkew (vcore tj : List Nat) (s : State) : Out :=
  if s.pwr.st == .off || vcore.length != 4 || tj.length != 4 then .next s
  else
    let s := (s.passTime msTicks).modSup fun x => { x with vcoreMv := vcore, tj := tj }
    ((List.range 4).foldl State.comparePair s).done

end Sys2Proof.Machine
end

