-- ==== Sys2Proof/Machine/BciPower.lean ====
section
/-! DEFINITION. The power group of the BCI, and entry to and waking from A2 (R55, R485, R492, R494 to R500). -/
namespace Sys2Proof.Machine

def cPwrQuery : BciCmd := { code := 0x0E00, long := false, a3 := true, who := .all }
/-- The work of execPwrQuery. -/
def workPwrQuery (s : State) (_ : List Byte) : Res :=
    let x := s.pwr
    let y := s.sup
    .ok s (leBytes 1 x.st.code
      ++ leBytes 1 (b2n (x.gate == .on) + 2 * b2n x.pwrGood + 4 * b2n x.seatA + 8 * b2n x.seatB + 16 * b2n s.pwrCfg.ocTimer + 32 * b2n x.latched
          + 64 * b2n x.holdA3)
      ++ leBytes 1 x.used ++ leBytes 1 x.lastCause.code ++ leBytes 4 y.vinMv ++ leBytes 4 y.iinMa
      ++ ((List.range 4).map fun q => leBytes 2 (y.vcoreMv.getD q 0)).flatten ++ ((List.range 4).map fun q => leBytes 1 (y.tj.getD q 0)).flatten
      ++ leBytes 1 y.inlet ++ leBytes 1 y.outlet ++ leBytes 2 y.flow)
/-- PWR_QUERY (R499). -/
def execPwrQuery (m : Fin 5) (s : State) : Out := (s.bci m cPwrQuery (len 0) noFields (workPwrQuery s)).done

/-! ### PWR_SET_STATE (R494, R497, R500) -/

/-- STATE in byte 0 of PWR_SET_STATE. -/
def pwrStateOf : Nat → PwrState
  | 0 => .a0 | 1 => .a1 | 2 => .a2 | _ => .a3

/-- A0 from A1, or full points again. -/
def State.toA0 (s : State) : State := ((s.setPwr .a0).wantAll Point.full).okChange .a0

/-- A1 from A0, or new points in A1. -/
def State.toA1 (s : State) : State := ((s.setPwr .a1).wantAll s.pwrCfg.a1Point).okChange .a1

/-- A3 on command: HOLD_A3, DOWN with cause POWER on every port, device reset, eFuse off. -/
def State.toA3 (s : State) : State :=
  let s := if s.dieRuns then s.stopPorts .power else s
  let s := ((s.modPwr fun x => { x with holdA3 := true }).gateOff.setPwr .a3).okChange .a3
  s.enterReset

/-- The change to a state begins, and happens at once where nothing has to be waited for. -/
def State.beginPower (s : State) (target : PwrState) : State :=
  let c : PwrChange := { target := target, since := s.clk.now, attempted := false, ok := false, failed := false }
  let s := s.modPwr fun x => { x with change := some c }
  match s.pwr.st, target with
  | .a3, .a0 => s.modPwr fun x => { x with holdA3 := false }
  | .a3, .a3 => s.toA3
  | .a3, _ => s.failChange
  | .a2, .a0 => s.wake
  | .a2, .a1 => s.wake
  | .a2, .a2 => s.okChange .a2
  | _, .a0 => s.toA0
  | _, .a1 => s.toA1
  | _, .a2 => s
  | _, _ => s.toA3

def cPwrSetState : BciCmd := { code := 0x0E01, long := true, a3 := true, who := .mb }
/-- The fields of PwrSetState's payload. -/
def fieldsPwrSetState (p : List Byte) : List Fld := [fIf p 0 1 (· ≤ 3), fIf p 1 1 fun w => w == 1 || w == 2 || w == 4 || w == 8, fIf p 2 1 (· ≤ 2)]
/-- The work of execPwrSetState. -/
def workPwrSetState (m : Fin 5) (s : State) (p : List Byte) : Res :=
    let target := pwrStateOf (field p 0 1)
    let s' := { s with pwrCfg := { s.pwrCfg with a1Width := field p 1 1, a1Rate := field p 2 1 } }
    guardBci [(target == .a3 && m.val != 4, rDenied, 0), (s.powerHeld, rBusy, 0),
              (s.pwr.st == .a3 && target == .a0 && (s.pwr.latched || !s.pwr.qualified), rState, 0)]
      (.accepted (s'.beginPower target) .pwrSetState [])
/-- PWR_SET_STATE (R368, R494, R500). -/
def execPwrSetState (m : Fin 5) (s : State) : Out := (s.bci m cPwrSetState (len 3) fieldsPwrSetState (workPwrSetState m s)).done

/-- PWR_SET_STATE_DONE (R494, R500): the state is reached, the first attempt has tripped, or the state cannot be reached. -/
def execPwrSetStateDone (m : Fin 5) (token : U32) (s : State) : Out :=
  match s.long? m.val token, s.pwr.change with
  | some l, some c =>
    if l.work ≠ .pwrSetState ∨ (c.ok = false ∧ c.failed = false) then .next s
    else
      let s' := s.modPwr fun x => { x with change := none }
      if c.ok then (s'.finish m.val l rOk (leBytes 1 c.target.code)).done
      else if c.target = .a0 then (s'.finish m.val l rHwFault (leBytes 1 3 ++ leBytes 1 s.pwr.lastCause.code)).done
      else (s'.finish m.val l rState (leBytes 1 s.pwr.st.code)).done
  | _, _ => .next s

/-! ### A2 (R494 to R496) -/

/-- A change to A2 is under way. -/
def Power.enteringA2 (x : Power) : Bool := match x.change with
  | some c => c.target == .a2 && !c.ok && !c.failed
  | none => false

/-- The conditions of R495. -/
def State.a2Ready (s : State) : Bool :=
  (s.ctxs.all fun e => e.2.chains.all fun h => h.st == .queued || h.st == .prepared || (h.st == .waiting && h.held))
    && (s.nodes.all fun e => e.2.insts.isEmpty) && (s.domains.all fun e => e.2.busy.isEmpty) && (s.tiles.all fun e => e.2.susp.isEmpty)
    && (s.host.eps.all fun e => e.2.tags.isEmpty && e.2.waiting.isEmpty) && s.mem.xfers.isEmpty

/-- A2_ENTRY (R495): within 10 ms of PWR_SET_STATE, unless a wake event has ended the entry. -/
def execA2Entry (s : State) : Out :=
  let inTime := match s.pwr.change with
    | some c => decide (s.clk.now ≤ c.since + 10 * msTicks)
    | none => false
  if s.works && s.pwr.enteringA2 && s.pwr.wakeFrom.isNone && inTime && s.a2Ready then
    (((s.setPwr .a2).wantAll Point.dozed).okChange .a2).done
  else .next s

/-- A2_ENTRY_TIMEOUT (R494): the state is unchanged, and the record will say STATE. -/
def execA2EntryTimeout (s : State) : Out :=
  match s.pwr.change with
  | some c => if s.pwr.enteringA2 && s.pwr.wakeFrom.isNone then ((s.reach (c.since + 10 * msTicks)).failChange).done else .next s
  | none => .next s

/-- A2_WAKE (R494, R496): the module is in A0, within 8 µs of the wake event; what waited for it goes on. A1, if that was asked for,
follows. -/
def execA2Wake (s : State) : Out :=
  match s.pwr.wakeFrom with
  | none => .next s
  | some _ =>
    let s : State := if s.pwr.enteringA2 then s.failChange else s
    let s : State := (s.modPwr fun x => { x with wakeFrom := none }).toA0
    let s : State := match s.pwr.change with
      | some c => if c.target = .a1 ∧ c.failed = false then s.toA1 else s
      | none => s
    ((List.range 64).foldl (fun s t => s.releaseSusp t fun x => x.why == .asleep) s).done

/-- TRANSIT_DOZE_WAIT (R496): a transit packet of TC1 to TC7 has waited 10 µs at port `p` in DOZE. -/
def execTransitDozeWait (p : Fin 64) (s : State) : Out :=
  let waits := ((s.sched p.val).queues.drop 1).any fun q => q.any fun k => feidModule k.hdr.src != s.moduleId
  if s.pwr.st == .a2 && (s.link p.val).st == .doze && waits then (s.passTime (10 * usTicks)).wake.done else .next s

/-- The launch targets that are pending. -/
def State.launchTargets (s : State) : List U64 :=
  (s.ctxs.map fun e => (e.2.chains.filter fun h => h.st == .queued || h.st == .prepared).map Chain.launchAt).flatten

/-- LAUNCH_WAKE (R55, R496): 30 µs before the earliest pending target. -/
def execLaunchWake (s : State) : Out :=
  if s.pwr.st ≠ .a2 then .next s
  else
    let now := s.clk.nt
    match (s.launchTargets.map fun t => (circ 64 t.toNat now.toNat)).min? with
    | none => .next s
    | some gap => (s.reachNt (now + BitVec.ofNat 64 (gap - 30 * usTicks).toNat)).wake.done

/-! ### Settings (R485, R492, R499) -/

/-- A threshold after the command: 0 changes nothing. -/
def threshRefusals (w r : Nat) (wr rr : Nat × Nat) (gap step : Nat) (nw nr offW offR : Nat) : List (Nat × Bool) :=
  let w' := dflt nw w
  let r' := dflt nr r
  [(offW, nw == 0 || (wr.1 ≤ nw && nw ≤ wr.2 && nw % step == 0)),
   (offR, (nr == 0 || (rr.1 ≤ nr && nr ≤ rr.2 && nr % step == 0)) && r' + gap ≤ w')]

def cPwrSetThresh : BciCmd := { code := 0x0E02, long := false, a3 := true, who := .mb }
/-- The fields of PwrSetThresh's payload. -/
def fieldsPwrSetThresh (s : State) (p : List Byte) : List Fld :=
      ((threshRefusals s.pwrCfg.vinWarn s.pwrCfg.vinReset (410, 500) (360, 420) 20 1 (field p 0 2) (field p 2 2) 0 2)
        ++ threshRefusals s.pwrCfg.vcWarn s.pwrCfg.vcReset (690, 740) (600, 660) 30 5 (field p 4 2) (field p 6 2) 4 6).map fun e =>
        { off := e.1, size := 2, ok := e.2 }
/-- The work of execPwrSetThresh. -/
def workPwrSetThresh (s : State) (p : List Byte) : Res :=
    let c := s.pwrCfg
    guardBci [(decide (s.sup.vinMv < 100 * field p 2 2), rState, 2), (s.sup.vcoreMv.any fun v => decide (v < field p 6 2), rState, 6)]
      (.ok { s with pwrCfg := { c with vinWarn := dflt (field p 0 2) c.vinWarn, vinReset := dflt (field p 2 2) c.vinReset,
                                       vcWarn := dflt (field p 4 2) c.vcWarn, vcReset := dflt (field p 6 2) c.vcReset } } [])
/-- PWR_SET_THRESH (R492, R499): never a threshold that a present reading already lies below. -/
def execPwrSetThresh (m : Fin 5) (s : State) : Out := (s.bci m cPwrSetThresh (len 8) (fieldsPwrSetThresh s) (workPwrSetThresh s)).done

def cPwrSetCurve : BciCmd := { code := 0x0E03, long := false, a3 := true, who := .mb }
/-- The fields of PwrSetCurve's payload. -/
def fieldsPwrSetCurve (p : List Byte) : List Fld :=
      let i (k : Nat) : Nat := field p (8 * k) 2
      let t (k : Nat) : Nat := field p (8 * k + 4) 4
      ((List.range 8).map fun k =>
        [fIf p (8 * k) 2 fun v => 200 ≤ v && v < 450 && (k == 0 || i (k - 1) < v),
         fIf p (8 * k + 4) 4 fun v => 1 ≤ v && v ≤ 4194303 && (k == 0 || v ≤ t (k - 1))]).flatten
/-- The work of execPwrSetCurve. -/
def workPwrSetCurve (s : State) (p : List Byte) : Res :=
    let curve := (List.range 8).map fun k => (field p (8 * k) 2, field p (8 * k + 4) 4)
    let s := { s with pwrCfg := { s.pwrCfg with curve := curve } }
    .ok (match s.pwr.gate, s.pwrCfg.tripPoint with
      | .on, some k => s.trip .curve k
      | _, _ => s) []
/-- PWR_SET_CURVE (R485, R499): the timers keep their time, and one at or above its new T_k trips at once. -/
def execPwrSetCurve (m : Fin 5) (s : State) : Out := (s.bci m cPwrSetCurve (len 64) fieldsPwrSetCurve (workPwrSetCurve s)).done

def cPwrSetRetry : BciCmd := { code := 0x0E04, long := false, a3 := true, who := .mb }
/-- The fields of PwrSetRetry's payload. -/
def fieldsPwrSetRetry (p : List Byte) : List Fld := [fAny 0 1, fIf p 1 1 fun v => 4 ≤ v && v ≤ 60, fIf p 2 1 fun v => 40 ≤ v && v ≤ 100, fIf p 3 1 (· ≤ 1)]
/-- The work of execPwrSetRetry. -/
def workPwrSetRetry (s : State) (p : List Byte) : Res :=
    let s := { s with pwrCfg := { s.pwrCfg with count := field p 0 1, offS := field p 1 1, inrush := field p 2 1 } }
    .ok (if field p 3 1 = 1 then s.modPwr fun x => { x with latched := false, used := 0, tripped := false } else s) []
/-- PWR_SET_RETRY (R488, R499): REARM clears LATCHED and USED, and an attempt may start once the off time has elapsed. -/
def execPwrSetRetry (m : Fin 5) (s : State) : Out := (s.bci m cPwrSetRetry (len 4) fieldsPwrSetRetry (workPwrSetRetry s)).done

end Sys2Proof.Machine
end

