-- ==== Sys2Proof/Machine/BciFw.lean ====
section
/-! DEFINITION. The firmware update group of the BCI (R366, R369, R370, R406, R407, R409 to R411). -/
namespace Sys2Proof.Machine

/-- Bytes of a firmware slot. -/
def slotSize : Nat := 25165824

/-- The session of mailbox `m` is open. -/
def Fw.openFor (f : Fw) (m : Nat) : Option FwSession := f.session.bind fun x => if x.box = m ∧ x.committing = false then some x else none

/-- A session of another mailbox is open. -/
def Fw.openElse (f : Fw) (m : Nat) : Bool := match f.session with
  | some x => x.box != m && !x.committing
  | none => false

def State.modFw (s : State) (f : Fw → Fw) : State := { s with fw := f s.fw }

/-! ### Image headers (R406) -/

/-- Bytes `a` to `b - 1` are zero. -/
def zeroRange (h : List Byte) (a b : Nat) : Bool := ((h.drop a).take (b - a)).all (· == 0)

/-- "AVN6410-IMAGE", the context string of both signatures (R406). -/
def imageContext : List Byte := ascii [0x41, 0x56, 0x4E, 0x36, 0x34, 0x31, 0x30, 0x2D, 0x49, 0x4D, 0x41, 0x47, 0x45]

/-- The header and its checks, from the bytes of a slot of `size` bytes (R406, R407). -/
def parseImage (cells : List Host.Cell) (size : Nat) : ImageHdr :=
  let h := Memory.read cells 0 512
  let flags := field h 10 2
  let signed := bit flags 0
  let prov := bit flags 1
  let body := field h 12 4
  let at_ (off n : Nat) : List Byte := (h.drop off).take n
  { magicOk := (h.take 8 == [0x48, 0x44, 0x4C, 0x44, 0x49, 0x4D, 0x47, 0x01]) && field h 8 1 == 1 && field h 24 2 == 0x6410
      && field h 26 1 == 0x10 && decide (1 ≤ body ∧ body ≤ 25100288 ∧ 0x10000 + body ≤ size) && decide (flags < 4) && decide (field h 9 1 ≤ 64)
      && zeroRange h 27 64 && (signed || zeroRange h 192 256) && (prov || zeroRange h 256 320) && zeroRange h 320 512,
    svn := field h 9 1, ownerSigned := signed, ownerProvision := prov, version := BitVec.ofNat 64 (field h 16 8), bodyDigest := at_ 64 64,
    ownerPk := at_ 192 64, provisionHash := at_ 256 64,
    haldoldOk := (fit 64 (Config.shake256 64 (at_ 128 64)) == fit 64 Config.romPkHash) && Config.slhVerify (at_ 128 64) imageContext h (Memory.read cells 0x200 29792),
    ownerSigOk := Config.slhVerify (at_ 192 64) imageContext h (Memory.read cells 0x7660 29792),
    digestOk := fit 64 (Config.shake256 64 (Memory.read cells 0x10000 body)) == at_ 64 64, raw := h }

/-! ### Commands -/

def cFwQuery : BciCmd := { code := 0x0F00, long := false, a3 := true, who := .all }
/-- The work of execFwQuery. -/
def workFwQuery (s : State) (_ : List Byte) : Res :=
    let slots := (List.range 2).map fun i => (i, (s.fw.slot i).valid, (s.fw.slot i).hdr.map fun h : ImageHdr => h.version)
    .ok s ((Config.fwQueryRsp slots s.fw.sel s.fw.selTrial s.fw.running s.fw.trial).take 1008)
/-- FW_QUERY (R366): slots, versions, selection and trial state; the bytes that carry them are open (log 47). -/
def execFwQuery (m : Fin 5) (s : State) : Out := (s.bci m cFwQuery (len 0) noFields (workFwQuery s)).done

def cFwBegin : BciCmd := { code := 0x0F01, long := false, a3 := true, who := .mb }
/-- The fields of FwBegin's payload. -/
def fieldsFwBegin (p : List Byte) : List Fld := [fIf p 0 1 (· ≤ 1), fIf p 4 4 fun n => 1 ≤ n && n ≤ slotSize]
/-- The work of execFwBegin. -/
def workFwBegin (m : Fin 5) (s : State) (p : List Byte) : Res :=
    let i := field p 0 1
    let x : FwSession := { box := m.val, slot := i, size := field p 4 4, cells := [], committing := false }
    guardBci [(s.flashHeld || s.fw.session.isSome, rBusy, 0), (s.fw.running == some i, rState, 0)]
      (.ok (s.modFw fun f => { f with slots := put f.slots i { hdr := none, valid := false }, session := some x }) [])
/-- FW_BEGIN (R370): SLOT in byte 0 and SIZE in bytes 4–7 (log 47). The slot is erased and invalid. -/
def execFwBegin (m : Fin 5) (s : State) : Out := (s.bci m cFwBegin (len 8) fieldsFwBegin (workFwBegin m s)).done

def cFwWrite : BciCmd := { code := 0x0F02, long := false, a3 := true, who := .mb }
/-- The fields of FwWrite's payload. -/
def fieldsFwWrite (m : Fin 5) (s : State) (p : List Byte) : List Fld := [fIf p 0 4 (fun off => match s.fw.openFor m.val with
      | some x => off + (p.length - 8) ≤ x.size
      | none => true), fAny 8 992]
/-- The work of execFwWrite. -/
def workFwWrite (m : Fin 5) (s : State) (p : List Byte) : Res :=
    guardBci [(s.fw.openElse m.val, rDenied, 0), (s.flashHeld, rBusy, 0)]
      (match s.fw.openFor m.val with
        | none => .err rState 0
        | some x =>
          let x := { x with cells := Memory.write x.cells (field p 0 4) (p.drop 8) }
          .ok (s.modFw fun f => { f with session := some x }) [])
/-- FW_WRITE (R353, R370): 1 to 992 bytes from byte 8. -/
def execFwWrite (m : Fin 5) (s : State) : Out := (s.bci m cFwWrite (fun p => max 9 (min 1000 p.length)) (fieldsFwWrite m s) (workFwWrite m s)).done

def cFwCommit : BciCmd := { code := 0x0F03, long := true, a3 := true, who := .mb }
/-- The work of execFwCommit. -/
def workFwCommit (m : Fin 5) (s : State) (_ : List Byte) : Res :=
    guardBci [(s.fw.openElse m.val, rDenied, 0), (s.flashHeld, rBusy, 0)]
      (match s.fw.openFor m.val with
        | none => .err rState 0
        | some x => .accepted (s.modFw fun f => { f with session := some { x with committing := true } }) (.fwCommit x.slot) [])
/-- FW_COMMIT (R370): the session closes, and the flash is held until the record is written. -/
def execFwCommit (m : Fin 5) (s : State) : Out := (s.bci m cFwCommit (len 0) noFields (workFwCommit m s)).done

/-- FW_COMMIT_DONE (R370, R407, R411): `flashError` says that the flash failed. A slot that passes is valid, and is measured while Balyn
runs. -/
def execFwCommitDone (m : Fin 5) (token : U32) (flashError : Bool) (s : State) : Out :=
  match s.long? m.val token, s.fw.session with
  | some l, some x =>
    if l.work ≠ .fwCommit x.slot ∨ x.committing = false then .next s
    else
      let h := parseImage x.cells x.size
      let s := s.modFw fun f => { f with session := none }
      if flashError then (s.finish m.val l 0x12 []).done
      else if !h.valid s.sec then (s.finish m.val l rImageInvalid []).done
      else if h.svn < s.sec.fusedSvn then (s.finish m.val l rRollback []).done
      else
        let s := s.modFw fun f => { f with slots := put f.slots x.slot { hdr := some h, valid := true } }
        let s := if s.boot.balyn && s.dieRuns then s.measure 0x0010 x.slot (Config.shake256 64 h.raw) else s
        (s.finish m.val l rOk []).done
  | _, _ => .next s

def cFwActivate : BciCmd := { code := 0x0F04, long := false, a3 := true, who := .mb }
/-- The fields of FwActivate's payload. -/
def fieldsFwActivate (p : List Byte) : List Fld := [fIf p 0 1 (· ≤ 1), fIf p 1 1 (· ≤ 1)]
/-- The work of execFwActivate. -/
def workFwActivate (m : Fin 5) (s : State) (p : List Byte) : Res :=
    let i := field p 0 1
    guardBci [(s.fw.openElse m.val, rDenied, 0), (s.flashHeld, rBusy, 0), (!(s.fw.slot i).valid, rState, 0)]
      (.ok (s.modFw fun f => { f with sel := i, selTrial := field p 1 1 == 1, selBooted := false }) [])
/-- FW_ACTIVATE (R370): SLOT in byte 0 and TRIAL in bit 0 of byte 1 (log 47). -/
def execFwActivate (m : Fin 5) (s : State) : Out := (s.bci m cFwActivate (len 2) fieldsFwActivate (workFwActivate m s)).done

def cFwConfirm : BciCmd := { code := 0x0F05, long := false, a3 := false, who := .mb }
/-- The owner provisioning that FW_CONFIRM makes due: the hash to fuse (R409). -/
def ImageHdr.provision (h : ImageHdr) (v : Sec) : Option (List Byte) :=
  if h.ownerSigned && h.ownerProvision && !v.ownerRequired && h.provisionHash == fit 64 (Config.shake256 64 h.ownerPk) then some h.provisionHash else none
/-- The work of execFwConfirm. -/
def workFwConfirm (s : State) (_ : List Byte) : Res :=
    guardBci [(s.flashHeld, rBusy, 0)]
      (match s.fw.running, s.fw.image with
        | some i, some h =>
          let own := h.provision s.sec
          let svn := max s.sec.fusedSvn h.svn
          let s := s.modFw fun f => { f with trial := false, selTrial := if f.sel = i then false else f.selTrial }
          let s := if s.sec.fusedSvn < svn ∨ own.isSome = true then
              s.modSec fun v => { v with fuseBusy := true, burnFrom := s.clk.now, burnSvn := svn, burnOwner := own }
            else s
          .ok (s.measure 0x0011 svn (Config.shake256 64 h.raw)) []
        | _, _ => .err rState 0)
/-- FW_CONFIRM (R370, R409 to R411): TRIAL is cleared, and the fuses that are due begin to burn. -/
def execFwConfirm (m : Fin 5) (s : State) : Out := (s.bci m cFwConfirm (len 0) noFields (workFwConfirm s)).done

def cFwAbort : BciCmd := { code := 0x0F06, long := false, a3 := true, who := .mb }
/-- The running FW_COMMIT, its mailbox first. -/
def State.commitOf (s : State) : Option (Nat × LongCmd) :=
  s.mbx.findSome? fun e => (e.2.long.find? fun l => match l.work with
    | .fwCommit _ => true
    | _ => false).map fun l => (e.1, l)
/-- The work of execFwAbort. -/
def workFwAbort (m : Fin 5) (s : State) (_ : List Byte) : Res :=
    let other := match s.fw.session with
      | some x => x.box != m.val
      | none => false
    let s' := s.modFw fun f => { f with session := none }
    guardBci [(other, rBusy, 0)]
      (.ok (match s.commitOf with
        | some (b, l) => s'.finish b l rCancelled []
        | none => s') [])
/-- FW_ABORT (R366, R370): a running FW_COMMIT ends CANCELLED. -/
def execFwAbort (m : Fin 5) (s : State) : Out := (s.bci m cFwAbort (len 0) noFields (workFwAbort m s)).done

end Sys2Proof.Machine
end

