-- ==== Sys2Proof/Machine/FaultCmds.lean ====
section
/-! DEFINITION. Detections by checkers, the report pairs, stalled stages and the dumps of the tally sweep (R132, R296, R314, R505 to R511,
R523, R528 to R530). -/
namespace Sys2Proof.Machine

/-! ### FAULT_DETECT -/

/-- The HBM gateway of a detection's DA is the source that reports it. -/
def State.ofGateway (s : State) (src : Nat) (d : Detection) : Bool :=
  decide (d.infoB.toNat < 2 ^ 37) && src == 0x0010 + s.gatewayOf d.infoB.toNat

/-- A tile's source number. -/
def isTileSrc (src : Nat) : Bool := 0x0100 ≤ src && src < 0x0140

/-- A detection that FAULT_DETECT reports: a kind that no other command raises, at a source of that kind (R505, R506, R519). -/
def State.detectable (s : State) (src : Nat) (d : Detection) : Bool :=
  match d.kind with
  | .torusCorrected | .planeDown => isTileSrc src
  | .hbmCorrected => s.ofGateway src d
  | .hbmUncorrected => s.ofGateway src d && (match d.context with | some c => (s.ctx? c).isSome | none => true)
  | .arrayCorrected => true
  | .coreRestart => (isTileSrc src && d.infoA.toNat < 128) || (src == 4 && 129 ≤ d.infoA.toNat && d.infoA.toNat < 132)
  | .stateLost => d.infoA.toNat % 256 == 0x0D || d.infoA.toNat % 256 == 0x0E || d.infoA.toNat % 256 == 0x0F
  | _ => false

/-- The checker of a detection: given for on-die arrays, else fixed by the kind (R523). -/
def Detection.checker (d : Detection) (given : Nat) : Nat :=
  match d.kind with
  | .torusCorrected | .planeDown => 0x80
  | .hbmCorrected | .hbmUncorrected => 0x81
  | .arrayCorrected => min d.infoA.toNat 0xFE
  | _ => given

/-- An entry of a translation agent's TLB or walk cache is discarded, if the array that failed is one: which entry is open (R506, log 2). -/
def State.dropEntry (s : State) (a : Nat) : State :=
  let f := s.fresh 16
  f.2.modAgent a fun x => { x with tlb := x.tlb.eraseIdx f.1 }

/-- The core's master: teller 0 to 127, or 128 and the bursar (R313). -/
def coreMaster (core : Nat) : Nat := if core < 128 then at_ 3 20 + core else at_ 4 20 + (core - 128)

/-- Balyn restarts micro-task `task` of a core: the core's epoch advances, and that of the engine context whose micro-task it is: context `task` on
the tile of the teller (R314, log 170). -/
def State.restarted (s : State) (core task : Nat) : State :=
  let s := s.bumpEpoch (coreMaster core)
  if core < 128 ∧ task < 4096 ∧ task % 64 = core / 2 then s.bumpEpoch (masterEngine task) else s

/-- The built-in action of a kind, and the record (R505, R506). `given` is the checker of an on-die array. -/
def State.detect (s : State) (src given : Nat) (d : Detection) : State :=
  let ck := d.checker given
  match d.kind with
  | .torusCorrected => (s.faultBy src ck (d.plain (d.infoA.toNat % 8))).linkErr (src - 0x0100)
  | .planeDown => (s.faultBy src ck (d.plain (d.infoA.toNat % 8))).planeDown (d.infoA.toNat % 2)
  | .hbmCorrected => s.hbmCorrected.faultBy src ck (d.plain (s.pc d.infoB.toNat))
  | .hbmUncorrected =>
    let b := d.infoB.toNat / 32
    (s.poisonBurst b).uncorrectableOf b d.context
  | .arrayCorrected =>
    let s := if 0x20 ≤ src ∧ src < 0x33 then s.dropEntry (src - 0x20) else s
    s.faultBy src ck (d.plain d.infoA.toNat)
  | .coreRestart => (s.restarted d.infoA.toNat d.infoB.toNat).faultBy src ck (d.plain d.infoA.toNat)
  | _ => s.faultBy src ck (d.plain (d.infoA.toNat % 256))

/-- Detections of one sample, the most severe first (R511). -/
def bySeverity (ds : List Detection) : List Detection :=
  ([3, 2, 1, 0].map fun v => ds.filter fun d => sevValue (Sev.of d.kind d.fatal) == v).flatten

/-- FAULT_DETECT (R505, R506, R511, R512, R523): the checkers of source `src` report what one sample found; `given` names the checker of
an on-die array whose error was not corrected. -/
def execFaultDetect (src given : Nat) (ds : List Detection) (s : State) : Out :=
  if s.dieRuns && s.sourceOk src then
    ((bySeverity (ds.filter (s.detectable src))).foldl (fun s d => s.detect src given d) s).done
  else .next s

/-! ### Report pairs (R509) -/

/-- WIRE_FAULT (R509): under COLLECTOR a pair has read equal levels for 3 samples of 10 ns. -/
def execWireFault (src : Nat) (levels : Fin 2) (s : State) : Out :=
  if s.dieRuns && s.sourceOk src && s.faults.scheme == 0 && !(s.capture src).unwatched then
    let s := s.passTime (30 * 256)
    let v := 3 * levels.val
    let s := s.setCapture src { s.capture src with unwatched := true, levels := v, polledAt := s.clk.now }
    (s.faultBy src 0xFF { kind := .wireFault, fatal := false, context := none, infoA := BitVec.ofNat 32 v, infoB := 0 }).done
  else .next s

/-- UNWATCHED_POLL (R509): every 10 µs the auditor reads an unwatched source's capture set and applies the reactions it finds. -/
def execUnwatchedPoll (src : Nat) (s : State) : Out :=
  if s.dieRuns && s.sourceOk src && (s.capture src).unwatched then
    ((s.reach ((s.capture src).polledAt + 10 * usTicks)).poll src).done
  else .next s

/-- WIRE_PAIR_RESTORED (R509): the pair reads idle or alarm again; what the auditor had not read yet is applied. -/
def execWirePairRestored (src : Nat) (s : State) : Out :=
  if s.dieRuns && s.sourceOk src && (s.capture src).unwatched then
    ((s.setCapture src { s.capture src with unwatched := false, levels := 0 }).poll src).done
  else .next s

/-! ### Stalled stages (R507) -/

/-- Units that are stopped in A2 (R20): the tiles' tellers and the clearing units. -/
def stoppedInA2 (src : Nat) : Bool := 0x0140 ≤ src && src < 0x0150

/-- HANDSHAKE_STALL (R507): stage `stage` of a unit has held its data without an acknowledgement for 1 ms of NT. -/
def execHandshakeStall (src : Nat) (stage : U32) (s : State) : Out :=
  if s.dieRuns && s.sourceOk src && !(s.pwr.st == .a2 && stoppedInA2 src) then
    let s := s.reachNt (s.clk.nt + BitVec.ofNat 64 msTicks)
    (s.record src { d := { kind := .handshakeStall, fatal := false, context := none, infoA := stage, infoB := 1000000 }, injected := false,
                    full := true, persist := false }).done
  else .next s

/-! ### The tally sweep (R528 to R530) -/

/-- The NT of the next dump: the next whole multiple of PERIOD × 256, or the next PERIOD from the start while NT_VALID is clear. -/
def State.nextDump (s : State) : U64 :=
  let step := 256 * s.perf.period
  let nt := s.clk.nt.toNat
  let from_ := if s.time.ntValid then 0 else s.perf.startNt.toNat % step
  BitVec.ofNat 64 (((nt - from_) / step + 1) * step + from_)

/-- An entry of a slot (R529). -/
def PerfCtr.entry (c : PerfCtr) : Nat := c.count.toNat + at_ (b2n c.ovf) 48 + at_ (b2n c.resel) 49

/-- The bytes of a slot (R529). -/
def State.slot (s : State) : List Byte :=
  let f := s.perf
  let head := leBytes 4 f.seq.toNat ++ leBytes 2 f.n ++ leBytes 1 (b2n !s.time.ntValid + 2 * b2n f.firstDump) ++ zeros 1
    ++ leBytes 8 s.clk.nt.toNat ++ leBytes 4 f.missedSince.toNat ++ leBytes 2 f.first ++ zeros 2 ++ leBytes 4 f.period
    ++ leBytes 4 (s.moduleWord % 2 ^ 18)
  let body := ((List.range f.n).map fun i => leBytes 8 (s.ctr (f.first + i)).entry).flatten
  fit (slotBytes f.n - 8) (fit 64 head ++ body) ++ leBytes 8 f.seq.toNat

/-- A dump can start: the last one has finished, and in A2 only a HOST region takes one (R529). -/
def State.dumpOpen (s : State) (r : Region) : Bool := s.perf.dump.isNone && !(s.pwr.st == .a2 && r.kind == .hbm)

/-- A dump time passes without a dump (R529). -/
def State.missDump (s : State) : State :=
  { s with perf := { s.perf with missed := s.perf.missed + 1, missedSince := s.perf.missedSince + 1 } }

/-- The counters are latched, and the slot starts on its way: everything but the trailer (R528, R529). -/
def State.startDump (s : State) (r : Region) : State :=
  let f := s.perf
  let b := s.slot
  let off := f.seq.toNat % 2 ^ f.slotsLog2 * slotBytes f.n
  let head := b.take (b.length - 8)
  let s : State := { s with perf := { f with
    dump := some { seq := f.seq, nt := s.clk.nt, lkey := f.lkey, slotOff := f.offset + off, bytes := b, accepted := 0 }, seq := f.seq + 1, lastNt := s.clk.nt,
    firstDump := false, missedSince := 0 } }
  let s := (List.range f.n).foldl (fun s i => s.setCtr (f.first + i) { s.ctr (f.first + i) with resel := false }) s
  s.issue .sweep r.owner (s.regionSpace r (f.offset + off)) true head head.length none

/-- SWEEP_DUMP (R528, R529, R530). -/
def execSweepDump (s : State) : Out :=
  if s.works && s.perf.running then
    let s := s.reachNt s.nextDump
    match s.keyRegion s.perf.lkey.toNat with
    | none => s.stopSweep.done
    | some r => if s.dumpOpen r then (s.startDump r).done else s.missDump.done
  else .next s

end Sys2Proof.Machine
end

