-- ==== Sys2Proof/Machine/TimeCmds.lean ====
section
/-! DEFINITION. The commands of network time and of the time gates (R30 to R41, R141, R153, R161). -/
namespace Sys2Proof.Machine

/-! ### The mark exchange -/

/-- MARK_SEND (R32): 10 µs after the last one a MARK falls due, to leave at a flit boundary. One still unanswered fails. -/
def execMarkSend (p : Fin 64) (s : State) : Out :=
  if (s.link p).st.up = false then .next s
  else
    let s := match (s.tport p).markAt with
      | some t0 => s.reach (t0 + 10 * usTicks)
      | none => s
    let s := if (s.tport p).out.isSome || (s.tport p).markWait then s.failSample p else s
    let t := s.tport p
    (s.setTport p { t with markWait := true, markAt := some s.clk.now }).done

/-- Module status of FLAGS; none for 0b11. -/
def flagStatus (f : Nat) : Option TStatus :=
  match bits f 2 1 with
  | 0 => some .lost
  | 1 => some .holdover
  | 2 => some .locked
  | _ => none

/-- The sender's report in a mark: status, depth, ERR_BOUND and root ID (R33). -/
def State.hear (s : State) (p : Nat) (st : TStatus) (b : List Byte) : State :=
  s.hearMark p st (field b 35 1 % 16) (BitVec.ofNat 32 (beNat ((b.drop 28).take 4))) (beNat ((b.drop 32).take 3) % 262144)

/-- MARK_FLIT (R32, R33): its report is kept, and a REPLY with T2 waits for its boundary. -/
def execMarkFlit (p : Fin 64) (b : List Byte) (s : State) : Out :=
  if (s.link p).st.up = false then .next s
  else if field b 0 1 ≠ 1 then (s.lctlBad p b).done
  else
    match flagStatus (field b 1 1) with
    | none => .next s
    | some st =>
      let t2 := s.clk.nt.toNat
      let s := s.hear p st b
      (s.sendLctl p (.reply (fit 64 ([0x02, 0x00] ++ (b.drop 2).take 10 ++ beBytes 8 t2)))).done

/-- Signed 64-bit difference of two NT values (R34). -/
def ntDiff (a b : U64) : Int := toSigned 64 (a - b).toNat

/-- Clamp to ±m. -/
def clampTo (m : Int) (v : Int) : Int := max (-m) (min m v)

/-- A valid sample: the port's delay, offset and link time status, and the servo when the port is the parent (R36, R37). -/
def State.validSample (s : State) (p : Nat) (theta d : Int) (reported : TStatus) : State :=
  let t := s.tport p
  let entering := decide (t.link = .lost)
  let delay := if entering then d else t.delay + (d - t.delay).tdiv 16
  let run := ((if entering then [] else t.run) |> fun r => d :: r).take 8
  let spread := run.foldl max d - run.foldl min d
  let link := if entering then LinkTime.acquire
              else if t.link = .acquire ∧ run.length = 8 ∧ spread ≤ 256 then .locked else t.link
  let s := s.setTport p { t with link := link, failRun := 0, run := run, delay := delay, theta := theta, sampleAt := s.clk.now,
                                 fresh := decide (reported ≠ .lost), out := none }
  if s.time.parent = some p ∧ s.time.root = false then
    let integ := clampTo Config.integMax (s.time.integ + theta)
    let adj := clampTo 100000 (-(theta * Config.kp + integ * Config.ki))
    { s with time := { s.time with integ := integ, rateAdj := adj, theta := theta, errFrom := s.clk.now } }
  else s

/-- REPLY_FLIT (R34 to R37): a sample, valid or failed, then the partner's report. A REPLY that answers nothing makes none. -/
def execReplyFlit (p : Fin 64) (b : List Byte) (s : State) : Out :=
  if (s.link p).st.up = false then .next s
  else if field b 0 1 ≠ 2 then (s.lctlBad p b).done
  else
    match flagStatus (field b 1 1), (s.tport p).out with
    | none, _ => .next s
    | some st, none => (s.hear p st b).done
    | some st, some o =>
      let t := s.tport p
      let at64 (off : Nat) : U64 := BitVec.ofNat 64 (beNat ((b.drop off).take 8))
      let t4 := s.clk.nt
      let t2 := at64 12
      let t3 := at64 20
      let theta := (ntDiff (t4 - t3 + BitVec.ofInt 64 t.asym) (t2 - o.t1now)).tdiv 2
      let d := (ntDiff (t4 - o.t1now) (t3 - t2)).tdiv 2
      let echoed := decide (beNat ((b.drop 2).take 2) = o.seq.toNat) && decide (at64 4 = o.t1)
      let near := decide (t.link ≠ .locked) || decide ((d - t.delay).natAbs ≤ 256)
      let ok := echoed && decide (ntDiff t4 o.t1now ≤ 512000) && decide (0 ≤ d) && decide (d ≤ 256000) && near
      let s := if ok then s.validSample p theta d st else s.failSample p
      (s.hear p st b).done

/-- REPLY_DEADLINE (R35): no REPLY by t1 + 2 µs, or a MARK that could not leave within 0.5 µs. -/
def execReplyDeadline (p : Fin 64) (s : State) : Out :=
  let t := s.tport p
  match t.out with
  | some o => ((s.reachNt (o.t1now + 512000)).failSample p).done
  | none =>
    match t.markWait, t.markAt with
    | true, some t0 => ((s.reach (t0 + 500 * 256 + 1)).failSample p).done
    | _, _ => .next s

/-! ### Status of the module -/

/-- PARENT_STATUS_WAIT (R40): the parent has not reported LOCKED for 1 ms and another eligible candidate does. -/
def execParentStatusWait (s : State) : Out :=
  match s.time.parent with
  | none => .next s
  | some q =>
    if s.time.status = .locked ∨ (s.tport q).partner = .locked then .next s
    else
      match s.ranked.find? fun p => decide (p ≠ q) && s.takeable p && (s.tport p).partner == .locked with
      | none => .next s
      | some p =>
        let s := (s.reach (s.time.parentBad + msTicks)).takeParent p
        (s.setStatus (if s.withinHold then .locked else .lost)).done

/-- HOLDOVER_LIMIT (R39, R40): ERR_BOUND grows past HOLD_LIMIT in HOLDOVER. -/
def execHoldoverLimit (s : State) : Out :=
  if s.time.status ≠ .holdover ∨ s.time.root = true then .next s
  else
    let over_ := s.time.holdLimit * 256 + 1 - s.time.errBase
    ((s.reach (s.time.errFrom + over_ * 1000000)).setStatus .lost).done

/-! ### References and PPS -/

/-- Ticks of one second of NT. -/
def secondNt : Nat := 256000000000

/-- Phase error of NT against the second that PPS_IN marks, with the epoch's offset (R30). -/
def State.ppsError (s : State) : Int :=
  let r := ((s.clk.nt - s.time.epoch).toNat % secondNt : Nat)
  if r * 2 < secondNt then (r : Int) else (r : Int) - (secondNt : Int)

/-- The root's PPS steering takes part. -/
def State.ppsRoot (s : State) : Bool := s.time.root && s.time.rootRef == 2

/-- PPS_IN_EDGE (R30): a root in PPS10M steers toward the edge. How much is not stated: the slew is a free value within ±100 ppm
that removes the error (log 27). REF_LOCK sets within 2 ns while TREF_10M_IN is present, which the edge samples as a free value (log 139);
past 50 ns it clears. -/
def execPpsInEdge (s : State) : Out :=
  if s.ppsRoot = false then .next s
  else
    let err := s.ppsError
    let (v, s) := s.fresh 32
    let mag : Int := (v % 100001 : Nat)
    let adj := if err = 0 then 0 else if 0 < err then -mag else mag
    let (present, s) := s.fresh 1
    let s := { s with time := { s.time with rateAdj := adj }, pins := { s.pins with tref10m := present == 1 } }
    let s := if err.natAbs ≤ 512 ∧ s.pins.tref10m = true then s.refGained
             else if err.natAbs > 12800 then s.refLost else s
    s.done

/-- TIME_REF_LOST (R30): a reference is absent for 3 s, or the phase error exceeds 50 ns. -/
def execTimeRefLost (s : State) : Out := if s.ppsRoot then s.refLost.done else .next s

/-- PPS_OUT_START (R31): NT reaches the next whole second by counting. -/
def execPpsOutStart (s : State) : Out :=
  if s.time.ntValid && s.dieRuns then
    let next := (s.clk.nt.toNat / secondNt + 1) * secondNt
    let t := if next < 2 ^ 64 then next else 0
    let s := s.reachNt (BitVec.ofNat 64 t)
    ({ s with pins := { s.pins with ppsOut := true, ppsOutUntil := BitVec.ofNat 64 (t + 100 * msTicks) } } : State).done
  else .next s

/-- PPS_OUT_END (R31): 100 ms after its start. -/
def execPpsOutEnd (s : State) : Out :=
  if s.pins.ppsOut then
    let s := s.reachNt s.pins.ppsOutUntil
    ({ s with pins := { s.pins with ppsOut := false } } : State).done
  else .next s

/-! ### Gates and the express bound -/

/-- NT of the next gate change of a port whose list is enabled (R152, R153). -/
def SchedPort.nextGate (x : SchedPort) (nt : Nat) : Nat :=
  let b := x.bank x.active
  if nt < b.base.toNat then b.base.toNat
  else
    let pos := b.posAt nt
    nt + ((slotAt pos b.slots 0).2.1 * 256 - pos)

/-- GATE_CHANGE (R152 to R154): a change that is due takes effect; else NT reaches the next one, which does. -/
def execGateChange (p : Fin 64) (s : State) : Out :=
  let s' := s.gateSync p
  let x := s.sched p
  let y := s'.sched p
  if (x.active, x.index, x.openMask, x.running) ≠ (y.active, y.index, y.openMask, y.running) then s'.done
  else if x.gateEn && s.time.ntValid then
    ((s.reachNt (BitVec.ofNat 64 (x.nextGate s.clk.nt.toNat))).gateSync p).done
  else .next s

/-- BOUND_OK_RESTORE (R141, R161): 1 ms after the last TC0_LONG or TC0_BLOCK the port no longer counts it. -/
def execBoundOkRestore (p : Fin 64) (s : State) : Out :=
  match (s.sched p).boundBadAt with
  | none => s.done
  | some t0 => ((s.reach (t0 + msTicks)).modSched p fun x => { x with boundBadAt := none }).done

end Sys2Proof.Machine
end

