-- ==== Sys2Proof/Machine/Forward.lean ====
section
/-! DEFINITION. The router's commands: arrival over a link, path-fault notices and the decay of congestion scores
(R47, R76 to R80, R93, R104, R105, R112, R139). -/
namespace Sys2Proof.Machine

/-- What the arrival checks make of a packet: the RT_DROP index of the first that fails, or the header that goes on. -/
inductive Checked where
  | drop (reason : Nat)
  | pass (h : RouteHdr)
deriving DecidableEq, Repr

/-- The arrival checks of R76, in order. -/
def State.checkArrival (s : State) (p : Nat) (h : RouteHdr) : Checked :=
  let r := s.rport p
  let l := s.link p
  if h.level.toNat > 2 ∨ h.len.toNat < 16 ∨ (h.vn = 3 ∧ h.tc ≠ 0) then .drop 0
  else if h.hops.toNat + 1 > 10 then .drop 1
  else
    let level := h.level.toNat + (if r.role.role = 3 then 1 else 0)
    if level > 2 then .drop 0
    else if s.age h.stamp > s.time.lt then .drop 2
    else if s.age h.stamp < -16 then .drop 3
    else if feidGroup h.dst ≥ s.route.systemGroups then .drop 4
    else if h.vn ≠ 2 ∧ (r.role.role = 0 ∨ r.role.en = false ∨ r.mismatch = true ∨ s.route.valid = false ∨ l.partnerId = false) then
      .drop 4
    else .pass { h with hops := h.hops + 1, level := BitVec.ofNat 2 level }

/-- A DETOUR packet rises one level at its turn position (R79). -/
def State.turnHere (s : State) (h : RouteHdr) : Bool :=
  h.beforeTurn && decide (h.via.toNat % 64 = s.route.position)

/-- What may follow an arrival over port `p` (R80). -/
def State.arrivalPermit (s : State) (p : Nat) (h : RouteHdr) (turned : Bool) : Permit :=
  let r := s.rport p
  permit r.role.role h.level.toNat (r.role.role == 0 || !r.role.en || r.mismatch) turned

/-- The packet leaves the till: its coins are freed (R455). -/
def State.leaveTill (s : State) (p : Nat) (k : TillPkt) : State :=
  let s := s.modLink p fun l => { l with rx := { l.rx with till := l.rx.till.erase k } }
  if k.old then s else s.freeCoins p k.vc k.flits

/-- PACKET_ARRIVAL (R76 to R80, R112): the oldest packet of VC `vc` in the till of port `p` is checked, then forwarded, ejected or
dropped. One for which the way on has no room stays in the till; a TC0 packet is then counted once as blocked (R139). -/
def execPacketArrival (p : Fin 64) (vc : Nat) (s : State) : Out :=
  match (s.link p).rx.till.find? (fun k => k.vc == vc) with
  | none => .next s
  | some k =>
    match s.checkArrival p k.pkt.hdr with
    | .drop reason => ((s.leaveTill p k).drop p vc reason).done
    | .pass h0 =>
      let turned := s.turnHere h0
      let h := if turned then { h0 with level := h0.level + 1 } else h0
      let pkt : Packet := { k.pkt with hdr := h }
      match s.nextPorts h (s.arrivalPermit p h turned) with
      | .eject => ((s.leaveTill p k).eject pkt p).done
      | .ports set =>
        match s.choosePort h set with
        | none => (((s.leaveTill p k).drop p vc 5).noticeFor p pkt).done
        | some q =>
          if s.roomFor q h then ((s.leaveTill p k).torus h p q (.port q pkt)).done
          else if h.tc ≠ 0 ∨ k.blocked = true then .next s
          else
            let s := s.modLink p fun l =>
              { l with rx := { l.rx with till := l.rx.till.map fun j => if j = k then { j with blocked := true } else j } }
            (s.tc0Blocked q).done

/-- Take the first ejected packet of a tile that is a CTL packet. -/
def State.takeCtl (s : State) (t : Nat) : Option (Packet × State) :=
  (takeFirst (fun k => k.hdr.vn == 2) (s.tile t).inQ).map fun r => (r.1, s.modTile t fun x => { x with inQ := r.2 })

/-- PATH_FAULT_RECEIVE (R105, R553): a notice that reached tile `t`; another KIND is discarded. -/
def execPathFaultReceive (t : Fin 64) (s : State) : Out :=
  match s.takeCtl t with
  | none => .next s
  | some (k, s) =>
    if beNat (k.body.take 2) ≠ 1 then s.done
    else (s.pathFault (beNat ((k.body.drop 2).take 2) % 4096) (field k.body 4 1 % 8) (field k.body 5 1 % 4)).done

/-- CONG_DECAY (R93): DECAY_US after the last, 1 less on every non-zero score of every tile. -/
def execCongDecay (s : State) : Out :=
  let s := s.reach (s.route.decayAt + s.route.decayUs * usTicks)
  let s := { s with route := { s.route with decayAt := s.clk.now } }
  ({ s with tiles := Tbl.map (fun _ t =>
    { t with cong := (Tbl.map (fun _ n => n - 1) t.cong).filter fun e => e.2 ≠ 0 }) s.tiles } : State).done

end Sys2Proof.Machine
end

