-- ==== Sys2Proof/Machine/RingCmds.lean ====
section
/-! DEFINITION. The commands of contexts' rings: enabling, doorbells, entry reads, the start of chains, their launch and retirement, and
completion interrupts (R49 to R55, R374 to R400). -/
namespace Sys2Proof.Machine

/-! ### Enabling (R374, R375, R398) -/

/-- A ring base is a multiple of the ring's size, or of 4 KiB when that is smaller (R375). -/
def ringAligned (base bytes : Nat) : Bool := base % max 4096 bytes == 0

/-- A valid configuration (R375). -/
def Ctx.cfgOk (x : Ctx) : Bool :=
  6 ≤ x.sqLog2 && x.sqLog2 ≤ 16 && 6 ≤ x.cqLog2 && x.cqLog2 ≤ 16 && ringAligned x.sqBase (64 * x.sqSize)
    && ringAligned x.cqBase (32 * x.cqSize)

/-- The rings begin to run. -/
def Ctx.run (x : Ctx) : Ctx :=
  { x with enable := true, idle := false, sqHead := 0, sqTail := 0, cqHead := 0, cqTail := 0, owed := 0, chains := [],
           openTiming := none, backlog := [], deferred := [], reading := false }

/-- A transfer of the context's rings: an entry read, or an entry on its way. -/
def Xfer.ofRing (c : Nat) (x : Xfer) : Bool := match x.use with
  | .sqFetch n _ _ => n == c
  | .cqe n => n == c
  | _ => false

/-- ENABLE is set. What an earlier run of the rings left under way is given up. -/
def State.enableRing (s : State) (c : Nat) : State :=
  match s.ctx? c with
  | none => s
  | some x =>
    if x.enable || !x.idle || x.hostLost || !s.works then s
    else if x.fenced || !x.cfgOk then s.setCtx c { x with cfgErr := true }
    else (s.killWhere (Xfer.ofRing c)).setCtx c x.run

/-- ENABLE is cleared. -/
def State.disableRing (s : State) (c : Nat) : State :=
  match s.ctx? c with
  | none => s
  | some x => if x.enable then s.drain c else s

/-- A function writes to the HOSTQ window or the doorbell page of a context: where it does not own the context, that is absent and the write
is discarded without a count (R326, R377, R550). -/
def State.ownerWrites (s : State) (e : Fin 4) (fn : Fin 65) (c : Nat) (go : State → State) : Out :=
  if s.fnExists e fn.val && s.ownsCtx { ep := e, fn := fn.val } c then (go s).done else .next s

/-- RING_ENABLE (R374): in OFF with a valid configuration; it has no effect in any other state. -/
def execRingEnable (e : Fin 4) (fn : Fin 65) (c : Fin 4096) (s : State) : Out := s.ownerWrites e fn c fun s => s.enableRing c

/-- RING_DISABLE (R398): in RUNNING, DRAINING begins. -/
def execRingDisable (e : Fin 4) (fn : Fin 65) (c : Fin 4096) (s : State) : Out := s.ownerWrites e fn c fun s => s.disableRing c

/-! ### Doorbells (R377, R378, R397) -/

/-- The context takes doorbell writes: it is not lost, and the die works (R377, R517). -/
def State.rings? (s : State) (c : Nat) : Option Ctx :=
  match s.ctx? c with
  | some x => if x.hostLost || !s.works then none else some x
  | none => none

/-- SQ_TAIL is written. In A2 it wakes the module (R496). -/
def State.writeSqTail (s : State) (c : Nat) (v : U32) : State :=
  match s.rings? c with
  | none => s
  | some x =>
    if (v - x.sqTail).toNat ≤ x.sqSize ∧ (v - x.sqHead).toNat ≤ x.sqSize then s.wake.setCtx c { x with sqTail := v }
    else s.wake.setCtx c { x with dbErr := true }

/-- SQ_TAIL_DOORBELL (R378). -/
def execSqTailDoorbell (e : Fin 4) (fn : Fin 65) (c : Fin 4096) (v : U32) (s : State) : Out := s.ownerWrites e fn c fun s => s.writeSqTail c v

/-- CQ_HEAD is written. -/
def State.writeCqHead (s : State) (c : Nat) (v : U32) : State :=
  match s.rings? c with
  | none => s
  | some x =>
    if (v - x.cqHead).toNat ≤ (x.cqTail - x.cqHead).toNat then s.wake.setCtx c { x with cqHead := v }
    else s.wake.setCtx c { x with dbErr := true }

/-- CQ_HEAD_DOORBELL (R378). -/
def execCqHeadDoorbell (e : Fin 4) (fn : Fin 65) (c : Fin 4096) (v : U32) (s : State) : Out := s.ownerWrites e fn c fun s => s.writeCqHead c v

/-- CQ_ARM is written: ARMED is set, and the vector is sent at once when entries wait. -/
def State.armCq (s : State) (c : Nat) : State :=
  match s.rings? c with
  | none => s
  | some x =>
    let s := s.wake.setCtx c { x with armed := true, armedCount := 0, armedAt := none }
    if x.intEn ∧ x.cqTail ≠ x.cqHead then s.sendCqInt c else s

/-- CQ_ARM (R397). -/
def execCqArm (e : Fin 4) (fn : Fin 65) (c : Fin 4096) (s : State) : Out := s.ownerWrites e fn c fun s => s.armCq c

/-- CQ_INT_TIMER (R397): COAL_US after the first entry written since ARMED was set. -/
def execCqIntTimer (c : Fin 4096) (s : State) : Out :=
  match s.ctx? c with
  | none => .next s
  | some x =>
    match x.armedAt with
    | some t =>
      if x.intEn ∧ x.armed = true ∧ x.coalUs ≠ 0 ∧ x.hostLost = false then
        ((s.reach (t + x.coalUs * usTicks)).sendCqInt c).done
      else .next s
    | none => .next s

/-! ### Reading and starting -/

/-- ENTRY_READ (R379): 1 to 8 entries while the tail and the room for completions allow. -/
def execEntryRead (c : Fin 4096) (s : State) : Out :=
  match s.ctx? c with
  | none => .next s
  | some x =>
    if x.enable && !x.reading && s.works && s.pwr.st != .a2 && s.mayDma c && decide (1 ≤ x.readCount) then
      (s.fetchEntries c x.readCount 0).done
    else .next s

/-- CHAIN_START (R386, R388): the context's home tile starts every chain it can, its contexts in turn. -/
def execChainStart (c : Fin 4096) (s : State) : Out :=
  match s.ctx? c with
  | none => .next s
  | some x => (s.serve c (s.tileChains x.tile + 1)).done

/-- PUT_ENTRY (R384). -/
def execPutEntry (c : Fin 4096) (s : State) : Out := (s.walkOne c opPut).done
/-- GET_ENTRY (R384). -/
def execGetEntry (c : Fin 4096) (s : State) : Out := (s.walkOne c opGet).done
/-- SEND_ENTRY (R229). -/
def execSendEntry (c : Fin 4096) (s : State) : Out := (s.walkOne c opSend).done
/-- RECV_ENTRY (R225). -/
def execRecvEntry (c : Fin 4096) (s : State) : Out := (s.walkOne c opRecv).done
/-- ATOMIC_ENTRY (R384). -/
def execAtomicEntry (c : Fin 4096) (s : State) : Out := (s.walkOne c opAtomic).done
/-- COLL_ENTRY (R257). -/
def execCollEntry (c : Fin 4096) (s : State) : Out := (s.walkOne c opColl).done
/-- PROBE_ENTRY (R227). -/
def execProbeEntry (c : Fin 4096) (s : State) : Out := (s.walkOne c opProbe).done
/-- CANCEL_ENTRY (R227). -/
def execCancelEntry (c : Fin 4096) (s : State) : Out := (s.walkOne c opCancel).done
/-- LEDGER_ADD_ENTRY (R280). -/
def execLedgerAddEntry (c : Fin 4096) (s : State) : Out := (s.walkOne c opLedgerAdd).done
/-- LEDGER_SET_ENTRY (R280). -/
def execLedgerSetEntry (c : Fin 4096) (s : State) : Out := (s.walkOne c opLedgerSet).done
/-- LEDGER_READ_ENTRY (R283). -/
def execLedgerReadEntry (c : Fin 4096) (s : State) : Out := (s.walkOne c opLedgerRead).done
/-- NOP_ENTRY (R381). -/
def execNopEntry (c : Fin 4096) (s : State) : Out := (s.walkOne c opNop).done

/-- TIMING_ENTRY (R383, R386): what TIMING entries hold back or abort is decided, and timed chains enter the launch queue; nothing
starts. -/
def execTimingEntry (c : Fin 4096) (s : State) : Out := (s.walk c).1.done

/-! ### Timed launch (R52, R53) -/

/-- LAUNCH_PREPARE (R52): 20 µs before the earliest queued target of the context, or at once if less is left. -/
def execLaunchPrepare (c : Fin 4096) (s : State) : Out :=
  match s.ctx? c with
  | none => .next s
  | some x =>
    match x.firstLaunch fun h => h.st == .queued with
    | none => .next s
    | some h =>
      if s.works then ((s.reachNt (h.launchAt - BitVec.ofNat 64 (20 * usTicks))).prepare c h).done else .next s

/-- TIMED_LAUNCH (R52, R53, R55): the prepared chain of the context that comes first launches. -/
def execTimedLaunch (c : Fin 4096) (s : State) : Out :=
  match s.ctx? c with
  | none => .next s
  | some x =>
    match s.nextLaunch x with
    | none => .next s
    | some h =>
      if s.works && s.pwr.st != .a2 then ((s.reachNt h.launchAt).launch c h).done else .next s

/-! ### Ledgers and retirement -/

/-- LEDGER_WAKE (R281): an entry that an update of its ledger released proceeds; one that still holds the ring is tested, and completes
ABORTED on POISON. -/
def execLedgerWake (c : Fin 4096) (s : State) : Out :=
  match s.ctx? c with
  | none => .next s
  | some x =>
    match x.chains.find? fun h => h.st == .waiting && (h.held || h.passed) with
    | none => .next s
    | some h =>
      let s := match Tbl.get? s.ledgers h.waitLedger with
        | some g => if h.passed then s else s.testWaiter g c h
        | none => s
      (s.serve c (s.tileChains x.tile + 1)).done

/-- CHAIN_RETIRE (R389): the first chain of the ring whose operation has completed. -/
def execChainRetire (c : Fin 4096) (s : State) : Out :=
  match s.ctx? c with
  | none => .next s
  | some x =>
    match x.chains.find? fun h => h.st == .done with
    | none => .next s
    | some h => if s.works then (s.retire c h).done else .next s

/-- BACKLOG_WRITE (R395). -/
def execBacklogWrite (c : Fin 4096) (s : State) : Out := (s.writeBacklog c 1024).done

end Sys2Proof.Machine
end

