-- ==== Sys2Proof/Machine/RegCmds.lean ====
section
/-! DEFINITION. Host accesses to BAR0 registers and to the configuration space the module reads: writes, the reads that have an effect,
and the invalidations of translation agents (R6, R57, R58, R115, R162, R216, R287, R307, R309, R310, R321, R326, R327, R375, R399, R401, R513, R526,
R543 to R552). -/
namespace Sys2Proof.Machine

/-! ### Registers a host can write (R543, R545) -/

/-- A register with a writable field, or a writable part of another structure. -/
inductive Reg where
  | hpStatus (e : Nat) | hpEnable (e : Nat)
  | mbxDoorbell | mbxStatus | mbxEnable | mbxTail | mbxRequest (off : Nat)
  | timeStatus | timeEnable | timePort (p : Nat)
  | pwrStatus | pwrEnable
  | audStatus | audEnable | source (n : Nat)
  | counter (n : Nat)
  | secStatus | secEnable
  | inval (a k : Nat) | invStatus (a k : Nat) | invalVa (a k : Nat) | xltFault (a : Nat) | winBase (a w : Nat) | winLimit (a w : Nat)
  | hbmStatus | hbmEnable
  | ringCtrl (c : Nat) | ringStatus (c : Nat) | sqBase (c : Nat) | cqBase (c : Nat) | ringCfg (c : Nat) | cqInt (c : Nat)
  | portStatus (p : Nat) | portEnable (p : Nat)
  | schedStatus (p : Nat) | schedEnable (p : Nat)
  | tileStatus (t : Nat) | tileEnable (t : Nat)
  | vectorAddr (v : Nat) | vectorData (v : Nat) | vectorCtrl (v : Nat)
deriving DecidableEq, Repr

/-- The register that holds the word at an offset of a block instance; true for the upper half of a 64-bit register. -/
def glbReg (o : Nat) : Option (Reg × Bool) :=
  if 0x400 ≤ o ∧ o < 0x500 then
    let e := (o - 0x400) / 0x40
    if o % 0x40 = 0x38 then some (.hpStatus e, false) else if o % 0x40 = 0x3C then some (.hpEnable e, false) else none
  else none
def mbxReg (o : Nat) : Option (Reg × Bool) :=
  if o = 0 then some (.mbxDoorbell, false) else if o = 4 then some (.mbxStatus, false) else if o = 0xC then some (.mbxEnable, false)
  else if o = 0x14 then some (.mbxTail, false) else if 0x100 ≤ o ∧ o < 0x500 then some (.mbxRequest (o - 0x100), false) else none
def xltReg (o : Nat) : Option (Reg × Bool) :=
  let a := o / 0x100
  let r := o % 0x100
  if 19 ≤ a then none
  else if r = 0x8 ∨ r = 0x18 then some (.inval a ((r - 8) / 0x10), false)
  else if r = 0xC ∨ r = 0x1C then some (.invStatus a ((r - 0xC) / 0x10), false)
  else if 0x20 ≤ r ∧ r < 0x30 then some (.invalVa a ((r - 0x20) / 8), r % 8 == 4)
  else if r = 0x40 then some (.xltFault a, false)
  else if 0x80 ≤ r ∧ r < 0xC0 then
    some (if r % 0x10 < 8 then .winBase a ((r - 0x80) / 0x10) else .winLimit a ((r - 0x80) / 0x10), r % 8 == 4)
  else none
def hostqReg (o : Nat) : Option (Reg × Bool) :=
  let c := o / 0x100
  match o % 0x100 with
  | 0x00 => some (.ringCtrl c, false)
  | 0x04 => some (.ringStatus c, false)
  | 0x08 => some (.sqBase c, false)
  | 0x0C => some (.sqBase c, true)
  | 0x10 => some (.cqBase c, false)
  | 0x14 => some (.cqBase c, true)
  | 0x18 => some (.ringCfg c, false)
  | 0x1C => some (.cqInt c, false)
  | _ => none

def vectorReg (o : Nat) : Option (Reg × Bool) :=
  match o % 16 with
  | 0 => some (.vectorAddr (o / 16), false)
  | 4 => some (.vectorAddr (o / 16), true)
  | 8 => some (.vectorData (o / 16), false)
  | 12 => some (.vectorCtrl (o / 16), false)
  | _ => none

/-- A pair INT_STATUS and INT_ENABLE at two offsets. -/
def intPair (o a : Nat) (st en : Reg) : Option (Reg × Bool) := if o = a then some (st, false) else if o = a + 4 then some (en, false) else none

/-- The register of a word of BAR0. -/
def regOf (off : Nat) : Option (Reg × Bool) :=
  let o := off % 0x10000
  match off / 0x10000 with
  | 1 => glbReg o
  | 2 => mbxReg o
  | 3 => if 0x100 ≤ o ∧ o < 0x200 then some (.timePort ((o - 0x100) / 4), false) else intPair o 0x34 .timeStatus .timeEnable
  | 4 => intPair o 0x14 .pwrStatus .pwrEnable
  | 5 =>
    if 0x2000 ≤ o ∧ o % 0x40 = 0 ∧ isSource ((o - 0x2000) / 0x40) = true then some (.source ((o - 0x2000) / 0x40), false)
    else intPair o 8 .audStatus .audEnable
  | 6 => if 0x8000 ≤ o ∧ o % 0x10 < 8 then some (.counter ((o - 0x8000) / 0x10), o % 8 == 4) else none
  | 7 => intPair o 8 .secStatus .secEnable
  | 8 => xltReg o
  | 10 => intPair o 0x14 .hbmStatus .hbmEnable
  | n =>
    if 0x10 ≤ n ∧ n < 0x20 then hostqReg (off - 0x100000)
    else if 0x300000 ≤ off ∧ off < 0x308000 then vectorReg (off - 0x300000)
    else if 0x100 ≤ n ∧ n < 0x140 then intPair o 0x10 (.portStatus (n - 0x100)) (.portEnable (n - 0x100))
    else if 0x140 ≤ n ∧ n < 0x180 then intPair o 0xC (.schedStatus (n - 0x140)) (.schedEnable (n - 0x140))
    else if 0x180 ≤ n ∧ n < 0x1C0 then intPair o 0xC (.tileStatus (n - 0x180)) (.tileEnable (n - 0x180))
    else none

/-! ### Who may write (R326, R327, R550, R552) -/

/-- What becomes of a write to a register. -/
inductive Fate where
  | takes | dropped | absent
deriving DecidableEq, Repr

/-- A counter is granted to a context of the function (R527). -/
def State.granted (s : State) (f : FnId) (n : Nat) : Bool := match (s.ctr n).grant with
  | some c => s.ownsCtx f c
  | none => false

/-- The windows of the PF of an endpoint (R306). -/
def State.ownsWin (s : State) (e w : Nat) : Bool := !s.formed (2 * (e / 2) + 1) || (if e % 2 = 0 then w < 2 else 2 ≤ w)

/-- The register belongs to the structures STOPPED leaves running (R552), and to those the recovery configuration presents (R329). -/
def Reg.runsStopped : Reg → Bool
  | .mbxDoorbell | .mbxStatus | .mbxEnable | .mbxTail | .mbxRequest _ | .audStatus | .audEnable | .source _ | .counter _ | .ringCtrl _ | .ringStatus _
  | .sqBase _ | .cqBase _ | .ringCfg _ | .cqInt _ | .vectorAddr _ | .vectorData _ | .vectorCtrl _ => true
  | _ => false
def Reg.inRecovery : Reg → Bool
  | .hpStatus _ | .hpEnable _ | .mbxDoorbell | .mbxStatus | .mbxEnable | .mbxTail | .mbxRequest _ => true
  | _ => false

/-- The fate of a write by a function. `hi` is the upper half of a 64-bit register. -/
def State.fate (s : State) (f : FnId) (r : Reg) (hi : Bool) : Fate :=
  let mgmt := f.fn == 0 && s.host.mgmt == some f.ep.val
  let pf := f.fn == 0
  let only (ok : Bool) : Fate := if !pf then .absent else if ok then .takes else .dropped
  let own (c : Nat) : Fate := if s.ownsCtx f c then .takes else .absent
  if s.boot.alive == .recovery && !r.inRecovery then .absent
  else match r with
    | .hpStatus e | .hpEnable e => if s.formed e then only mgmt else .absent
    | .mbxDoorbell | .mbxStatus | .mbxEnable | .mbxTail | .mbxRequest _ => if pf then .takes else .absent
    | .source n => if s.sourceOk n then only mgmt else .absent
    | .counter n =>
      if !pf && !s.granted f n then .absent else if !hi then .absent else if mgmt || s.granted f n then .takes else .dropped
    | .inval a k | .invStatus a k | .invalVa a k =>
      if 2 ≤ a ∧ k = 1 then .absent else only (a == f.ep.val / 2 && k == f.ep.val % 2)
    | .winBase a w | .winLimit a w => if 2 ≤ a then .absent else only (a == f.ep.val / 2 && s.ownsWin f.ep.val w)
    | .xltFault a => only (mgmt || a == f.ep.val / 2)
    | .ringCtrl c | .ringStatus c | .sqBase c | .cqBase c | .ringCfg c | .cqInt c => own c
    | .vectorAddr _ | .vectorData _ | .vectorCtrl _ => .takes
    | _ => only mgmt

/-! ### Write 1 to clear (R6) -/

/-- INT_STATUS after a write: bits whose cause is still present set again at once. -/
def w1c {w : Nat} (old mask still : BitVec w) : BitVec w := (old &&& ~~~mask) ||| still

/-- The word as a bit vector. -/
def bv (w : Nat) (v : U32) : BitVec w := BitVec.ofNat w v.toNat

/-- Conditions of the standby controller that hold, as bits 0 to 3 (R501). -/
def Supply.still (x : Supply) : BitVec 5 :=
  BitVec.ofNat 5 (b2n x.sag + 2 * b2n (x.vcLow.any id) + 4 * b2n (x.hot.any id) + 8 * b2n x.cool)

/-! ### Invalidation (R309, R310) -/

def State.invalSet (s : State) (a k : Nat) : InvalSet := (s.agent a).sets.getD k InvalSet.reset
def State.setInval (s : State) (a k : Nat) (x : InvalSet) : State := s.modAgent a fun y => { y with sets := put y.sets k x }

/-- The agent and the set that a writer of INVAL writes (R309). -/
def InvalBy.agent : InvalBy → Nat
  | .pf e => e.val / 2
  | .balyn a _ => 2 + a.val
def InvalBy.set : InvalBy → Nat
  | .pf e => e.val % 2
  | .balyn _ _ => 0

/-- The ASID is one of the set's owner: the PF's, or any of an engine agent's. -/
def State.invalOwns (s : State) (w : InvalBy) (asid : Nat) : Bool :=
  match w with
  | .pf e => s.asidOf e.val asid
  | .balyn _ _ => true

/-- INVAL is written with GO. -/
def State.goInval (s : State) (w : InvalBy) (scope asid size : Nat) : State :=
  let a := w.agent
  let k := w.set
  let x := s.invalSet a k
  if !x.done then s.setInval a k { x with overrun := true }
  else
    let x := { x with scope := scope, asid := asid, sizeLog2 := size }
    if (scope = 1 ∨ scope = 2) ∧ s.invalOwns w asid = false then s.setInval a k { x with denied := true }
    else s.setInval a k { x with done := false }

/-- The ASID lies within the scope of set `x`, as far as ASIDs decide. -/
def State.scopeAsid (s : State) (w : InvalBy) (x : InvalSet) (asid : Nat) : Bool :=
  if x.scope = 1 ∨ x.scope = 2 then asid == x.asid else s.invalOwns w asid

/-- An entry lies within the scope of set `x`. -/
def State.inScope (s : State) (w : InvalBy) (x : InvalSet) (t : TlbEntry) : Bool :=
  let table := pteTable t.pte.toNat
  let global := pteG t.pte.toNat
  let lo := x.va
  let hi := x.va + 2 ^ (x.sizeLog2 + 12)
  let at_ := t.vpn * 2 ^ pageBits t.lvl
  s.scopeAsid w x t.asid && match x.scope with
    | 0 => true
    | 1 => table || !global
    | 2 => table || (decide (lo < at_ + 2 ^ pageBits t.lvl) && decide (at_ < hi))
    | _ => global && !table

/-- A translated piece of a transfer has not been issued: it waits for its gateway, or its request for a tag. -/
def State.unissued (s : State) (y : Xfer) : Bool :=
  match y.st, y.space with
  | .ready _, .host _ _ _ _ _ => true
  | .reading _, .host _ ep _ _ _ => (s.ep ep).waiting.any fun w => w.1.id == y.id
  | _, _ => false

/-- An access translated through an entry of the scope has not been issued, or a walk of an ASID of the scope is under way, whose entries may have
been read before GO (R310, log 168). -/
def State.translatedWaits (s : State) (w : InvalBy) (x : InvalSet) : Bool :=
  s.mem.xfers.any fun y => !y.dead && match y.use, y.space, y.st with
    | .engineRead v, _, _ | .engineCas v _, _, _ => v.agent == w.agent && s.scopeAsid w x v.asid
    | _, .host agent _ asid _ _, .walk _ _ _ | _, .host agent _ asid _ _, .accessed _ _ _ _ => agent == w.agent && s.scopeAsid w x asid
    | _, .host agent _ _ _ _, _ => agent == w.agent && s.unissued y && (y.via.map (s.inScope w x)).getD false
    | _, _, _ => false

/-! ### One word written -/

/-- Half of a 64-bit value replaced. -/
def half (old : Nat) (hi : Bool) (v : U32) : Nat := if hi then old % 2 ^ 32 + v.toNat * 2 ^ 32 else old / 2 ^ 32 * 2 ^ 32 + v.toNat

/-- The rings are OFF. -/
def Ctx.off (x : Ctx) : Bool := !x.enable && x.idle && !x.hostLost

/-- A change of a context's ring configuration, only in OFF (R375). -/
def State.cfgCtx (s : State) (c : Nat) (f : Ctx → Ctx) : State := s.modCtx c fun x => if x.off then f x else x

/-- HOSTQ.STATUS is written: FENCED clears only in OFF (R399, R401). -/
def Ctx.clearStatus (x : Ctx) (v : U32) : Ctx :=
  let b (i : Nat) : Bool := v.getLsbD i
  let unfence := b 1 && x.off
  { x with fenced := x.fenced && !unfence, fenceCause := if unfence then 0 else x.fenceCause, dbErr := x.dbErr && !b 3,
           cqOverflow := x.cqOverflow && !b 4, cfgErr := x.cfgErr && !b 6 }

/-- A vector's table entry is changed. -/
def State.modVector (s : State) (f : FnId) (v : Nat) (g : Vector → Vector) : State :=
  s.modFunc f fun x => { x with vectors := Tbl.set x.vectors v (g (Tbl.getD x.vectors v Vector.reset)) }

/-- A vector's Mask bit is written (R328). -/
def State.maskVector (s : State) (f : FnId) (v : Nat) (on : Bool) : State :=
  let s := s.modVector f v fun x => { x with masked := on }
  if on then s else s.flushMsix f

/-- A register takes a word. -/
def State.regWord (s : State) (f : FnId) (r : Reg) (hi : Bool) (v : U32) : State :=
  let e := f.ep
  match r with
  | .hpStatus n =>
    let old := (s.ep n).intStatus
    let cleared := old &&& ~~~bv 5 v
    let new := w1c old (bv 5 v) (if (s.ep n).noFlit then 16 else 0)
    (s.modEp n fun x => { x with intStatus := new }).notify cleared new (s.ep n).intEnable
  | .hpEnable n => s.modEp n fun x => { x with intEnable := bv 5 v }
  | .mbxDoorbell => s.doorbell e v
  | .mbxStatus => s.modBox e.val fun b => { b with done := b.done && !v.getLsbD 1, overrun := b.overrun && !v.getLsbD 2 }
  | .mbxEnable => s.modBox e.val fun b => { b with intEn := bv 2 v }
  | .mbxTail => s.modBox e.val fun b => b.setTail (bv 8 v)
  | .mbxRequest off => s.modBox e.val fun b => if b.busy then b else { b with req := Memory.write b.req off (leBytes 4 v.toNat) }
  | .timeStatus => s.modTime fun t => { t with intStatus := w1c t.intStatus (bv 6 v) 0 }
  | .timeEnable => s.modTime fun t => { t with intEnable := bv 6 v }
  | .timePort p => if v.getLsbD 14 then s.setTport p { s.tport p with mismatch := false } else s
  | .pwrStatus =>
    let old := s.sup.intStatus
    let cleared := old &&& ~~~bv 5 v
    let new := w1c old (bv 5 v) s.sup.still
    (s.modSup fun x => { x with intStatus := new }).notify cleared new s.sup.intEnable
  | .pwrEnable => s.modSup fun x => { x with intEnable := bv 5 v }
  | .audStatus => { s with faults := { s.faults with intStatus := w1c s.faults.intStatus (bv 5 v) 0 } }
  | .audEnable => { s with faults := { s.faults with intEnable := bv 5 v } }
  | .source n =>
    let s := s.setCapture n { s.capture n with intEn := v.getLsbD 9 }
    if v.getLsbD 0 then s.clearSource n else s
  | .counter n => if v.getLsbD 16 then s.setCtr n { s.ctr n with ovf := false } else s
  | .secStatus =>
    let old := s.sec.intStatus
    let cleared := old &&& ~~~bv 5 v
    let new := w1c old (bv 5 v) (if s.sec.rngOk then 0 else 16)
    (s.modSec fun x => { x with intStatus := new }).notify cleared new s.sec.intEnable
  | .secEnable => s.modSec fun x => { x with intEnable := bv 5 v }
  | .inval a k =>
    if v.getLsbD 31 then s.goInval (.pf e) (bits v.toNat 1 0) (bits v.toNat 13 2) (bits v.toNat 19 14)
    else
      let x := s.invalSet a k
      if x.done then s.setInval a k { x with scope := bits v.toNat 1 0, asid := bits v.toNat 13 2, sizeLog2 := bits v.toNat 19 14 }
      else s.setInval a k { x with overrun := true }
  | .invStatus a k =>
    let x := s.invalSet a k
    s.setInval a k { x with overrun := x.overrun && !v.getLsbD 1, denied := x.denied && !v.getLsbD 2 }
  | .invalVa a k =>
    let x := s.invalSet a k
    s.setInval a k { x with va := half x.va hi v % 2 ^ 48 / 4096 * 4096 }
  | .xltFault a => s.modAgent a fun x => { x with fValid := x.fValid && !v.getLsbD 0, fSecond := x.fSecond && !v.getLsbD 1 }
  | .winBase a w => s.modAgent a fun x =>
    let y := x.wins.getD w (0, 0)
    { x with wins := put x.wins w (BitVec.ofNat 64 (half y.1.toNat hi v), y.2) }
  | .winLimit a w => s.modAgent a fun x =>
    let y := x.wins.getD w (0, 0)
    { x with wins := put x.wins w (y.1, BitVec.ofNat 64 (half y.2.toNat hi v)) }
  | .hbmStatus => s.modMem fun m => { m with intStatus := w1c m.intStatus (bv 3 v) 0 }
  | .hbmEnable => s.modMem fun m => { m with intEnable := bv 3 v }
  | .ringCtrl c => if v.getLsbD 0 then s.enableRing c else s.disableRing c
  | .ringStatus c => s.modCtx c fun x => x.clearStatus v
  | .sqBase c => s.cfgCtx c fun x => { x with sqBase := half x.sqBase hi v % 2 ^ 48 / 4096 * 4096 }
  | .cqBase c => s.cfgCtx c fun x => { x with cqBase := half x.cqBase hi v % 2 ^ 48 / 4096 * 4096 }
  | .ringCfg c => s.cfgCtx c fun x => { x with sqLog2 := bits v.toNat 4 0, cqLog2 := bits v.toNat 9 5, ringAsid := bits v.toNat 21 10 }
  | .cqInt c => (s.modCtx c fun x =>
    { x with vector := bits v.toNat 10 0, intEn := v.getLsbD 11, coalCount := bits v.toNat 19 12, coalUs := bits v.toNat 31 20 }).coalesce c
  | .portStatus p => s.modLink p fun l => { l with intStatus := w1c l.intStatus (bv 6 v) 0 }
  | .portEnable p => s.modLink p fun l => { l with intEnable := bv 6 v }
  | .schedStatus p => s.modSched p fun x => { x with intStatus := w1c x.intStatus (bv 4 v) 0 }
  | .schedEnable p => s.modSched p fun x => { x with intEnable := bv 4 v }
  | .tileStatus t =>
    let old := (s.tile t).intStatus
    let cleared := old &&& ~~~bv 2 v
    let new := w1c old (bv 2 v) (if s.planes.all id then 0 else 2)
    (s.modTile t fun x => { x with intStatus := new }).notify cleared new (s.tile t).intEnable
  | .tileEnable t => s.modTile t fun x => { x with intEnable := bv 2 v }
  | .vectorAddr n => s.modVector f n fun x => { x with addr := BitVec.ofNat 64 (half x.addr.toNat hi v / 4 * 4) }
  | .vectorData n => s.modVector f n fun x => { x with data := v }
  | .vectorCtrl n => s.maskVector f n (v.getLsbD 0)

/-! ### Accesses (R547, R548) -/

/-- A word of a write, if a writable register holds it: what becomes of it. -/
def State.wordFate (s : State) (f : FnId) (off : Nat) : Option (Reg × Bool × Fate) := (regOf off).map fun r => (r.1, r.2, s.fate f r.1 r.2)

/-- A word is written. In STOPPED only some registers take it (R552). -/
def State.writeWord (s : State) (f : FnId) (off : Nat) (v : U32) : State :=
  match s.wordFate f off with
  | some (r, hi, .takes) => if s.faults.stopped && !r.runsStopped then s else s.regWord f r hi v
  | _ => s

/-- The register accesses of one write of 4 or 8 bytes that R327 drops: the halves of one 64-bit register count once. -/
def State.dropsOf (s : State) (f : FnId) (off words : Nat) : Nat :=
  let rs := (List.range words).filterMap fun i => match s.wordFate f (off + 4 * i) with
    | some (r, _, .dropped) => if s.faults.stopped && !r.runsStopped then none else some r
    | _ => none
  rs.eraseDups.length

/-- A naturally aligned write of 4 or 8 bytes, lower word first. -/
def State.writeUnit (s : State) (f : FnId) (off : Nat) (data : List Byte) : State :=
  let n := data.length / 4
  let d := s.dropsOf f off n
  let s := if d = 0 ∨ s.faults.stopped = true then s else { s with host := { s.host with dropped := s.host.dropped + BitVec.ofNat 64 d } }
  (List.range n).foldl (fun s i => s.writeWord f (off + 4 * i) (BitVec.ofNat 32 (field data (4 * i) 4))) s

/-- A write to BAR0 (R547). -/
def State.writeBar0 (s : State) (f : FnId) (off : Nat) (data : List Byte) : State :=
  let n := data.length
  if n = 4 then (if off % 4 = 0 then s.writeUnit f off data else s)
  else if n % 8 = 0 ∧ off % 8 = 0 then
    (List.range (n / 8)).foldl (fun s i => s.writeUnit f (off + 8 * i) ((data.drop (8 * i)).take 8)) s
  else s

/-- The upper bound of a Completion Timeout sub-range in µs (PRESUMED: PCI Express, log 45). -/
def ctoOf : Nat → Nat
  | 1 => 100 | 2 => 10000 | 5 => 55000 | 6 => 210000 | 9 => 900000 | 10 => 3500000 | 13 => 13000000 | 14 => 64000000 | _ => 55000

/-- What a function writes to its configuration space or to BAR0. Sizes R324 does not name are not taken (log 141). -/
def State.hostWrite (s : State) (f : FnId) (w : RegWrite) : State :=
  match w with
  | .bar0 off data => s.writeBar0 f off data
  | .functionMask on =>
    let s := s.modFunc f fun x => { x with fnMask := on }
    if on then s else s.flushMsix f
  | .relaxedOrdering on => s.modFunc f fun x => { x with roEn := on }
  | .idOrdering on => s.modFunc f fun x => { x with idoEn := on }
  | .maxPayload c => if c.val ≤ 2 then s.modFunc f fun x => { x with mps := 128 * 2 ^ c.val } else s
  | .maxRead c => if c.val ≤ 5 then s.modFunc f fun x => { x with mrrs := 128 * 2 ^ c.val } else s
  | .atomicRequester on => if f.fn = 0 then s.modEp f.ep.val fun x => { x with atomicEn := on } else s
  | .timeoutRange code => if f.fn = 0 then s.modEp f.ep.val fun x => { x with ctoUs := ctoOf code.val } else s
  | .vfEnable n =>
    if f.fn = 0 ∧ (s.ep f.ep.val).vfs = 0 ∧ n ≤ s.boot.mcr.vfCount.getD f.ep.val 0 then s.modEp f.ep.val fun x => { x with vfs := n } else s
  | .bar i addr =>
    let size := s.barSize i.val
    if f.fn = 0 ∧ size ≠ 0 then s.modFunc f fun x => { x with
      bars := if addr.toNat / size = 0 then Tbl.erase x.bars i.val else Tbl.set x.bars i.val (addr.toNat / size * size) } else s

/-- The write goes to the configuration space. -/
def RegWrite.config : RegWrite → Bool
  | .bar0 _ _ => false
  | _ => true

/-- REGISTER_WRITE (R6, R324, R327, R329, R547). -/
def execRegisterWrite (e : Fin 4) (fn : Fin 65) (w : RegWrite) (s : State) : Out :=
  let f : FnId := { ep := e, fn := fn.val }
  if w.config then s.configRequest f fun s => s.hostWrite f w
  else if s.fnExists e fn.val then (s.hostWrite f w).done else .next s

/-! ### Reads with an effect -/

/-- A 32-bit read of a register whose value is `v` and which the read clears: a function that does not reach the register, and RECOVERY,
read 0, and STOPPED clears nothing and reads what it froze (R550, R552). -/
def State.readClear (s : State) (e : Fin 4) (fn : Fin 65) (v : State → Nat) (clear : State → State) : Out :=
  let f : FnId := { ep := e, fn := fn.val }
  if !s.fnExists e fn.val then .next s
  else if fn.val ≠ 0 ∨ s.boot.alive = .recovery then (s.emit (.readData f (zeros 4))).done
  else
    let s' := if s.faults.stopped then s else clear s
    (s'.emit (.readData f (leBytes 4 (v s.asRead)))).done

/-- NT_NOW_HI of a function latches the upper half of NT (R57). -/
def State.latchNt (s : State) (f : FnId) : State := s.modFunc f fun x => { x with ntLatch := BitVec.ofNat 32 (s.clk.nt.toNat / 2 ^ 32) }

/-- NT_NOW_LO_READ (R57): the reading function's latch takes NT[63:32]. -/
def execNtNowLoRead (e : Fin 4) (fn : Fin 65) (s : State) : Out :=
  let f : FnId := { ep := e, fn := fn.val }
  if !s.fnExists e fn.val then .next s
  else if s.boot.alive = .recovery then (s.emit (.readData f (zeros 4))).done
  else if s.faults.stopped then (s.emit (.readData f (leBytes 4 s.asRead.clk.nt.toNat))).done
  else ((s.latchNt f).emit (.readData f (leBytes 4 s.clk.nt.toNat))).done

/-! What an RC read clears (R6). -/

def State.clearLateCnt (s : State) : State := s.modTime fun t => { t with lateCnt := 0 }
def State.clearLateMax (s : State) : State := s.modTime fun t => { t with lateMax := 0 }
def State.clearWmark (s : State) (p v : Nat) : State :=
  let r := s.rport p
  s.setRport p { r with vcs := Tbl.set r.vcs v { Tbl.getD r.vcs v VcCtr.reset with wmark := 0 } }
def State.clearQdepthMax (s : State) (p : Nat) : State := s.modSched p fun x => { x with qdepthMax := 0 }
def State.clearSuspWmark (s : State) (t : Nat) : State := s.modTile t fun x => { x with suspWmark := 0 }
def State.clearClLateMax (s : State) (t : Nat) : State := s.modTile t fun x => { x with clLateMax := 0 }
def State.clearFaultCount (s : State) (a : Nat) : State := s.modAgent a fun x => { x with fCount := 0 }

/-- LAUNCH_LATE_CNT_READ (R58). -/
def execLaunchLateCntRead (e : Fin 4) (fn : Fin 65) (s : State) : Out :=
  s.readClear e fn (fun s => s.time.lateCnt.toNat) State.clearLateCnt
/-- LAUNCH_LATE_MAX_READ (R58). -/
def execLaunchLateMaxRead (e : Fin 4) (fn : Fin 65) (s : State) : Out :=
  s.readClear e fn (fun s => s.time.lateMax.toNat) State.clearLateMax

/-- WMARK_READ (R115). -/
def execWmarkRead (e : Fin 4) (fn : Fin 65) (p : Fin 64) (v : Fin 12) (s : State) : Out :=
  s.readClear e fn (fun s => (Tbl.getD (s.rport p.val).vcs v.val VcCtr.reset).wmark) fun s => s.clearWmark p.val v.val

/-- TC0_QDEPTH_MAX_READ (R162). -/
def execTc0QdepthMaxRead (e : Fin 4) (fn : Fin 65) (p : Fin 64) (s : State) : Out :=
  s.readClear e fn (fun s => (s.sched p.val).qdepthMax) fun s => s.clearQdepthMax p.val

/-- TP_SUSP_WMARK_READ (R216). -/
def execTpSuspWmarkRead (e : Fin 4) (fn : Fin 65) (t : Fin 64) (s : State) : Out :=
  s.readClear e fn (fun s => (s.tile t.val).suspWmark) fun s => s.clearSuspWmark t.val

/-- CL_LATE_MAX_READ (R287). -/
def execClLateMaxRead (e : Fin 4) (fn : Fin 65) (t : Fin 64) (s : State) : Out :=
  s.readClear e fn (fun s => (s.tile t.val).clLateMax.toNat) fun s => s.clearClLateMax t.val

/-- FAULT_COUNT_READ (R307, R321). -/
def execFaultCountRead (e : Fin 4) (fn : Fin 65) (a : Fin 19) (s : State) : Out :=
  s.readClear e fn (fun s => (s.agent a.val).fCount.toNat) fun s => s.clearFaultCount a.val

/-! ### Invalidation commands -/

/-- GO is written with a scope: by a PF in its own set, whose registers are frozen in STOPPED and absent in RECOVERY, or by Balyn, with the page
it has written to INVAL_VA. -/
def State.invalRow (s : State) (w : InvalBy) (scope asid size : Nat) : Out :=
  match w with
  | .pf e => if s.hostReaches e && !s.faults.stopped && s.boot.alive != .recovery then (s.goInval w scope asid size).done else .next s
  | .balyn _ page =>
    let s' := s.setInval w.agent 0 { s.invalSet w.agent 0 with va := 4096 * page.toNat }
    if s.works then (s'.goInval w scope asid size).done else .next s

/-- INVAL_ALL (R309, R310). -/
def execInvalAll (w : InvalBy) (s : State) : Out := s.invalRow w 0 0 0
/-- INVAL_ASID (R309, R310). -/
def execInvalAsid (w : InvalBy) (asid : Fin 4096) (s : State) : Out := s.invalRow w 1 asid.val 0
/-- INVAL_RANGE (R309, R310): from INVAL_VA, 2^`size` pages. -/
def execInvalRange (w : InvalBy) (asid : Fin 4096) (size : Fin 64) (s : State) : Out := s.invalRow w 2 asid.val size.val
/-- INVAL_GLOBAL (R309, R310). -/
def execInvalGlobal (w : InvalBy) (s : State) : Out := s.invalRow w 3 0 0

/-- INVAL_DONE (R310): the entries of the scope go, once every access they translated has been issued. -/
def execInvalDone (w : InvalBy) (s : State) : Out :=
  let x := s.invalSet w.agent w.set
  if x.done || !s.works || s.translatedWaits w x then .next s
  else ((s.modAgent w.agent fun y => { y with tlb := y.tlb.filter fun t => !s.inScope w x t }).setInval w.agent w.set { x with done := true }).done

/-- AUD_SRC_CLEAR (R513): the management PF writes 1 to VALID. -/
def execAudSrcClear (e : Fin 4) (n : Nat) (s : State) : Out :=
  if s.hostReaches e && s.sourceOk n && s.boot.alive != .recovery then
    if s.host.mgmt = some e.val then (s.clearSource n).done
    else if s.faults.stopped then .next s
    else ({ s with host := { s.host with dropped := s.host.dropped + 1 } } : State).done
  else .next s

end Sys2Proof.Machine
end

