-- ==== Sys2Proof/Machine/TransportCmds.lean ====
section
/-! DEFINITION. The commands of transport, matching and collectives: arriving packets, their timers, and what tellers and nodes finish
(R111, R169, R184 to R207, R224, R231, R241, R277, R284). -/
namespace Sys2Proof.Machine

/-- SALT_REDRAW (R111, R421): 100 µs after the last, every tile draws a new salt while the random source passes its tests. -/
def execSaltRedraw (s : State) : Out :=
  if s.works && s.sec.rngOk then
    let s := s.reach (s.sec.saltAt + 100 * usTicks)
    let s := s.modSec fun x => { x with saltAt := s.clk.now }
    ((List.range 64).foldl (fun s t =>
      let f := s.fresh 32
      f.2.modTile t fun x => { x with salt := BitVec.ofNat 32 f.1 }) s).done
  else .next s

/-! ### Arriving packets: the tile's next packet, when it has the row's opcode -/

/-- PUT_PACKET (R182 to R186, R259). -/
def execPutPacket (t : Fin 64) (s : State) : Out := (s.packetRow t tPut).done
/-- SEND_PACKET (R231). -/
def execSendPacket (t : Fin 64) (s : State) : Out := (s.packetRow t tSend).done
/-- GET_PACKET (R193). -/
def execGetPacket (t : Fin 64) (s : State) : Out := (s.packetRow t tGet).done
/-- ATOMIC_PACKET (R193). -/
def execAtomicPacket (t : Fin 64) (s : State) : Out := (s.packetRow t tAtomic).done
/-- GET_RSP_PACKET (R195). -/
def execGetRspPacket (t : Fin 64) (s : State) : Out := (s.packetRow t tGetRsp).done
/-- ATOMIC_RSP_PACKET (R195). -/
def execAtomicRspPacket (t : Fin 64) (s : State) : Out := (s.packetRow t tAtomicRsp).done
/-- ACK_PACKET (R191). -/
def execAckPacket (t : Fin 64) (s : State) : Out := (s.packetRow t tAck).done
/-- NAK_PACKET (R201). -/
def execNakPacket (t : Fin 64) (s : State) : Out := (s.packetRow t tNak).done

/-! ### Timers of a channel -/

/-- The tracker of a request packet of a QP in RTS. -/
def State.tracker (s : State) (qpn slot psn : Nat) : Option Track :=
  match s.qp? qpn with
  | some q => if q.st = .rts then (q.chan slot).tracks.find? fun k => psnBits k.psn == psnBits psn && (q.chan slot).needs k else none
  | none => none

/-- ACK_DELAY_TIMER (R190). -/
def execAckDelayTimer (qpn : Nat) (slot : Fin 2) (s : State) : Out :=
  match s.qp? qpn with
  | none => .next s
  | some q =>
    match (q.chan slot).ackFrom with
    | none => .next s
    | some t => if q.st = .rts ∧ s.works = true then ((s.reach (t + q.ackDelay * 256)).sendAck qpn slot).done else .next s

/-- A packet's RTO has passed: on an ORDERED channel that of the packet at SND_CUM acts by going back; an acknowledged GET or ATOMIC is sent
again for its responses (R197, R202, log 35). -/
def State.rtoFires (s : State) (qpn slot : Nat) (k : Track) : State :=
  let c := s.chan qpn slot
  if c.ordered then
    (if k.acked then s.resendOr qpn slot k else if k.psn = c.sndCum then s.goBack qpn slot else s)
  else s.resendOr qpn slot k

/-- RTO_EXPIRY (R197, R198, R203). -/
def execRtoExpiry (qpn : Nat) (slot : Fin 2) (psn : Nat) (s : State) : Out :=
  match s.qp? qpn, s.tracker qpn slot psn with
  | some q, some k =>
    if s.mayInject then ((s.reach (k.lastSent + s.rto q k.retry)).rtoFires qpn slot k).done else .next s
  | _, _ => .next s

/-- LIFE_LIMIT_EXPIRY (R198). -/
def execLifeLimitExpiry (qpn : Nat) (slot : Fin 2) (psn : Nat) (s : State) : Out :=
  match s.qp? qpn, s.tracker qpn slot psn with
  | some q, some k =>
    if s.works then ((s.reach (k.firstSent + q.lifeMax * s.ltTicks)).spendQp qpn slot k).done else .next s
  | _, _ => .next s

/-- NAK_BACKOFF_EXPIRY (R201). -/
def execNakBackoffExpiry (qpn : Nat) (slot : Fin 2) (psn : Nat) (s : State) : Out :=
  match s.tracker qpn slot psn with
  | some k =>
    match k.backoffAt with
    | some t => if s.mayInject then ((s.reach t).resendOr qpn slot k).done else .next s
    | none => .next s
  | none => .next s

/-- LINK_LOST (R200, R203, R459): the oldest notice of a tile. A TC0 copy starts no retransmission. -/
def execLinkLost (t : Fin 64) (s : State) : Out :=
  match (s.tile t).lost with
  | [] => .next s
  | k :: rest =>
    let s := (s.modTile t fun x => { x with lost := rest }).tpCount t 9
    let th := k.trans
    let qpn := th.srcQpn.toNat
    match s.qp? qpn with
    | none => s.done
    | some q =>
      match q.slotOf k.tc with
      | none => s.done
      | some slot =>
        match s.tracker qpn slot th.psn.toNat with
        | some j =>
          if k.tc = 0 ∨ th.gen.toNat ≠ q.gen ∨ j.acked = true ∨ s.mayInject = false then s.done else (s.resendOr qpn slot j).done
        | none => s.done

/-! ### Quarantine and holds -/

/-- LT + 3 µs in ticks (R169, R299). -/
def State.quarTicks (s : State) : Nat := s.ltTicks + 3 * usTicks

/-- QUARANTINE_EXPIRY (R168, R169): the QP returns to RESET, or its QPN is freed, its GEN kept. -/
def execQuarantineExpiry (qpn : Nat) (s : State) : Out :=
  match s.qp? qpn with
  | none => .next s
  | some q =>
    if q.st ≠ .quarantine then .next s
    else
      let s := s.reach (q.quarFrom + s.quarTicks)
      if q.freeing then
        ({ s with qps := Tbl.erase s.qps qpn, gens := Tbl.set s.gens qpn q.gen,
                       tiles := Tbl.map (fun _ t => { t with cached := t.cached.filter (· ≠ qpn) }) s.tiles } : State).done
      else (s.setQp qpn { q with st := .reset, errCode := 0 }).done

/-- REGION_HOLD_EXPIRY (R299): the index becomes reusable. -/
def execRegionHoldExpiry (index : Nat) (s : State) : Out :=
  match s.region? index with
  | none => .next s
  | some r =>
    match r.hold with
    | some t =>
      let s := s.reach (t + s.quarTicks)
      (s.setRegion index { r with hold := none }).done
    | none => .next s

/-! ### Contexts -/

/-- CONTEXT_FETCH_DONE (R204): the tile's oldest missed packet is processed with its context in the cache. -/
def execContextFetchDone (t : Fin 64) (s : State) : Out :=
  match (s.tile t).missQ with
  | [] => .next s
  | k :: rest =>
    if s.works then
      (((s.modTile t fun x => { x with missQ := rest }).touch k.trans.dstQpn.toNat).process1 t k).done
    else .next s

/-- SPILLED_CONTEXT_FETCH_DONE (R206): the QP's held packets are released in arrival order, once its context is here. -/
def execSpilledContextFetchDone (qpn : Nat) (s : State) : Out :=
  match s.qp? qpn with
  | none => .next s
  | some q =>
    if q.spilled || q.fetchingCtx || !s.works then .next s
    else (s.releaseSusp (qpn % 64) fun x => x.why == .spilled && x.pkt.trans.dstQpn.toNat == qpn).done

/-! ### Matching -/

/-- MESSAGE_PRESENT (R187, R224). -/
def execMessagePresent (qpn : Nat) (slot : Fin 2) (s : State) : Out :=
  if s.works then (s.presentNext qpn slot).done else .next s

/-- TELLER_ESCALATION_DONE (R241). Tellers are stopped in A2 (R495). -/
def execTellerEscalationDone (c : Nat) (s : State) : Out :=
  if s.works && s.pwr.st != .a2 then (s.tellerDone c).done else .next s

/-! ### Collectives -/

/-- BARRIER_RELEASE (R277): NT reaches T_rel at a node, and its entry completes. -/
def execBarrierRelease (n : Nat) (s : State) : Out :=
  match s.node? n with
  | none => .next s
  | some x =>
    match x.insts.find? fun i => i.started && i.kind == ckBarrier && i.release.isSome with
    | some i =>
      match i.release with
      | some t => if s.works then ((s.reachNt t).completeColl x.lead i.num ccOk t.toNat 0).done else .next s
      | none => .next s
    | none => .next s

/-- COLL_TIMEOUT (R284, R285): COLL_TIMEOUT after the last accepted contribution of an active instance. -/
def execCollTimeout (n : Nat) (s : State) : Out :=
  match s.node? n with
  | none => .next s
  | some x =>
    match (x.insts.filter (·.started)).map (·.lastAt) with
    | [] => .next s
    | a :: l =>
      if x.timeoutMs = 0 ∨ s.works = false then .next s
      else ((s.reach (l.foldl min a + x.timeoutMs * msTicks)).collFailSelf n ccTimeout).done

end Sys2Proof.Machine
end

