-- ==== Sys2Proof/Machine/Dispatch.lean ====
section
/-! DEFINITION. Which meaning each command has. -/
namespace Sys2Proof.Machine

/-- The effect of a command on everything but the queue. -/
def exec (i : Instr) (s : State) : Host.Outcome State Fault Refusal :=
  match i with
  | .standbyPowerUp => Sys2Proof.Machine.execStandbyPowerUp s
  | .standbyPowerLoss => Sys2Proof.Machine.execStandbyPowerLoss s
  | .modResetAssert us => Sys2Proof.Machine.execModResetAssert us s
  | .modResetDeassert => Sys2Proof.Machine.execModResetDeassert s
  | .deviceResetRelease => Sys2Proof.Machine.execDeviceResetRelease s
  | .balynStart => Sys2Proof.Machine.execBalynStart s
  | .aliveRunning => Sys2Proof.Machine.execAliveRunning s
  | .configSpaceReady e => Sys2Proof.Machine.execConfigSpaceReady e s
  | .heartbeat => Sys2Proof.Machine.execHeartbeat s
  | .fuseBurnDone => Sys2Proof.Machine.execFuseBurnDone s
  | .vaultRngFail test => Sys2Proof.Machine.execVaultRngFail test s
  | .seatQualified => Sys2Proof.Machine.execSeatQualified s
  | .seatLoss a b => Sys2Proof.Machine.execSeatLoss a b s
  | .efuseRampDone ma => Sys2Proof.Machine.execEfuseRampDone ma s
  | .rampTimeout => Sys2Proof.Machine.execRampTimeout s
  | .fastTrip => Sys2Proof.Machine.execFastTrip s
  | .curveTrip k ma => Sys2Proof.Machine.execCurveTrip k ma s
  | .pwrGoodAssert vin ma vcore => Sys2Proof.Machine.execPwrGoodAssert vin ma vcore s
  | .pgTimeout => Sys2Proof.Machine.execPgTimeout s
  | .efuseRetry tj => Sys2Proof.Machine.execEfuseRetry tj s
  | .retryCountReset => Sys2Proof.Machine.execRetryCountReset s
  | .vinSag mv => Sys2Proof.Machine.execVinSag mv s
  | .vinReset mv => Sys2Proof.Machine.execVinReset mv s
  | .vinOvervoltage mv => Sys2Proof.Machine.execVinOvervoltage mv s
  | .vcoreLow q mv => Sys2Proof.Machine.execVcoreLow q mv s
  | .vcoreReset q mv => Sys2Proof.Machine.execVcoreReset q mv s
  | .tempHigh q c => Sys2Proof.Machine.execTempHigh q c s
  | .tempShutdown q c => Sys2Proof.Machine.execTempShutdown q c s
  | .coolantWarn inlet flow => Sys2Proof.Machine.execCoolantWarn inlet flow s
  | .thresholdClear w => Sys2Proof.Machine.execThresholdClear w s
  | .regionSkew vcore tj => Sys2Proof.Machine.execRegionSkew vcore tj s
  | .a2Entry => Sys2Proof.Machine.execA2Entry s
  | .a2EntryTimeout => Sys2Proof.Machine.execA2EntryTimeout s
  | .a2Wake => Sys2Proof.Machine.execA2Wake s
  | .transitDozeWait p => Sys2Proof.Machine.execTransitDozeWait p s
  | .launchWake => Sys2Proof.Machine.execLaunchWake s
  | .perstAssert k => Sys2Proof.Machine.execPerstAssert k s
  | .perstDeassert k => Sys2Proof.Machine.execPerstDeassert k s
  | .hostArrived e speed width => Sys2Proof.Machine.execHostArrived e speed width s
  | .hostDeparted e => Sys2Proof.Machine.execHostDeparted e s
  | .vfDisable e => Sys2Proof.Machine.execVfDisable e s
  | .bmeClear e fn => Sys2Proof.Machine.execBmeClear e fn s
  | .bmeSet e fn => Sys2Proof.Machine.execBmeSet e fn s
  | .d3hotEntry e fn => Sys2Proof.Machine.execD3hotEntry e fn s
  | .noFlitRetry e => Sys2Proof.Machine.execNoFlitRetry e s
  | .dmaReadCompletion e tag ok data => Sys2Proof.Machine.execDmaReadCompletion e tag ok data s
  | .completionTimeout e tag => Sys2Proof.Machine.execCompletionTimeout e tag s
  | .lateCompletion e tag => Sys2Proof.Machine.execLateCompletion e tag s
  | .unexpectedCompletion e tag => Sys2Proof.Machine.execUnexpectedCompletion e tag s
  | .tagQuarantineRelease e tag => Sys2Proof.Machine.execTagQuarantineRelease e tag s
  | .bar4Read e off n => Sys2Proof.Machine.execBar4Read e off n s
  | .bar4Write e off data => Sys2Proof.Machine.execBar4Write e off data s
  | .hostAtomicop e fn bar4 => Sys2Proof.Machine.execHostAtomicop e fn bar4 s
  | .registerWrite e fn w => Sys2Proof.Machine.execRegisterWrite e fn w s
  | .ntNowLoRead e fn => Sys2Proof.Machine.execNtNowLoRead e fn s
  | .launchLateCntRead e fn => Sys2Proof.Machine.execLaunchLateCntRead e fn s
  | .launchLateMaxRead e fn => Sys2Proof.Machine.execLaunchLateMaxRead e fn s
  | .wmarkRead e fn p v => Sys2Proof.Machine.execWmarkRead e fn p v s
  | .tc0QdepthMaxRead e fn p => Sys2Proof.Machine.execTc0QdepthMaxRead e fn p s
  | .tpSuspWmarkRead e fn t => Sys2Proof.Machine.execTpSuspWmarkRead e fn t s
  | .clLateMaxRead e fn t => Sys2Proof.Machine.execClLateMaxRead e fn t s
  | .faultCountRead e fn a => Sys2Proof.Machine.execFaultCountRead e fn a s
  | .invalAll e => Sys2Proof.Machine.execInvalAll e s
  | .invalAsid e asid => Sys2Proof.Machine.execInvalAsid e asid s
  | .invalRange e asid size => Sys2Proof.Machine.execInvalRange e asid size s
  | .invalGlobal e => Sys2Proof.Machine.execInvalGlobal e s
  | .invalDone e => Sys2Proof.Machine.execInvalDone e s
  | .audSrcClear e n => Sys2Proof.Machine.execAudSrcClear e n s
  | .mbxDoorbell e v => Sys2Proof.Machine.execMbxDoorbell e v s
  | .evtTailWrite e v => Sys2Proof.Machine.execEvtTailWrite e v s
  | .evtHeldWrite m => Sys2Proof.Machine.execEvtHeldWrite m s
  | .i3cEntdaa addr => Sys2Proof.Machine.execI3cEntdaa addr s
  | .setEndpointId inst op eid => Sys2Proof.Machine.execSetEndpointId inst op eid s
  | .getEndpointId inst => Sys2Proof.Machine.execGetEndpointId inst s
  | .getEndpointUuid inst => Sys2Proof.Machine.execGetEndpointUuid inst s
  | .getMctpVersionSupport inst type => Sys2Proof.Machine.execGetMctpVersionSupport inst type s
  | .getMessageTypeSupport inst => Sys2Proof.Machine.execGetMessageTypeSupport inst s
  | .getVendorMessageSupport inst selector => Sys2Proof.Machine.execGetVendorMessageSupport inst selector s
  | .mctpUnsupportedCmd inst code => Sys2Proof.Machine.execMctpUnsupportedCmd inst code s
  | .bmcBciRequest msg => Sys2Proof.Machine.execBmcBciRequest msg s
  | .nop m => Sys2Proof.Machine.execNop m s
  | .longStatus m => Sys2Proof.Machine.execLongStatus m s
  | .evtRead m => Sys2Proof.Machine.execEvtRead m s
  | .getVersion m => Sys2Proof.Machine.execGetVersion m s
  | .getIdentity m => Sys2Proof.Machine.execGetIdentity m s
  | .getCertChain m => Sys2Proof.Machine.execGetCertChain m s
  | .getMeasurements m => Sys2Proof.Machine.execGetMeasurements m s
  | .attest m => Sys2Proof.Machine.execAttest m s
  | .attestDone m token => Sys2Proof.Machine.execAttestDone m token s
  | .mcrRead m => Sys2Proof.Machine.execMcrRead m s
  | .mcrWrite m => Sys2Proof.Machine.execMcrWrite m s
  | .mcrWriteDone m token => Sys2Proof.Machine.execMcrWriteDone m token s
  | .setMgmtPf m => Sys2Proof.Machine.execSetMgmtPf m s
  | .setTagPool m => Sys2Proof.Machine.execSetTagPool m s
  | .getModuleState m => Sys2Proof.Machine.execGetModuleState m s
  | .portQuery m => Sys2Proof.Machine.execPortQuery m s
  | .portSet m => Sys2Proof.Machine.execPortSet m s
  | .portRetrain m => Sys2Proof.Machine.execPortRetrain m s
  | .portRetrainDone m token => Sys2Proof.Machine.execPortRetrainDone m token s
  | .setIdentity m => Sys2Proof.Machine.execSetIdentity m s
  | .setPortRole m => Sys2Proof.Machine.execSetPortRole m s
  | .setExit m => Sys2Proof.Machine.execSetExit m s
  | .setGroupRoute m => Sys2Proof.Machine.execSetGroupRoute m s
  | .setPset m => Sys2Proof.Machine.execSetPset m s
  | .setRouteCtrl m => Sys2Proof.Machine.execSetRouteCtrl m s
  | .setCongThresh m => Sys2Proof.Machine.execSetCongThresh m s
  | .routeQuery m => Sys2Proof.Machine.execRouteQuery m s
  | .ctxCreate m => Sys2Proof.Machine.execCtxCreate m s
  | .ctxDestroy m => Sys2Proof.Machine.execCtxDestroy m s
  | .ctxDestroyDone m token => Sys2Proof.Machine.execCtxDestroyDone m token s
  | .ctxQuery m => Sys2Proof.Machine.execCtxQuery m s
  | .ctxSet m => Sys2Proof.Machine.execCtxSet m s
  | .domainCreate m => Sys2Proof.Machine.execDomainCreate m s
  | .domainDestroy m => Sys2Proof.Machine.execDomainDestroy m s
  | .domainDestroyDone m token => Sys2Proof.Machine.execDomainDestroyDone m token s
  | .ledgerAlloc m => Sys2Proof.Machine.execLedgerAlloc m s
  | .ledgerFree m => Sys2Proof.Machine.execLedgerFree m s
  | .ledgerAttr m => Sys2Proof.Machine.execLedgerAttr m s
  | .jobCreate m => Sys2Proof.Machine.execJobCreate m s
  | .jobDestroy m => Sys2Proof.Machine.execJobDestroy m s
  | .rankWrite m => Sys2Proof.Machine.execRankWrite m s
  | .jobQuery m => Sys2Proof.Machine.execJobQuery m s
  | .collNodeCreate m => Sys2Proof.Machine.execCollNodeCreate m s
  | .collNodeLink m => Sys2Proof.Machine.execCollNodeLink m s
  | .collNodeDestroy m => Sys2Proof.Machine.execCollNodeDestroy m s
  | .qpCreate m => Sys2Proof.Machine.execQpCreate m s
  | .qpConnect m => Sys2Proof.Machine.execQpConnect m s
  | .qpReset m => Sys2Proof.Machine.execQpReset m s
  | .qpDestroy m => Sys2Proof.Machine.execQpDestroy m s
  | .qpQuery m => Sys2Proof.Machine.execQpQuery m s
  | .regRegister m => Sys2Proof.Machine.execRegRegister m s
  | .regRegisterDone m token => Sys2Proof.Machine.execRegRegisterDone m token s
  | .regDeregister m => Sys2Proof.Machine.execRegDeregister m s
  | .regQuery m => Sys2Proof.Machine.execRegQuery m s
  | .asidAlloc m => Sys2Proof.Machine.execAsidAlloc m s
  | .asidSetRoot m => Sys2Proof.Machine.execAsidSetRoot m s
  | .asidFree m => Sys2Proof.Machine.execAsidFree m s
  | .hbmExposeKey m => Sys2Proof.Machine.execHbmExposeKey m s
  | .keyKemOpen m => Sys2Proof.Machine.execKeyKemOpen m s
  | .keyKemPublic m => Sys2Proof.Machine.execKeyKemPublic m s
  | .keyCtWrite m => Sys2Proof.Machine.execKeyCtWrite m s
  | .keyInstall m => Sys2Proof.Machine.execKeyInstall m s
  | .keyInstallDone m token => Sys2Proof.Machine.execKeyInstallDone m token s
  | .keyWithdraw m => Sys2Proof.Machine.execKeyWithdraw m s
  | .keyQuery m => Sys2Proof.Machine.execKeyQuery m s
  | .timeSetRoot m => Sys2Proof.Machine.execTimeSetRoot m s
  | .timeSetMember m => Sys2Proof.Machine.execTimeSetMember m s
  | .timeSetAsym m => Sys2Proof.Machine.execTimeSetAsym m s
  | .timeSetLt m => Sys2Proof.Machine.execTimeSetLt m s
  | .timeSetLaunch m => Sys2Proof.Machine.execTimeSetLaunch m s
  | .timeQuery m => Sys2Proof.Machine.execTimeQuery m s
  | .schedTc0 m => Sys2Proof.Machine.execSchedTc0 m s
  | .schedShaper m => Sys2Proof.Machine.execSchedShaper m s
  | .schedDrr m => Sys2Proof.Machine.execSchedDrr m s
  | .schedOverhead m => Sys2Proof.Machine.execSchedOverhead m s
  | .schedGclWrite m => Sys2Proof.Machine.execSchedGclWrite m s
  | .schedGclSwitch m => Sys2Proof.Machine.execSchedGclSwitch m s
  | .schedGate m => Sys2Proof.Machine.execSchedGate m s
  | .schedCtxBucket m => Sys2Proof.Machine.execSchedCtxBucket m s
  | .faultQuery m => Sys2Proof.Machine.execFaultQuery m s
  | .faultClear m => Sys2Proof.Machine.execFaultClear m s
  | .faultReaction m => Sys2Proof.Machine.execFaultReaction m s
  | .faultInject m => Sys2Proof.Machine.execFaultInject m s
  | .logRead m => Sys2Proof.Machine.execLogRead m s
  | .memDump m => Sys2Proof.Machine.execMemDump m s
  | .perfSelect m => Sys2Proof.Machine.execPerfSelect m s
  | .perfGrant m => Sys2Proof.Machine.execPerfGrant m s
  | .sweepConfig m => Sys2Proof.Machine.execSweepConfig m s
  | .sweepCtrl m => Sys2Proof.Machine.execSweepCtrl m s
  | .pwrQuery m => Sys2Proof.Machine.execPwrQuery m s
  | .pwrSetState m => Sys2Proof.Machine.execPwrSetState m s
  | .pwrSetStateDone m token => Sys2Proof.Machine.execPwrSetStateDone m token s
  | .pwrSetThresh m => Sys2Proof.Machine.execPwrSetThresh m s
  | .pwrSetCurve m => Sys2Proof.Machine.execPwrSetCurve m s
  | .pwrSetRetry m => Sys2Proof.Machine.execPwrSetRetry m s
  | .fwQuery m => Sys2Proof.Machine.execFwQuery m s
  | .fwBegin m => Sys2Proof.Machine.execFwBegin m s
  | .fwWrite m => Sys2Proof.Machine.execFwWrite m s
  | .fwCommit m => Sys2Proof.Machine.execFwCommit m s
  | .fwCommitDone m token flashError => Sys2Proof.Machine.execFwCommitDone m token flashError s
  | .fwActivate m => Sys2Proof.Machine.execFwActivate m s
  | .fwConfirm m => Sys2Proof.Machine.execFwConfirm m s
  | .fwAbort m => Sys2Proof.Machine.execFwAbort m s
  | .ringEnable e fn c => Sys2Proof.Machine.execRingEnable e fn c s
  | .ringDisable e fn c => Sys2Proof.Machine.execRingDisable e fn c s
  | .sqTailDoorbell e fn c v => Sys2Proof.Machine.execSqTailDoorbell e fn c v s
  | .cqHeadDoorbell e fn c v => Sys2Proof.Machine.execCqHeadDoorbell e fn c v s
  | .cqArm e fn c => Sys2Proof.Machine.execCqArm e fn c s
  | .entryRead c => Sys2Proof.Machine.execEntryRead c s
  | .chainStart c => Sys2Proof.Machine.execChainStart c s
  | .putEntry c => Sys2Proof.Machine.execPutEntry c s
  | .getEntry c => Sys2Proof.Machine.execGetEntry c s
  | .sendEntry c => Sys2Proof.Machine.execSendEntry c s
  | .recvEntry c => Sys2Proof.Machine.execRecvEntry c s
  | .atomicEntry c => Sys2Proof.Machine.execAtomicEntry c s
  | .collEntry c => Sys2Proof.Machine.execCollEntry c s
  | .probeEntry c => Sys2Proof.Machine.execProbeEntry c s
  | .cancelEntry c => Sys2Proof.Machine.execCancelEntry c s
  | .ledgerAddEntry c => Sys2Proof.Machine.execLedgerAddEntry c s
  | .ledgerSetEntry c => Sys2Proof.Machine.execLedgerSetEntry c s
  | .ledgerReadEntry c => Sys2Proof.Machine.execLedgerReadEntry c s
  | .nopEntry c => Sys2Proof.Machine.execNopEntry c s
  | .timingEntry c => Sys2Proof.Machine.execTimingEntry c s
  | .launchPrepare c => Sys2Proof.Machine.execLaunchPrepare c s
  | .timedLaunch c => Sys2Proof.Machine.execTimedLaunch c s
  | .ledgerWake c => Sys2Proof.Machine.execLedgerWake c s
  | .chainRetire c => Sys2Proof.Machine.execChainRetire c s
  | .backlogWrite c => Sys2Proof.Machine.execBacklogWrite c s
  | .cqIntTimer c => Sys2Proof.Machine.execCqIntTimer c s
  | .packetArrival p vc => Sys2Proof.Machine.execPacketArrival p vc s
  | .pathFaultReceive t => Sys2Proof.Machine.execPathFaultReceive t s
  | .congDecay => Sys2Proof.Machine.execCongDecay s
  | .saltRedraw => Sys2Proof.Machine.execSaltRedraw s
  | .putPacket t => Sys2Proof.Machine.execPutPacket t s
  | .sendPacket t => Sys2Proof.Machine.execSendPacket t s
  | .getPacket t => Sys2Proof.Machine.execGetPacket t s
  | .atomicPacket t => Sys2Proof.Machine.execAtomicPacket t s
  | .getRspPacket t => Sys2Proof.Machine.execGetRspPacket t s
  | .atomicRspPacket t => Sys2Proof.Machine.execAtomicRspPacket t s
  | .ackPacket t => Sys2Proof.Machine.execAckPacket t s
  | .nakPacket t => Sys2Proof.Machine.execNakPacket t s
  | .ackDelayTimer qpn slot => Sys2Proof.Machine.execAckDelayTimer qpn slot s
  | .rtoExpiry qpn slot psn => Sys2Proof.Machine.execRtoExpiry qpn slot psn s
  | .lifeLimitExpiry qpn slot psn => Sys2Proof.Machine.execLifeLimitExpiry qpn slot psn s
  | .nakBackoffExpiry qpn slot psn => Sys2Proof.Machine.execNakBackoffExpiry qpn slot psn s
  | .linkLost t => Sys2Proof.Machine.execLinkLost t s
  | .quarantineExpiry qpn => Sys2Proof.Machine.execQuarantineExpiry qpn s
  | .regionHoldExpiry index => Sys2Proof.Machine.execRegionHoldExpiry index s
  | .contextFetchDone t => Sys2Proof.Machine.execContextFetchDone t s
  | .spilledContextFetchDone qpn => Sys2Proof.Machine.execSpilledContextFetchDone qpn s
  | .messagePresent qpn slot => Sys2Proof.Machine.execMessagePresent qpn slot s
  | .tellerEscalationDone c => Sys2Proof.Machine.execTellerEscalationDone c s
  | .barrierRelease n => Sys2Proof.Machine.execBarrierRelease n s
  | .collTimeout n => Sys2Proof.Machine.execCollTimeout n s
  | .markSend p => Sys2Proof.Machine.execMarkSend p s
  | .markFlit p b => Sys2Proof.Machine.execMarkFlit p b s
  | .replyFlit p b => Sys2Proof.Machine.execReplyFlit p b s
  | .replyDeadline p => Sys2Proof.Machine.execReplyDeadline p s
  | .parentStatusWait => Sys2Proof.Machine.execParentStatusWait s
  | .holdoverLimit => Sys2Proof.Machine.execHoldoverLimit s
  | .ppsInEdge => Sys2Proof.Machine.execPpsInEdge s
  | .timeRefLost => Sys2Proof.Machine.execTimeRefLost s
  | .ppsOutStart => Sys2Proof.Machine.execPpsOutStart s
  | .ppsOutEnd => Sys2Proof.Machine.execPpsOutEnd s
  | .gateChange p => Sys2Proof.Machine.execGateChange p s
  | .boundOkRestore p => Sys2Proof.Machine.execBoundOkRestore p s
  | .hbmImbalWindow => Sys2Proof.Machine.execHbmImbalWindow s
  | .cableInserted k => Sys2Proof.Machine.execCableInserted k s
  | .cableRemoved k => Sys2Proof.Machine.execCableRemoved k s
  | .cablePgAssert k => Sys2Proof.Machine.execCablePgAssert k s
  | .cableIdReadDone k mem => Sys2Proof.Machine.execCableIdReadDone k mem s
  | .cablePowerTimeout k => Sys2Proof.Machine.execCablePowerTimeout k s
  | .cableOvercurrent k => Sys2Proof.Machine.execCableOvercurrent k s
  | .detectClock p => Sys2Proof.Machine.execDetectClock p s
  | .clockLocked p => Sys2Proof.Machine.execClockLocked p s
  | .clockTimeout p => Sys2Proof.Machine.execClockTimeout p s
  | .tsNrzBlock p lane w => Sys2Proof.Machine.execTsNrzBlock p lane w s
  | .slowTimeout p => Sys2Proof.Machine.execSlowTimeout p s
  | .tsPamBlock p w => Sys2Proof.Machine.execTsPamBlock p w s
  | .equalizePass p lanes => Sys2Proof.Machine.execEqualizePass p lanes s
  | .equalizeTimeout p => Sys2Proof.Machine.execEqualizeTimeout p s
  | .alignLock p => Sys2Proof.Machine.execAlignLock p s
  | .alignTimeout p => Sys2Proof.Machine.execAlignTimeout p s
  | .capSend p => Sys2Proof.Machine.execCapSend p s
  | .capFlit p c => Sys2Proof.Machine.execCapFlit p c s
  | .capxTimeout p => Sys2Proof.Machine.execCapxTimeout p s
  | .incompatibleHold p => Sys2Proof.Machine.execIncompatibleHold p s
  | .dataFlit p stream cw flit => Sys2Proof.Machine.execDataFlit p stream cw flit s
  | .uncorrectableCodeword p kind => Sys2Proof.Machine.execUncorrectableCodeword p kind s
  | .ackFlit p seq freed => Sys2Proof.Machine.execAckFlit p seq freed s
  | .replayReqFlit p seq cause => Sys2Proof.Machine.execReplayReqFlit p seq cause s
  | .replayStartFlit p seq cause => Sys2Proof.Machine.execReplayStartFlit p seq cause s
  | .alignFlit p cw => Sys2Proof.Machine.execAlignFlit p cw s
  | .pstateRequest p doze width rate => Sys2Proof.Machine.execPstateRequest p doze width rate s
  | .pstateSwitch p doze width rate cw => Sys2Proof.Machine.execPstateSwitch p doze width rate cw s
  | .downFlit p cause => Sys2Proof.Machine.execDownFlit p cause s
  | .ackSendTimer p => Sys2Proof.Machine.execAckSendTimer p s
  | .ackTimer p => Sys2Proof.Machine.execAckTimer p s
  | .replayWaitTimer p => Sys2Proof.Machine.execReplayWaitTimer p s
  | .creditTimeout p => Sys2Proof.Machine.execCreditTimeout p s
  | .clockLost p => Sys2Proof.Machine.execClockLost p s
  | .lockLost p => Sys2Proof.Machine.execLockLost p s
  | .operatingPointSwitch p => Sys2Proof.Machine.execOperatingPointSwitch p s
  | .stepAligned p => Sys2Proof.Machine.execStepAligned p s
  | .stepTimeout p => Sys2Proof.Machine.execStepTimeout p s
  | .downTimer p => Sys2Proof.Machine.execDownTimer p s
  | .holdoffExpiry p => Sys2Proof.Machine.execHoldoffExpiry p s
  | .faultDetect src given ds => Sys2Proof.Machine.execFaultDetect src given ds s
  | .wireFault src levels => Sys2Proof.Machine.execWireFault src levels s
  | .unwatchedPoll src => Sys2Proof.Machine.execUnwatchedPoll src s
  | .handshakeStall src stage => Sys2Proof.Machine.execHandshakeStall src stage s
  | .sweepDump => Sys2Proof.Machine.execSweepDump s
  | .flitBoundary p => Sys2Proof.Machine.execFlitBoundary p s
  | .hbmGatewayAccept t => Sys2Proof.Machine.execHbmGatewayAccept t s
  | .msixUnmask e fn v => Sys2Proof.Machine.execMsixUnmask e fn v s
  | .d3hotExit e fn => Sys2Proof.Machine.execD3hotExit e fn s
  | .speculativeFill a asid va => Sys2Proof.Machine.execSpeculativeFill a asid va s
  | .rngSourcePass => Sys2Proof.Machine.execRngSourcePass s
  | .wirePairRestored src => Sys2Proof.Machine.execWirePairRestored src s

end Sys2Proof.Machine
end

