-- ==== Sys2Proof/Machine/Step.lean ====
section
/-! DEFINITION. A step of the module: the command at the front of the queue. -/
namespace Sys2Proof.Machine

/-- One step: the first waiting command runs with the rest of the queue; with nothing waiting, one tick of 1/256 ns passes (log 57). -/
def step (s : State) : Host.Outcome State Fault Refusal :=
  match s.pending with
  | [] => .next (s.passTime 1)
  | c :: rest => exec c { s with pending := rest }

/-- The state with the command that a word spells at the front of the queue; no word of the table spells one (log 58). -/
def State.withFetchWord (s : State) (nbits w : Nat) : State :=
  match decodeTableWord nbits w with
  | some c => { s with pending := c :: s.pending }
  | none => s

end Sys2Proof.Machine
end

