-- ==== Sys2Proof/Machine/RegRead.lean ====
section
/-! DEFINITION. What host reads return: the identification of a function, the block directory, and every register of BAR0 (R2, R6, R57, R58,
R116, R117, R133, R162, R216, R247, R287, R321, R324, R326, R330 to R333, R346, R349, R401, R422, R469, R501, R532, R543 to R552). The table
of commands has a row only for the reads that change something, so this is the module's answer to any other read (log 171). -/
namespace Sys2Proof.Machine

/-! ### Identification (R2, R324) -/

/-- What a function's configuration space reports of itself. -/
structure ConfigId where
  vendor : Nat
  device : Nat
  classCode : Nat          -- base class and subclass
  revision : Nat
  subVendor : Nat
  subsystem : Nat
  msixVectors : Nat
  totalVfs : Nat           -- a PF's TotalVFs and InitialVFs
  vfOffset : Nat           -- a PF's First VF Offset
  vfStride : Nat
deriving DecidableEq, Repr

/-- The identification of a function; none before its endpoint's configuration space is set up (R329). -/
def State.configId (s : State) (f : FnId) : Option ConfigId :=
  if s.fnExists f.ep f.fn then
    let pf := f.fn == 0
    some { vendor := 0x1F2B, device := if pf then 0x6410 else 0x6411, classCode := 0x0280, revision := 0x10, subVendor := 0x1F2B, subsystem := 1,
           msixVectors := 2048, totalVfs := if pf then s.boot.mcr.vfCount.getD f.ep.val 0 else 0, vfOffset := b2n pf, vfStride := b2n pf }
  else none

/-! ### Words of consecutive registers -/

/-- The 32-bit register at offset `o` of consecutive ones from `base`; 0 past the last. -/
def word4 (base : Nat) (l : List Nat) (o : Nat) : Nat := l.getD ((o - base) / 4) 0
/-- The half at offset `o` of consecutive 64-bit registers from `base` (R116). -/
def word8 (base : Nat) (l : List Nat) (o : Nat) : Nat :=
  let v := l.getD ((o - base) / 8) 0
  if o % 8 = 0 then v % 2 ^ 32 else v / 2 ^ 32 % 2 ^ 32
def nats {w : Nat} (l : List (BitVec w)) : List Nat := l.map (·.toNat)
/-- A signed value as `w` bits. -/
def signedBits (w : Nat) (v : Int) : Nat := (BitVec.ofInt w v).toNat

/-! ### The directory (R330 to R332) -/

/-- Block types of R331. -/
inductive Block where
  | dir | glb | mbx | time | pwr | aud | perf | sec | xlt | atom | hbm | hostq | port | sched | tile | msix | doorbell | hbmWindow
deriving DecidableEq, Repr
def Block.code : Block → Nat
  | .dir => 1 | .glb => 2 | .mbx => 3 | .time => 4 | .pwr => 5 | .aud => 6 | .perf => 7 | .sec => 8 | .xlt => 9 | .atom => 10 | .hbm => 11
  | .hostq => 12 | .port => 13 | .sched => 14 | .tile => 15 | .msix => 16 | .doorbell => 17 | .hbmWindow => 18

/-- A directory entry: a block instance, its BAR (0, 1, 2 for BAR0, BAR2, BAR4), offset and size (R331, R545). -/
structure DirEntry where
  block : Block
  inst : Nat
  bar : Nat
  off : Nat
  size : Nat
deriving DecidableEq, Repr

/-- Every block instance of a function's BARs, by BAR and offset. The MSI-X entry reaches to the end of its Pending Bit Array (log 171). -/
def State.blocks (s : State) : List DirEntry :=
  let many (b : Block) (n base stride : Nat) : List DirEntry :=
    (List.range n).map fun i => { block := b, inst := i, bar := 0, off := base + stride * i, size := stride }
  let one (b : Block) (base size : Nat) : List DirEntry := [{ block := b, inst := 0, bar := 0, off := base, size := size }]
  one .dir 0 0x10000 ++ one .glb 0x10000 0x10000 ++ one .mbx 0x20000 0x1000 ++ one .time 0x30000 0x10000 ++ one .pwr 0x40000 0x10000
    ++ one .aud 0x50000 0x10000 ++ one .perf 0x60000 0x10000 ++ one .sec 0x70000 0x10000 ++ many .xlt 19 0x80000 0x100 ++ one .atom 0x90000 0x10000
    ++ one .hbm 0xA0000 0x10000 ++ one .hostq 0x100000 0x100000 ++ one .msix 0x300000 0x80100 ++ many .port 64 0x1000000 0x10000
    ++ many .sched 64 0x1400000 0x10000 ++ many .tile 64 0x1800000 0x10000
    ++ [{ block := .doorbell, inst := 0, bar := 1, off := 0, size := 2 ^ 24 }]
    ++ if s.boot.mcr.bar4Log2 = 0 then [] else [{ block := .hbmWindow, inst := 0, bar := 2, off := 0, size := 2 ^ s.boot.mcr.bar4Log2 }]

/-- The function reaches a block (R326); the recovery configuration holds DIR, GLB and MBX (R329). -/
def State.reachesBlock (s : State) (f : FnId) (b : Block) : Bool :=
  if s.boot.alive = .recovery then b == .dir || (f.fn == 0 && (b == .glb || b == .mbx))
  else f.fn == 0 || (match b with
    | .dir | .time | .perf | .hostq | .msix | .doorbell => true
    | _ => false)

/-- The directory of a function (R331). -/
def State.directory (s : State) (f : FnId) : List DirEntry := s.blocks.filter fun d => s.reachesBlock f d.block

/-- The function may write a field of the instance, as the management role and the grants stand (R326, R327, R331). -/
def State.mayWriteBlock (s : State) (f : FnId) (d : DirEntry) : Bool :=
  let mgmt := f.fn == 0 && s.host.mgmt == some f.ep.val
  match d.block with
  | .dir | .atom => false
  | .mbx | .hostq | .msix | .doorbell | .hbmWindow => true
  | .perf => mgmt || (List.range 2048).any (s.granted f)
  | .xlt => f.fn == 0 && (mgmt || d.inst == f.ep.val / 2)
  | _ => mgmt

/-- The 32 bytes of an entry, as words. -/
def State.entryWords (s : State) (f : FnId) (d : DirEntry) : List Nat :=
  [d.block.code + at_ d.inst 16, 1 + at_ (at_ d.bar 1 + at_ (b2n (s.mayWriteBlock f d)) 3) 16, d.off, 0, d.size % 2 ^ 32, d.size / 2 ^ 32, 0, 0]

/-- DIR.ALIVE (R332). -/
def State.aliveWord (s : State) : Nat := s.boot.heartbeat.toNat + at_ s.boot.alive.code 16 + at_ 0x5A 24

/-- "HDLDDIR", byte 0 first, and VERSION (R2, R330). -/
def dirSignature : Nat := 0x01524944444C4448

/-- DIR. -/
def State.dirWord (s : State) (f : FnId) (o : Nat) : Nat :=
  let l := s.directory f
  if o < 8 then word8 0 [dirSignature] o
  else if o < 0x40 then word4 8 [l.length + at_ 32 16, s.aliveWord, b2n (f.fn != 0) + at_ f.ep.val 1 + at_ f.fn 3] o
  else match l[(o - 0x40) / 32]? with
    | some d => word4 0 (s.entryWords f d) (o % 32)
    | none => 0

/-! ### GLB (R117, R346, R546) -/

/-- MODULE_ID. -/
def State.moduleIdWord (s : State) : Nat :=
  let r := s.route
  (if r.valid then r.position + at_ r.group 6 + at_ 1 18 else s.boot.position + at_ 0xFFF 6) + at_ r.systemGroups 19

/-- The registers of a host endpoint. -/
def State.hpWord (s : State) (e o : Nat) : Nat :=
  let x := s.ep e
  let pf := s.func { ep := Fin.ofNat 4 e, fn := 0 }
  if !s.formed e then 0
  else if o < 0x10 then word4 0
    [b2n x.linkUp + at_ (b2n x.dlUp) 1 + at_ x.speed 2 + at_ x.width 5 + at_ (b2n x.noFlit) 10 + at_ (b2n (s.host.mgmt == some e)) 11
      + at_ (b2n pf.bme) 12 + at_ x.vfs 13, x.pool, x.tags.length + at_ x.quar.length 13, x.ctoUs] o
  else if o < 0x38 then word8 0x10 [x.cplTimeout.toNat, x.lateCpl.toNat, x.unexpCpl.toNat, x.tagStallNs.toNat, x.atomicRefused.toNat] o
  else word4 0x38 [x.intStatus.toNat, x.intEnable.toNat] o

def State.glbWord (s : State) (o : Nat) : Nat :=
  let r := s.route
  if o < 8 then word4 0 [0x6410 + at_ 0x10 16] o
  else if o < 0x10 then word8 8 [Config.serial.toNat] o
  else if o < 0x100 then 0
  else if o < 0x108 then word4 0x100 [s.moduleIdWord, r.policy + at_ r.decayUs 2] o
  else if o < 0x140 then word8 0x108 [r.noPath.toNat, r.tc0PairMissing.toNat] o
  else if o < 0x400 then word4 0x140 r.pset o
  else if o < 0x500 then s.hpWord ((o - 0x400) / 0x40) (o % 0x40)
  else word8 0x500 [s.host.dropped.toNat] o

/-! ### MBX (R348, R349) -/

/-- A PF's own page. -/
def State.mbxWord (s : State) (e o : Nat) : Nat :=
  let b := s.box e
  let status := b2n b.busy + at_ (b2n b.done) 1 + at_ (b2n b.overrun) 2 + at_ (b2n (b.evtHead != b.evtTail)) 3 + at_ (b2n !b.held.isEmpty) 4
    + at_ b.longOut 8
  let area (a : List Host.Cell) (base : Nat) : Nat := leNat (Memory.read a (o - base) 4)
  if o < 0x100 then word4 0 [0, status, b.rspSeq.toNat, b.intEn.toNat, b.evtHead.toNat, b.evtTail.toNat, 1008 + at_ 16 16 + at_ 8 24 + at_ 1 28] o
  else if o < 0x500 then area b.req 0x100
  else if o < 0x900 then area b.rsp 0x500
  else if 0xC00 ≤ o ∧ o < 0x1000 then area b.evt 0xC00
  else 0

/-! ### TIME (R58) -/

def State.tportWord (s : State) (p : Nat) : Nat :=
  let t := s.tport p
  t.link.code + at_ (min t.failRun 16) 2 + at_ (b2n (s.eligible p)) 7 + at_ t.partner.code 8 + at_ t.partnerDepth 10 + at_ (b2n t.mismatch) 14

def State.timeWord (s : State) (f : FnId) (o : Nat) : Nat :=
  let t := s.time
  let words : List Nat :=
    [s.clk.nt.toNat % 2 ^ 32, (s.func f).ntLatch.toNat, s.timeStatusWord, t.ctrlWord, t.candWord, t.holdLimit, t.lt, s.errBound,
     signedBits 32 t.theta, signedBits 32 t.rateAdj, b2n t.latePolicy + at_ t.horizon 8, t.lateCnt.toNat, t.lateMax.toNat, t.intStatus.toNat,
     t.intEnable.toNat, s.rootId]
  if f.fn ≠ 0 then (if o < 12 then word4 0 words o else 0)
  else if o < 0x40 then word4 0 words o
  else if o < 0x100 then 0
  else if o < 0x200 then s.tportWord ((o - 0x100) / 4)
  else if o < 0x300 then signedBits 32 (s.tport ((o - 0x200) / 4)).asym
  else if o < 0x400 then signedBits 32 (s.tport ((o - 0x300) / 4)).delay
  else 0

/-! ### PWR (R501) -/

/-- A power state change, or a wake, is in progress. -/
def Power.changing (x : Power) : Bool := x.wakeFrom.isSome || x.change.any fun c => !c.ok && !c.failed

def State.pwrWord (s : State) (o : Nat) : Nat :=
  let x := s.pwr
  let c := s.pwrCfg
  let y := s.sup
  if o < 0x24 then word4 0
    [x.st.code + at_ (b2n (x.gate == .on)) 2 + at_ (b2n x.pwrGood) 3 + at_ (b2n x.seatA) 4 + at_ (b2n x.seatB) 5 + at_ (b2n c.ocTimer) 6
      + at_ (b2n x.changing) 7, c.vinWarn + at_ c.vinReset 9, c.vcWarn + at_ c.vcReset 10, c.count + at_ c.offS 8 + at_ c.inrush 14,
     x.used + at_ (b2n x.latched) 8 + at_ x.lastCause.code 9 + at_ x.lastPoint 12, y.intStatus.toNat, y.intEnable.toNat, y.vinMv, y.iinMa] o
  else if o < 0x34 then word4 0x24 y.vcoreMv o
  else if o < 0x44 then word4 0x34 y.tj o
  else if o < 0x50 then word4 0x44 [y.inlet + at_ y.outlet 8 + at_ y.flow 16] o
  else if o < 0x70 then word4 0x50 (c.curve.map fun k => k.1 + at_ k.2 10) o
  else word8 0x70 [x.tripCount.toNat] o

/-! ### AUD and PERF (R532) -/

def State.sourceWord (s : State) (n o : Nat) : Nat :=
  let c := s.capture n
  if !s.sourceOk n then 0
  else if o < 0x10 then word4 0
    [b2n c.valid + at_ (b2n c.second) 1 + at_ (sevValue c.firstSev) 2 + at_ (sevValue c.highestSev) 4
      + at_ (b2n (c.record.any (·.persist))) 6 + at_ (b2n c.unwatched) 7 + at_ (b2n c.inject.isSome) 8 + at_ (b2n c.intEn) 9
      + at_ (Config.arrays n % 64) 16, c.count.toNat, c.seq.toNat] o
  else if o < 0x30 then leNat ((((c.record.map (·.bytes)).getD []).drop (o - 0x10)).take 4)
  else 0

/-- REACT of a kind: the mask set, else the default, as of a source that is no port (log 171). -/
def State.reactWord (s : State) (k : Nat) : Nat := ((kindOf k).map fun x => (s.reaction x (Sev.of x false) 0).toNat).getD 0

def State.audWord (s : State) (o : Nat) : Nat :=
  let x := s.faults
  if o < 0x18 then word4 0
    [x.scheme + at_ (b2n x.stopped) 1, x.sevValid + at_ x.validSources 4, x.intStatus.toNat, x.intEnable.toNat, x.firstSource, x.evSeq.toNat] o
  else if o < 0x20 then word8 0x18 [x.plogDropped.toNat] o
  else if o < 0x40 then 0
  else if o < 0x100 then s.reactWord ((o - 0x40) / 4)
  else if o < 0x168 then
    ((List.range 32).map fun i => if (s.capture (8 * (o - 0x100) + i)).valid then 2 ^ i else 0).sum
  else if o < 0x2000 then 0
  else s.sourceWord ((o - 0x2000) / 0x40) (o % 0x40)

def State.perfWord (s : State) (f : FnId) (o : Nat) : Nat :=
  let x := s.perf
  let pf := f.fn == 0
  let ctr (n : Nat) : Nat :=
    let c := s.ctr n
    if pf || s.granted f n then
      (if o % 16 < 8 then word8 0 [c.count.toNat + at_ (b2n c.ovf) 48] (o % 16)
       else word4 8 [c.event + at_ c.instance_ 16, c.qual + at_ (c.grant.getD 0) 16 + at_ (b2n c.grant.isSome) 31] (o % 16))
    else 0
  if 0x8000 ≤ o then ctr ((o - 0x8000) / 16)
  else if !pf then 0
  else if o < 0x10 then word4 0 [b2n x.running + at_ (b2n x.stoppedDest) 1, x.period, x.seq.toNat, x.first + at_ x.n 11] o
  else if o < 0x100 then word8 0x10 [x.missed.toNat, x.lastNt.toNat] o
  else if o < 0x200 then ((List.range 32).map fun i => if (s.ctr (8 * (o - 0x100) + i)).ovf then 2 ^ i else 0).sum
  else 0

/-! ### SEC (R422) -/

def State.secWord (s : State) (o : Nat) : Nat :=
  let x := s.sec
  let inSt (h : HandleSt) : Nat := (x.handles.filter fun e => e.2.st == h).length
  let image := ((s.fw.running.bind fun k => (s.fw.slots[k]?).bind (·.hdr)).map (·.svn)).getD 0
  if o < 0x40 then word4 0
    [b2n x.testLocked + at_ (b2n x.ownerRequired) 1 + at_ (b2n x.orderO) 2 + at_ (b2n s.fw.trial) 3 + at_ (s.fw.running.getD 0) 4
      + at_ (b2n (s.boot.alive == .recovery)) 5 + at_ (b2n x.fuseBusy) 6 + at_ (b2n x.rngOk) 7 + at_ (b2n x.logTruncated) 8,
     x.fusedSvn + at_ image 8, x.intStatus.toNat, x.intEnable.toNat, inSt .open_ + at_ (inSt .installed) 11, x.measCount.toNat] o
  else if o < 0x80 then leNat ((x.acc.drop (o - 0x40)).take 4)
  else if o < 0xC0 then leNat ((x.ownerHash.drop (o - 0x80)).take 4)
  else word8 0xC0 [x.gcmTx.toNat, x.gcmRx.toNat, x.authFail.toNat, x.nokeyDrop.toNat] o

/-! ### XLT, ATOM and HBM (R321) -/

/-- Balyn has every agent translate from before RUNNING until device reset. -/
def Boot.translating (b : Boot) : Bool := b.alive == .running || b.alive == .stopped

def State.xltWord (s : State) (a o : Nat) : Nat :=
  let x := s.agent a
  let kind := if a < 2 then 0 else if a < 18 then 1 else 2
  let set (k : Nat) : InvalSet := x.sets.getD k InvalSet.reset
  let host := decide (a < 2)
  if 19 ≤ a then 0
  else if o < 0x08 then word4 0 [a + at_ kind 5 + at_ (tlbSize a) 7, b2n s.boot.translating + at_ (b2n x.prefetch) 1] o
  else if o < 0x20 then
    let y := set ((o - 8) / 0x10)
    if 0x18 ≤ o ∧ !host then 0
    else word4 0 (if o % 0x10 < 8 then [] else [y.scope + at_ y.asid 2 + at_ y.sizeLog2 14, b2n y.done + at_ (b2n y.overrun) 1 + at_ (b2n y.denied) 2])
      (o % 8)
  else if o < 0x30 then (if 0x28 ≤ o ∧ !host then 0 else word8 0x20 [(set 0).va, (set 1).va] o)
  else if o < 0x40 then 0
  else if o < 0x48 then word4 0x40
    [b2n x.fValid + at_ (b2n x.fSecond) 1 + at_ (b2n x.fDevice) 2 + at_ x.fCause 3 + at_ x.fLevel 6 + at_ (b2n x.fWrite) 8 + at_ (b2n x.fUser) 9
      + at_ x.fAsid 10, x.fCount.toNat] o
  else if o < 0x80 then word8 0x48 [x.fVa, x.hits.toNat, x.misses.toNat, x.walks.toNat, x.prefetches.toNat] o
  else if o < 0xC0 ∧ host then word8 0x80 (x.wins.map fun w => [w.1.toNat, w.2.toNat]).flatten o
  else 0

def State.atomWord (s : State) (o : Nat) : Nat :=
  let x := s.mem.atom
  if o < 8 then word4 0 [b2n x.boostEn] o
  else if o < 0x1000 then word8 8 (nats [x.boostSent, x.lockBusy, x.lockOrphaned, x.lockRecovered, x.lockForeign, x.lockStale, x.hostAtomic]) o
  else
    let u := (o - 0x1000) / 0x10
    word8 0 [(Tbl.getD x.ops u 0).toNat, (Tbl.getD x.lockOps u 0).toNat] (o % 0x10)

/-- HBM. Every stack is trained once Balyn has set the module up (log 171). -/
def State.hbmWord (s : State) (o : Nat) : Nat :=
  let m := s.mem
  if o < 0x20 then word4 0
    [(if s.boot.translating then 15 else 0) + at_ (b2n (s.pwr.st == .a2)) 4, b2n m.expose + at_ (b2n m.exposed) 1, if m.expose then m.key.toNat else 0,
     m.ratio, m.imbalPc + at_ m.imbalRatio 8, m.intStatus.toNat, m.intEnable.toNat] o
  else if o < 0x100 then word8 0x20 [m.imbalCount.toNat, m.ceCount.toNat, m.ueCount.toNat, m.ueDa.getD 0] o
  else if o < 0x500 then word8 0 [(Tbl.getD m.pcReq ((o - 0x100) / 8) 0).toNat] (o % 8)
  else 0

/-! ### HOSTQ (R401) -/

def Ctx.ringWord (x : Ctx) (o : Nat) : Nat :=
  if o < 8 then word4 0
    [b2n x.enable, b2n x.idle + at_ (b2n x.fenced) 1 + at_ (b2n x.hostLost) 2 + at_ (b2n x.dbErr) 3 + at_ (b2n x.cqOverflow) 4
      + at_ (b2n x.armed) 5 + at_ (b2n x.cfgErr) 6 + at_ x.fenceCause 8] o
  else if o < 0x18 then word8 8 [x.sqBase, x.cqBase] o
  else if o < 0x38 then word4 0x18
    [x.sqLog2 + at_ x.cqLog2 5 + at_ x.ringAsid 10, x.vector + at_ (b2n x.intEn) 11 + at_ x.coalCount 12 + at_ x.coalUs 20, x.sqHead.toNat,
     x.sqTail.toNat, x.cqHead.toNat, x.cqTail.toNat, x.owed, x.backlog.length] o
  else word8 0x38 [x.nChains.toNat, x.nInvalid.toNat, x.nLost.toNat, x.nDiverted.toNat] o

/-! ### PORT (R117, R469) -/

/-- RT_STATUS. -/
def State.rtStatusWord (s : State) (p : Nat) : Nat :=
  let l := s.link p
  b2n (s.usable p) + at_ (b2n (s.rport p).mismatch) 1 + at_ (l.partnerPos / 8) 2 + at_ (l.partnerPos % 8) 5 + at_ l.partnerGroup 8

def LinkCfg.linkWord (c : LinkCfg) : Nat := b2n c.en + at_ c.maxWidth 1 + at_ c.maxRate 5 + at_ (b2n c.autoRetrain) 7
def LinkCfg.timerWord (c : LinkCfg) : Nat := c.ackTimer + at_ c.creditTimeout 8 + at_ c.replayLimit 18
/-- The 13 link counters. -/
def LinkCtr.list (c : LinkCtr) : List U64 :=
  [c.cwRx, c.cwCorrected, c.cwUncorr, c.dataTx, c.dataRx, c.rreqTx, c.rreqRx, c.replays, c.dup, c.lctlBad, c.downs, c.linkLost, c.escrowFullNs]

def State.linkWord (s : State) (p o : Nat) : Nat :=
  let l := s.link p
  if o < 0x20 then word4 0
    [l.statusWord, l.cfg.linkWord, l.cfg.timerWord, l.cause.code, l.intStatus.toNat, l.intEnable.toNat, (s.conn (p / 4)).cableWord,
     (if l.cap.rttKnown then min l.cap.rttNs 65535 else 0) + at_ (min l.ackEffNs 65535) 16] o
  else if o < 0x50 then word4 0x20 l.cfg.res o
  else if o < 0x100 then word4 0x50
    [sharedFree 6144 l.cfg.res ((List.range 12).map l.rx.held) + at_ (sharedFree l.tx.partnerTotal l.tx.partnerRes l.tx.occ) 16, l.tx.escrow.length,
     l.tx.next.toNat + at_ l.rx.expect.toNat 16, l.train.polarity.toNat + at_ l.train.markerLock.toNat 8] o
  else if o < 0x200 then word8 0x100 (nats l.ctr.list) o
  else if o < 0x300 then word8 0x200 (nats l.ctr.symCorr) o
  else if o < 0x340 then beNat (fit 4 ((l.cap.partner.drop (o - 0x300)).take 4))
  else 0

/-- The 9 64-bit counters of a VC. -/
def VcCtr.list (c : VcCtr) : List U64 := [c.txPkt, c.txFlit, c.txByte, c.rxPkt, c.rxFlit, c.rxByte, c.drop, c.replayFlit, c.stallNs]

def State.portWord (s : State) (p o : Nat) : Nat :=
  let r := s.rport p
  if o < 0x8000 then s.linkWord p o
  else if o < 0x8008 then word8 0x8000 [r.role.word] o
  else if o < 0x8040 then word4 0x8008 [s.rtStatusWord p, r.thresh] o
  else if o < 0x8100 then word8 0x8040 (nats r.drops) o
  else if o < 0x8700 then
    let v := (o - 0x8100) / 0x80
    let c := Tbl.getD r.vcs v VcCtr.reset
    if o % 0x80 < 0x48 then word8 0 (nats c.list) (o % 0x80) else word4 0x48 [(s.link p).rx.held v, c.wmark] (o % 0x80)
  else 0

/-! ### SCHED (R162) -/

def State.schedWord (s : State) (p o : Nat) : Nat :=
  let x := s.sched p
  let l := s.link p
  let shaper (c : Nat) : Bucket := if c = 0 then tc0Bucket l x else x.shapers.getD c (Bucket.full false 1600000 65536)
  let set (c : Nat) : Bucket := x.shapers.getD c (Bucket.full (c == 0) 1600000 65536)
  if o < 0x20 then word4 0
    [x.overhead + at_ (b2n x.gateEn) 8, b2n x.tc0En + at_ x.qlimit 1, b2n x.boundOk + at_ (b2n (rateClamped l (set 0))) 1, x.intStatus.toNat,
     x.intEnable.toNat, x.active + at_ (b2n x.pend) 1 + at_ x.guard 8, x.index + at_ x.openMask 8 + at_ (b2n x.running) 16] o
  else if o < 0x40 then word8 0x20 [x.switchAt.toNat] o
  else if o < 0x80 then word8 0x40 ((List.range 8).map fun c => (set c).rate + at_ (set c).burst 24 + at_ (b2n (set c).en) 63) o
  else if o < 0xC0 then word8 0x80 ((List.range 8).map fun c => signedBits 64 ((shaper c).tokensAt s.clk.now / 65536)) o
  else if o < 0xC4 then 0
  else if o < 0x100 then word4 0xC4 (x.quanta.drop 1) o
  else if o < 0x140 then word8 0x100 (nats x.txBytes) o
  else if o < 0x158 then word8 0x140 (nats [x.overruns, x.preempt, x.block]) o
  else if o < 0x160 then word4 0x158 [x.qdepthMax] o
  else if o < 0x200 then word8 0x160 [x.long.toNat] o
  else if o < 0x220 then
    let b := x.banks.getD ((o - 0x200) / 0x10) GclBank.reset
    if o % 0x10 < 8 then word8 0 [b.base.toNat] (o % 0x10) else word4 8 [b.cycle, b.len] (o % 0x10)
  else if 0x1000 ≤ o ∧ o < 0x1800 then
    let b := x.banks.getD ((o - 0x1000) / 0x400) GclBank.reset
    let e := Tbl.getD b.entries (o % 0x400 / 4) (0xFF, 1000000)
    e.1 + at_ e.2 8
  else 0

/-! ### TILE (R133, R216, R247, R287) -/

/-- The nodes on a tile. -/
def State.tileNodes (s : State) (t : Nat) : Nat := (s.nodes.filter fun e => e.2.tile = t).length

/-- CU_STATUS of the clearing unit at a tile: BUSY while a node it serves is BUSY (R253; log 171). -/
def State.cuStatusWord (s : State) (t : Nat) : Nat :=
  let k := cuTiles.idxOf t
  k + at_ (b2n (s.nodes.any fun e => e.2.tile / 4 == k && e.2.st == .busy)) 4 + at_ (s.cuReserved (4 * k) / 1024) 8

def State.tileWord (s : State) (t o : Nat) : Nat :=
  let x := s.tile t
  if o < 0x14 then word4 0
    [tileId t, b2n (s.planes.getD 0 false) + at_ (b2n (s.planes.getD 1 false)) 1, (Config.hsRate t s.clk.now).toNat, x.intStatus.toNat,
     x.intEnable.toNat] o
  else if o < 0x100 then 0
  else if o < 0x140 then word8 0x100 (nats x.beats) o
  else if o < 0x180 then word8 0 [(Tbl.getD s.net.stallNs (8 * t + (o - 0x140) / 8) 0).toNat] (o % 8)
  else if o < 0x400 then 0
  else if o < 0x500 then srtEntry 0 t ((o - 0x400) / 4)
  else if o < 0x600 then srtEntry 1 t ((o - 0x500) / 4)
  else if o < 0x800 then 0
  else if o < 0x880 then word8 0x800 (nats x.tp) o
  else if o < 0x900 then word4 0x880 [x.susp.length, x.suspWmark] o
  else if o < 0xA00 then word8 0x900 (nats x.mt) o
  else if o < 0xB00 then
    (if !cuTiles.contains t then 0 else if o < 0xA08 then word4 0xA00 [s.cuStatusWord t] o else word8 0xA08 (nats x.cu) o)
  else if o < 0xB08 then word4 0xB00 [s.tileNodes t] o
  else if o < 0xB20 then word8 0xB08 (nats (x.cl.take 3)) o
  else if o < 0xB28 then word4 0xB20 [x.clLateMax.toNat] o
  else word8 0xB28 (nats (x.cl.drop 3)) o

/-! ### MSI-X structures (R325, R328) -/

def Func.vectorWord (x : Func) (o : Nat) : Nat :=
  let v := Tbl.getD x.vectors (o / 16) Vector.reset
  if o % 16 < 8 then word8 0 [v.addr.toNat] (o % 16) else word4 8 [v.data.toNat, b2n v.masked] (o % 16)
def Func.pbaWord (x : Func) (o : Nat) : Nat :=
  ((List.range 32).map fun i => if (Tbl.getD x.vectors (8 * o + i) Vector.reset).pending then 2 ^ i else 0).sum

/-! ### BAR0 (R543, R545, R550, R552) -/

/-- The block an offset of BAR0 lies in, if it is not reserved (R543, R545). -/
def blockAt (off : Nat) : Option Block :=
  if off < 0xB0000 then [Block.dir, .glb, .mbx, .time, .pwr, .aud, .perf, .sec, .xlt, .atom, .hbm][off / 0x10000]?
  else if 0x100000 ≤ off ∧ off < 0x200000 then some .hostq
  else if (0x300000 ≤ off ∧ off < 0x308000) ∨ (0x380000 ≤ off ∧ off < 0x380100) then some .msix
  else if 0x1000000 ≤ off ∧ off < 0x1C00000 then [Block.port, .sched, .tile][(off - 0x1000000) / 0x400000]?
  else none

/-- The block behaves in STOPPED as in normal operation. -/
def Block.runsStopped : Block → Bool
  | .dir | .aud | .perf | .mbx | .hostq | .msix => true
  | _ => false

/-- The 32-bit word of BAR0 that a function reads at an aligned offset: 0 where it is absent (R550). -/
def State.bar0Word (s : State) (f : FnId) (off : Nat) : Nat :=
  match blockAt off with
  | none => 0
  | some b =>
    if !s.reachesBlock f b then 0
    else
      let s := if b.runsStopped then s else s.asRead
      let o := off % 0x10000
      match b with
      | .dir => s.dirWord f o
      | .glb => s.glbWord o
      | .mbx => s.mbxWord f.ep.val o
      | .time => s.timeWord f o
      | .pwr => s.pwrWord o
      | .aud => s.audWord o
      | .perf => s.perfWord f o
      | .sec => s.secWord o
      | .xlt => s.xltWord (o / 0x100) (o % 0x100)
      | .atom => s.atomWord o
      | .hbm => s.hbmWord o
      | .hostq =>
        let c := (off - 0x100000) / 0x100
        (match s.ctx? c with
          | some x => if s.ownsCtx f c then x.ringWord (o % 0x100) else 0
          | none => 0)
      | .port => s.portWord (off / 0x10000 - 0x100) o
      | .sched => s.schedWord (off / 0x10000 - 0x140) o
      | .tile => s.tileWord (off / 0x10000 - 0x180) o
      | .msix => if off < 0x380000 then (s.func f).vectorWord (off - 0x300000) else (s.func f).pbaWord (off - 0x380000)
      | .doorbell | .hbmWindow => 0

/-- What reading the word at an aligned offset changes: RC fields clear (R6, R548). -/
def State.readEffect (s : State) (f : FnId) (off : Nat) : State :=
  let o := off % 0x10000
  let i := off / 0x10000
  match blockAt off with
  | none => s
  | some b =>
    if s.faults.stopped || f.fn != 0 || !s.reachesBlock f b then s
    else match b with
      | .time => if o = 0x2C then s.clearLateCnt else if o = 0x30 then s.clearLateMax else s
      | .xlt => if o / 0x100 < 19 ∧ o % 0x100 = 0x44 then s.clearFaultCount (o / 0x100) else s
      | .port => if 0x8100 ≤ o ∧ o < 0x8700 ∧ o % 0x80 = 0x4C then s.clearWmark (i - 0x100) ((o - 0x8100) / 0x80) else s
      | .sched => if o = 0x158 then s.clearQdepthMax (i - 0x140) else s
      | .tile => if o = 0x884 then s.clearSuspWmark (i - 0x180) else if o = 0xB20 then s.clearClLateMax (i - 0x180) else s
      | _ => s

/-- A naturally aligned read of 1, 2, 4 or 8 bytes, lower word first. A 32-bit read of NT_NOW_LO latches the upper half of NT; a 64-bit read
returns all of NT from one instant (R57). -/
def State.readUnit (s : State) (f : FnId) (off n : Nat) : List Byte × State :=
  let base := off / 4 * 4
  let word (a : Nat) : List Byte := leBytes 4 (s.bar0Word f a)
  let time := off = 0x30000 ∧ s.reachesBlock f .time = true
  if n = 8 then
    (if time then leBytes 8 s.asRead.clk.nt.toNat else word off ++ word (off + 4), (s.readEffect f off).readEffect f (off + 4))
  else
    let s' := s.readEffect f base
    (((word base).drop (off % 4)).take n, if time ∧ n = 4 ∧ s.faults.stopped = false then s'.latchNt f else s')

/-- Units of 8 bytes, one after another. -/
def State.readUnits (s : State) (f : FnId) (off : Nat) : Nat → List Byte × State
  | 0 => ([], s)
  | n + 1 =>
    let a := s.readUnit f off 8
    let b := a.2.readUnits f (off + 8) n
    (a.1 ++ b.1, b.2)

/-- A read of BAR0 (R547): what it returns, and the state it leaves. A read of another shape returns zeros and has no effect. -/
def State.readBar0 (s : State) (f : FnId) (off n : Nat) : List Byte × State :=
  if (n = 1 ∨ n = 2 ∨ n = 4 ∨ n = 8) ∧ off % n = 0 then s.readUnit f off n
  else if 8 < n ∧ n % 8 = 0 ∧ off % 8 = 0 ∧ off / 64 = (off + n - 1) / 64 then s.readUnits f off (n / 8)
  else (zeros n, s)

/-- A read of `n` bytes of BAR2 (R377): every doorbell page reads 0, and nothing changes. -/
def State.readBar2 (s : State) (n : Nat) : List Byte × State := (zeros n, s)

end Sys2Proof.Machine
end

