-- ==== Sys2Proof/Safety.lean ====
section
/-! DEFINITION. The terms in which the statements speak of a run: what a command's own effect is, when a request is served, when nothing is
left to follow, and the invariant of the express bound. -/
namespace Sys2Proof.Machine

/-- The command runs from `s`, and its own effect leaves `u`: the step answers `u` with everything that follows carried out. -/
def Gives (c : Instr) (s u : State) : Prop := exec c s = .next u.settle

/-- The request in mailbox `m` is one for command `c` that passes every check of R555 that comes before its objects: length, availability,
issuer, LONG_OUT and payload fields. -/
def Served (s : State) (m : Fin 5) (c : BciCmd) (len : List Byte → Nat) (fs : List Byte → List Fld) (r : BciReq) : Prop :=
  s.request? m c.code = some (r, false) ∧ r.len = len r.payload ∧ s.unavailable m c = none ∧ s.mayIssue m c.who = true
    ∧ (c.long = true → (s.box m).longOut < 8) ∧ badParam (fs r.payload) r.payload = none

/-- The state after a request is answered OK: `u` is what the work left, `p` the payload of the response. -/
def Answered (u : State) (m : Fin 5) (r : BciReq) (p : List Byte) : State := u.reply m r rOk 0 0 p

/-- The state after a long command is accepted: it is outstanding under the mailbox's next token, which the response carries. -/
def Accepted (u : State) (m : Fin 5) (r : BciReq) (w : LongWork) (p : List Byte) : State :=
  let b := u.box m
  (u.setBox m { b with token := b.token + 1,
                       long := b.long ++ [{ token := b.token, cmd := r.cmd, seq := r.seq, work := w, discard := false }] }).reply m r
    rAccepted 0 b.token p

/-- Mailbox `m` may act on host context `c`, which exists and is not being destroyed (R362, R363). -/
def State.Owns (s : State) (m c : Nat) : Prop := (s.ctx? c).isSome = true ∧ s.mayAct m (s.ctxEp c) = true ∧ s.ctxHeld c = false

/-- Mailbox `m` may act on what context `c` owns, a host or an engine context (R363). -/
def State.OwnsFor (s : State) (m c : Nat) : Prop := s.mayActOn m c = true ∧ s.ctxHeld c = false

/-- Nothing is left to follow: no transfer has ended and no containment is due, the torus is empty, no QP, collective node or suspended packet
waits to go on, no live port's gates run, and its bound has not changed. -/
def State.quiet (s : State) : Prop :=
  s.mem.ended = [] ∧ s.faults.due = [] ∧ s.net.loads = [] ∧ s.net.waits = [] ∧ s.qps = [] ∧ s.nodes = [] ∧ (∀ e ∈ s.tiles, e.2.susp = [])
    ∧ ∀ p, p ∈ s.livePorts → (s.sched p).gateEn = false ∧ (s.sched p).boundOk = false ∧ s.boundNow p = false

/-- The parts of the state: its fields, the host functions' MSI-X structures and settings apart from the rest of the host ports. -/
inductive Part where
  | host | funcs | clk | pwr | pwrCfg | sup | pins | boot | mbx | bmc | faults | plog | perf | time | route | links | conns | scheds |
  tiles | planes | net | sec | fw | mem | ctxs | ledgers | qps | gens | domains | nodes | violAt | free | out | pending
deriving DecidableEq, Repr

/-- A part is the same in both states. -/
def Part.same (s u : State) : Part → Prop
  | .host => { u.host with funcs := s.host.funcs } = s.host
  | .funcs => u.host.funcs = s.host.funcs
  | .clk => u.clk = s.clk
  | .pwr => u.pwr = s.pwr
  | .pwrCfg => u.pwrCfg = s.pwrCfg
  | .sup => u.sup = s.sup
  | .pins => u.pins = s.pins
  | .boot => u.boot = s.boot
  | .mbx => u.mbx = s.mbx
  | .bmc => u.bmc = s.bmc
  | .faults => u.faults = s.faults
  | .plog => u.plog = s.plog
  | .perf => u.perf = s.perf
  | .time => u.time = s.time
  | .route => u.route = s.route
  | .links => u.links = s.links
  | .conns => u.conns = s.conns
  | .scheds => u.scheds = s.scheds
  | .tiles => u.tiles = s.tiles
  | .planes => u.planes = s.planes
  | .net => u.net = s.net
  | .sec => u.sec = s.sec
  | .fw => u.fw = s.fw
  | .mem => u.mem = s.mem
  | .ctxs => u.ctxs = s.ctxs
  | .ledgers => u.ledgers = s.ledgers
  | .qps => u.qps = s.qps
  | .gens => u.gens = s.gens
  | .domains => u.domains = s.domains
  | .nodes => u.nodes = s.nodes
  | .violAt => u.violAt = s.violAt
  | .free => u.free = s.free
  | .out => u.out = s.out
  | .pending => u.pending = s.pending

/-- The frame of a command: nothing but the named parts changes. -/
def Only (parts : List Part) (s u : State) : Prop := ∀ p, p ∈ parts ∨ p.same s u

/-- What reporting may write: the functions' MSI-X structures, what leaves the module, the performance counters, the auditor's registers and the
logs. -/
def reporting : List Part := [.funcs, .out, .perf, .faults, .plog]

/-- What passing time may move: the clock, the eFuse's timers, and the counters of stalled links, torus outputs and ports. -/
def passing : List Part := [.clk, .pwrCfg, .host, .perf, .route, .links, .net]

/-- What a device reset may write. -/
def resetting : List Part :=
  [.clk, .pwr, .sup, .pins, .boot, .host, .funcs, .mbx, .faults, .plog, .perf, .time, .route, .links, .conns, .scheds, .tiles, .planes, .net, .sec, .fw, .mem,
   .ctxs, .ledgers, .qps, .gens, .domains, .nodes, .violAt, .out]

/-- The links, schedulers and router ports other than `p` hold what they held. -/
def Elsewhere (p : Nat) (s u : State) : Prop :=
  ∀ q, q ≠ p → u.link q = s.link q ∧ u.sched q = s.sched q ∧ u.rport q = s.rport q

/-- What a trip leaves (R487, R488): the gate off, FAULT_N, the cause, one more trip counted; each trip after the first counts in USED, and
one with USED at COUNT latches. -/
def TripLeaves (s u : State) (cause : TripCause) : Prop :=
  u.pwr.gate = .off ∧ u.pwr.pwrGood = false ∧ u.pwr.converters = false ∧ u.pwr.faultN = true ∧ u.pwr.lastCause = cause
    ∧ u.pwr.tripCount = s.pwr.tripCount + 1 ∧ u.pwr.used = (if s.pwr.tripped then min 255 (s.pwr.used + 1) else s.pwr.used)
    ∧ u.pwr.latched = (s.pwr.latched || (s.pwrCfg.count != 255 && decide (s.pwrCfg.count ≤ s.pwr.used)))
    ∧ u.pwr.st = .a3 ∧ u.boot.inReset = true ∧ u.sup.iinMa = 0

/-- BOUND_OK of a port is set only while the locally checkable conditions of the express bound hold there (R161). -/
def State.Inv (s : State) : Prop := ∀ p, p < 64 → (s.sched p).boundOk = true → s.boundNow p = true

end Sys2Proof.Machine
end

