-- ==== Sys2Proof/Certificates/Slice0/Obligations.lean ====
section
/-! DEFINITION. The statements about the machine, one `def` each, for the provers. -/
open Sys2Proof Sys2Proof.Machine

/-- A step runs the command at the front of the queue with the rest of the queue. With no command waiting, one tick of 1/256 ns passes: the
model's choice (log 57). NT is 1/256 ns (R22). -/
def Obligations.CommandsRunFirstInFirstOut : Prop :=
  (
    ∀ (c : Instr) (q : List Instr) (s : State), step { s with pending := c :: q } = exec c { s with pending := q }
  ) ∧ (
    ∀ s : State, s.pending = [] → ∃ t, step s = .next t ∧ t.pending = [] ∧ t.pwr = s.pwr ∧ t.boot = s.boot
      ∧ t.scheds = s.scheds ∧ t.qps = s.qps ∧ t.ctxs = s.ctxs ∧ t.mem = s.mem ∧ t.out = s.out
      ∧ t.clk = if s.dieRuns then s.clk.advance s.time.rateAdj 1 else { s.clk with now := s.clk.now + 1 }
  )

/-- No step faults and none is refused: every command has an effect, in every state. A command's effect either leaves the state as it was or
is followed by everything that it sets off. Where nothing is left to follow, a command's own effect is the whole of its effect. -/
def Obligations.EveryCommandHasItsEffect : Prop :=
  (
    ∀ s : State, ∃ t, step s = .next t
  ) ∧ (
    ∀ (c : Instr) (s : State), exec c s = .next s ∨ ∃ u, Gives c s u
  ) ∧ (
    ∀ u : State, u.quiet → u.settle = u
  )

/-- BOUND_OK at a port implies the conditions of R161, and every step keeps that. -/
def Obligations.BoundInvariantKept : Prop := ∀ s t : State, s.Inv → step s = .next t → t.Inv

/-- The machine after reset meets the invariant. -/
def Obligations.ResetMeetsInvariant : Prop := State.reset.Inv

/-- What the spec gives for reset: the die runs and is booting (R329, R493), BOOT counts one release, and every register group is at the reset
values of its table (R56 time, R116 routing, R162 scheduling, R469 links, R346 host ports, R553 registers). -/
def Obligations.ResetValues : Prop :=
  let s := State.reset
  s.boot.alive = .booting ∧ s.boot.inReset = false ∧ s.time.ntValid = false ∧ s.clk.nt = 0 ∧ s.faults.firstSource = 0xFFFF
    ∧ s.faults.evSeq = 0 ∧ s.faults.intStatus = 0 ∧ s.mem.cells = [] ∧ s.mem.ratio = 8 ∧ s.mem.regions = [] ∧ s.ctxs = [] ∧ s.qps = []
    ∧ s.pending = []
    ∧ (∀ p, (s.link p).st = .disabled ∧ (s.link p).cfg.en = true ∧ (s.sched p).qlimit = 4096 ∧ (s.sched p).boundOk = false
        ∧ (s.sched p).tc0En = true)
    ∧ (∀ e, (s.ep e).linkUp = false ∧ (s.ep e).pool = 16) ∧ (∀ m, (s.box m).token = 1 ∧ (s.box m).busy = false)
    ∧ (∀ a, (s.agent a).prefetch = true)

/-- STANDBY_POWER_UP and STANDBY_POWER_LOSS (R479, R485, R490, R494): the standby controller starts with its settings at their defaults, in A3
with the eFuse off and the die in reset; losing power leaves the module off. Flash and fuses are kept. MOD_RESET_N (R493): low for more
than 10 µs it holds the die in device reset, which loses every context, QP, link and byte of HBM and keeps flash, fuses and the standby
settings; up to 1 µs it does nothing; high again, T_REL starts unless another cause holds. DEVICE_RESET_RELEASE (R62, R407, R410, R493):
with no cause left, 90 to 110 µs after the last one, the straps are sampled and the mint boots the slot it picks, or the recovery
configuration when none boots. -/
def Obligations.PowerAndDeviceReset : Prop :=
  (
    ∀ s : State,
    (s.pwr.st = .off → ∃ u, Gives .standbyPowerUp s u ∧ Only (.pwrCfg :: .bmc :: resetting) s u ∧ u.pwr.st = .a3 ∧ u.pwr.gate = .off
      ∧ u.pwr.pwrGood = false ∧ u.pwr.qualified = false ∧ u.pwr.used = 0 ∧ u.pwr.latched = false ∧ u.pwr.holdA3 = false ∧ u.pwrCfg = PwrCfg.reset
      ∧ u.boot.inReset = true ∧ u.boot.releases = 0 ∧ u.mem.cells = [] ∧ u.ctxs = [] ∧ u.links = [] ∧ u.fw.slots = s.fw.slots
      ∧ u.sec.fusedSvn = s.sec.fusedSvn ∧ u.boot.mcrCopies = s.boot.mcrCopies)
    ∧ (s.pwr.st ≠ .off → ∃ u, Gives .standbyPowerLoss s u ∧ Only (.pwrCfg :: .bmc :: resetting) s u ∧ u.pwr.st = .off ∧ u.pwr.gate = .off ∧ u.pwr.pwrGood = false
      ∧ u.pwrCfg = PwrCfg.reset ∧ u.boot.inReset = true ∧ u.mem.cells = [] ∧ u.ctxs = [] ∧ u.links = [] ∧ u.fw.slots = s.fw.slots
      ∧ u.sec.fusedSvn = s.sec.fusedSvn)
  ) ∧ (
    ∀ (us : Nat) (s : State),
    (10 < us → s.pins.modReset = false → s.boot.inReset = false → ∃ u, Gives (.modResetAssert us) s u
      ∧ Only (.pins :: resetting) s u ∧ u.pins = { s.pins with modReset := true }
      ∧ u.boot.inReset = true ∧ u.boot.releases = s.boot.releases ∧ u.mem.cells = [] ∧ u.ctxs = [] ∧ u.qps = []
      ∧ u.links = [] ∧ u.host.eps = [] ∧ u.time.ntValid = false ∧ u.clk.nt = 0 ∧ u.fw.slots = s.fw.slots ∧ u.pwrCfg = s.pwrCfg
      ∧ u.sec.fusedSvn = s.sec.fusedSvn)
    ∧ (10 < us → s.pins.modReset = false → s.boot.inReset = true →
        Gives (.modResetAssert us) s { s with pins := { s.pins with modReset := true } })
    ∧ (us ≤ 1 → exec (.modResetAssert us) s = .next s)
    ∧ (s.pins.modReset = true → ∃ u, Gives .modResetDeassert s u ∧ Only [.pins, .boot] s u ∧ u.pins = { s.pins with modReset := false }
      ∧ (s.boot.inReset = true → s.pwr.pwrGood = true → s.sup.vinRst = false → s.sup.vcRst.any id = false →
          u.boot = { s.boot with relFrom := s.clk.now }))
  ) ∧ (
    ∀ s : State,
    s.boot.inReset = true → s.resetCause = false → s.pwr.st ≠ .off → s.pwr.st ≠ .a3 → ∃ u, Gives .deviceResetRelease s u
      ∧ Only (.free :: .sec :: .fw :: .boot :: .conns :: (passing ++ reporting)) s u ∧ u.route.position = s.pins.slotId.toNat
      ∧ u.boot = { s.boot with inReset := false, releases := s.boot.releases + 1, position := s.pins.slotId.toNat, mintDone := u.boot.mintDone,
                               alive := u.boot.alive }
      ∧ (∀ k, u.conn k = if (s.conn k).present = true then { s.conn k with vcc := true, onAt := u.clk.now } else s.conn k)
      ∧ s.boot.relFrom + 90 * usTicks ≤ u.clk.now ∧ u.clk.now ≤ max s.clk.now (s.boot.relFrom + 110 * usTicks)
      ∧ (u.boot.alive = .recovery ↔ u.fw.running = none) ∧ (u.fw.running.isSome = true → u.boot.alive = .booting)
      ∧ (s.sec.fuseBusy = true → u.sec = s.sec.burn) ∧ (s.sec.fuseBusy = false → u.sec = s.sec)
      ∧ u.fw = s.fw.boot u.sec
  )

/-- Start-up (R329, R332, R408, R411, R424, R551): BALYN_START, ALIVE_RUNNING, CONFIG_SPACE_READY and HEARTBEAT. The vault's fuses and random
source (R410, R421, R505): a burn ends with the fuses blown, a failing health test clears RNG_OK and is recorded as VAULT_RNG, fatal
before Balyn has started, and a passing source sets RNG_OK again. -/
def Obligations.StartUpAndVaultEvents : Prop :=
  (
    ∀ (e : Fin 4) (s : State),
    (s.dieRuns = true → s.boot.mintDone = false → s.fw.running.isSome = true → s.boot.alive = .booting → ∃ u, Gives .balynStart s u
      ∧ Only [.free, .sec, .boot, .mem, .tiles] s u
      ∧ u.boot = { s.boot with mintDone := true, balyn := true } ∧ u.sec.saltAt = s.clk.now
      ∧ u.sec.measCount = s.sec.measCount + (if s.fw.image.isSome then 5 else 3)
      ∧ u.mem = { s.mem with key := u.mem.key, engineGen := s.free + 1 } ∧ ∀ t, u.tile t = { s.tile t with salt := (u.tile t).salt })
    ∧ (s.dieRuns = true → s.boot.balyn = true → s.boot.alive = .booting → ∃ u, Gives .aliveRunning s u ∧ Only [.boot, .links] s u ∧ u.boot = { s.boot with alive := .running }
      ∧ ∀ p, p < 64 → (s.link p).st = .disabled → (s.link p).cfg.en = true → (u.link p).st = .detect)
    ∧ (s.dieRuns = true → s.formed e.val = true → (s.ep e.val).configured = false → s.pins.perst.getD (e.val / 2) true = false →
        s.boot.mintDone = true → Gives (.configSpaceReady e) s (s.setEp e.val { s.ep e.val with configured := true }))
    ∧ (s.dieRuns = true → s.boot.balyn = true →
        Gives .heartbeat s { s with boot := { s.boot with heartbeat := s.boot.heartbeat + 1 } })
  ) ∧ (
    ∀ (test : Nat) (s : State),
    (s.dieRuns = true → s.sec.fuseBusy = true → ∃ u, Gives .fuseBurnDone s u ∧ Only (.sec :: reporting) s u ∧ u.sec = { s.sec.burn with intStatus := s.sec.intStatus ||| 8 }
      ∧ u.sec.fusedSvn = max s.sec.fusedSvn s.sec.burnSvn ∧ u.sec.fuseBusy = false)
    ∧ (s.dieRuns = true → s.sec.rngOk = true → ∃ u, Gives (.vaultRngFail test) s u ∧ Only (.sec :: reporting) s u
      ∧ u.sec = { s.sec with rngOk := false, intStatus := s.sec.intStatus ||| 16 } ∧ (u.capture 3).valid = true
      ∧ ((s.capture 3).valid = false → ∃ r, (u.capture 3).record = some r ∧ r.kind = .vaultRng ∧ r.infoA = BitVec.ofNat 32 test
          ∧ r.sev = if s.boot.balyn then .uc else .uf))
    ∧ (s.dieRuns = true → s.sec.rngOk = false → Gives .rngSourcePass s { s with sec := { s.sec with rngOk := true } })
  )

/-- Seating and ramping (R480 to R482, R488): a qualified seating clears USED and the latch and starts the ramp unless A3 is held; losing a
contact turns the eFuse off, emits the seat-loss event and puts the die in reset; a finished ramp runs the converters. The trips (R482 to
R484, R487 to R490): ramp timeout, fast trip, curve trip, PG_TIMEOUT and thermal shutdown, each from a state whose gate is on. Success and
retry (R486, R488, R494): PWR_GOOD ends an attempt within 20 ms and brings the module from A3 to A0; a retry starts after the off time; 60
s of PWR_GOOD clear USED. -/
def Obligations.SeatingTripsAndRetries : Prop :=
  (
    ∀ (a b : Bool) (ma : Nat) (s : State),
    (s.pwr.st ≠ .off → s.pwr.qualified = false → ∃ u, Gives .seatQualified s u ∧ Only (.pwr :: (passing ++ reporting)) s u
      ∧ u.pwr = { s.pwr with seatA := true, seatB := true, qualified := true, used := 0, tripped := false, latched := false,
                             gate := u.pwr.gate, attemptAt := u.pwr.attemptAt } ∧ u.clk.now = s.clk.now + 25 * msTicks
      ∧ (s.pwr.st = .a3 → s.pwr.gate = .off → s.pwr.holdA3 = false → s.sup.ov = false → u.pwr.gate = .ramping ∧ u.pwr.attemptAt = u.clk.now)
      ∧ (s.pwr.holdA3 = true → u.pwr.gate = s.pwr.gate))
    ∧ ((a && b) = false → s.pwr.st ≠ .off → s.pwr.qualified = true → ∃ u, Gives (.seatLoss a b) s u ∧ Only resetting s u
      ∧ u.pwr.seatA = a ∧ u.pwr.seatB = b ∧ u.pwr.qualified = false ∧ u.pwr.used = 0 ∧ u.pwr.gate = .off ∧ u.pwr.pwrGood = false ∧ u.pwr.st = .a3
      ∧ u.boot.inReset = true)
    ∧ ((a && b) = false → s.pwr.st ≠ .off → s.pwr.qualified = false →
        Gives (.seatLoss a b) s { s with pwr := { s.pwr with seatA := a, seatB := b } })
    ∧ (s.pwr.gate = .ramping → Gives (.efuseRampDone ma) s
        { s with pwr := { s.pwr with gate := .on, converters := !s.sup.vinRst }, sup := { s.sup with iinMa := ma } })
  ) ∧ (
    ∀ (k : Fin 8) (ma c : Nat) (q : Fin 4) (s : State),
    (s.pwr.gate = .ramping → ∃ u, Gives .rampTimeout s u ∧ TripLeaves s u .rampTimeout
        ∧ Only (passing ++ resetting) s u ∧ s.pwr.attemptAt + 15 * msTicks ≤ u.clk.now)
    ∧ (s.pwr.gate ≠ .off → ∃ u, Gives .fastTrip s u ∧ TripLeaves s u .fast ∧ Only resetting s u)
    ∧ (s.pwr.gate = .on → 100 * (s.pwrCfg.curve.getD k.val (0, 0)).1 < ma → ∃ u, Gives (.curveTrip k ma) s u ∧ TripLeaves s u .curve
        ∧ u.pwr.lastPoint = s.pwrCfg.firstTrip ma k.val ∧ ((∀ i, i < 8 → i ≠ k.val → s.pwrCfg.tripUs ma i = none) → u.pwr.lastPoint = k.val)
        ∧ Only (passing ++ resetting) s u)
    ∧ (s.attempting = true → ∃ u, Gives .pgTimeout s u ∧ TripLeaves s u .pgTimeout
        ∧ s.pwr.attemptAt + 20 * msTicks ≤ u.clk.now ∧ Only (passing ++ resetting) s u)
    ∧ (s.pwr.st ≠ .off → s.pwr.gate ≠ .off → 115 < c → ∃ u, Gives (.tempShutdown q c) s u ∧ TripLeaves s u .thermal
        ∧ u.sup.tj = put s.sup.tj q.val c ∧ Only (passing ++ resetting) s u)
  ) ∧ (
    ∀ (vin ma : Nat) (vcore tj : List Nat) (s : State),
    (s.pwr.gate = .on → s.pwr.converters = true → s.pwr.pwrGood = false → s.sup.vinRst = false → s.pwrCfg.ocTimer = false →
        (s.attempting = true → s.clk.now ≤ s.pwr.attemptAt + 20 * msTicks) → ∃ u, Gives (.pwrGoodAssert vin ma vcore) s u
      ∧ Only (.pwr :: .sup :: .boot :: reporting) s u
      ∧ u.pwr = { s.pwr with pwrGood := true, pgSince := s.clk.now, faultN := false, st := if s.pwr.st = .a3 then .a0 else s.pwr.st,
                             change := u.pwr.change }
      ∧ u.sup = { s.sup with vinMv := vin, iinMa := ma, vcoreMv := vcore, intStatus := u.sup.intStatus }
      ∧ (s.pwr.st = .a3 → u.sup.intStatus = s.sup.intStatus ||| 16))
    ∧ (s.mayAttempt = true → (s.pwr.lastCause = .thermal → ∀ t ∈ tj, t ≤ 85) → ∃ u, Gives (.efuseRetry tj) s u ∧ Only (.pwr :: passing) s u
      ∧ u.pwr = { s.pwr with gate := .ramping, attemptAt := u.clk.now } ∧ s.pwr.gateOffAt + s.pwrCfg.offS * secTicks ≤ u.clk.now)
    ∧ (s.pwr.pwrGood = true → ∃ u, Gives .retryCountReset s u ∧ u.pwr = { s.pwr with used := 0, tripped := false }
      ∧ s.pwr.pgSince + 60 * secTicks ≤ u.clk.now ∧ Only (.pwr :: passing) s u)
  )

/-- Supervision of the input (R490, R493): a sag warns, VIN below its reset threshold stops the converters and resets the die with the eFuse
on, and an overvoltage turns the eFuse off without counting a trip. Supervision of the core supplies, junctions and coolant (R14, R15,
R490). THRESHOLD_CLEAR (R490): each condition clears once its reading has passed the threshold by the hysteresis: 1.0 V, 2.0 V, 2.0 V, 10
mV, 20 mV, 3 °C, and 1 °C with 100 mL/min. -/
def Obligations.SupplySupervision : Prop :=
  (
    ∀ (mv : Nat) (s : State), s.pwr.st ≠ .off →
    (s.sup.sag = false → mv < s.pwrCfg.vinWarn * 100 → ∃ u, Gives (.vinSag mv) s u ∧ Only (.sup :: (passing ++ reporting)) s u
      ∧ u.sup = { s.sup with sag := true, vinMv := mv, intStatus := s.sup.intStatus ||| 1 } ∧ u.clk.now = s.clk.now + 10 * usTicks)
    ∧ (s.sup.vinRst = false → mv < s.pwrCfg.vinReset * 100 → s.boot.inReset = false → ∃ u, Gives (.vinReset mv) s u
      ∧ Only (passing ++ resetting) s u ∧ u.sup = { s.sup with vinMv := mv, vinRst := true, sag := true, intStatus := u.sup.intStatus }
      ∧ u.pwr = { s.pwr with st := if s.pwr.st = .a1 ∨ s.pwr.st = .a2 then .a0 else s.pwr.st, converters := false, pwrGood := false,
                             wakeFrom := none, change := u.pwr.change } ∧ u.boot.inReset = true)
    ∧ (s.sup.ov = false → 63000 < mv → ∃ u, Gives (.vinOvervoltage mv) s u ∧ Only (passing ++ resetting) s u
      ∧ u.sup.ov = true ∧ u.sup.vinMv = mv ∧ u.pwr.gate = .off
      ∧ u.pwr.pwrGood = false ∧ u.pwr.tripCount = s.pwr.tripCount ∧ u.pwr.used = s.pwr.used ∧ u.boot.inReset = true)
  ) ∧ (
    ∀ (q : Fin 4) (mv c inlet flow : Nat) (vcore tj : List Nat) (s : State), s.pwr.st ≠ .off →
    (s.pwr.converters = true → s.sup.vcLow.getD q.val false = false → mv < s.pwrCfg.vcWarn → ∃ u, Gives (.vcoreLow q mv) s u ∧ Only (.sup :: (passing ++ reporting)) s u
      ∧ u.sup = { s.sup with vcLow := put s.sup.vcLow q.val true, vcoreMv := put s.sup.vcoreMv q.val mv, intStatus := s.sup.intStatus ||| 2 })
    ∧ (s.pwr.converters = true → s.sup.vcRst.getD q.val false = false → mv < s.pwrCfg.vcReset →
        s.boot.inReset = false → ∃ u, Gives (.vcoreReset q mv) s u ∧ Only (passing ++ resetting) s u
      ∧ u.sup.vcRst = put s.sup.vcRst q.val true ∧ u.boot.inReset = true
      ∧ u.pwr.gate = s.pwr.gate ∧ u.mem.cells = [])
    ∧ (s.sup.hot.getD q.val false = false → 105 < c → ∃ u, Gives (.tempHigh q c) s u ∧ Only (.sup :: (passing ++ reporting)) s u
      ∧ u.sup = { s.sup with tj := put s.sup.tj q.val c, hot := put s.sup.hot q.val true, intStatus := s.sup.intStatus ||| 4 })
    ∧ (s.sup.cool = false → 45 < inlet ∨ flow < 1200 → ∃ u, Gives (.coolantWarn inlet flow) s u
      ∧ Only (.sup :: (passing ++ reporting)) s u
      ∧ u.sup = { s.sup with cool := true, inlet := inlet, flow := flow, intStatus := s.sup.intStatus ||| 8 })
    ∧ (vcore.length = 4 → tj.length = 4 → ∃ u, Gives (.regionSkew vcore tj) s u ∧ Only (.sup :: (passing ++ reporting)) s u
      ∧ u.sup = { s.sup with vcoreMv := vcore, tj := tj, skewMv := u.sup.skewMv, skewC := u.sup.skewC, skew := u.sup.skew }
      ∧ ∀ i, i < 4 → i < s.sup.skew.length → u.sup.skew[i]? = some
          (decide (40 < absDiff (vcore.getD (skewPairs.getD i (0, 0)).1 0) (vcore.getD (skewPairs.getD i (0, 0)).2 0))
            || decide (25 < absDiff (tj.getD (skewPairs.getD i (0, 0)).1 0) (tj.getD (skewPairs.getD i (0, 0)).2 0))))
  ) ∧ (
    ∀ (q : Fin 4) (mv c inlet flow : Nat) (s : State), s.pwr.st ≠ .off →
    (s.sup.sag = true → s.pwrCfg.vinWarn * 100 + 1000 ≤ mv →
        Gives (.thresholdClear (.vinWarn mv)) s { s with sup := { s.sup with vinMv := mv, sag := false } })
    ∧ (s.sup.vinRst = true → s.pwrCfg.vinReset * 100 + 2000 ≤ mv → ∃ u, Gives (.thresholdClear (.vinReset mv)) s u
      ∧ Only [.sup, .pwr, .boot] s u ∧ u.sup = { s.sup with vinMv := mv, vinRst := false } ∧ u.pwr = { s.pwr with converters := s.pwr.gate == .on })
    ∧ (s.sup.ov = true → mv + 2000 ≤ 63000 → ∃ u, Gives (.thresholdClear (.vinOver mv)) s u
      ∧ u = (let v : State := { s with sup := { s.sup with vinMv := mv, ov := false } }
             if s.pwr.gate = .off ∧ s.pwr.qualified = true ∧ s.pwr.latched = false ∧ s.pwr.holdA3 = false ∧ (s.pwr.st ≠ .a3 ∨ s.pwr.tripped = false)
             then v.startAttempt else v))
    ∧ (s.sup.vcLow.getD q.val false = true → s.pwrCfg.vcWarn + 10 ≤ mv → Gives (.thresholdClear (.vcoreWarn q mv)) s
        { s with sup := { s.sup with vcoreMv := put s.sup.vcoreMv q.val mv, vcLow := put s.sup.vcLow q.val false } })
    ∧ (s.sup.vcRst.getD q.val false = true → s.pwrCfg.vcReset + 20 ≤ mv → ∃ u, Gives (.thresholdClear (.vcoreReset q mv)) s u
      ∧ Only [.sup, .boot] s u ∧ u.sup = { s.sup with vcoreMv := put s.sup.vcoreMv q.val mv, vcRst := put s.sup.vcRst q.val false })
    ∧ (s.sup.hot.getD q.val false = true → c + 3 ≤ 105 → Gives (.thresholdClear (.junction q c)) s
        { s with sup := { s.sup with tj := put s.sup.tj q.val c, hot := put s.sup.hot q.val false } })
    ∧ (s.sup.cool = true → inlet + 1 ≤ 45 → 1300 ≤ flow → Gives (.thresholdClear (.coolant inlet flow)) s
        { s with sup := { s.sup with inlet := inlet, flow := flow, cool := false } })
  )

/-- PERST, arrival and departure (R323, R329, R341, R343 to R345): the pins follow; an endpoint that arrives is up at its speed and width,
raises ARRIVED, and gives a module without a named management PF the lowest endpoint that is up; one that leaves departs, and a PERST
departs and resets every formed endpoint of its port. A host endpoint that leaves while its Data Link Layer is up reads down at once, and
its mailbox page resets while TOKEN and RSEQ count on (R341, R349, R356, R364): what a departed mailbox keeps. -/
def Obligations.HostsArriveAndDepart : Prop :=
  (
    ∀ (k : Fin 2) (e : Fin 4) (speed width : Nat) (s : State),
    (s.dieRuns = true → Gives (.perstAssert k) s
        (((s.portEps k.val).foldl (fun (t : State) i => ((t.depart i).modEp i Endpoint.perst).resetFns i)
          { s with pins := { s.pins with perst := put s.pins.perst k.val true } }).dropDead))
    ∧ (s.dieRuns = false → Gives (.perstAssert k) s { s with pins := { s.pins with perst := put s.pins.perst k.val true } })
    ∧ Gives (.perstDeassert k) s { s with pins := { s.pins with perst := put s.pins.perst k.val false } }
    ∧ (s.mayTrain e.val = true → (s.ep e.val).dlUp = false → 1 ≤ speed → speed ≤ 6 → s.widthOk e.val width = true → ∃ u,
        Gives (.hostArrived e speed width) s u
      ∧ u.host.eps = Tbl.set s.host.eps e.val { s.ep e.val with linkUp := true, dlUp := true, speed := speed, width := width, noFlit := false,
                                                                intStatus := (s.ep e.val).intStatus ||| 8 }
      ∧ (s.host.mgmtNamed = none → u.host.mgmt = u.upEps.head?)
      ∧ (∀ n, s.host.mgmtNamed = some n → (s.ep n).dlUp = true → u.host.mgmt = some n) ∧ Only (.host :: reporting) s u)
    ∧ (s.dieRuns = true → (s.ep e.val).dlUp = true → Gives (.hostDeparted e) s (s.depart e.val))
    ∧ (s.mayTrain e.val = true → (s.ep e.val).linkUp = false → ∃ u,
        let v := if (s.ep e.val).noFlit then s.reach ((s.ep e.val).noFlitAt + 100 * msTicks) else s
        Gives (.noFlitRetry e) s u
      ∧ ((s.ep e.val).noFlit = true → (s.ep e.val).noFlitAt + 100 * msTicks ≤ v.clk.now) ∧ Only (.host :: reporting) v u
      ∧ { u.host with funcs := v.host.funcs } = { v.host with eps := Tbl.set v.host.eps e.val { v.ep e.val with
            noFlit := true, noFlitAt := v.clk.now, intStatus := (v.ep e.val).intStatus ||| 16 } })
  ) ∧ (
    ∀ b : Mailbox,
    let d := b.depart
    d.token = b.token ∧ d.rseq = b.rseq ∧ d.busy = false ∧ d.done = false ∧ d.overrun = false ∧ d.intEn = 0 ∧ d.evtHead = 0 ∧ d.evtTail = 0
      ∧ d.req = [] ∧ d.rsp = [] ∧ d.evt = [] ∧ d.taken = none ∧ d.held = [] ∧ d.gone = b.gone ++ b.taken.toList
      ∧ (∀ l ∈ d.long, l.discard = true) ∧ d.long.map (·.token) = b.long.map (·.token) ∧ d.longOut = 0
  )

/-- Functions (R328, R341, R342): VF Enable off ends the VFs' contexts; Bus Master Enable and D3hot are taken, and set again, or back in D0,
what waited goes on; an unmasked vector's held message is sent; until the configuration space is set up, a configuration request is answered
Request Retry Status (R329). Interrupt messages (R328, R342): one for a vector that is masked, by its
own bit or the function's, or whose function may not issue DMA, sets the pending bit and sends nothing; any other is sent at once. -/
def Obligations.FunctionsAndTheirInterrupts : Prop :=
  (
    ∀ (e : Fin 4) (fn : Fin 65) (v : Fin 2048) (s : State),
    let f : FnId := { ep := e, fn := fn.val }
    let vs := Tbl.set (s.func f).vectors v.val { Tbl.getD (s.func f).vectors v.val Vector.reset with masked := false }
    let w := (s.modEp e.val fun x => { x with vfs := 0 }).loseFns fun c => c.ep == e.val && c.fn != 0
    let v' : State := { w with host := { w.host with funcs := w.host.funcs.filter fun x => x.1 / 128 != e.val || x.1 % 128 == 0 } }
    (s.hostReaches e = true → (s.ep e.val).vfs ≠ 0 → Gives (.vfDisable e) s ((v'.event 0x0031 (0x0300 + e.val) (leBytes 1 e.val)).hpInt e.val 2))
    ∧ (s.fnExists e fn.val = true →
        Gives (.bmeClear e fn) s (s.setFunc f { s.func f with bme := false })
        ∧ Gives (.bmeSet e fn) s ((s.setFunc f { s.func f with bme := true }).fnResumes f)
        ∧ Gives (.d3hotEntry e fn) s (s.setFunc f { s.func f with d3hot := true })
        ∧ Gives (.d3hotExit e fn) s ((s.setFunc f { s.func f with d3hot := false }).fnResumes f)
        ∧ Gives (.msixUnmask e fn none) s ((s.setFunc f { s.func f with fnMask := false }).flushMsix f)
        ∧ Gives (.msixUnmask e fn (some v)) s ((s.setFunc f { s.func f with vectors := vs }).flushMsix f))
    ∧ (s.retries e.val = true →
        let r := s.emit (.retryStatus f)
        Gives (.vfDisable e) s (s.emit (.retryStatus (pf e))) ∧ Gives (.bmeClear e fn) s r ∧ Gives (.bmeSet e fn) s r ∧ Gives (.d3hotEntry e fn) s r
        ∧ Gives (.d3hotExit e fn) s r ∧ ∀ w : RegWrite, w.config = true → Gives (.registerWrite e fn w) s r)
  ) ∧ (
    ∀ (f : FnId) (v : Nat) (s : State),
    let vec := Tbl.getD (s.func f).vectors v Vector.reset
    ((s.func f).mayDma = true → (s.func f).fnMask = false → vec.masked = false → (s.raise f v).out = s.out ++ [.msix f v vec.addr vec.data]
        ∧ (s.raise f v).host = s.host)
    ∧ ((s.func f).mayDma = false ∨ (s.func f).fnMask = true ∨ vec.masked = true → (s.raise f v).out = s.out
        ∧ (Tbl.getD ((s.raise f v).func f).vectors v Vector.reset).pending = true
        ∧ (Tbl.getD ((s.raise f v).func f).vectors v Vector.reset).masked = vec.masked)
  )

/-- Tags and completions (R334 to R337): an answer in time settles its request and frees the tag; one that does not come is reported, counted,
and its tag quarantined; a late one is counted and frees the tag; an unexpected one is counted; 4 × the timeout frees a quarantined tag.
The HBM window (R296, R301, R302): a BAR4 access whose bytes all lie in open chunks reads or writes HBM from device address 0x6000_0000
on, poisoned bytes returning as poisoned data; any other ends as Unsupported Request and touches no memory. Gateways, the imbalance window
and speculative fills (R185, R293, R308): a gateway takes the first transfer before it; a window of 10 µs ends; an entry that does not
fault is kept in the agent's TLB and counted as a prefetch. -/
def Obligations.HostMemoryAccess : Prop :=
  (
    ∀ (e : Fin 4) (tag : Fin 4096) (data : List Byte) (t : Tag) (q : QTag) (s : State),
    s.dieRuns = true →
    ((s.ep e.val).tag? tag.val = some t → (s.ep e.val).dlUp = true →
        Gives (.dmaReadCompletion e tag true data) s
          (((s.setEp e.val ((s.ep e.val).dropTag tag.val)).answer t.use (some data)).tagsBack e.val))
    ∧ ((s.ep e.val).tag? tag.val = some t → ∃ v : State,
        let r := s.reach (t.sent + (s.ep e.val).ctoTicks)
        Gives (.completionTimeout e tag) s (v.answer t.use none)
      ∧ t.sent + (s.ep e.val).ctoTicks ≤ v.clk.now ∧ Only (.host :: reporting) r v ∧ .aerTimeout e.val ∈ v.out
      ∧ { v.host with funcs := r.host.funcs } = { r.host with eps := Tbl.set r.host.eps e.val { (r.ep e.val).dropTag tag.val with
            quar := (r.ep e.val).quar ++ [{ tag := tag.val, sent := t.sent }], cplTimeout := (r.ep e.val).cplTimeout + 1,
            intStatus := (r.ep e.val).intStatus ||| 1 } }
      ∧ (v.ep e.val).tag? tag.val = none)
    ∧ ((s.ep e.val).dlUp = true → ((s.ep e.val).quar.any fun y => y.tag == tag.val) = true → ∃ v : State, Gives (.lateCompletion e tag) s (v.tagsBack e.val)
      ∧ Only (.host :: reporting) s v ∧ .aerUnexpected e.val ∈ v.out
      ∧ { v.host with funcs := s.host.funcs } = { s.host with eps := Tbl.set s.host.eps e.val { s.ep e.val with
            quar := (s.ep e.val).quar.filter fun y => y.tag ≠ tag.val, lateCpl := (s.ep e.val).lateCpl + 1,
            intStatus := (s.ep e.val).intStatus ||| 2 } })
    ∧ ((s.ep e.val).dlUp = true → (s.ep e.val).tagFree tag.val = true → Gives (.unexpectedCompletion e tag) s
        ((s.setEp e.val { s.ep e.val with unexpCpl := (s.ep e.val).unexpCpl + 1 }).emit (.aerUnexpected e.val)))
    ∧ ((s.ep e.val).quar.find? (fun y => y.tag == tag.val) = some q → 
        let r := s.reach (q.sent + 4 * (s.ep e.val).ctoTicks)
        let v := r.setEp e.val { r.ep e.val with quar := (r.ep e.val).quar.filter fun y => y.tag ≠ tag.val }
        Gives (.tagQuarantineRelease e tag) s (v.tagsBack e.val) ∧ q.sent + 4 * (s.ep e.val).ctoTicks ≤ r.clk.now)
  ) ∧ (
    ∀ (e : Fin 4) (off n : Nat) (data : List Byte) (s : State), s.hostReaches e = true →
    (s.wake.bar4Open e off n = true → Gives (.bar4Read e off n) s (s.wake.issue (.bar4 e.val) 0 (.hbm (poolBase + off)) false [] n none))
    ∧ (s.wake.bar4Open e off n = false → Gives (.bar4Read e off n) s (s.wake.emit (.unsupported (pf e))))
    ∧ (s.wake.bar4Open e off data.length = true →
        Gives (.bar4Write e off data) s (s.wake.issue (.bar4 e.val) 0 (.hbm (poolBase + off)) true data data.length none))
    ∧ (s.wake.bar4Open e off data.length = false → Gives (.bar4Write e off data) s (s.wake.emit (.unsupported (pf e))))
  ) ∧ (
    ∀ (e : Fin 4) (x : Xfer) (da : Nat) (s : State), s.xfer? x.id = some x → x.use = .bar4 e.val → x.space = .hbm da → x.atomic = none →
    let n := min (x.len - x.pos) (256 - (da + x.pos) % 256)
    let at0 := da + x.pos
    (x.write = false → (∀ b ∈ bursts at0 n, b ∉ s.mem.poison) → ∃ u : State, s.reachGate x.id = u.endXfer x (.ok (s.hbmBytes at0 n))
      ∧ Only [.mem, .perf] s u ∧ { u.mem with pcReq := s.mem.pcReq, winReq := s.mem.winReq } = s.mem)
    ∧ (x.write = false → (∃ b ∈ bursts at0 n, b ∈ s.mem.poison) → ∃ u : State,
        s.reachGate x.id = u.endXfer x (.poisoned (s.hbmBytes at0 n))
      ∧ u.mem.cells = s.mem.cells ∧ u.mem.poison = s.mem.poison ∧ Only (.mem :: reporting) s u)
    ∧ (x.write = true → ∃ u : State, s.reachGate x.id = u.endXfer x (.ok []) ∧ Only [.mem, .perf] s u
      ∧ { u.mem with pcReq := s.mem.pcReq, winReq := s.mem.winReq } = { s.mem with
            cells := s.hbmPut at0 ((x.data.drop x.pos).take n),
            poison := s.mem.poison.filter fun b => !(at0 ≤ 32 * b && 32 * b + 32 ≤ at0 + ((x.data.drop x.pos).take n).length) })
    ∧ (x.write = false → ∀ d, s.resume x (.ok d) = s.emit (.readData (pf e) d) ∧ s.resume x (.poisoned d) = s.emit (.readPoisoned (pf e) d))
  ) ∧ (
    ∀ (x : Xfer) (d : List Byte) (da : Nat) (s : State), s.xfer? x.id = some x → x.space = .hbm da → x.len ≤ x.pos + x.part →
    let y := { x with data := if x.write then x.data else x.data ++ d, poisoned := x.poisoned || false, pos := x.pos + x.part }
    s.returned x.id (.ok d) = s.xferDone y (if x.write then .ok [] else if x.poisoned then .poisoned (x.data ++ d) else .ok (x.data ++ d))
  ) ∧ (
    ∀ (g : Fin 64) (a : Fin 19) (asid : Fin 4096) (va : BitVec 48) (x : Xfer) (s : State),
    (s.mem.xfers.find? (s.takable g.val) = some x → Gives (.hbmGatewayAccept g) s (s.gatewayTakes x))
    ∧ (∀ (e c : Nat) (agent : Nat), s.hostTile agent e c = if agent = 0 then (if (if s.formed (2 * agent + 1) then e % 2 else c % 2) = 0 then 3 else 4)
        else (if (if s.formed (2 * agent + 1) then e % 2 else c % 2) = 0 then 59 else 60))
    ∧ (s.works = true → 
        let v := s.reach (s.mem.winFrom + 10 * usTicks)
        let high := decide (1024 ≤ s.mem.winTotal) && decide (s.mem.ratio ≤ s.mem.busiest.2 * 128 / s.mem.winTotal)
        Gives .hbmImbalWindow s v.closeWindow ∧ s.mem.winFrom + 10 * usTicks ≤ v.clk.now ∧ v.mem = s.mem
      ∧ ((high && s.mem.imbalRun == 3) = false → v.closeWindow = { v with mem := { s.mem with
            winReq := [], winFrom := v.clk.now, imbalRun := if high then s.mem.imbalRun + 1 else 0 } })
      ∧ ((high && s.mem.imbalRun == 3) = true → Only (.mem :: reporting) v v.closeWindow ∧ ∃ a, v.closeWindow.mem = { s.mem with
            winReq := [], winFrom := v.clk.now, imbalRun := 0, imbalCount := s.mem.imbalCount + 1, imbalPc := s.mem.busiest.1,
            imbalRatio := s.mem.busiest.2 * 128 / s.mem.winTotal, intStatus := s.mem.intStatus ||| 1, imbalEventAt := some a }))
    ∧ (s.works = true → a.val < 2 → Gives (.speculativeFill a asid va) s (s.fillHost a.val asid.val va.toNat))
    ∧ (s.works = true → 2 ≤ a.val → s.pwr.st ≠ .a2 → Gives (.speculativeFill a asid va) s (s.fillEngine a.val asid.val va.toNat))
  ) ∧ (
    ∀ (agent ep asid va lvl ea e c : Nat) (user again : Bool) (x : Xfer) (s : State), x.use = .fill → x.space = .host agent ep asid user va →
    x.pos = 0 →
    (walkNext lvl e = .fault c → s.walkEntry x lvl ea e again = s.dropXfer x.id)
    ∧ (walkNext lvl e = .leaf → (pteA e = false → s.walkEntry x lvl ea e again = s.dropXfer x.id)
      ∧ (s.deviceSpace agent ep (ptePpn e * 4096 + va % 2 ^ pageBits lvl) 1 = true → s.walkEntry x lvl ea e again = s.dropXfer x.id)
      ∧ (pteA e = true → s.deviceSpace agent ep (ptePpn e * 4096 + va % 2 ^ pageBits lvl) 1 = false →
          pteOf asid va lvl e ∈ ((s.walkEntry x lvl ea e again).agent agent).tlb ∧ Only [.mem] s (s.walkEntry x lvl ea e again)))
  )

/-- R340: an AtomicOp of the host, on any BAR, ends as Unsupported Request and changes no memory. -/
def Obligations.HostAtomicopsUnsupported : Prop :=
  ∀ (e : Fin 4) (fn : Fin 65) (b : Bool) (s : State), s.hostReaches e = true →
  ∃ u, Gives (.hostAtomicop e fn b) s u ∧ u.out = s.out ++ [.unsupported { ep := e, fn := fn.val }] ∧ Only [.pwr, .out] s u
    ∧ u.pwr = if b then s.wake.pwr else s.pwr

/-- Writes to BAR0 (R547): an aligned 4-byte write puts its word into the register at its offset, if that takes it; a misaligned one, or one
of a length that is neither 4 nor a multiple of 8, changes nothing. Module-wide registers have one owner (R327): the words of TIME, PWR,
AUD, SEC and HBM interrupt registers and of every endpoint's, port's and tile's are taken from the management PF, and from another PF they
are dropped; a VF does not reach them. The interrupt enables of the interfaces, and settings of a function's configuration space (R6,
R327, R334, R339, R547): a write stores what it writes and changes nothing else; NumVFs is taken while VF Enable is clear and up to the
PF's VF_COUNT, and a VF has no AtomicOp Requester Enable, timeout range or VF Enable. -/
def Obligations.RegisterWrites : Prop :=
  (
    ∀ (e : Fin 4) (fn : Fin 65) (w : RegWrite) (off : Nat) (v : U32) (data : List Byte) (r : Reg) (hi : Bool)
      (s : State),
    let f : FnId := { ep := e, fn := fn.val }
    s.fnExists e fn.val = true →
    Gives (.registerWrite e fn w) s (s.hostWrite f w)
    ∧ (off % 4 = 0 → s.wordFate f off = some (r, hi, .takes) → s.faults.stopped = false →
        Gives (.registerWrite e fn (.bar0 off (leBytes 4 v.toNat))) s (s.regWord f r hi v))
    ∧ (off % 4 = 0 → s.wordFate f off = some (r, hi, .dropped) → s.faults.stopped = false →
        Gives (.registerWrite e fn (.bar0 off (leBytes 4 v.toNat))) s { s with host := { s.host with dropped := s.host.dropped + 1 } })
    ∧ (off % 4 = 0 → s.wordFate f off = none → Gives (.registerWrite e fn (.bar0 off (leBytes 4 v.toNat))) s s)
    ∧ (data.length = 4 → off % 4 ≠ 0 → Gives (.registerWrite e fn (.bar0 off data)) s s)
    ∧ (data.length ≠ 4 → data.length % 8 ≠ 0 ∨ off % 8 ≠ 0 → Gives (.registerWrite e fn (.bar0 off data)) s s)
  ) ∧ (
    ∀ (f : FnId) (r : Reg) (s : State), s.boot.alive ≠ .recovery →
    r ∈ [.timeStatus, .timeEnable, .pwrStatus, .pwrEnable, .audStatus, .audEnable, .secStatus, .secEnable, .hbmStatus, .hbmEnable]
      ∨ (∃ p, r = .portStatus p ∨ r = .portEnable p ∨ r = .schedStatus p ∨ r = .schedEnable p ∨ r = .tileStatus p ∨ r = .tileEnable p
          ∨ r = .timePort p) →
    s.fate f r false = if f.fn ≠ 0 then .absent else if s.host.mgmt = some f.ep.val then .takes else .dropped
  ) ∧ (
    ∀ (f : FnId) (v : U32) (n p t k : Nat) (on : Bool) (code : Fin 16) (s : State),
    s.regWord f (.hpEnable n) false v = s.setEp n { s.ep n with intEnable := bv 5 v }
    ∧ s.regWord f .timeEnable false v = { s with time := { s.time with intEnable := bv 6 v } }
    ∧ s.regWord f .pwrEnable false v = { s with sup := { s.sup with intEnable := bv 5 v } }
    ∧ s.regWord f .audEnable false v = { s with faults := { s.faults with intEnable := bv 5 v } }
    ∧ s.regWord f .secEnable false v = { s with sec := { s.sec with intEnable := bv 5 v } }
    ∧ s.regWord f .hbmEnable false v = { s with mem := { s.mem with intEnable := bv 3 v } }
    ∧ s.regWord f (.portEnable p) false v = s.setLink p { s.link p with intEnable := bv 6 v }
    ∧ s.regWord f (.schedEnable p) false v = s.setSched p { s.sched p with intEnable := bv 4 v }
    ∧ s.regWord f (.tileEnable t) false v = s.setTile t { s.tile t with intEnable := bv 2 v }
    ∧ s.hostWrite f (.functionMask true) = s.setFunc f { s.func f with fnMask := true }
    ∧ s.hostWrite f (.relaxedOrdering on) = s.setFunc f { s.func f with roEn := on }
    ∧ s.hostWrite f (.atomicRequester on) = (if f.fn = 0 then s.setEp f.ep.val { s.ep f.ep.val with atomicEn := on } else s)
    ∧ s.hostWrite f (.timeoutRange code) = (if f.fn = 0 then s.setEp f.ep.val { s.ep f.ep.val with ctoUs := ctoOf code.val } else s)
    ∧ (f.fn = 0 → (s.ep f.ep.val).vfs = 0 → k ≤ s.boot.mcr.vfCount.getD f.ep.val 0 →
        s.hostWrite f (.vfEnable k) = s.setEp f.ep.val { s.ep f.ep.val with vfs := k })
    ∧ (f.fn ≠ 0 ∨ (s.ep f.ep.val).vfs ≠ 0 ∨ s.boot.mcr.vfCount.getD f.ep.val 0 < k → s.hostWrite f (.vfEnable k) = s)
  )

/-- Write 1 to clear (R6): a status bit written 1 clears, one written 0 stays, and one whose cause is still present is set. Reads that clear
(R58, R115, R162, R216, R287, R307): the read returns the value and clears it, for a function that reaches the register while the module
is not stopped; R57: a read of NT_NOW_LO returns NT[31:0] and keeps NT[63:32] for the reading function. Invalidation (R309, R310): with
its set idle, a PF's GO starts the scope for its own agent and set, but one for an ASID that is not its own is only marked DENIED; a GO
while DONE is clear is only marked OVERRUN; when it is done, no entry of the scope is left and DONE is set. AUD_SRC_CLEAR (R327, R513):
the management PF clears a source's capture set; from another PF the write is dropped and counted. Reads of BAR0 (R330 to R332, R543, R547,
R550): the directory begins with its signature and VERSION, then ALIVE with its pattern; it has an entry per block instance that the
function reaches; an absent register reads zero, and a read of another shape returns zeros, both without effect. -/
def Obligations.RegisterSideEffects : Prop :=
  (
    (∀ (w : Nat) (old mask still : BitVec w) (i : Nat), (w1c old mask still).getLsbD i = ((old.getLsbD i && !mask.getLsbD i) || still.getLsbD i))
    ∧ ∀ (f : FnId) (v : U32) (n p t : Nat) (s : State),
      ((s.ep n).noFlit = false →
        s.regWord f (.hpStatus n) false v = s.setEp n { s.ep n with intStatus := (s.ep n).intStatus &&& ~~~bv 5 v })
      ∧ ((s.ep n).noFlit = true →
        ((s.regWord f (.hpStatus n) false v).ep n).intStatus = ((s.ep n).intStatus &&& ~~~bv 5 v) ||| 16
        ∧ Only (.host :: reporting) s (s.regWord f (.hpStatus n) false v))
      ∧ s.regWord f .timeStatus false v = { s with time := { s.time with intStatus := s.time.intStatus &&& ~~~bv 6 v } }
      ∧ s.regWord f .audStatus false v = { s with faults := { s.faults with intStatus := s.faults.intStatus &&& ~~~bv 5 v } }
      ∧ s.regWord f .hbmStatus false v = { s with mem := { s.mem with intStatus := s.mem.intStatus &&& ~~~bv 3 v } }
      ∧ s.regWord f (.portStatus p) false v = s.setLink p { s.link p with intStatus := (s.link p).intStatus &&& ~~~bv 6 v }
      ∧ s.regWord f (.schedStatus p) false v = s.setSched p { s.sched p with intStatus := (s.sched p).intStatus &&& ~~~bv 4 v }
      ∧ (s.regWord f .pwrStatus false v).sup = { s.sup with intStatus := (s.sup.intStatus &&& ~~~bv 5 v) ||| s.sup.still }
      ∧ Only (.sup :: reporting) s (s.regWord f .pwrStatus false v)
      ∧ (s.regWord f .secStatus false v).sec =
          { s.sec with intStatus := (s.sec.intStatus &&& ~~~bv 5 v) ||| if s.sec.rngOk then 0 else 16 }
      ∧ Only (.sec :: reporting) s (s.regWord f .secStatus false v)
      ∧ (s.regWord f (.tileStatus t) false v).tiles = Tbl.set s.tiles t { s.tile t with
            intStatus := ((s.tile t).intStatus &&& ~~~bv 2 v) ||| if s.planes.all id then 0 else 2 }
      ∧ Only (.tiles :: reporting) s (s.regWord f (.tileStatus t) false v)
  ) ∧ (
    ∀ (e : Fin 4) (fn : Fin 65) (p t : Fin 64) (v : Fin 12) (a : Fin 19) (s : State),
    let f : FnId := { ep := e, fn := fn.val }
    let c := Tbl.getD (s.rport p.val).vcs v.val VcCtr.reset
    s.fnExists e fn.val = true → s.boot.alive ≠ .recovery → s.faults.stopped = false →
    Gives (.ntNowLoRead e fn) s
        ((s.setFunc f { s.func f with ntLatch := BitVec.ofNat 32 (s.clk.nt.toNat / 2 ^ 32) }).emit (.readData f (leBytes 4 s.clk.nt.toNat)))
    ∧ (fn.val = 0 →
      Gives (.launchLateCntRead e fn) s ({ s with time := { s.time with lateCnt := 0 } }.emit (.readData f (leBytes 4 s.time.lateCnt.toNat)))
      ∧ Gives (.launchLateMaxRead e fn) s ({ s with time := { s.time with lateMax := 0 } }.emit (.readData f (leBytes 4 s.time.lateMax.toNat)))
      ∧ Gives (.wmarkRead e fn p v) s
          ((s.setRport p.val { s.rport p.val with vcs := Tbl.set (s.rport p.val).vcs v.val { c with wmark := 0 } }).emit
            (.readData f (leBytes 4 c.wmark)))
      ∧ Gives (.tc0QdepthMaxRead e fn p) s
          ((s.setSched p.val { s.sched p.val with qdepthMax := 0 }).emit (.readData f (leBytes 4 (s.sched p.val).qdepthMax)))
      ∧ Gives (.tpSuspWmarkRead e fn t) s
          ((s.setTile t.val { s.tile t.val with suspWmark := 0 }).emit (.readData f (leBytes 4 (s.tile t.val).suspWmark)))
      ∧ Gives (.clLateMaxRead e fn t) s
          ((s.setTile t.val { s.tile t.val with clLateMax := 0 }).emit (.readData f (leBytes 4 (s.tile t.val).clLateMax.toNat)))
      ∧ Gives (.faultCountRead e fn a) s
          ((s.setAgent a.val { s.agent a.val with fCount := 0 }).emit (.readData f (leBytes 4 (s.agent a.val).fCount.toNat))))
  ) ∧ (
    ∀ (w : InvalBy) (asid : Fin 4096) (size : Fin 64) (s : State),
    let x := s.invalSet w.agent w.set
    let writes : Prop := match w with
      | .pf e => s.hostReaches e = true ∧ s.faults.stopped = false ∧ s.boot.alive ≠ .recovery
      | .balyn _ page => s.works = true ∧ x.va = 4096 * page.toNat ∧ (s.agent w.agent).sets.length = 2
    let next (y : InvalSet) : State := s.setInval w.agent w.set y
    (writes → x.done = true →
      Gives (.invalAll w) s (next { x with scope := 0, asid := 0, sizeLog2 := 0, done := false })
      ∧ Gives (.invalGlobal w) s (next { x with scope := 3, asid := 0, sizeLog2 := 0, done := false })
      ∧ (s.invalOwns w asid.val = true →
          Gives (.invalAsid w asid) s (next { x with scope := 1, asid := asid.val, sizeLog2 := 0, done := false })
          ∧ Gives (.invalRange w asid size) s (next { x with scope := 2, asid := asid.val, sizeLog2 := size.val, done := false }))
      ∧ (s.invalOwns w asid.val = false →
          Gives (.invalAsid w asid) s (next { x with scope := 1, asid := asid.val, sizeLog2 := 0, denied := true })))
    ∧ (writes → x.done = false → Gives (.invalAll w) s (next { x with overrun := true }))
    ∧ (x.done = false → s.works = true → s.translatedWaits w x = false → w.agent < 19 → ∃ u, Gives (.invalDone w) s u
      ∧ u = (s.setAgent w.agent { s.agent w.agent with tlb := (s.agent w.agent).tlb.filter fun t => !s.inScope w x t }).setInval w.agent w.set
          { x with done := true }
      ∧ (∀ t ∈ (u.agent w.agent).tlb, s.inScope w x t = false)
      ∧ (w.set < (s.agent w.agent).sets.length → (u.invalSet w.agent w.set).done = true))
  ) ∧ (
    ∀ (e : Fin 4) (n : Nat) (s : State),
    s.hostReaches e = true → s.sourceOk n = true → s.boot.alive ≠ .recovery →
    (s.host.mgmt = some e.val → Gives (.audSrcClear e n) s (s.clearSource n))
    ∧ (s.host.mgmt ≠ some e.val → s.faults.stopped = false →
        Gives (.audSrcClear e n) s { s with host := { s.host with dropped := s.host.dropped + 1 } })
    ∧ (s.persisting n = [] → ((s.clearSource n).capture n).valid = false
      ∧ ((s.clearSource n).capture n).count = 0) ∧ Only reporting s (s.clearSource n) ∧ ∀ m ≠ n, (s.clearSource n).capture m = s.capture m
  ) ∧ (
    ∀ (f : FnId) (off n : Nat) (s : State),
    s.readBar0 f 0 8 = ([0x48, 0x44, 0x4C, 0x44, 0x44, 0x49, 0x52, 0x01], s)
    ∧ s.readBar0 f 12 4 = (leBytes 4 (s.boot.heartbeat.toNat + 2 ^ 16 * s.boot.alive.code + 2 ^ 24 * 0x5A), s)
    ∧ (s.boot.alive ≠ .recovery → f.fn = 0 → (s.directory f).length = if s.boot.mcr.bar4Log2 = 0 then 224 else 225)
    ∧ (s.boot.alive ≠ .recovery → f.fn ≠ 0 → (s.directory f).map (·.block.code) = [1, 4, 7, 12, 16, 17])
    ∧ (s.boot.alive = .recovery → f.fn = 0 → (s.directory f).map (·.block.code) = [1, 2, 3])
    ∧ (blockAt off = none → off % 4 = 0 → s.readBar0 f off 4 = (zeros 4, s))
    ∧ (¬ ((n = 1 ∨ n = 2 ∨ n = 4 ∨ n = 8) ∧ off % n = 0) → ¬ (8 < n ∧ n % 8 = 0 ∧ off % 8 = 0 ∧ off / 64 = (off + n - 1) / 64) →
        s.readBar0 f off n = (zeros n, s))
  )

/-- Doorbells (R350, R352, R353): with BUSY clear the request is copied from the request area, BUSY set and DONE cleared; a SEQ other than the
doorbell's is answered SEQ_MISMATCH and a COMMAND outside the list UNKNOWN_COMMAND, and neither executes anything; with BUSY set the
doorbell only sets OVERRUN; MBX_DOORBELL answers a next state in every state, and changes nothing of a mailbox its function does not
reach. An answer (R350, R352, R373): the response area holds the response from its first byte on, RSP_SEQ is the
request's SEQ, DONE is set and BUSY clear; a PF gets vector 0 when DONE_EN is set, and the BMC one message. -/
def Obligations.MailboxRequestsAndAnswers : Prop :=
  (
    ∀ (e : Fin 4) (v : U32) (s : State), s.hostReaches e = true →
    let b := s.box e.val
    let r := parseReq (Memory.read b.req 0 1024) v
    let t := s.setBox e.val { b with busy := true, done := false, taken := some (s.queued r) }
    (b.busy = false → v = r.seq → r.cmd ∈ bciCodes → exec (.mbxDoorbell e v) s = .next t.settle)
    ∧ (b.busy = false → v ≠ r.seq → Gives (.mbxDoorbell e v) s (t.reply e.val r rSeqMismatch 0 0 []))
    ∧ (b.busy = false → v = r.seq → r.cmd ∉ bciCodes → Gives (.mbxDoorbell e v) s (t.reply e.val r rUnknown 0 0 []))
    ∧ (b.busy = true → Gives (.mbxDoorbell e v) s (s.setBox e.val { b with overrun := true }))
  ) ∧ (
    ∀ (e : Fin 4) (v : U32) (s : State), ∃ u, exec (.mbxDoorbell e v) s = .next u
      ∧ (s.hostReaches e = false → u = s)
      ∧ (s.hostReaches e = true → (s.box e.val).busy = false → ∃ w, u = w.settle ∧ (w.box e.val).req = (s.box e.val).req ∧ Only (.mbx :: reporting) s w)
  ) ∧ (
    ∀ (m : Nat) (r : BciReq) (result detail : Nat) (token : U32) (p : List Byte) (s : State),
    let u := s.reply m r result detail token p
    let bytes := rspBytes r result detail token p
    u.box m = { s.box m with rspSeq := r.seq, done := true, busy := false, taken := none, rsp := Memory.write (s.box m).rsp 0 bytes }
      ∧ (∀ k, k ≠ m → u.box k = s.box k) ∧ Only (.mbx :: reporting) s u
      ∧ field bytes 0 2 = r.cmd % 65536 ∧ field bytes 4 4 = r.seq.toNat ∧ field bytes 8 2 = result % 65536 ∧ field bytes 12 4 = token.toNat
      ∧ bytes.drop 16 = p
      ∧ (m = 4 → u.out = s.out ++ [.mctp (bciMsg 2 bytes)])
      ∧ (m ≠ 4 → (s.box m).intEn.getLsbD 0 = false → u.out = s.out)
  )

/-- Event areas (R349, R357): EVT_TAIL moves up to EVT_HEAD and a write that would pass it changes nothing; with a slot free the oldest held
record is written into the slot of EVT_HEAD, which counts up. A finished long command (R357): its record goes into the next slot and
EVT_HEAD counts up when a slot is free and none is held; else it is held behind the others. Either way RSEQ counts up and LONG_OUT no
longer counts the command as running. -/
def Obligations.MailboxEvents : Prop :=
  (
    ∀ (e : Fin 4) (m : Fin 5) (v : Byte) (h : U32 × List Byte) (q : List (U32 × List Byte)) (s : State),
    (s.hostReaches e = true → (v - (s.box e.val).evtTail).toNat ≤ ((s.box e.val).evtHead - (s.box e.val).evtTail).toNat →
        Gives (.evtTailWrite e v) s (s.setBox e.val { s.box e.val with evtTail := v }))
    ∧ (s.hostReaches e = true → ((s.box e.val).evtHead - (s.box e.val).evtTail).toNat < (v - (s.box e.val).evtTail).toNat →
        ∃ u, Gives (.evtTailWrite e v) s u ∧ (∀ k, u.box k = s.box k) ∧ Only [.mbx] s u)
    ∧ ((s.box m.val).held = h :: q → (s.box m.val).full = false → ∃ u, Gives (.evtHeldWrite m) s u
      ∧ u.box m.val = { s.box m.val with held := q, evt := Memory.write (s.box m.val).evt (64 * ((s.box m.val).evtHead.toNat % 16)) h.2,
                                         evtHead := (s.box m.val).evtHead + 1 }
      ∧ (∀ k, k ≠ m.val → u.box k = s.box k) ∧ Only (.mbx :: reporting) s u
      ∧ (m = 4 → u.out = if (s.box 4).evtHead = (s.box 4).evtTail then s.out ++ [.ibi 0xB1] else s.out))
  ) ∧ (
    ∀ (m : Nat) (l : LongCmd) (result : Nat) (p : List Byte) (s : State), l.discard = false →
    let b := s.box m
    let u := s.finish m l result p
    let rcd := recordBytes s b.rseq l result p
    let b' := { b with rseq := b.rseq + 1, long := b.long.filter fun x => x.token ≠ l.token }
    (b.full = false → b.held = [] →
        u.box m = { b' with evtHead := b.evtHead + 1, evt := Memory.write b.evt (64 * (b.evtHead.toNat % 16)) rcd })
    ∧ (b.full = true ∨ b.held ≠ [] → u = s.setBox m { b' with held := b.held ++ [(l.token, rcd)] })
    ∧ (∀ k, k ≠ m → u.box k = s.box k) ∧ Only (.mbx :: reporting) s u
  )

/-- The BMC's bus (R371, R372): ENTDAA gives the dynamic address; the six control commands are answered, every other one with
ERROR_UNSUPPORTED_CMD; message bytes are the MCTP specification's (log 46). A request of the BMC (R372, R373): it goes into mailbox 4 as
if a doorbell had been written; while mailbox 4 is BUSY it is answered BUSY and has no effect. -/
def Obligations.BmcPath : Prop :=
  (
    ∀ (addr : Fin 128) (inst : Fin 32) (op : Fin 4) (eid type code : Byte) (s : State), s.pwr.st ≠ .off →
    Gives (.i3cEntdaa addr) s ({ s with bmc := { s.bmc with dynAddr := some addr.val } }.emit (.provisional (Config.provisionalId Config.serial)))
    ∧ (s.bmc.dynAddr.isSome = true →
      (op.val ≤ 1 → 8 ≤ eid.toNat → eid.toNat ≠ 255 → Gives (.setEndpointId inst op eid) s
          ({ s with bmc := { s.bmc with eid := eid } }.emit (.mctp [0x00, BitVec.ofNat 8 inst.val, 1, 0, 0x00, eid, 0x00])))
      ∧ Gives (.getEndpointId inst) s (s.emit (.mctp [0x00, BitVec.ofNat 8 inst.val, 2, 0, s.bmc.eid, 0x00, 0x00]))
      ∧ Gives (.getEndpointUuid inst) s (s.emit (.mctp ([0x00, BitVec.ofNat 8 inst.val, 3, 0] ++ fit 16 Config.uuid)))
      ∧ Gives (.getMctpVersionSupport inst type) s (s.emit (.mctp ([0x00, BitVec.ofNat 8 inst.val, 4, 0] ++ Config.mctpVersions type.toNat)))
      ∧ Gives (.getMessageTypeSupport inst) s (s.emit (.mctp [0x00, BitVec.ofNat 8 inst.val, 5, 0, 0x01, 0x7E]))
      ∧ Gives (.getVendorMessageSupport inst 0) s
          (s.emit (.mctp ([0x00, BitVec.ofNat 8 inst.val, 6, 0, 0xFF, 0x00, 0x1F, 0x2B] ++ leBytes 2 Config.mctpVendorSet)))
      ∧ (code.toNat = 0 ∨ 6 < code.toNat → Gives (.mctpUnsupportedCmd inst code) s (s.emit (.mctp [0x00, BitVec.ofNat 8 inst.val, code, 5]))))
  ) ∧ (
    ∀ (b : List Byte) (s : State), s.pwr.st ≠ .off → s.bmc.dynAddr.isSome = true → 16 ≤ b.length →
    b.length ≤ 1024 →
    let r := parseReq b (BitVec.ofNat 32 (field b 4 4))
    let t := s.setBox 4 { s.box 4 with busy := true, done := false, taken := some (s.queued r) }
    ((s.box 4).busy = false → r.cmd ∈ bciCodes → Gives (.bmcBciRequest (bciMsg 1 b)) s t)
    ∧ ((s.box 4).busy = true → Gives (.bmcBciRequest (bciMsg 1 b)) s (s.emit (.mctp (bciMsg 2 (rspBytes r rBusy 0 0 [])))))
  )

/-- The order of checks (R353, R358, R363, R365, R555): length, availability, issuer, LONG_OUT, payload fields, each refused before a later
one is looked at; a refusal changes nothing but its mailbox's answer (R355). The work runs only when all have passed. Availability (R365,
R373, R421): while the die is off, in reset or booting only the "A3" commands of mailbox 4 are served; in RECOVERY only the firmware
group; in STOPPED the groups 0x00, 0x01, 0x0C and 0x0F and PWR_QUERY, any other answered HW_FAULT with the stopping source. Order between
mailboxes (R361): a request waits while an earlier one of any mailbox waits, and a new one goes behind all that wait. Payload fields
(R353, R555): the first failing byte is an assigned field out of order or an unassigned byte that is not zero, whichever comes first; a
payload of zeros under fields that are all in order passes. -/
def Obligations.BciChecksInOrder : Prop :=
  (
    ∀ (m : Fin 5) (c : BciCmd) (len : List Byte → Nat) (fs : List Byte → List Fld) (work : List Byte → Res) (r : BciReq) (code detail off : Nat)
      (s : State), s.request? m c.code = some (r, false) →
    let no (code detail : Nat) : State := s.reply m r code (detailOf code detail) 0 []
    (r.len ≠ len r.payload → s.bci m c len fs work = no rBadLength 0)
    ∧ (r.len = len r.payload → s.unavailable m c = some (code, detail) → s.bci m c len fs work = no code detail)
    ∧ (r.len = len r.payload → s.unavailable m c = none → s.mayIssue m c.who = false → s.bci m c len fs work = no rDenied 0)
    ∧ (r.len = len r.payload → s.unavailable m c = none → s.mayIssue m c.who = true → c.long = true → 8 ≤ (s.box m).longOut →
        s.bci m c len fs work = no rBusy 0)
    ∧ (r.len = len r.payload → s.unavailable m c = none → s.mayIssue m c.who = true → (c.long = true → (s.box m).longOut < 8) →
        badParam (fs r.payload) r.payload = some off → s.bci m c len fs work = no rBadParam off)
    ∧ (Served s m c len fs r →
        (∀ u p, work r.payload = .ok u p → s.bci m c len fs work = Answered u m r p)
        ∧ (∀ u w p, work r.payload = .accepted u w p → s.bci m c len fs work = Accepted u m r w p)
        ∧ (work r.payload = .err code detail → s.bci m c len fs work = no code detail))
  ) ∧ (
    ∀ (m : Nat) (c : BciCmd) (s : State),
    ((s.dieRuns = false ∨ s.boot.alive = .booting ∨ s.standbyTook m = true) → s.unavailable m c = if m = 4 ∧ c.a3 = true then none else some (rNotAvailable, 0))
    ∧ (s.dieRuns = true → s.boot.alive = .recovery → s.standbyTook m = false → s.unavailable m c = if c.code / 256 = 0x0F then none else some (rRecoveryOnly, 0))
    ∧ (s.dieRuns = true → s.boot.alive = .stopped → s.standbyTook m = false → s.unavailable m c =
        if c.code / 256 ≤ 1 ∨ c.code / 256 = 0x0C ∨ c.code / 256 = 0x0F ∨ c.code = 0x0E00 then none else some (rHwFault, s.faults.stopSource))
    ∧ (s.dieRuns = true → s.boot.alive = .running → s.standbyTook m = false → s.unavailable m c =
        if c.code = 0x0900 ∧ s.sec.rngOk = false then some (rHwFault, 3) else none)
  ) ∧ (
    ∀ (m : Fin 5) (c : BciCmd) (len : List Byte → Nat) (fs : List Byte → List Fld) (work : List Byte → Res) (r w : BciReq) (s : State),
    (w ∈ s.waitingReqs → (s.box m).taken = some r → (s.box m).gone = [] → w.order < r.order → w.standby = r.standby →
      s.bci m c len fs work = s)
    ∧ (w ∈ s.waitingReqs → w.order < (s.queued r).order) ∧ (s.queued r).standby = s.standbyServes
    ∧ (s.waitingReqs = [r] → (s.box m).taken = some r → (s.box m).gone = [] → s.request? m r.cmd = some (r, false))
  ) ∧ (
    ∀ (fs : List Fld) (p : List Byte),
    (badParam fs p = none ↔ (∀ f ∈ fs, f.ok = true) ∧ ∀ i, i < p.length → p.getD i 0 ≠ 0 → ∃ f ∈ fs, f.off ≤ i ∧ i < f.off + f.size)
    ∧ ∀ n, badParam fs p = some n →
      ((∃ f ∈ fs, f.ok = false ∧ f.off = n) ∨ (n < p.length ∧ p.getD n 0 ≠ 0 ∧ ∀ f ∈ fs, ¬ (f.off ≤ n ∧ n < f.off + f.size)))
      ∧ (∀ f ∈ fs, f.ok = false → n ≤ f.off)
      ∧ ∀ i, i < n → i < p.length → p.getD i 0 ≠ 0 → ∃ f ∈ fs, f.off ≤ i ∧ i < f.off + f.size
  )

/-- R358: a further long command of a mailbox with LONG_MAX, 8, outstanding is answered BUSY; with fewer, that check passes. -/
def Obligations.LongCommandsAtMostEight : Prop :=
  ∀ (m : Fin 5) (c : BciCmd) (len : List Byte → Nat) (fs : List Byte → List Fld) (work : List Byte → Res) (r : BciReq) (s : State),
  c.long = true → s.request? m c.code = some (r, false) → r.len = len r.payload → s.unavailable m c = none → s.mayIssue m c.who = true →
  (8 ≤ (s.box m).longOut → s.bci m c len fs work = s.reply m r rBusy 0 0 [])
  ∧ ((s.box m).longOut < 8 → badParam (fs r.payload) r.payload = none → Served s m c len fs r)

/-- The mailbox and identity groups (R366, R556): NOP, LONG_STATUS, EVT_READ, GET_VERSION, GET_IDENTITY. The payload of GET_VERSION is open
(log 47). The module configuration group (R16 to R18, R327, R334, R556): the record as accepted, a new record into the copy that is
invalid or older with the next SEQUENCE, the management PF, tag pools, and the module's state. A record that is written is never in the
copy in force: R18's copy is the invalid one, or of two valid ones the one with the lower SEQUENCE, and its SEQUENCE is one more than the
other copy's. -/
def Obligations.BciMailboxAndModule : Prop :=
  (
    ∀ (m : Fin 5) (r : BciReq) (s : State),
    let p := r.payload
    (Served s m cNop (len 0) noFields r → Gives (.nop m) s (Answered s m r []))
    ∧ (Served s m cLongStatus (len 4) fieldsLongStatus r → ∃ n c, Gives (.longStatus m) s
          (Answered s m r (leBytes 4 (field p 0 4) ++ leBytes 1 n ++ [0] ++ leBytes 2 c))
      ∧ (n = 1 → ∃ l ∈ (s.box m).long, l.token = BitVec.ofNat 32 (field p 0 4) ∧ l.discard = false ∧ c = l.cmd)
      ∧ (n = 0 → ∀ l ∈ (s.box m).long, l.discard = false → l.token ≠ BitVec.ofNat 32 (field p 0 4)))
    ∧ (Served s m cEvtRead (len 0) noFields r → ∃ n recs, Gives (.evtRead m) s
          (Answered (s.setBox 4 { s.box 4 with evtTail := (s.box 4).evtTail + BitVec.ofNat 8 n }) m r
            (leBytes 2 n ++ leBytes 2 (((s.box 4).evtHead - (s.box 4).evtTail).toNat - n) ++ zeros 12 ++ recs))
      ∧ n = min 15 ((s.box 4).evtHead - (s.box 4).evtTail).toNat ∧ recs.length = 64 * n)
    ∧ (Served s m cGetVersion (len 0) noFields r → Gives (.getVersion m) s (Answered s m r ((Config.versionRsp s.fw.running).take 1008)))
    ∧ (Served s m cGetIdentity (len 0) noFields r → ∃ eps, Gives (.getIdentity m) s (Answered s m r
          (leBytes 8 Config.serial.toNat ++ [0x10, 0x64, 0x10] ++ leBytes 1 (b2n s.sec.orderO) ++ leBytes 4 s.moduleWord ++ leBytes 1 eps))
      ∧ ∀ e, e < 4 → bit eps e = s.formed e)
  ) ∧ (
    ∀ (m : Fin 5) (r : BciReq) (token : U32) (l : LongCmd) (q : List Byte) (s : State),
    let p := r.payload
    (Served s m cMcrRead (len 0) noFields r → Gives (.mcrRead m) s (Answered s m r (mcrRecord s.boot.mcrFrom McrFields.default)))
    ∧ (Served s m cMcrWrite (len 432) fMcrWrite r → s.flashHeld = false → Gives (.mcrWrite m) s (Accepted s m r (.mcrWrite p) []))
    ∧ (s.long? m.val token = some l → l.work = .mcrWrite q → ∃ u c, Gives (.mcrWriteDone m token) s (u.finish m.val l rOk (leBytes 4 s.boot.nextCopy.2))
      ∧ u = { s with boot := { s.boot with mcrCopies := put s.boot.mcrCopies s.boot.nextCopy.1 (some c) } } ∧ c.fields = mcrFields q
      ∧ c.sequence = s.boot.nextCopy.2 % 2 ^ 32 ∧ c.signatureOk = true ∧ c.digestOk = true)
    ∧ (Served s m cSetMgmtPf (len 1) fieldsSetMgmtPf r → s.formed (field p 0 1) = true → (s.ep (field p 0 1)).dlUp = true → ∃ u,
        Gives (.setMgmtPf m) s (Answered u m r []) ∧ Only (.host :: reporting) s u
      ∧ { u.host with funcs := s.host.funcs } = { s.host with mgmt := some (field p 0 1), mgmtNamed := some (field p 0 1) })
    ∧ (Served s m cSetTagPool (len 2) fieldsSetTagPool r → s.formed (field p 0 1) = true → Gives (.setTagPool m) s
        (Answered ((s.setEp (field p 0 1) { s.ep (field p 0 1) with poolWanted := field p 1 1 }).tagsBack (field p 0 1)) m r []))
    ∧ (Served s m cGetModuleState (len 0) noFields r → s.dieRuns = true → ∃ t, Gives (.getModuleState m) s (Answered s m r
        (leBytes 1 s.boot.alive.code ++ leBytes 1 s.pwr.st.code ++ leBytes 1 t ++ leBytes 1 (s.faults.sevValid + 16 * b2n s.faults.stopped)
          ++ leBytes 2 s.faults.validSources ++ leBytes 1 (b2n (s.boot.alive == .recovery) + 2 * b2n s.mem.exposed)))
      ∧ bit t 2 = s.time.ntValid ∧ bit t 3 = s.time.root)
    ∧ (Served s m cGetModuleState (len 0) noFields r → s.dieRuns = false → Gives (.getModuleState m) s
        (Answered s m r ([0xFF] ++ leBytes 1 s.pwr.st.code ++ zeros 5)))
  ) ∧ (
    ∀ (b : Boot) (x y : Nat),
    (b.copySeq 0 = some x → b.copySeq 1 = some y → b.nextCopy = if x < y then (0, y + 1) else (1, x + 1))
    ∧ (b.copySeq 0 = none → b.copySeq 1 = some y → b.nextCopy = (0, y + 1))
    ∧ (b.copySeq 0 = some x → b.copySeq 1 = none → b.nextCopy = (1, x + 1))
    ∧ (b.copySeq 0 = none → b.copySeq 1 = none → b.nextCopy.1 < 2)
  )

/-- The ports group (R424, R457, R468, R515): PORT_QUERY, PORT_SET of every port of its mask, PORT_RETRAIN and its end. R515, second sentence,
and R452: PORT_SET is answered STATE for a port that ISOLATE has cleared while its source's VALID is set, and for reservations of a port
that is not in DISABLED; either way no port changes. -/
def Obligations.BciPorts : Prop :=
  (
    ∀ (m : Fin 5) (r : BciReq) (token : U32) (l : LongCmd) (q : Nat) (s : State),
    let p := r.payload
    let x := s.link (field p 0 1)
    (Served s m cPortQuery (len 1) fieldsPortQuery r → s.portHeld (field p 0 1) = false → Gives (.portQuery m) s (Answered s m r
        (leBytes 4 x.statusWord ++ leBytes 4 x.cause.code ++ leBytes 4 (if x.cap.rttKnown then x.cap.rttNs else 0)
          ++ leBytes 4 (s.conn (field p 0 1 / 4)).cableWord ++ fit 64 x.cap.partner)))
    ∧ (Served s m cPortSet (len 48) s.fPortSet r → (∀ i ∈ maskPorts p, s.portHeld i = false) →
        (field p 8 1 = 1 → ∀ i ∈ maskPorts p, ((s.link i).isolated && (s.capture (0x0200 + i)).valid) = false) →
        (∀ i ∈ maskPorts p, (s.link i).cfg.changesRes p = true → (s.link i).st = .disabled) →
        Gives (.portSet m) s (Answered ((maskPorts p).foldl (fun s i => s.portSet p i) s) m r []))
    ∧ (Served s m cPortRetrain (len 1) fieldsPortRetrain r → s.portHeld (field p 0 1) = false → x.st.up = true →
        Gives (.portRetrain m) s (Accepted (s.declareDown (field p 0 1) .retrain) m r (.portRetrain (field p 0 1)) []))
    ∧ (s.long? m.val token = some l → l.work = .portRetrain q → (s.link q).st.atRest = true → Gives (.portRetrainDone m token) s
        (s.finish m.val l rOk (leBytes 1 (s.link q).st.code ++ leBytes 1 (s.link q).width ++ leBytes 1 (s.link q).rate
          ++ leBytes 1 (if (s.link q).st = .active then 0 else (s.link q).cause.code))))
  ) ∧ (
    ∀ (m : Fin 5) (r : BciReq) (i : Nat) (s : State),
    let p := r.payload
    Served s m cPortSet (len 48) s.fPortSet r → (∀ j ∈ maskPorts p, s.portHeld j = false) → i ∈ maskPorts p →
    (field p 8 1 = 1 → (s.link i).isolated = true → (s.capture (0x0200 + i)).valid = true →
        Gives (.portSet m) s (s.reply m r rState 8 0 []))
    ∧ (field p 8 1 ≠ 1 → (s.link i).cfg.changesRes p = true → (s.link i).st ≠ .disabled → Gives (.portSet m) s (s.reply m r rState 24 0 []))
  )

/-- The routes group (R62, R70 to R72, R84 to R87, R92, R556): identity once after each device reset, port roles, the tables, the policy and
thresholds, and their query. -/
def Obligations.BciRoutes : Prop :=
  ∀ (m : Fin 5) (r : BciReq) (s : State),
  let p := r.payload
  (Served s m cSetIdentity (len 6) fieldsSetIdentity r → s.route.idSet = false → ∃ v : State,
      Gives (.setIdentity m) s (Answered v.announce.checkRoles m r []) ∧ v = { s with route := { s.route with
        group := field p 0 2, systemGroups := field p 2 2, valid := true, idSet := true,
        position := if bit (field p 5 1) 0 then field p 4 1 else s.route.position } })
  ∧ (Served s m cSetPortRole (len 16) (fieldsSetPortRole s) r → s.portHeld (field p 0 1) = false →
      ((s.rport (field p 0 1)).role.en = true → (s.rport (field p 0 1)).role.same (Role.ofWord (field p 8 8)) = true) →
      let v := if (s.rport (field p 0 1)).role.role = (Role.ofWord (field p 8 8)).role then s else s.declareDown (field p 0 1) .retrain
      Gives (.setPortRole m) s (Answered ((v.setRport (field p 0 1) { v.rport (field p 0 1) with role := Role.ofWord (field p 8 8) }).checkRole
        (field p 0 1)) m r []))
  ∧ (Served s m cSetExit (fun p => 8 + 8 * field p 2 2) fieldsSetExit r → ∃ u, Gives (.setExit m) s (Answered u m r [])
    ∧ u = { s with route := { s.route with exits := u.route.exits } }
    ∧ ∀ g, Tbl.get? u.route.exits g = if field p 0 2 ≤ g ∧ g < field p 0 2 + field p 2 2
        then some (field p (8 + 8 * (g - field p 0 2)) 8) else Tbl.get? s.route.exits g)
  ∧ (Served s m cSetGroupRoute (len 136) fieldsSetGroupRoute r → Gives (.setGroupRoute m) s (Answered { s with route := { s.route with
        groups := Tbl.set s.route.groups (field p 0 2) (GroupRoute.ofEntry (p.drop 8)) } } m r []))
  ∧ (Served s m cSetPset (len 2) fieldsSetPset r → Gives (.setPset m) s
      (Answered { s with route := { s.route with pset := put s.route.pset (field p 0 1) (field p 1 1) } } m r []))
  ∧ (Served s m cSetRouteCtrl (len 2) fieldsSetRouteCtrl r → Gives (.setRouteCtrl m) s
      (Answered { s with route := { s.route with policy := field p 0 1, decayUs := field p 1 1 } } m r []))
  ∧ (Served s m cSetCongThresh (len 10) fieldsSetCongThresh r → (∀ i ∈ maskPorts p, s.portHeld i = false) → ∃ u,
      Gives (.setCongThresh m) s (Answered u m r []) ∧ u = { s with route := { s.route with ports := u.route.ports } }
    ∧ ∀ i, u.rport i = if i ∈ maskPorts p then { s.rport i with thresh := field p 8 2 } else s.rport i)
  ∧ (Served s m cRouteQuery (len 4) fieldsRouteQuery r → (field p 0 1 = 0 → s.portHeld (field p 2 2) = false) → Gives (.routeQuery m) s
      (Answered s m r (leBytes 1 (field p 0 1) ++ [0] ++ leBytes 2 (field p 2 2) ++ zeros 4 ++ s.routeEntry (field p 0 1) (field p 2 2))))

/-- Encoding of table entries (R70, R85, R86): a port role and a group route read back as they were written. Header words (R74, R173): the
places of the fields in words 0 to 3. Link-control flits as bytes (R434, R435): 64 bytes each, the kind in byte 0, and the fields at their
places. -/
def Obligations.EncodingsReadBack : Prop :=
  (
    (∀ r : Role, r.role < 4 → r.index < 8 → r.group < 4096 → Role.ofWord r.word = r)
    ∧ (∀ c : Cand, c.cls < 4 → c.via < 4096 → c.exitPos < 64 → c.weight < 256 → Cand.ofWord c.word = c)
    ∧ ∀ g : GroupRoute, g.cands.length = 8 → (∀ c ∈ g.cands, c.cls < 4 ∧ c.via < 4096 ∧ c.exitPos < 64 ∧ c.weight < 256) → g.pair < 256 →
        g.entry.length = 128 ∧ GroupRoute.ofEntry g.entry = g
  ) ∧ (
    ∀ (h : RouteHdr) (t : TransHdr),
    h.word0.toNat = h.dst.toNat * 2 ^ 44 + h.src.toNat * 2 ^ 24 + h.via.toNat * 2 ^ 12 + h.cls.toNat * 2 ^ 10 + h.level.toNat * 2 ^ 8
      + h.cand.toNat * 2 ^ 5 + h.hops.toNat * 2 + h.rsvd0.toNat
    ∧ h.word1.toNat = h.stamp.toNat * 2 ^ 32 + h.tc.toNat * 2 ^ 29 + h.vn.toNat * 2 ^ 27 + h.ordered.toNat * 2 ^ 26 + h.cong.toNat * 2 ^ 25
      + h.copy.toNat * 2 ^ 24 + h.rsvd1.toNat * 2 ^ 22 + h.len.toNat * 2 ^ 8 + h.flowHash.toNat
    ∧ t.word2.toNat = t.opcode.toNat * 2 ^ 59 + t.first.toNat * 2 ^ 58 + t.last.toNat * 2 ^ 57 + t.ackReq.toNat * 2 ^ 56 + t.prot.toNat * 2 ^ 55
      + t.notify.toNat * 2 ^ 54 + t.gen.toNat * 2 ^ 46 + t.dstQpn.toNat * 2 ^ 24 + t.psn.toNat
    ∧ t.word3.toNat = t.srcQpn.toNat * 2 ^ 42 + t.ssn.toNat * 2 ^ 26 + t.retry.toNat * 2 ^ 23 + t.rsvd.toNat * 2 ^ 20 + t.ledger.toNat
  ) ∧ (
    ∀ (seq : U16) (c : Nat) (cw : U32) (d : Bool) (w r : Nat) (freed : List U16),
    (∀ f : Lctl, f.bytes.length = 64)
    ∧ field (Lctl.ack seq freed).bytes 0 1 = 3 ∧ beNat (((Lctl.ack seq freed).bytes.drop 2).take 2) = seq.toNat
    ∧ field (Lctl.replayReq seq c).bytes 0 1 = 4 ∧ beNat (((Lctl.replayReq seq c).bytes.drop 2).take 2) = seq.toNat
    ∧ field (Lctl.replayStart seq c).bytes 0 1 = 5 ∧ field (Lctl.replayStart seq c).bytes 4 1 = c % 256
    ∧ field (Lctl.align cw).bytes 0 1 = 7 ∧ beNat (((Lctl.align cw).bytes.drop 60).take 4) = cw.toNat
    ∧ field (Lctl.pstateReq d w r).bytes 0 1 = 8 ∧ field (Lctl.pstateReq d w r).bytes 4 1 = w % 256
    ∧ field (Lctl.down c).bytes 0 1 = 9 ∧ field (Lctl.down c).bytes 2 1 = c % 256
    ∧ ∀ v, v < 12 → freed.length = 12 → beNat (((Lctl.ack seq freed).bytes.drop (4 + 2 * v)).take 2) = (freed.getD v 0).toNat
  )

/-- Contexts (R164, R366, R368, R374): creation with a number named or chosen, and the end of destruction once the context's QPs have left
quarantine; CTX_QUERY; CTX_SET sets what SELECT selects. -/
def Obligations.BciContexts : Prop :=
  ∀ (m : Fin 5) (r : BciReq) (c : Nat) (x : Ctx) (token : U32) (l : LongCmd) (s v : State),
  let p := r.payload
  let e := namedEp m (field p 2 1)
  let tile := if field p 4 1 = 0xFF then c % 64 else field p 4 1
  (Served s m cCtxCreate (len 22) (fieldsCtxCreate m s) r → s.newCtx (field p 0 2) = (some c, v) → s.ctx? c = none → s.ctxHeld c = false →
      s.ctxHeld (field p 0 2) = false → s.ctx? (field p 0 2) = none →
      s.formed e = true → s.mayAct m e = true → (s.ep e).dlUp = true → field p 3 1 ≤ (s.ep e).vfs → ∃ y, Gives (.ctxCreate m) s
        (Answered (v.setCtx c y) m r (leBytes 2 c ++ leBytes 1 tile))
    ∧ y = { Ctx.fresh e (field p 3 1) tile (bit (field p 5 1) 0) (bit (field p 5 1) 1) with
              eagerLimit := field p 6 2, spillVa := field p 8 8, spillSize := field p 16 4, asid := field p 20 2 })
  ∧ (field p 0 2 ≠ 0xFFFF → s.newCtx (field p 0 2) = (some (field p 0 2), s))
  ∧ (s.newCtx 0xFFFF = (some c, v) → c < 4096 ∧ s.ctx? c = none ∧ v = { s with free := s.free + 1 })
  ∧ (s.newCtx 0xFFFF = (none, v) → ∀ k, k < 4096 → (s.ctx? k).isSome = true)
  ∧ (Served s m cCtxDestroy (len 2) fieldsCtxDestroy r → s.Owns m (field p 0 2) → s.domainHeld (field p 0 2) = false →
      Gives (.ctxDestroy m) s (Accepted (s.beginDestroy (field p 0 2)) m r (.ctxDestroy (field p 0 2)) []))
  ∧ (s.long? m.val token = some l → l.work = .ctxDestroy c → s.ctxQuiet c = true →
      Gives (.ctxDestroyDone m token) s ((s.endCtx c).finish m.val l rOk []) ∧ (s.endCtx c).ctx? c = none ∧ (s.endCtx c).domain? c = none)
  ∧ (s.long? m.val token = some l → l.work = .ctxDestroy c → (∃ q ∈ s.qps, q.2.owner = c) → exec (.ctxDestroyDone m token) s = .next s)
  ∧ (Served s m cCtxQuery (len 2) fieldsCtxQuery r → s.Owns m (field p 0 2) → s.ctx? (field p 0 2) = some x →
      Gives (.ctxQuery m) s (Answered s m r (leBytes 2 (field p 0 2) ++ leBytes 1 x.ep ++ leBytes 1 x.fn ++ leBytes 1 x.tile
        ++ leBytes 1 (b2n x.kernel + 2 * b2n x.addrRank) ++ leBytes 2 x.eagerLimit ++ leBytes 8 x.spillVa ++ leBytes 4 x.spillSize
        ++ leBytes 2 x.asid ++ zeros 2 ++ leBytes 1 (if x.hostLost then 3 else if x.enable then 1 else if x.idle then 0 else 2)
        ++ leBytes 1 (b2n (s.domain? (field p 0 2)).isSome + 2 * b2n x.fenced) ++ zeros 2
        ++ leBytes 4 (s.qps.filter fun q => q.2.owner == field p 0 2).length
        ++ leBytes 4 (s.ledgers.filter fun g => g.2.owner == field p 0 2).length)))
  ∧ (Served s m cCtxSet (len 22) (fieldsCtxSet s) r → s.Owns m (field p 0 2) → s.ctx? (field p 0 2) = some x →
      (bit (field p 2 1) 1 = true → ∀ q ∈ s.qps, q.2.owner = field p 0 2 → q.2.spilled = false) → ∃ y,
      Gives (.ctxSet m) s (Answered (s.setCtx (field p 0 2) y) m r [])
    ∧ y = { x with eagerLimit := if bit (field p 2 1) 0 then field p 6 2 else x.eagerLimit,
                   spillVa := if bit (field p 2 1) 1 then field p 8 8 else x.spillVa,
                   spillSize := if bit (field p 2 1) 1 then field p 16 4 else x.spillSize,
                   asid := if bit (field p 2 1) 1 then field p 20 2 else x.asid })

/-- Ledgers and match domains (R217, R243, R279, R556): N consecutive free ledgers, zeroed, homed where asked; freed and attributed together;
a domain gets a zeroed pool of the size asked or the default, and a key that is open. -/
def Obligations.BciLedgersAndDomains : Prop :=
  ∀ (m : Fin 5) (r : BciReq) (first chunk c : Nat) (token : U32) (l : LongCmd) (s v : State),
  let p := r.payload
  let bytes := 2 ^ (if field p 16 1 = 0 then 26 else field p 16 1)
  let all := bytes + 16 * 2 ^ (if field p 4 1 = 0 then 10 else field p 4 1)
  let mine := (s.ctx? (field p 0 2)).isSome = true ∧ ∀ i, field p 4 4 ≤ i → i < field p 4 4 + field p 2 2 →
    ∃ g, Tbl.get? s.ledgers i = some g ∧ g.owner = field p 0 2
  (Served s m cLedgerAlloc (len 5) fieldsLedgerAlloc r → s.Owns m (field p 0 2) → s.newLedgers (field p 4 1) (field p 2 2) = (some first, v) →
      ∃ t, Gives (.ledgerAlloc m) s (Answered { v with ledgers := t } m r (leBytes 4 first))
    ∧ (∀ i, Tbl.get? t i = if first ≤ i ∧ i < first + field p 2 2
          then some { count := 0, poison := false, owner := field p 0 2, remote := false, share := false } else Tbl.get? s.ledgers i)
    ∧ first + field p 2 2 ≤ 1048576 ∧ (field p 4 1 ≠ 0xFF → first % 64 = field p 4 1)
    ∧ ∀ g ∈ s.ledgers, g.1 < first ∨ first + field p 2 2 ≤ g.1)
  ∧ (Served s m cLedgerFree (len 8) fLedgers r → s.Owns m (field p 0 2) → mine →
      Gives (.ledgerFree m) s (Answered { s with ledgers := s.ledgers.filter fun e => !(field p 4 4 ≤ e.1 && e.1 < field p 4 4 + field p 2 2) }
        m r []))
  ∧ (Served s m cLedgerAttr (len 10) fieldsLedgerAttr r → s.Owns m (field p 0 2) → mine →
      ∃ t, Gives (.ledgerAttr m) s (Answered { s with ledgers := t } m r [])
    ∧ ∀ i, Tbl.get? t i = if field p 4 4 ≤ i ∧ i < field p 4 4 + field p 2 2
        then (Tbl.get? s.ledgers i).map fun g => { g with remote := field p 8 1 == 1, share := field p 9 1 == 1 } else Tbl.get? s.ledgers i)
  ∧ (Served s m cDomainCreate (len 20) fieldsDomainCreate r → s.Owns m (field p 0 2) → (Tbl.get? s.route.jobs (field p 2 2)).isSome = true →
      s.domain? (field p 0 2) = none → ((s.ctx? (field p 0 2)).map (·.hostLost)) = some false →
      s.findRun ((all + 0x1FFFFF) / 0x200000) poolChunks = (some chunk, v) → ∃ d, Gives (.domainCreate m) s (Answered
        (({ v with free := v.free + 1 }.hbmZero (poolBase + 0x200000 * chunk) (0x200000 * ((all + 0x1FFFFF) / 0x200000))).setDomain (field p 0 2) d) m r [])
    ∧ d.job = field p 2 2 ∧ d.base = poolBase + 0x200000 * chunk ∧ d.poolGranules = bytes / 256
    ∧ d.nbinsLog2 = (if field p 4 1 = 0 then 10 else field p 4 1) ∧ d.maxPosted = (if field p 8 4 = 0 then 65536 else field p 8 4)
    ∧ d.maxUnexp = (if field p 12 4 = 0 then 65536 else field p 12 4) ∧ d.backoff = (if field p 18 2 = 0 then 20 else field p 18 2)
    ∧ d.posted = [] ∧ d.msgs = [] ∧ d.used = [] ∧ d.nextPseq = 0 ∧ d.nextAseq = 0)
  ∧ (Served s m cDomainDestroy (len 2) fieldsDomainDestroy r → s.Owns m (field p 0 2) → (s.domain? (field p 0 2)).isSome = true →
      s.domainHeld (field p 0 2) = false →
      Gives (.domainDestroy m) s (Accepted s m r (.domainDestroy (field p 0 2)) []))
  ∧ (s.long? m.val token = some l → l.work = .domainDestroy c →
      Gives (.domainDestroyDone m token) s ((s.endDomain c).finish m.val l rOk []) ∧ (s.endDomain c).domain? c = none)
  ∧ (s.findRun first c = (some chunk, v) → v = { s with free := s.free + 1 } ∧ s.runFree chunk first c = true)

/-- Jobs and ranks (R64 to R68, R366, R368, R556): JOB_CREATE of a number not in use, JOB_DESTROY of a job nothing uses; RANK_WRITE writes the
entries of its range and no other; JOB_QUERY answers the descriptor and the entries. Collective nodes (R250 to R253, R260): a node of a
stripe-0 member gets a number and a window region and waits for its links, which COLL_NODE_LINK supplies; COLL_NODE_DESTROY takes the
member's nodes. -/
def Obligations.BciJobsAndNodes : Prop :=
  (
    ∀ (m : Fin 5) (r : BciReq) (d : JobDesc) (s : State),
    let p := r.payload
    let j := field p 0 2
    let w := field p 8 8
    let new : JobDesc := { base := bits w 21 0, count := bits w 44 22, policy := bits w 46 45, prot := bit w 47 }
    (Served s m cJobCreate (len 16) (fieldsJobCreate s) r → s.job? j = none → (bit w 47 = true → s.mem.exposed = false) →
        Gives (.jobCreate m) s (Answered { s with route := { s.route with jobs := Tbl.set s.route.jobs j new } } m r []))
    ∧ (Served s m cJobDestroy (len 2) fieldsJobDestroy r → s.job? j = some d → (∀ q ∈ s.qps, q.2.job ≠ j) →
        (∀ g ∈ s.mem.regions, g.2.valid = true ∨ g.2.registering = true → g.2.job ≠ j) → (∀ x ∈ s.nodes, x.2.job ≠ j) →
        (∀ x ∈ s.domains, x.2.job ≠ j) → (∀ h ∈ s.sec.handles, h.2.st ≠ .free → h.2.job ≠ j) →
        Gives (.jobDestroy m) s (Answered { s with route := { s.route with jobs := Tbl.erase s.route.jobs j } } m r []))
    ∧ (Served s m cRankWrite (fun p => 8 + 8 * field p 2 2) (fieldsRankWrite s) r → s.job? j = some d → ∃ t,
        Gives (.rankWrite m) s (Answered { s with route := { s.route with ranks := t } } m r [])
      ∧ ∀ i, Tbl.get? t i = if d.base + field p 4 4 ≤ i ∧ i < d.base + field p 4 4 + field p 2 2
          then (let w := field p (8 + 8 * (i - (d.base + field p 4 4))) 8
                some { feid := BitVec.ofNat 20 w, pset := bits w 23 20, valid := bit w 63 })
          else Tbl.get? s.route.ranks i)
    ∧ (Served s m cJobQuery (len 8) (fieldsJobQuery s) r → s.job? j = some d → ∃ es, Gives (.jobQuery m) s (Answered s m r
          (leBytes 8 (d.base + d.count * 2 ^ 22 + d.policy * 2 ^ 45 + b2n d.prot * 2 ^ 47 + 2 ^ 63) ++ es)) ∧ es.length = 8 * field p 2 2
      ∧ ∀ i, i < field p 2 2 → field es (8 * i) 8 = match Tbl.get? s.route.ranks (d.base + field p 4 4 + i) with
          | some x => (x.feid.toNat + at_ x.pset 20 + at_ (b2n x.valid) 63) % 2 ^ 64
          | none => 0)
  ) ∧ (
    ∀ (m : Fin 5) (r : BciReq) (n i : Nat) (d : JobDesc) (x : Node) (s v w : State),
    let p := r.payload
    let y := nodeOf p
    (Served s m cCollNodeCreate (len 172) fieldsCollNodeCreate r → y.stripe = 0 → s.job? y.job = some d → d.prot = y.prot →
        s.ownerExists y.owner = true → s.OwnsFor m y.owner → (∀ q ∈ y.edges, q = 0) → s.ctxTile y.owner = y.tile →
        s.choose 14 (fun n => (s.node? n).isNone) ((List.range 16384).find? fun n => (s.node? n).isNone) = (some n, v) →
        v.newIndex = (some i, w) → s.cuReserved y.tile + y.sram ≤ 4194304 → ∃ g, Gives (.collNodeCreate m) s (Answered
          ((w.setRegion i g).setNode n { y with windowRkey := 256 * i + s.nextTag i, lead := n }) m r
          (leBytes 2 n ++ zeros 2 ++ leBytes 4 (256 * i + s.nextTag i)))
      ∧ g = { tag := s.nextTag i, kind := .cuWindow, perm := 8, valid := true, prot := d.prot, user := false, job := y.job, owner := y.owner,
              base := n, size := 2 ^ 48, asid := 0, agent := 0, hold := none, registering := false })
    ∧ (Served s m cCollNodeLink (len 160) (fieldsCollNodeLink s) r → s.node? (field p 0 2) = some x → s.OwnsFor m x.owner → x.st = .linking →
        (let z : Node := { x with parentQpn := field p 24 4, parentRkey := field p 28 4, childQpn := (List.range 16).map fun k => field p (32 + 4 * k) 4,
                                  childRkey := (List.range 16).map fun k => field p (96 + 4 * k) 4, st := .ready }
        (∀ q ∈ z.edges, s.edgeOk z q = true) → Gives (.collNodeLink m) s (Answered (s.setNode (field p 0 2) z) m r [])))
    ∧ (Served s m cCollNodeDestroy (len 2) fieldsCollNodeDestroy r → s.node? (field p 0 2) = some x → s.OwnsFor m x.owner →
        Gives (.collNodeDestroy m) s (Answered (s.destroyMember x.lead false) m r []))
  )

/-- R67: a JOB_CREATE that would give the job a range reaching past the last index, or one that overlaps the range of another job, is refused
with BAD_PARAM and leaves every job as it was. -/
def Obligations.JobsKeepApart : Prop :=
  ∀ (m : Fin 5) (r : BciReq) (e : Nat × JobDesc) (s : State),
  let base := bits (field r.payload 8 8) 21 0
  let count := bits (field r.payload 8 8) 44 22
  let refused : Prop := ∃ off, Gives (.jobCreate m) s (s.reply m r rBadParam off 0 []) ∧ (s.reply m r rBadParam off 0 []).route = s.route
  s.request? m 0x0600 = some (r, false) → r.len = 16 → s.unavailable m cJobCreate = none → s.mayIssue m .mb = true →
  (4194304 < base + count → refused)
  ∧ (e ∈ s.route.jobs → e.1 ≠ field r.payload 0 2 → base < e.2.base + e.2.count → e.2.base < base + count → refused)

/-- QPs (R163, R166 to R168, R171, R214, R366): created in RESET under the QPN's next GEN, connected to RTS with the sequence numbers of
START, reset and destroyed through quarantine, and queried. -/
def Obligations.BciQps : Prop :=
  ∀ (m : Fin 5) (r : BciReq) (qpn n0 a : Nat) (q : Qp) (d : JobDesc) (x : Ctx) (s v w : State),
  let p := r.payload
  let k := field p 0 4
  (Served s m cQpCreate (len 20) fieldsQpCreate r → s.ctx? (field p 0 2) = some x → x.hostLost = false → s.job? (field p 2 2) = some d →
      d.prot = false → s.OwnsFor m (field p 0 2) → field p 4 1 % 8 ≠ 0 → bit (field p 5 1) 3 = false →
      s.newQpn x.tile = (some qpn, v) → v.maySpill.findWindow (3 * 2 ^ field p 7 1) = (some a, w) →
      let slot (b : Nat) (en : Bool) : Chan := { Chan.reset with en := en, tc := b % 8, ordered := bit b 4 }
      let y : Qp :=
        { st := .reset, errCode := 0, addrRank := x.addrRank, prot := false, pin := false, spilled := false, fetchingCtx := false,
          tgtCqe := bit (field p 9 1) 0, hostLost := false, gen := Tbl.getD s.gens qpn 0, owner := field p 0 2, job := field p 2 2, peer := 0,
          pset := 0, peerGen := 0, peerQpn := 0, peerRank := 0, mtuCode := field p 6 1, winLog2 := field p 7 1, peerWinLog2 := 8,
          retryMax := field p 8 1 % 8, lifeMax := field p 8 1 / 16, rtoBase := field p 10 2, ackDelay := field p 12 2, window := a, handle := 0, tkey := none, keyErased := false, fetchFrom := 0,
          quarFrom := 0, freeing := false, chans := [slot (field p 4 1) true, slot (field p 5 1) false] }
      Gives (.qpCreate m) s (Answered (w.setQp qpn y) m r
        (leBytes 4 qpn ++ leBytes 1 ((Tbl.getD s.gens qpn 0 + 1) % 256) ++ [0])))
  ∧ (s.newQpn n0 = (some qpn, v) → s.qp? qpn = none ∧ qpn % 64 = n0 % 64 ∧ v = { s with free := s.free + 1 })
  ∧ (Served s m cQpConnect (len 52) fieldsQpConnect r → s.qp? k = some q → s.OwnsFor m q.owner → q.st = .reset → q.hostLost = false →
      q.prot = false → ∃ y, Gives (.qpConnect m) s (Answered (s.setQp k y) m r (leBytes 1 ((q.gen + 1) % 256)))
    ∧ y = { q with st := .rts, errCode := 0, gen := (q.gen + 1) % 256, peerGen := bits (field p 4 4) 31 24, peerQpn := field p 8 4,
                   peerRank := field p 12 4, peerWinLog2 := field p 16 1, peer := if q.addrRank then 0 else BitVec.ofNat 20 (field p 4 4),
                   pset := if q.addrRank then 0 else bits (field p 4 4) 23 20, chans := y.chans }
    ∧ (y.chan 0).en = (q.chan 0).en ∧ (y.chan 0).tc = (q.chan 0).tc ∧ (y.chan 0).ordered = (q.chan 0).ordered
    ∧ ((q.chan 1).en = false → y.chan 1 = q.chan 1)
    ∧ (y.chan 0).sndNext = field p 20 3 ∧ (y.chan 0).rcvBase = field p 23 3 ∧ (y.chan 0).rspNext = field p 26 3
    ∧ (y.chan 0).sndSsn = field p 29 2 ∧ (y.chan 0).rcvSsn = field p 31 2)
  ∧ (Served s m cQpReset (len 4) fieldsQpReset r → s.qp? k = some q → s.OwnsFor m q.owner → q.st = .rts ∨ q.st = .err →
      Gives (.qpReset m) s (Answered (s.quarantine k false) m r []))
  ∧ (Served s m cQpDestroy (len 4) fieldsQpDestroy r → s.qp? k = some q → s.OwnsFor m q.owner →
      (q.st = .quarantine → Gives (.qpDestroy m) s (Answered (s.setQp k { q with freeing := true }) m r []))
      ∧ (q.st = .reset ∨ q.st = .err → Gives (.qpDestroy m) s (Answered (s.quarantine k true) m r []))
      ∧ (q.st = .rts → Gives (.qpDestroy m) s (s.reply m r rState 0 0 [])))
  ∧ (Served s m cQpQuery (len 4) fieldsQpQuery r → s.qp? k = some q → s.OwnsFor m q.owner → ∃ a b,
      Gives (.qpQuery m) s (Answered { s with free := s.free + 2 } m r (q.bytes k a b)))

/-- Regions (R295, R297 to R299, R366, R368): REG_REGISTER takes a free index under its next tag; when it is done the chunks of an HBM region
read zero and the region is VALID; deregistered it is not. ASIDs and the interleave key (R291, R298, R303, R366, R411, R556): a free ASID
of the host's agent with the root asked, a new root, an ASID no region uses freed; HBM_EXPOSE_KEY exposes the key and is measured, unless
a protected job exists. -/
def Obligations.BciRegionsAndAsids : Prop :=
  (
    ∀ (m : Fin 5) (r : BciReq) (i chunk : Nat) (g : Region) (d : JobDesc) (x : Ctx) (token : U32) (l : LongCmd)
      (s v w : State),
    let p := r.payload
    let k := field p 0 4
    let new (kind : RegKind) (base : Nat) : Region :=
      { tag := s.nextTag i, kind := kind, perm := field p 1 1, valid := false, prot := bit (field p 2 1) 1, user := bit (field p 2 1) 2,
        job := field p 4 2, owner := field p 6 2, base := base, size := field p 16 8, asid := field p 24 2, agent := field p 3 1, hold := none,
        registering := true }
    (Served s m cRegRegister (len 26) s.fRegister r → s.job? (field p 4 2) = some d → s.ctx? (field p 6 2) = some x → s.Owns m (field p 6 2) →
        x.hostLost = false → (bit (field p 2 1) 1 = true → d.prot = true) → s.newIndex = (some i, v) →
        (field p 0 1 = 1 → Gives (.regRegister m) s
          (Accepted (v.setRegion i (new .host (field p 8 8))) m r (.regRegister i) (leBytes 4 (256 * i + s.nextTag i))))
        ∧ (field p 0 1 = 0 → v.findRun (chunksOf (field p 16 8)) (s.runLimit (bit (field p 1 1) 5)) = (some chunk, w) → Gives (.regRegister m) s
          (Accepted (w.setRegion i (new .hbm (poolBase + chunkBytes * chunk))) m r (.regRegister i) (leBytes 4 (256 * i + s.nextTag i)))))
    ∧ (s.newIndex = (some i, v) → s.indexFree i = true ∧ v = { s with free := s.free + 1 } ∧ (∀ h, s.region? i = some h → s.nextTag i = (h.tag + 1) % 256)
        ∧ (s.region? i = none → s.nextTag i = 0))
    ∧ (s.long? m.val token = some l → l.work = .regRegister i → s.region? i = some g → g.registering = true → ∃ u : State,
        Gives (.regRegisterDone m token) s (u.finish m.val l rOk (leBytes 4 (256 * i + g.tag) ++ zeros 4
          ++ leBytes 8 (if bit g.perm 5 then g.base - poolBase else 2 ^ 64 - 1)))
      ∧ u = { s with mem := { s.mem with cells := u.mem.cells, poison := u.mem.poison,
                                         regions := Tbl.set s.mem.regions i { g with valid := true, registering := false } } }
      ∧ (g.kind ≠ .hbm → u.mem.cells = s.mem.cells ∧ u.mem.poison = s.mem.poison) ∧ (∀ b ∈ u.mem.poison, b ∈ s.mem.poison)
      ∧ (g.kind = .hbm → ∀ a, g.base ≤ a → a < g.base + g.size → Memory.byte u.mem.cells a = 0)
      ∧ (∀ a, g.kind ≠ .hbm ∨ a < g.base ∨ g.base + chunkBytes * chunksOf g.size ≤ a → Memory.byte u.mem.cells a = Memory.byte s.mem.cells a))
    ∧ (Served s m cRegDeregister (len 4) fieldsRegDeregister r → s.namedRegion k = some g → s.mayActOn m g.owner = true →
        s.regionHeld (k / 256) = false → ∃ u : State,
        let swept := (s.perf.running && s.perf.lkey.toNat == k) || s.perf.dump.any fun d => d.lkey.toNat == k
        Gives (.regDeregister m) s (Answered u m r [])
      ∧ u = { s.setRegion (k / 256) { g with valid := false, registering := false, hold := some s.clk.now } with perf := u.perf }
      ∧ u.perf = if swept then { s.perf with running := false, stoppedDest := true, dump := none } else s.perf)
    ∧ (Served s m cRegQuery (len 4) fieldsRegQuery r → s.namedRegion k = some g → s.mayActOn m g.owner = true →
        s.regionHeld (k / 256) = false → Gives (.regQuery m) s (Answered s m r
          (leBytes 1 g.tag ++ leBytes 1 g.kind.code ++ leBytes 1 g.perm ++ leBytes 1 (b2n g.valid + 2 * b2n g.prot + 4 * b2n g.user)
            ++ leBytes 2 g.job ++ leBytes 2 g.owner ++ leBytes 8 g.base ++ leBytes 8 g.size ++ leBytes 2 g.asid ++ leBytes 1 g.agent)))
  ) ∧ (
    ∀ (m : Fin 5) (r : BciReq) (a e : Nat) (x : AsidRec) (s v : State),
    let p := r.payload
    let k := 4096 * field p 0 1 + field p 2 2
    let n := namedEp m (field p 0 1)
    (Served s m cAsidAlloc (len 16) fieldsAsidAlloc r → s.formed n = true → s.mayAct m n = true → s.newAsid (n / 2) = (some a, v) →
        Gives (.asidAlloc m) s (Answered (v.modMem fun q => { q with asids := Tbl.set q.asids (4096 * (n / 2) + a) { ep := n, root := some (field p 8 8 / 4096) } })
          m r (leBytes 2 a ++ leBytes 1 (n / 2))))
    ∧ (s.newAsid e = (some a, v) → a < 4096 ∧ Tbl.get? s.mem.asids (4096 * e + a) = none ∧ v = { s with free := s.free + 1 })
    ∧ (Served s m cAsidSetRoot (len 16) fieldsAsidSetRoot r → Tbl.get? s.mem.asids k = some x → s.mayAct m x.ep = true →
        Gives (.asidSetRoot m) s (Answered (s.modMem fun q => { q with asids := Tbl.set q.asids k { x with root := some (field p 8 8 / 4096) } }) m r []))
    ∧ (Served s m cAsidFree (len 4) fAsid r → Tbl.get? s.mem.asids k = some x → s.mayAct m x.ep = true →
        (∀ g ∈ s.mem.regions, g.2.valid = true ∨ g.2.registering = true → g.2.kind = .host → g.2.agent = field p 0 1 → g.2.asid ≠ field p 2 2) →
        Gives (.asidFree m) s (Answered (s.modMem fun q => { q with asids := Tbl.erase q.asids k }) m r []))
    ∧ (Served s m cHbmExposeKey (len 0) noFields r → (∀ j ∈ s.route.jobs, j.2.prot = false) → Gives (.hbmExposeKey m) s
        (Answered ((s.modMem fun q => { q with expose := true, exposed := true }).measure 0x0012 0 (Config.shake256 64 (zeros 64))) m r []))
    ∧ (Served s m cHbmExposeKey (len 0) noFields r → (∃ j ∈ s.route.jobs, j.2.prot = true) → Gives (.hbmExposeKey m) s
        (s.reply m r rProtConflict 0 0 []))
  )

/-- Certificates, measurements and attestation (R411 to R415): blobs are read from their offset; a report is signed over its body as it stands
when the command ends, and is kept for the mailbox. Measurements (R411): every entry counts and enters the accumulator; it is kept while
the log has room, and LOG_TRUNCATED says when it was not. -/
def Obligations.AttestationAndMeasurements : Prop :=
  (
    ∀ (m : Fin 5) (r : BciReq) (token : U32) (l : LongCmd) (q report : List Byte) (s : State),
    let p := r.payload
    (Served s m cGetCertChain (len 4) fieldsGetCertChain r → Gives (.getCertChain m) s (Answered s m r (blobRead certChain (field p 0 4))))
    ∧ (Served s m cGetMeasurements (len 8) fieldsGetMeasurements r →
        (field p 0 1 = 0 → Gives (.getMeasurements m) s (Answered s m r (blobRead (s.sec.log.map Meas.bytes).flatten (field p 4 4))))
        ∧ (field p 0 1 = 1 → Tbl.get? s.sec.reports m.val = some report → Gives (.getMeasurements m) s (Answered s m r (blobRead report (field p 4 4))))
        ∧ (field p 0 1 = 1 → Tbl.get? s.sec.reports m.val = none → Gives (.getMeasurements m) s (s.reply m r rNotFound 0 0 [])))
    ∧ (Served s m cAttest (len 68) fieldsAttest r → field p 64 4 = 0xFFFFFFFF → Gives (.attest m) s (Accepted (s.dropReport m.val) m r (.attest p) []))
    ∧ (s.long? m.val token = some l → l.work = .attest q → field q 64 4 = 0xFFFFFFFF → ∃ body : List Byte, body = fit 512 (s.reportBody q) ∧
        Gives (.attestDone m token) s ((s.modSec fun v =>
          { v with reports := Tbl.set v.reports m.val (body ++ fit 49856 (Config.slhSign identityKeys.2 attestContext body)) }).finish m.val l rOk (leBytes 4 50368)))
  ) ∧ (
    ∀ (type arg : Nat) (digest : List Byte) (s : State), ∃ e : Meas,
    let u := s.measure type arg digest
    e.index = s.sec.measCount + 1 ∧ e.type = type ∧ e.ntInvalid = !s.time.ntValid ∧ e.nt = (if s.time.ntValid then s.clk.nt else 0)
    ∧ e.arg = BitVec.ofNat 32 arg ∧ e.digest = digest
    ∧ u.sec.measCount = s.sec.measCount + 1 ∧ u.sec.acc = fit 64 (Config.shake256 64 (s.sec.acc ++ e.bytes))
    ∧ (s.sec.log.length < 1024 → u.sec.log = s.sec.log ++ [e] ∧ u.sec.logTruncated = s.sec.logTruncated)
    ∧ (1024 ≤ s.sec.log.length → u.sec.log = s.sec.log ∧ u.sec.logTruncated = true)
  )

/-- Job keys (R415 to R420): a handle is opened for a protected job under its next reuse count, its blob written, the key installed or the
install counted as failed, the 16th time for good; KEY_WITHDRAW frees the job's handles; KEY_QUERY and KEY_KEM_PUBLIC read. -/
def Obligations.BciJobKeys : Prop :=
  ∀ (m : Fin 5) (r : BciReq) (i : Nat) (d : JobDesc) (h : KeyHandle) (token : U32) (l : LongCmd) (k : List Byte)
    (s v : State),
  let p := r.payload
  let hd := field p 0 4
  (Served s m cKeyKemOpen (len 2) fieldsKeyKemOpen r → s.job? (field p 0 2) = some d → d.prot = true → s.newHandle = (some i, v) → ∃ x : KeyHandle,
      Gives (.keyKemOpen m) s (Answered ({ v with free := v.free + 1 }.setHandle i x) m r (leBytes 4 (i + x.reuse * 65536)))
    ∧ x.st = .open_ ∧ x.job = field p 0 2 ∧ x.reuse = ((Tbl.getD s.sec.handles i KeyHandle.reset).reuse + 1) % 65536 ∧ x.fails = 0
    ∧ x.held = false ∧ x.blob = zeros 1616)
  ∧ (Served s m cKeyKemPublic (len 8) fieldsKeyKemPublic r → s.handle? hd = some h → h.held = false →
      Gives (.keyKemPublic m) s (Answered s m r (blobRead h.ek (field p 4 4))))
  ∧ (Served s m cKeyCtWrite (fun p => 16 + field p 6 2) fieldsKeyCtWrite r → s.handle? hd = some h → h.held = false → h.st = .open_ → ∃ b,
      Gives (.keyCtWrite m) s (Answered (s.setHandle (hd % 1024) { h with blob := b }) m r [])
    ∧ (h.blob.length = 1616 → b.length = 1616 ∧ ∀ j, j < 1616 →
        b.getD j 0 = if field p 4 2 ≤ j ∧ j < field p 4 2 + field p 6 2 then p.getD (16 + (j - field p 4 2)) 0 else h.blob.getD j 0))
  ∧ (Served s m cKeyInstall (len 4) fieldsKeyInstall r → s.handle? hd = some h → h.held = false → h.st = .open_ → s.jobKeyed h.job = false →
      Gives (.keyInstall m) s (Accepted (s.setHandle (hd % 1024) { h with held := true }) m r (.keyInstall (hd % 1024)) []))
  ∧ (s.long? m.val token = some l → l.work = .keyInstall i → h = Tbl.getD s.sec.handles i KeyHandle.reset → h.st = .open_ →
      s.jobKeyed h.job = false →
      (h.unwrap i = some k → ∃ x : KeyHandle, Gives (.keyInstallDone m token) s (((s.setHandle i x).secInt 1).finish m.val l rOk (fit 16 (keyCheck k)))
        ∧ x = { h with st := .installed, held := false, kjob := k, keyCheck := keyCheck k, blob := [], seed := 0 })
      ∧ (h.unwrap i = none → h.fails < 15 → Gives (.keyInstallDone m token) s
          ((s.setHandle i { h with fails := h.fails + 1, held := false }).finish m.val l rBadParam []))
      ∧ (h.unwrap i = none → 15 ≤ h.fails → Gives (.keyInstallDone m token) s
          ((s.setHandle i { KeyHandle.reset with reuse := h.reuse }).finish m.val l rBadParam [])))
  ∧ (Served s m cKeyWithdraw (len 2) fieldsKeyWithdraw r → s.job? (field p 0 2) = some d →
      (∀ x ∈ s.sec.handles, x.2.job = field p 0 2 → x.2.held = false) →
      Gives (.keyWithdraw m) s (Answered ((s.withdraw (field p 0 2)).secInt 2) m r [])
    ∧ ∀ n x, Tbl.get? (s.withdraw (field p 0 2)).sec.handles n = some x → x.job = field p 0 2 → x.st = .free)
  ∧ (Served s m cKeyQuery (len 4) fieldsKeyQuery r → s.handle? hd = some h → h.held = false → Gives (.keyQuery m) s (Answered s m r
      (leBytes 2 h.job ++ leBytes 1 h.st.code ++ leBytes 1 h.fails ++ leBytes 2 (min 65535 (h.byQpn.map (·.2)).sum) ++ zeros 10
        ++ fit 16 h.keyCheck)))

/-- The time group (R40, R43, R46, R55, R58, R556): roles, parameters, asymmetries, launch settings and the query. The root keeps its NT; a
member that never had NT takes the one given. -/
def Obligations.BciTimeGroup : Prop :=
  ∀ (m : Fin 5) (r : BciReq) (s : State),
  let p := r.payload
  let v : State := if s.time.rootRef = field p 0 1 then s else s.refLost
  let w : State := { v with time := { v.time with rootRef := field p 0 1, epoch := BitVec.ofNat 64 (field p 16 8) } }
  let heard : State := s.setTport (field p 0 1) { s.tport (field p 0 1) with asym := toSigned 32 (field p 4 4) }
  (Served s m cTimeSetRoot (len 24) fieldsTimeSetRoot r →
      (s.time.root = true → Gives (.timeSetRoot m) s (Answered w m r (leBytes 8 s.clk.nt.toNat)))
      ∧ (s.time.root = false → ∃ u : State, Gives (.timeSetRoot m) s (Answered u m r (leBytes 8 u.clk.nt.toNat))
          ∧ Only (.clk :: .time :: reporting) s u
          ∧ u.time = { w.time with
              root := true, parent := none, status := .locked, ntValid := true, rateAdj := 0, integ := 0, theta := 0, refLock := false,
              heldEnd := u.time.heldEnd, intStatus := u.time.intStatus, ports := u.time.ports }
          ∧ (s.time.ntValid = true → u.time.ports = s.time.ports ∧ u.clk = s.clk)
          ∧ u.clk.nt = if s.time.ntValid then s.clk.nt else BitVec.ofNat 64 (field p 8 8)))
  ∧ (Served s m cTimeSetMember (len 13) fieldsTimeSetMember r → s.time.root = false → bit (field p 8 4) 31 = false →
      Gives (.timeSetMember m) s (Answered ({ s with time := s.time.setParams p }.timeStep) m r []))
  ∧ (Served s m cTimeSetMember (len 13) fieldsTimeSetMember r → s.time.root = false → bit (field p 8 4) 31 = true →
      Gives (.timeSetMember m) s
        (Answered ({ s with time := { s.time.setParams p with accept := some (field p 8 4 % 2 ^ 18) } }.timeStep) m r []))
  ∧ (Served s m cTimeSetMember (len 13) fieldsTimeSetMember r → s.time.root = true → bit (field p 12 1) 0 = true → bit (field p 8 4) 31 = false →
      ∃ u : State, Gives (.timeSetMember m) s (Answered u.timeStep m r []) ∧ Only (.time :: reporting) s u
        ∧ u.time = { s.time.setParams p with root := false, refLock := false, refRoot := some s.moduleId, accept := none, errBase := 0, errFrom := s.clk.now,
                                             rateAdj := 0, integ := 0, theta := 0, lastParent := none, status := .holdover,
                                             heldEnd := u.time.heldEnd, intStatus := u.time.intStatus })
  ∧ (Served s m cTimeSetAsym (len 8) fieldsTimeSetAsym r → s.portHeld (field p 0 1) = false → Gives (.timeSetAsym m) s
      (Answered (if s.time.parent = some (field p 0 1) ∧ s.time.root = false then heard.follow (field p 0 1) else heard) m r []))
  ∧ (Served s m cTimeSetLt (len 2) fieldsTimeSetLt r → s.qps = [] → Gives (.timeSetLt m) s
      (Answered { s with time := { s.time with lt := field p 0 2 } } m r []))
  ∧ (Served s m cTimeSetLt (len 2) fieldsTimeSetLt r → s.qps ≠ [] → Gives (.timeSetLt m) s (s.reply m r rState 0 0 []))
  ∧ (Served s m cTimeSetLaunch (len 4) fieldsTimeSetLaunch r → Gives (.timeSetLaunch m) s
      (Answered { s with time := { s.time with latePolicy := field p 0 1 == 1, horizon := field p 2 2 } } m r []))
  ∧ (Served s m cTimeQuery (len 0) noFields r → ∃ w, Gives (.timeQuery m) s (Answered s m r
        (leBytes 4 w ++ leBytes 4 (b2n s.time.root + at_ s.time.rootRef 1 + at_ (b2n s.time.lostRun) 3 + at_ s.time.maxDepth 4)
          ++ leBytes 4 s.errBound ++ leBytes 4 s.rootId ++ leBytes 8 s.clk.nt.toNat ++ leBytes 4 (ofSigned 32 s.time.theta)
          ++ leBytes 4 (ofSigned 32 s.time.rateAdj) ++ leBytes 4 s.time.candWord ++ leBytes 2 s.time.holdLimit ++ leBytes 2 s.time.lt))
    ∧ w % 4 = s.time.status.code ∧ bit w 2 = s.time.ntValid ∧ bit w 3 = s.time.root ∧ bit w 4 = s.time.refLock)

/-- The scheduling group (R142, R146 to R156): TC0_EN and TC0_QLIMIT at all 64 ports at once, and STATE where TC0 is to be enabled and a gate list in force or pending closes it (R537); shapers, quanta, overheads, gate banks and gates
at the ports of the mask, no other port changing. The entries of a gate bank after a write (R151, R154): those written, the others as they
were, and the bank's base, cycle and length. -/
def Obligations.BciSchedulingGroup : Prop :=
  (
    ∀ (m : Fin 5) (r : BciReq) (x : Ctx) (s : State),
    let p := r.payload
    let named := maskPorts p
    let free := ∀ i ∈ named, s.portHeld i = false
    let written (i : Nat) := put (s.sched i).banks (field p 8 1) (((s.sched i).banks.getD (field p 8 1) GclBank.reset).write p)
    (Served s m cSchedTc0 (len 4) fieldsSchedTc0 r → field p 0 1 = 1 → (s.sched 0).tc0En = false → (∃ i < 64, (s.sched i).closesTc0 = true) →
      Gives (.schedTc0 m) s (s.reply m r rState 0 0 []))
    ∧ (Served s m cSchedTc0 (len 4) fieldsSchedTc0 r →
      (field p 0 1 = 0 ∨ (s.sched 0).tc0En = true ∨ ∀ i < 64, (s.sched i).closesTc0 = false) → ∃ u : State, Gives (.schedTc0 m) s (Answered u m r [])
      ∧ Only [.scheds, .links] s u ∧ ((s.sched 0).tc0En = (field p 0 1 == 1) → u.links = s.links)
      ∧ ∀ i, u.sched i = if i < 64 then { s.sched i with tc0En := field p 0 1 == 1, qlimit := field p 2 2 } else s.sched i)
    ∧ (Served s m cSchedShaper (len 20) fieldsSchedShaper r → free → ∃ u : State, Gives (.schedShaper m) s (Answered u m r [])
      ∧ u = named.foldl (fun s q => s.setShaper p q) s ∧ Only [.scheds] s u ∧ ∀ i, i ∉ named → u.sched i = s.sched i)
    ∧ (Served s m cSchedDrr (len 16) fieldsSchedDrr r → free → ∃ u : State, Gives (.schedDrr m) s (Answered u m r []) ∧ Only [.scheds] s u
      ∧ ∀ i, u.sched i = if i ∈ named then { s.sched i with quanta := put (s.sched i).quanta (field p 8 1) (field p 12 4) } else s.sched i)
    ∧ (Served s m cSchedOverhead (len 9) fieldsSchedOverhead r → free → ∃ u : State, Gives (.schedOverhead m) s (Answered u m r []) ∧ Only [.scheds] s u
      ∧ ∀ i, u.sched i = if i ∈ named then { s.sched i with overhead := field p 8 1 } else s.sched i)
    ∧ (Served s m cSchedGclWrite (fun p => 32 + 4 * field p 12 2) (fieldsSchedGclWrite s) r → free →
        (∀ i ∈ named, (s.sched i).active ≠ field p 8 1 ∧ (s.sched i).pend = false) → ∃ u : State, Gives (.schedGclWrite m) s (Answered u m r []) ∧ Only [.scheds] s u
      ∧ ∀ i, u.sched i = if i ∈ named then { s.sched i with banks := written i } else s.sched i)
    ∧ (Served s m cSchedGclSwitch (len 16) fieldsSchedGclSwitch r → free → (∀ i ∈ named, (s.sched i).pend = false) → ∃ u : State,
        Gives (.schedGclSwitch m) s (Answered u m r []) ∧ Only [.scheds] s u
      ∧ ∀ i, u.sched i = if i ∈ named then { s.sched i with switchAt := BitVec.ofNat 64 (field p 8 8), pend := true, pendFrom := s.countedNt } else s.sched i)
    ∧ (Served s m cSchedGate (len 12) fieldsSchedGate r → free → ∃ u : State, Gives (.schedGate m) s (Answered u m r []) ∧ Only (.scheds :: reporting) s u
      ∧ (∀ i, i ∉ named → u.sched i = s.sched i)
      ∧ ∀ i ∈ named, (u.sched i).gateEn = (field p 8 1 == 1) ∧ (u.sched i).guard = field p 10 2)
    ∧ (Served s m cSchedCtxBucket (len 12) fieldsSchedCtxBucket r → s.Owns m (field p 0 2) → s.ctx? (field p 0 2) = some x → ∃ y,
        Gives (.schedCtxBucket m) s (Answered (s.setCtx (field p 0 2) y) m r [])
      ∧ y = { x with classMask := field p 2 1, bucket := { en := field p 3 1 == 1, rate := field p 4 4, burst := field p 8 4,
                                                           tokens := min (x.bucket.tokensAt s.clk.now) (field p 8 4 * 65536), at_ := s.clk.now } })
  ) ∧ (
    ∀ (b : GclBank) (p : List Byte),
    let c := b.write p
    c.base = BitVec.ofNat 64 (field p 16 8) ∧ c.cycle = field p 24 4 ∧ c.len = field p 14 2
    ∧ ∀ i, Tbl.get? c.entries i = if field p 10 2 ≤ i ∧ i < field p 10 2 + field p 12 2
        then some (field p (32 + 4 * (i - field p 10 2)) 1, field p (33 + 4 * (i - field p 10 2)) 3) else Tbl.get? b.entries i
  )

/-- The faults group (R368, R511 to R514, R520, R522, R523, R531): a source is read, cleared unless its cause persists, its reaction set, an
inversion armed; the logs are read in order, and a structure of an unprotected job is dumped. The counters group (R525 to R531): a counter
is selected and zeroed, a range granted or taken back, the sweep configured while it does not run, started and stopped. -/
def Obligations.BciFaultsAndCounters : Prop :=
  (
    ∀ (m : Fin 5) (r : BciReq) (b : List Byte) (s : State),
    let p := r.payload
    let src := field p 0 2
    let c := s.capture src
    (Served s m cFaultQuery (len 2) fieldsFaultQuery r → s.sourceOk src = true → Gives (.faultQuery m) s (Answered s m r
        (leBytes 4 (b2n c.valid + 2 * b2n c.second) ++ leBytes 4 c.count.toNat ++ (match c.record with | some x => x.bytes | none => zeros 32))))
    ∧ (Served s m cFaultClear (len 2) fieldsFaultClear r → s.sourceOk src = true →
        (s.persisting src = [] → Gives (.faultClear m) s (Answered (s.clearCapture src) m r [0]))
        ∧ (s.persisting src ≠ [] → Gives (.faultClear m) s (Answered (s.clearSource src) m r [1]) ∧ ((s.clearSource src).capture src).valid = true))
    ∧ (Served s m cFaultReaction (len 2) fieldsFaultReaction r → Gives (.faultReaction m) s (Answered
        { s with faults := { s.faults with react := Tbl.set s.faults.react (field p 0 1) (BitVec.ofNat 5 (field p 1 1)) } } m r []))
    ∧ (Served s m cFaultInject (len 17) (fieldsFaultInject s) r → s.sourceOk src = true → ∃ i, Gives (.faultInject m) s
          (Answered (s.setCapture src { c with inject := some i }) m r [])
      ∧ i = { checker := field p 2 1, arg := field p 4 4, mask := BitVec.ofNat 64 (field p 8 8), left := field p 16 1, full := field p 3 1 == 1 })
    ∧ (Served s m cLogRead (len 8) fieldsLogRead r → field p 0 1 = 1 → s.standbyServes = false → ∃ head, Gives (.logRead m) s (Answered s m r
          (head ++ ((s.faults.from_ (field p 4 4)).map LogRec.bytes).flatten))
      ∧ head.length = 16 ∧ field head 4 2 = (s.faults.from_ (field p 4 4)).length ∧ field head 4 2 ≤ 15
      ∧ ∀ x ∈ s.faults.from_ (field p 4 4), x ∈ s.faults.evlog ∧ 0 ≤ circ 32 x.seq.toNat (field p 4 4))
    ∧ (Served s m cLogRead (len 8) fieldsLogRead r → field p 0 1 = 0 → ∃ head, Gives (.logRead m) s (Answered s m r
          (head ++ ((s.plog.from_ (field p 4 4 / 64)).map LogRec.bytes).flatten))
      ∧ head.length = 16 ∧ field head 4 2 = (s.plog.from_ (field p 4 4 / 64)).length ∧ field head 4 2 ≤ 15
      ∧ ∀ x ∈ s.plog.from_ (field p 4 4 / 64), x ∈ s.plog.recs)
    ∧ (Served s m cMemDump (len 12) fieldsMemDump r → s.structure (field p 0 1) (field p 4 4) (s.fresh 1024).1 = some (false, b) →
        Gives (.memDump m) s (Answered { s with free := s.free + 1 } m r (blobRead b (field p 8 4))))
  ) ∧ (
    ∀ (m : Fin 5) (r : BciReq) (s : State),
    let p := r.payload
    (Served s m cPerfSelect (len 8) fieldsPerfSelect r → ∃ x, Gives (.perfSelect m) s (Answered (s.setCtr (field p 0 2) x) m r [])
      ∧ x = { s.ctr (field p 0 2) with count := 0, ovf := false, event := field p 2 2, instance_ := field p 4 2, qual := field p 6 2, resel := true })
    ∧ (Served s m cPerfGrant (len 7) fieldsPerfGrant r → s.Owns m (field p 0 2) → ∃ t,
        Gives (.perfGrant m) s (Answered { s with perf := { s.perf with ctrs := t } } m r [])
      ∧ ∀ i, Tbl.getD t i PerfCtr.reset = if field p 2 2 ≤ i ∧ i < field p 2 2 + field p 4 2
          then { s.ctr i with grant := if field p 6 1 = 1 then some (field p 0 2) else none } else s.ctr i)
    ∧ (Served s m cSweepConfig (len 24) (fieldsSweepConfig s) r → (s.namedRegion (field p 12 4)).isSome = true → s.perf.running = false →
        s.regionHeld (field p 12 4 / 256) = false → Gives (.sweepConfig m) s (Answered { s with perf := { s.perf with
          first := field p 0 2, n := field p 2 2, period := field p 4 4, slotsLog2 := field p 8 1, lkey := BitVec.ofNat 32 (field p 12 4),
          offset := field p 16 8, owner := m.val } } m r []))
    ∧ (Served s m cSweepCtrl (len 1) fieldsSweepCtrl r →
        (field p 0 1 = 0 → Gives (.sweepCtrl m) s (Answered { s with perf := { s.perf with running := false } } m r (leBytes 4 s.perf.seq.toNat)))
        ∧ (field p 0 1 = 1 → s.perf.running = false → s.perf.n ≠ 0 → (s.keyRegion s.perf.lkey.toNat).isSome = true → Gives (.sweepCtrl m) s
            (Answered { s with perf := { s.perf with running := true, stoppedDest := false, firstDump := true, startNt := s.clk.nt } } m r
              (leBytes 4 s.perf.seq.toNat)))
        ∧ (field p 0 1 = 1 → s.perf.n = 0 → Gives (.sweepCtrl m) s (s.reply m r rState 0 0 [])))
  )

/-- The power group (R368, R485, R488, R492, R494, R499, R500): the query; a change of state taken up and its end; thresholds, where 0 changes
nothing; the eFuse's curve; and its retries. A2 (R55, R494 to R496): entry within 10 ms when R495 is met, the timeout that leaves the
state alone, and the three ways to wake. -/
def Obligations.BciPowerGroup : Prop :=
  (
    ∀ (m : Fin 5) (r : BciReq) (token : U32) (l : LongCmd) (c : PwrChange) (s : State),
    let p := r.payload
    let x := s.pwr
    let y := s.sup
    let k := s.pwrCfg
    let or0 (v d : Nat) := if v = 0 then d else v
    let th : PwrCfg := { k with vinWarn := or0 (field p 0 2) k.vinWarn, vinReset := or0 (field p 2 2) k.vinReset,
                                vcWarn := or0 (field p 4 2) k.vcWarn, vcReset := or0 (field p 6 2) k.vcReset }
    let taken (t : PwrState) : State := { s with pwrCfg := { k with a1Width := field p 1 1, a1Rate := field p 2 1 } }.beginPower t
    (Served s m cPwrQuery (len 0) noFields r → Gives (.pwrQuery m) s (Answered s m r (leBytes 1 x.st.code
        ++ leBytes 1 (b2n (x.gate == .on) + 2 * b2n x.pwrGood + 4 * b2n x.seatA + 8 * b2n x.seatB + 16 * b2n k.ocTimer + 32 * b2n x.latched
            + 64 * b2n x.holdA3)
        ++ leBytes 1 x.used ++ leBytes 1 x.lastCause.code ++ leBytes 4 y.vinMv ++ leBytes 4 y.iinMa
        ++ ((List.range 4).map fun q => leBytes 2 (y.vcoreMv.getD q 0)).flatten ++ ((List.range 4).map fun q => leBytes 1 (y.tj.getD q 0)).flatten
        ++ leBytes 1 y.inlet ++ leBytes 1 y.outlet ++ leBytes 2 y.flow)))
    ∧ (Served s m cPwrSetState (len 3) fieldsPwrSetState r → s.powerHeld = false → x.st ≠ .a3 →
        (field p 0 1 = 0 → Gives (.pwrSetState m) s (Accepted (taken .a0) m r .pwrSetState []))
        ∧ (field p 0 1 = 1 → Gives (.pwrSetState m) s (Accepted (taken .a1) m r .pwrSetState []))
        ∧ (field p 0 1 = 2 → Gives (.pwrSetState m) s (Accepted (taken .a2) m r .pwrSetState []))
        ∧ (field p 0 1 = 3 → m.val = 4 → Gives (.pwrSetState m) s (Accepted (taken .a3) m r .pwrSetState []))
        ∧ (field p 0 1 = 3 → m.val ≠ 4 → Gives (.pwrSetState m) s (s.reply m r rDenied 0 0 [])))
    ∧ (s.long? m.val token = some l → x.change = some c → l.work = .pwrSetState → ∃ u : State, u = { s with pwr := { x with change := none } } ∧
        (c.ok = true → Gives (.pwrSetStateDone m token) s (u.finish m.val l rOk (leBytes 1 c.target.code)))
        ∧ (c.ok = false → c.failed = true → c.target = .a0 → Gives (.pwrSetStateDone m token) s (u.finish m.val l rHwFault [3, BitVec.ofNat 8 x.lastCause.code]))
        ∧ (c.ok = false → c.failed = true → c.target ≠ .a0 → Gives (.pwrSetStateDone m token) s (u.finish m.val l rState (leBytes 1 x.st.code)))
        ∧ (c.ok = false → c.failed = false → exec (.pwrSetStateDone m token) s = .next s))
    ∧ (Served s m cPwrSetThresh (len 8) (fieldsPwrSetThresh s) r → 100 * field p 2 2 ≤ y.vinMv → (∀ v ∈ y.vcoreMv, field p 6 2 ≤ v) →
        Gives (.pwrSetThresh m) s (Answered { s with pwrCfg := th } m r []))
    ∧ (Served s m cPwrSetCurve (len 64) fieldsPwrSetCurve r → ∃ u : State,
        u = { s with pwrCfg := { k with curve := (List.range 8).map fun i => (field p (8 * i) 2, field p (8 * i + 4) 4) } }
        ∧ (x.gate ≠ .on ∨ u.pwrCfg.tripPoint = none → Gives (.pwrSetCurve m) s (Answered u m r []))
        ∧ ∀ n, x.gate = .on → u.pwrCfg.tripPoint = some n → Gives (.pwrSetCurve m) s (Answered (u.trip .curve n) m r []))
    ∧ (Served s m cPwrSetRetry (len 4) fieldsPwrSetRetry r → Gives (.pwrSetRetry m) s (Answered { s with
        pwrCfg := { k with count := field p 0 1, offS := field p 1 1, inrush := field p 2 1 },
        pwr := if field p 3 1 = 1 then { x with latched := false, used := 0, tripped := false } else x } m r []))
  ) ∧ (
    ∀ (p : Fin 64) (s : State),
    (s.works = true → s.pwr.enteringA2 = true → s.pwr.wakeFrom = none → (∀ c, s.pwr.change = some c → s.clk.now ≤ c.since + 10 * msTicks) →
        s.a2Ready = true → ∃ u, Gives .a2Entry s u ∧ Only (.pwr :: .sup :: .links :: reporting) s u ∧ u.pwr.st = .a2 ∧ ∀ i, i < 64 → (u.link i).want = Point.dozed)
    ∧ (s.pwr.enteringA2 = true → s.pwr.wakeFrom = none → ∃ u c, s.pwr.change = some c ∧ Gives .a2EntryTimeout s u ∧ Only (.pwr :: passing) s u
      ∧ c.since + 10 * msTicks ≤ u.clk.now ∧ u.pwr = { s.pwr with change := some { c with attempted := true, failed := true } })
    ∧ (s.pwr.wakeFrom.isSome = true → (∀ c, s.pwr.change = some c → c.target ≠ .a1) → ∃ v,
        Gives .a2Wake s ((List.range 64).foldl (fun s t => s.releaseSusp t fun x => x.why == .asleep) v)
      ∧ Only (.pwr :: .sup :: .links :: reporting) s v ∧ v.pwr.st = .a0
      ∧ v.pwr.wakeFrom = none ∧ ∀ i, i < 64 → (v.link i).want = Point.full)
    ∧ (s.pwr.st = .a2 → (s.link p.val).st = .doze →
        ((s.sched p.val).queues.drop 1).any (fun q => q.any fun k => feidModule k.hdr.src != s.moduleId) = true →
        ∃ u, Gives (.transitDozeWait p) s u ∧ Only (.pwr :: passing) s u ∧ u.pwr.wakeFrom.isSome = true ∧ u.clk.now = s.clk.now + 10 * usTicks)
    ∧ (s.pwr.st = .a2 → s.launchTargets ≠ [] → ∃ u, Gives .launchWake s u ∧ Only (.pwr :: passing) s u ∧ u.pwr.wakeFrom.isSome = true
      ∧ u.pwr.st = .a2)
  )

/-- The firmware group (R366, R369, R370, R406 to R411): an erased slot is written in a session of one mailbox, committed when its image is
sound, activated and confirmed; R409's floor never falls. -/
def Obligations.BciFirmwareGroup : Prop :=
  ∀ (m : Fin 5) (r : BciReq) (token : U32) (l : LongCmd) (x : FwSession) (i : Nat) (h : ImageHdr)
    (err : Bool) (s : State),
  let p := r.payload
  let img := parseImage x.cells x.size
  let new : FwSession := { box := m.val, slot := field p 0 1, size := field p 4 4, cells := [], committing := false }
  let closed : State := { s with fw := { s.fw with session := none } }
  (Served s m cFwQuery (len 0) noFields r → ∃ b, Gives (.fwQuery m) s (Answered s m r b) ∧ b.length ≤ 1008)
  ∧ (Served s m cFwBegin (len 8) fieldsFwBegin r → s.flashHeld = false → s.fw.session = none → s.fw.running ≠ some (field p 0 1) →
      Gives (.fwBegin m) s (Answered { s with fw := { s.fw with slots := put s.fw.slots (field p 0 1) { hdr := none, valid := false }, session := some new } }
        m r []))
  ∧ (Served s m cFwWrite (fun p => max 9 (min 1000 p.length)) (fieldsFwWrite m s) r → s.fw.session = some x → x.box = m.val →
      x.committing = false → s.flashHeld = false → Gives (.fwWrite m) s (Answered { s with fw := { s.fw with
        session := some { x with cells := Memory.write x.cells (field p 0 4) (p.drop 8) } } } m r []))
  ∧ (Served s m cFwCommit (len 0) noFields r → s.fw.session = some x → x.box = m.val → x.committing = false → s.flashHeld = false →
      Gives (.fwCommit m) s (Accepted { s with fw := { s.fw with session := some { x with committing := true } } } m r (.fwCommit x.slot) []))
  ∧ (s.long? m.val token = some l → s.fw.session = some x → l.work = .fwCommit x.slot → x.committing = true →
      (err = true → Gives (.fwCommitDone m token err) s (closed.finish m.val l 0x12 []))
      ∧ (err = false → img.valid s.sec = false → Gives (.fwCommitDone m token err) s (closed.finish m.val l rImageInvalid []))
      ∧ (err = false → img.valid s.sec = true → img.svn < s.sec.fusedSvn → Gives (.fwCommitDone m token err) s (closed.finish m.val l rRollback []))
      ∧ (err = false → img.valid s.sec = true → s.sec.fusedSvn ≤ img.svn → 
          let w : State := { s with fw := { s.fw with session := none, slots := put s.fw.slots x.slot { hdr := some img, valid := true } } }
          let u := if s.boot.balyn && s.dieRuns then w.measure 0x0010 x.slot (Config.shake256 64 img.raw) else w
          Gives (.fwCommitDone m token err) s (u.finish m.val l rOk [])))
  ∧ (Served s m cFwActivate (len 2) fieldsFwActivate r → s.fw.openElse m.val = false → s.flashHeld = false → (s.fw.slot (field p 0 1)).valid = true →
      Gives (.fwActivate m) s (Answered { s with fw := { s.fw with sel := field p 0 1, selTrial := field p 1 1 == 1, selBooted := false } } m r []))
  ∧ (Served s m cFwConfirm (len 0) noFields r → s.flashHeld = false → s.fw.running = some i → s.fw.image = some h → 
      let svn := max s.sec.fusedSvn h.svn
      let burn := decide (s.sec.fusedSvn < svn) || (h.provision s.sec).isSome
      let u : State := { s with
        fw := { s.fw with trial := false, selTrial := if s.fw.sel = i then false else s.fw.selTrial },
        sec := if burn then { s.sec with fuseBusy := true, burnFrom := s.clk.now, burnSvn := svn, burnOwner := h.provision s.sec } else s.sec }
      Gives (.fwConfirm m) s (Answered (u.measure 0x0011 svn (Config.shake256 64 h.raw)) m r []))
  ∧ (Served s m cFwAbort (len 0) noFields r → (∀ y, s.fw.session = some y → y.box = m.val) →
      (s.commitOf = none → Gives (.fwAbort m) s (Answered closed m r []))
      ∧ ∀ b, s.commitOf = some (b, l) → Gives (.fwAbort m) s (Answered (closed.finish b l rCancelled []) m r []))

/-- Enabling and disabling (R374, R375, R398): a valid configuration runs from OFF with every index at 0; a bad one sets CFG_ERR; clearing
ENABLE begins DRAINING, where chains that have not started complete ABORTED, and ends in OFF at once when nothing is owed. Doorbells of a
context (R378, R396, R397): SQ_TAIL and CQ_HEAD move forward within their ring, and a value beyond it sets DB_ERR and moves nothing;
CQ_ARM arms, and sends the vector at once while entries wait; COAL_US sends it later. What a function writes for a context that it does not
own has no effect (R326, R377, R550). -/
def Obligations.RingsAndTheirDoorbells : Prop :=
  (
    ∀ (e : Fin 4) (fn : Fin 65) (c : Fin 4096) (x : Ctx) (s : State), s.ctx? c = some x → s.fnExists e fn.val = true → s.ownsCtx { ep := e, fn := fn.val } c = true →
    let running : Ctx := { x with enable := true, idle := false, sqHead := 0, sqTail := 0, cqHead := 0, cqTail := 0, owed := 0,
                                  chains := [], openTiming := none, backlog := [], deferred := [], reading := false }
    let aligned (base bytes : Nat) : Prop := base % max 4096 bytes = 0
    (x.cfgOk = true ↔ 6 ≤ x.sqLog2 ∧ x.sqLog2 ≤ 16 ∧ 6 ≤ x.cqLog2 ∧ x.cqLog2 ≤ 16 ∧ aligned x.sqBase (64 * 2 ^ x.sqLog2)
        ∧ aligned x.cqBase (32 * 2 ^ x.cqLog2))
    ∧ (x.enable = false → x.idle = true → x.hostLost = false → s.works = true →
        (x.fenced = false → x.cfgOk = true → Gives (.ringEnable e fn c) s ((s.killWhere (Xfer.ofRing c)).setCtx c running))
        ∧ (x.fenced = true ∨ x.cfgOk = false → Gives (.ringEnable e fn c) s (s.setCtx c { x with cfgErr := true })))
    ∧ (x.enable = true ∨ x.idle = false ∨ x.hostLost = true → Gives (.ringEnable e fn c) s s)
    ∧ (x.enable = false → Gives (.ringDisable e fn c) s s)
    ∧ (x.enable = true → Gives (.ringDisable e fn c) s (s.setCtx c { x with
        enable := false, openTiming := none, idle := decide (x.owed = 0) || x.idle, backlog := if x.owed = 0 then [] else x.backlog,
        chains := x.chains.map fun h => if h.st = .started ∨ h.st = .done then h else { h with st := .done, code := ccAborted, payload := none } }))
  ) ∧ (
    ∀ (e : Fin 4) (fn : Fin 65) (c : Fin 4096) (v : U32) (t : Nat) (x : Ctx) (s : State), s.ctx? c = some x → x.hostLost = false →
    let ok := (v - x.sqTail).toNat ≤ 2 ^ x.sqLog2 ∧ (v - x.sqHead).toNat ≤ 2 ^ x.sqLog2
    let waits := (v - x.cqHead).toNat ≤ (x.cqTail - x.cqHead).toNat
    let armed := { x with armed := true, armedCount := 0, armedAt := none }
    (s.works = true → s.fnExists e fn.val = true → s.ownsCtx { ep := e, fn := fn.val } c = true → (ok → Gives (.sqTailDoorbell e fn c v) s (s.wake.setCtx c { x with sqTail := v }))
      ∧ (¬ ok → Gives (.sqTailDoorbell e fn c v) s (s.wake.setCtx c { x with dbErr := true }))
      ∧ (waits → Gives (.cqHeadDoorbell e fn c v) s (s.wake.setCtx c { x with cqHead := v }))
      ∧ (¬ waits → Gives (.cqHeadDoorbell e fn c v) s (s.wake.setCtx c { x with dbErr := true }))
      ∧ (x.intEn = true → x.cqTail ≠ x.cqHead → Gives (.cqArm e fn c) s ((s.wake.setCtx c armed).sendCqInt c))
      ∧ (x.intEn = false ∨ x.cqTail = x.cqHead → Gives (.cqArm e fn c) s (s.wake.setCtx c armed)))
    ∧ (x.armedAt = some t → x.intEn = true → x.armed = true → x.coalUs ≠ 0 → Gives (.cqIntTimer c) s
        ((s.reach (t + x.coalUs * usTicks)).sendCqInt c))
  ) ∧ (
    ∀ (e : Fin 4) (fn : Fin 65) (c : Fin 4096) (v : U32) (s : State), s.ownsCtx { ep := e, fn := fn.val } c = false →
    exec (.ringEnable e fn c) s = .next s ∧ exec (.ringDisable e fn c) s = .next s ∧ exec (.sqTailDoorbell e fn c v) s = .next s
      ∧ exec (.cqHeadDoorbell e fn c v) s = .next s ∧ exec (.cqArm e fn c) s = .next s
  )

/-- R379: an entry read takes 1 to 8 entries at SQ_HEAD, up to SQ_TAIL, within the ring, and no more than the completion ring has room for,
and only while ENABLE is set and no read is under way. Entries read (R382, R383, R385): a chain of one entry, a TIMING entry and its work
entry, and every broken chain, which completes INVALID_ENTRY; each owes one completion. -/
def Obligations.EntriesFormChains : Prop :=
  (
    ∀ (c : Fin 4096) (x : Ctx) (s : State), s.ctx? c = some x → x.enable = true → x.reading = false →
    s.works = true → s.pwr.st ≠ .a2 → s.mayDma c = true →
    let size := 2 ^ x.sqLog2
    let room := 2 ^ x.cqLog2 - (x.owed + ((x.cqTail - x.cqHead).toNat + (x.deferred.filter fun e => !forRequest e).length) + x.backlog.length)
    let n := min 8 (min (x.sqTail - x.sqHead).toNat (min (size - x.sqHead.toNat % size) room))
    (1 ≤ n → Gives (.entryRead c) s ((s.setCtx c { x with reading := true }).issue (.sqFetch c n 0) c
        (x.ringSpace (x.sqBase + 64 * (x.sqHead.toNat % size))) false [] (64 * n) none))
    ∧ (n = 0 → exec (.entryRead c) s = .next s)
  ) ∧ (
    ∀ (c : Nat) (e : List Byte) (x : Ctx) (s : State), s.ctx? c = some x →
    let first := bit (field e 1 1) 0
    let last := bit (field e 1 1) 1
    let timing : Prop := field e 0 1 = opTiming
    let next (timing : Option (List Byte)) (st : ChainSt) (code : Nat) (u : State) : Prop :=
      let h : Chain := { serial := x.nextSerial, timing := timing, work := e, st := st, ready := false, held := false, passed := false, payload := none, segs := [],
                         code := code, value := 0, countA := 0, countB := 0, ident := entryIdent e, flags := 0 }
      u = s.setCtx c { x with sqHead := x.sqHead + 1, openTiming := none, chains := x.chains ++ [h], nextSerial := x.nextSerial + 1,
                              owed := x.owed + 1, nChains := x.nChains + 1, nInvalid := if code = ccInvalid then x.nInvalid + 1 else x.nInvalid }
    (x.openTiming = none → first = true → last = true → ¬ timing → s.entryOk c e = true → next none .waiting ccOk (s.readEntry c e))
    ∧ (x.openTiming = none → first = true → last = true → timing ∨ s.entryOk c e = false → next none .done ccInvalid (s.readEntry c e))
    ∧ (x.openTiming = none → first = false ∨ (last = false ∧ ¬ timing) → next none .done ccInvalid (s.readEntry c e))
    ∧ (x.openTiming = none → first = true → last = false → timing → s.readEntry c e = s.setCtx c { x with sqHead := x.sqHead + 1, openTiming := some e })
    ∧ (∀ t, x.openTiming = some t → first = true → s.readEntry c e =
        (s.setCtx c { x with openTiming := none, nextSerial := x.nextSerial + 1, owed := x.owed + 1, nChains := x.nChains + 1, nInvalid := x.nInvalid + 1,
                             chains := x.chains ++ [{ serial := x.nextSerial, timing := some t, work := t, st := .done, ready := false, held := false,
                                                      passed := false, payload := none, segs := [], code := ccInvalid, value := 0, countA := 0,
                                                      countB := 0, ident := entryIdent t, flags := 0 }] }).readEntry c e)
    ∧ ∀ t, x.openTiming = some t → first = false →
        (last = true → ¬ timing → timingOk t e = true → s.entryOk c e = true → s.beyondHorizon (some t) = false →
          next (some t) .waiting ccOk (s.readEntry c e))
        ∧ (last = true → ¬ timing → timingOk t e = true → s.entryOk c e = true → s.beyondHorizon (some t) = true →
          next (some t) .done ccAborted (s.readEntry c e))
        ∧ (last = false ∨ timing ∨ timingOk t e = false ∨ s.entryOk c e = false → next (some t) .done ccInvalid (s.readEntry c e))
  )

/-- The start walk (R386): the chain it starts waits, its channel is not blocked, and a FENCE chain is the ring's oldest. -/
def Obligations.WalkStartsWhatMayStart : Prop :=
  ∀ (c : Nat) (x : Ctx) (h : Chain) (s v : State), s.ctx? c = some x → s.walk c = (v, some h) →
  h ∈ x.chains ∧ h.st = .waiting ∧ h.key ∉ x.blockedKeys ∧ (h.fence = true → x.chains.head?.map (·.serial) = some h.serial)
  ∧ s.works = true ∧ x.hostLost = false ∧ s.pwr.st ≠ .a2

/-- Every entry's row (R384, R386, R388): on its context's turn, when the walk comes to a chain of the row's opcode, that chain starts; when the
next chain is of another opcode, or none can start, nothing happens. A tile gives the turn to a context with a startable chain, to one of
TC0 if there is any, and a context served goes behind the others. What a started chain does (R225, R227, R253, R280, R283, R384, R557), by its opcode: a message
on its QP, a match operation, a collective instance, an update or a read of a ledger, or nothing; a key that R557 turns away completes
TRANSLATION. -/
def Obligations.EntriesStart : Prop :=
  (
    ∀ (c : Fin 4096) (h : Chain) (s v : State), s.walk c = (v, some h) → s.nextServed (s.ctxTile c) = some c.val →
    let row (i : Instr) (op : Nat) : Prop := (h.op = op → Gives i s (v.takeTurn c h)) ∧ (h.op ≠ op → Gives i s s)
    row (.putEntry c) 1 ∧ row (.getEntry c) 2 ∧ row (.sendEntry c) 3 ∧ row (.recvEntry c) 4 ∧ row (.atomicEntry c) 5 ∧ row (.collEntry c) 6
    ∧ row (.probeEntry c) 7 ∧ row (.cancelEntry c) 8 ∧ row (.ledgerAddEntry c) 9 ∧ row (.ledgerSetEntry c) 10 ∧ row (.ledgerReadEntry c) 11
    ∧ row (.nopEntry c) 12
    ∧ Gives (.timingEntry c) s v
    ∧ (∀ x, s.ctx? c = some x → Gives (.chainStart c) s ((v.takeTurn c h).serve c (s.tileChains x.tile)))
  ) ∧ (
    ∀ (t c d : Nat) (x : Ctx) (s : State), (s.ctxs.map (·.1)).Pairwise (· < ·) → s.nextServed t = some c → s.ctx? c = some x →
    let can (d : Nat) (y : Ctx) : List Chain := s.startablesFrom d y y.chains y.blockedKeys
    let tc0 (h : Chain) : Bool := h.usesQp && h.tc == 0
    x.tile = t ∧ can c x ≠ []
    ∧ (∀ y, s.ctx? d = some y → y.tile = t → y.hostLost = false → (can d y).any tc0 = true → (can c x).any tc0 = true)
    ∧ (∀ y, s.ctx? d = some y → y.tile = t → y.hostLost = false → (can d y).any tc0 = (can c x).any tc0 → can d y ≠ [] →
        (s.tile t).turn ≤ d → (s.tile t).turn ≤ c ∧ c ≤ d)
  ) ∧ (
    ∀ (c : Nat) (h : Chain) (g : Ledger) (s : State), h.launchEn = false →
    let v := s.count 0x0B00 c (qMask h.tc) 1
    let started : State := v.modChain c h.serial fun h => { h with st := .started }
    let u := s.startChain c h
    let put : Msg := { Msg.mk0 (.chain c h.serial) tPut (h.f 36 4) with lkey := h.f 32 4, loff := h.f 40 6, rkey := h.f 16 4, roff := h.f 24 6,
                                                                        notify := h.notify, ledger := h.f 20 4 % 1048576 }
    (h.op = 1 → h.inl = false → v.badKey c (h.f 32 4) (h.f 40 6) (h.f 36 4) [pLocalRead] = true → u = v.chainDone c h.serial ccTranslation)
    ∧ (h.op = 1 → h.inl = false → v.badKey c (h.f 32 4) (h.f 40 6) (h.f 36 4) [pLocalRead] = false → u = v.startMsg c h put)
    ∧ (h.op = 1 → h.inl = true → ∃ q, u = v.startMsg c h q ∧ q.total = h.xflags ∧ q.inline_ = some ((h.work.drop 32).take h.xflags)
        ∧ q.rkey = h.f 16 4 ∧ q.roff = h.f 24 6)
    ∧ (h.op = 2 → v.badKey c (h.f 32 4) (h.f 40 6) (h.f 36 4) [pLocalWrite] = false → u = v.startMsg c h { put with opcode := tGet })
    ∧ (h.op = 3 → h.inl = false → v.badKey c (h.f 40 4) (h.f 48 6) (h.f 36 4) [pLocalRead] = false → ∃ q, u = v.startMsg c h q
        ∧ q.tagv = BitVec.ofNat 64 (h.f 16 8) ∧ q.comm = h.f 24 2
        ∧ q.rndv = decide (h.f 36 4 ≠ 0 ∧ ((v.ctx? c).map (·.eagerLimit)).getD 0 < h.f 36 4))
    ∧ (h.op = 4 → v.badKey c (h.f 40 4) (h.f 48 6) (h.f 44 4) [pLocalWrite] = false → (v.domain? c).isSome = true →
        u = started.submitOp c (.post c h.serial))
    ∧ (h.op = 4 → v.badKey c (h.f 40 4) (h.f 48 6) (h.f 44 4) [pLocalWrite] = false → v.domain? c = none → u = v.chainDone c h.serial ccAborted)
    ∧ (h.op = 5 → h.localAtomic = false → ∃ q, u = v.startMsg c h q ∧ q.rkey = h.f 16 4 ∧ q.roff = h.f 24 6 ∧ q.aop = h.f 32 1 % 16
        ∧ q.op0 = BitVec.ofNat 64 (h.f 40 8) ∧ q.op1 = BitVec.ofNat 64 (h.f 48 8))
    ∧ (h.op = 5 → h.localAtomic = true → u = v.startLocalAtomic c h)
    ∧ (h.op = 6 → v.collRefused c h = none → u = started.startColl c h)
    ∧ (h.op = 7 → (v.domain? c).isSome = true → u = started.submitOp c (.probe c h.serial))
    ∧ (h.op = 8 → (v.domain? c).isSome = true → u = started.submitOp c (.cancel c h.serial))
    ∧ (h.op = 9 → v.ledgerOk c h.ledger = true → u = (v.ledgerAdd h.ledger (h.f 24 8) false).chainDone c h.serial ccOk)
    ∧ (h.op = 10 → v.ledgerOk c h.ledger = true → u = (v.ledgerSet h.ledger (h.f 24 8)).chainDone c h.serial ccOk)
    ∧ (h.op = 11 → v.ledgerOk c h.ledger = true → Tbl.get? v.ledgers h.ledger = some g →
        u = v.chainDoneWith c h.serial ccOk g.count (b2n g.poison) 0 0 0)
    ∧ (h.op = 12 → u = v.chainDone c h.serial ccOk)
  )

/-- Ledgers (R280): an update adds up to the largest COUNT and keeps POISON; a set clears POISON; every other ledger is unchanged. A ring held
by WAIT_LEDGER (R281) is tested after every update of its ledger: its entry is released when COUNT has reached the threshold, completes
ABORTED on POISON, and is held otherwise; a released one goes on with LEDGER_WAKE, and a ring that is not held does nothing there. R393:
PHASE is 1 on the first pass over the completion ring and changes with every pass. -/
def Obligations.LedgersAndPasses : Prop :=
  (
    ∀ (l n : Nat) (p : Bool) (g : Ledger) (s : State), Tbl.get? s.ledgers l = some g →
    (∀ i, Tbl.get? (s.ledgerAdd l n p).ledgers i = if i = l then some { g with count := min (2 ^ 63 - 1) (g.count + n), poison := g.poison || p }
      else Tbl.get? s.ledgers i)
    ∧ (∀ i, Tbl.get? (s.ledgerSet l n).ledgers i = if i = l then some { g with count := min (2 ^ 63 - 1) n, poison := false }
      else Tbl.get? s.ledgers i)
  ) ∧ (
    ∀ (c l : Nat) (x : Ctx) (h : Chain) (g : Ledger) (s : State), s.ctx? c = some x → (s.ctxs.map (·.1)).Nodup →
    (x.chains.map (·.serial)).Nodup → x.chains.find? (fun h => h.st == .waiting && h.held && h.waitLedger == l) = some h →
    let after := (s.ledgerSetTo l g).chain? c h.serial
    (g.poison = true → after = some { h with held := false, passed := false, st := .done, code := ccAborted })
    ∧ (g.poison = false → h.threshold ≤ g.count → after = some { h with held := false, passed := true })
    ∧ (g.poison = false → g.count < h.threshold → after = some h)
  ) ∧ (
    ∀ (c : Fin 4096) (x : Ctx) (h : Chain) (g : Ledger) (s : State), s.ctx? c = some x →
    let first := x.chains.find? fun h => h.st == .waiting && (h.held || h.passed)
    (first = some h → h.passed = true → Gives (.ledgerWake c) s (s.serve c (s.tileChains x.tile + 1)))
    ∧ (first = some h → h.passed = false → Tbl.get? s.ledgers h.waitLedger = some g →
        Gives (.ledgerWake c) s ((s.testWaiter g c h).serve c (s.tileChains x.tile + 1)))
    ∧ (first = none → exec (.ledgerWake c) s = .next s)
  ) ∧ (
    ∀ (k i : Nat), i < 2 ^ k → phaseOf k i = 1 ∧ ∀ j, phaseOf k (i + j * 2 ^ k) = 1 - j % 2
  )

/-- Timed launch (R52, R53, R55): preparation 20 µs before the earliest queued target and launch at the target; under LOST with HOLD nothing
launches. A chain that the walk starts past its target is late: counted, and ABORTED when LATE_POLICY says so. Retirement (R389 to R391)
and the backlog (R395): DONE_LEDGER first, then the completion entry where CQE is set or the code is not OK, then OWED, once the entry has been written; backlogged entries
are written in order while the ring has room. -/
def Obligations.LaunchAndRetirement : Prop :=
  (
    ∀ (c : Fin 4096) (x : Ctx) (h : Chain) (s : State), s.ctx? c = some x → s.works = true →
    let next (ok : Chain → Bool) : Prop := x.firstLaunch ok = some h
    (next (fun h => h.st == .queued) → Gives (.launchPrepare c) s ((s.reachNt (h.launchAt - BitVec.ofNat 64 (20 * usTicks))).prepare c h))
    ∧ (s.nextLaunch x = some h → s.pwr.st ≠ .a2 →
        Gives (.timedLaunch c) s ((s.reachNt h.launchAt).launch c h))
    ∧ (s.nextLaunch x = some h → h.st = .prepared ∧ h.payload.isSome = true ∧ (s.timeHeld = true → h.endpoint = false))
    ∧ ((∀ g ∈ x.chains, g.st = .prepared → g.endpoint = true) → s.timeHeld = true → exec (.timedLaunch c) s = .next s)
    ∧ (s.lateLaunch h = true → s.time.latePolicy = true →
        s.startChain c h = (s.countLate (s.ctxTile c) h).chainDone c h.serial ccAborted)
    ∧ ((s.countLate (s.ctxTile c) h).time.intStatus = s.time.intStatus ||| 32)
  ) ∧ (
    ∀ (c : Fin 4096) (n : Nat) (x : Ctx) (h : Chain) (e : List Byte) (t : List (List Byte)) (s : State),
    s.ctx? c = some x →
    let gone := { x with chains := x.chains.filter (fun k => k.serial ≠ h.serial) }
    let entry := cqeBytes h.cookie h.value h.countA h.countB h.ident h.code h.op h.flags 0
    (x.chains.find? (fun h => h.st == .done) = some h → s.works = true → Gives (.chainRetire c) s (s.retire c h))
    ∧ (h.doneEn = false → h.cqe = false → h.code = ccOk → s.retire c h = (s.setCtx c { gone with owed := x.owed - 1 }).drained c)
    ∧ (h.doneEn = false → h.cqe = true → h.op ≠ opRecv ∨ h.code ≠ ccOk → s.retire c h =
        ((s.setCtx c gone).postEntry c entry).count 0x0B01 c (qMask h.tc) 1)
    ∧ (x.deferred = e :: t → x.armed = false → s.entryWritten c = ((s.setCtx c { x with
        deferred := t, cqTail := x.cqTail + 1, owed := if forRequest e then x.owed - 1 else x.owed }).drained c).writeCqe c)
    ∧ (field entry 0 8 = h.cookie % 2 ^ 64 ∧ field entry 8 8 = h.value % 2 ^ 64 ∧ field entry 28 1 = h.code % 256 ∧ field entry 29 1 = h.op % 256
        ∧ entry.length = 32)
    ∧ Gives (.backlogWrite c) s (s.writeBacklog c 1024)
    ∧ (x.backlog = e :: t → x.idle = false → x.hostLost = false → x.owed + x.cqOcc < 2 ^ x.cqLog2 → s.writeBacklog c (n + 1) =
        (((s.setCtx c { x with backlog := t }).postEntry c e).count 0x0B01 c (fun q => q == 0) 1).writeBacklog c n)
    ∧ (x.backlog = [] ∨ 2 ^ x.cqLog2 ≤ x.owed + x.cqOcc → s.writeBacklog c n = s)
  )

/-- The bytes of a packet (R74, R75, R173, R174): the route and the transport header read back as they were laid out, and a packet of LEN
bytes reads back whole. -/
def Obligations.PacketsRoundTrip : Prop :=
  (∀ (h : RouteHdr) (rest : List Byte), h.bytes.length = 16 ∧ RouteHdr.decode (h.bytes ++ rest) = some h)
  ∧ (∀ (h : RouteHdr) (t : TransHdr) (rest : List Byte), t.bytes.length = 16 ∧ ({ hdr := h, body := t.bytes ++ rest } : Packet).trans = t)
  ∧ ∀ k : Packet, k.hdr.len.toNat = 16 + k.body.length → Packet.decode k.bytes = some k ∧ k.bytes.length = k.hdr.len.toNat

/-- Arrival checks (R76, R47, R72): the first that fails names the drop, 0 HDR_ERR, 1 LOOP, 2 EXPIRED, 3 FUTURE, 4 UNROUTABLE, and the drop
counts under it alone; a packet that passes all has HOPS one higher, and LEVEL one higher over a GLOBAL port. A packet in a till (R76 to
R80, R112, R128, R139): the oldest of its virtual channel is dropped, ejected, or sent toward a port with room; without room it stays, and a TC0
packet is counted once as blocked. The torus (R121 to R128): a source route is minimal, the row ring first on plane A and the column ring first
on plane B, and leads to its tile; an output sends only what is ready, and none of another virtual network while an EXP beat is; a beat keeps
its virtual network, takes class 1 over a wrap link and class 0 in its next ring; a packet without room for it at its port waits at its
source. -/
def Obligations.ArrivalChecks : Prop :=
  (
    ∀ (p : Nat) (h : RouteHdr) (s : State),
    let r := s.rport p
    let level := h.level.toNat + (if r.role.role = 3 then 1 else 0)
    let wellFormed := h.level.toNat ≤ 2 ∧ 16 ≤ h.len.toNat ∧ (h.vn = 3 → h.tc = 0)
    let fresh := s.age h.stamp ≤ s.time.lt ∧ -16 ≤ s.age h.stamp
    let known := feidGroup h.dst < s.route.systemGroups
      ∧ (h.vn = 2 ∨ (r.role.role ≠ 0 ∧ r.role.en = true ∧ r.mismatch = false ∧ s.route.valid = true ∧ (s.link p).partnerId = true))
    (¬ wellFormed → s.checkArrival p h = .drop 0)
    ∧ (wellFormed → 10 ≤ h.hops.toNat → s.checkArrival p h = .drop 1)
    ∧ (wellFormed → h.hops.toNat < 10 → 2 < level → s.checkArrival p h = .drop 0)
    ∧ (wellFormed → h.hops.toNat < 10 → level ≤ 2 → s.time.lt < s.age h.stamp → s.checkArrival p h = .drop 2)
    ∧ (wellFormed → h.hops.toNat < 10 → level ≤ 2 → s.age h.stamp ≤ s.time.lt → s.age h.stamp < -16 → s.checkArrival p h = .drop 3)
    ∧ (wellFormed → h.hops.toNat < 10 → level ≤ 2 → fresh → ¬ known → s.checkArrival p h = .drop 4)
    ∧ (wellFormed → h.hops.toNat < 10 → level ≤ 2 → fresh → known → s.checkArrival p h = .pass { h with hops := h.hops + 1, level := BitVec.ofNat 2 level })
    ∧ ∀ vc reason, reason < r.drops.length → ((s.drop p vc reason).rport p).drops.getD reason 0 = r.drops.getD reason 0 + 1
      ∧ ∀ k, k ≠ reason → ((s.drop p vc reason).rport p).drops.getD k 0 = r.drops.getD k 0
  ) ∧ (
    ∀ (p : Fin 64) (vc reason q : Nat) (set : List Nat) (k : TillPkt) (h0 : RouteHdr) (s : State),
    (s.link p).rx.till.find? (fun k => k.vc == vc) = some k →
    let turned := s.turnHere h0
    let h := if turned then { h0 with level := h0.level + 1 } else h0
    let pkt : Packet := { k.pkt with hdr := h }
    let out := s.leaveTill p k
    (s.checkArrival p k.pkt.hdr = .drop reason → Gives (.packetArrival p vc) s (out.drop p vc reason))
    ∧ (s.checkArrival p k.pkt.hdr = .pass h0 → s.nextPorts h (s.arrivalPermit p h turned) = .eject →
        Gives (.packetArrival p vc) s (out.eject pkt p))
    ∧ (s.checkArrival p k.pkt.hdr = .pass h0 → s.nextPorts h (s.arrivalPermit p h turned) = .ports set →
        (s.choosePort h set = none → Gives (.packetArrival p vc) s ((out.drop p vc 5).noticeFor p pkt))
        ∧ (s.choosePort h set = some q → (if h.tc = 0 then s.tc0Room q h else s.egressRoom q h) = true →
            Gives (.packetArrival p vc) s (out.torus h p q (.port q pkt)))
        ∧ (s.choosePort h set = some q → h.tc ≠ 0 → s.egressRoom q h = false → exec (.packetArrival p vc) s = .next s)
        ∧ (s.choosePort h set = some q → h.tc = 0 → s.tc0Room q h = false → k.blocked = true → exec (.packetArrival p vc) s = .next s)
        ∧ (s.choosePort h set = some q → h.tc = 0 → s.tc0Room q h = false → k.blocked = false → ∃ u, Gives (.packetArrival p vc) s (State.tc0Blocked u q)
            ∧ u = s.modLink p fun l => { l with rx := { l.rx with till := l.rx.till.map fun j => if j = k then { j with blocked := true } else j } }))
  ) ∧ (
    ∀ (plane src dst : Nat), plane < 2 → src < 64 → dst < 64 →
    let legs := srtLegs plane src dst
    (∀ l ∈ legs, 1 ≤ l.2 ∧ l.2 ≤ 4) ∧ legs.length ≤ 2 ∧ (legs.foldl (fun t l => (neighbour · l.1)^[l.2] t) src) = dst
    ∧ (src % 8 ≠ dst % 8 → src / 8 ≠ dst / 8 → (legs.headD (0, 0)).1 / 2 = plane)
  ) ∧ (
    ∀ (full : Nat → Bool) (n : Net) (key : Nat), key ∈ n.picks full →
    ∃ b rest, n.queue key = b :: rest ∧ n.ready full key b = true
      ∧ (keyVn key ≠ 3 → ∀ k c l, (k, c :: l) ∈ n.queues → outId k c = outId key b → n.ready full k c = true → keyVn k ≠ 3)
  ) ∧ (
    ∀ (key : Nat) (b : Beat) (d k : Nat) (rest : List (Nat × Nat)), key < 5120 → d < 4 → b.cls < 2 → b.legs = (d, k + 1) :: rest →
    let h := b.hop key
    keyVn h.1 = keyVn key ∧ keyPlane h.1 = keyPlane key ∧ keyTile h.1 = neighbour (keyTile key) d
      ∧ h.1 % 2 = (if wraps (keyTile key) d = true then 1 else b.cls) ∧ (k = 0 → h.2.cls = 0 ∧ h.2.legs = rest)
      ∧ (k ≠ 0 → h.2.cls = h.1 % 2 ∧ h.2.legs = (d, k) :: rest)
  ) ∧ (
    ∀ (t p : Nat) (k : Packet) (s : State), s.net.waits = [] →
    (s.roomFor p k.hdr = true → s.toPort t p k = s.torus k.hdr t p (.port p k))
    ∧ (s.roomFor p k.hdr = false → ∃ u : State, u = { s with net := { s.net with waits := [{ tile := t, port := p, pkt := k }] } }
        ∧ s.toPort t p k = if k.tc = 0 then u.tc0Blocked p else u)
  )

/-- Notices, scores and salts (R93, R105, R111, R421, R553): a path-fault notice; every congestion score falls by 1 and one at 0 goes; new
salts are open, and drawn only while the random source passes. Waiting packets and messages (R187, R204, R206, R224, R241, R277, R284): a
fetched context releases its packet, a spilled QP's come in arrival order; presentation, tellers, the release of a barrier and the time-
out of a collective. -/
def Obligations.WaitingWorkGoesOn : Prop :=
  (
    ∀ (t : Fin 64) (k : Packet) (s v : State),
    (s.takeCtl t = some (k, v) → beNat (k.body.take 2) = 1 → Gives (.pathFaultReceive t) s
        (v.pathFault (beNat ((k.body.drop 2).take 2) % 4096) (field k.body 4 1 % 8) (field k.body 5 1 % 4)))
    ∧ (s.takeCtl t = some (k, v) → beNat (k.body.take 2) ≠ 1 → Gives (.pathFaultReceive t) s v)
    ∧ (s.route.decayAt + s.route.decayUs * usTicks ≤ s.clk.now → (∀ i, ((s.tile i).cong.map (·.1)).Nodup) → ∃ u : State, Gives .congDecay s u
      ∧ u = { s with route := { s.route with decayAt := s.clk.now }, tiles := u.tiles }
      ∧ (∀ i, u.tile i = { s.tile i with cong := (u.tile i).cong })
      ∧ ∀ i j, Tbl.getD (u.tile i).cong j 0 = Tbl.getD (s.tile i).cong j 0 - 1)
    ∧ (s.works = true → s.sec.rngOk = true → s.sec.saltAt + 100 * usTicks ≤ s.clk.now → ∃ u : State, Gives .saltRedraw s u
      ∧ u = { s with sec := { s.sec with saltAt := s.clk.now }, free := s.free + 64, tiles := u.tiles } ∧ ∀ i, (u.tile i) = { s.tile i with salt := (u.tile i).salt })
    ∧ (s.sec.rngOk = false → exec .saltRedraw s = .next s)
  ) ∧ (
    ∀ (t : Fin 64) (qpn n c : Nat) (slot : Fin 2) (k : Packet) (rest : List Packet) (q : Qp) (x : Node)
      (i : Inst) (at_ : U64) (s : State), s.works = true →
    ((s.tile t).missQ = k :: rest → Gives (.contextFetchDone t) s
        (((s.modTile t fun x => { x with missQ := rest }).touch k.trans.dstQpn.toNat).process1 t k))
    ∧ (s.qp? qpn = some q → q.spilled = false → q.fetchingCtx = false → Gives (.spilledContextFetchDone qpn) s
        (s.releaseSusp (qpn % 64) fun x => x.why == .spilled && x.pkt.trans.dstQpn.toNat == qpn))
    ∧ Gives (.messagePresent qpn slot) s (s.presentNext qpn slot)
    ∧ (s.pwr.st ≠ .a2 → Gives (.tellerEscalationDone c) s (s.tellerDone c))
    ∧ (s.node? n = some x → x.insts.find? (fun i => i.started && i.kind == ckBarrier && i.release.isSome) = some i → i.release = some at_ →
        Gives (.barrierRelease n) s ((s.reachNt at_).completeColl x.lead i.num ccOk at_.toNat 0))
    ∧ (s.node? n = some x → x.insts = [i] → i.started = true → x.timeoutMs ≠ 0 →
        Gives (.collTimeout n) s ((s.reach (i.lastAt + x.timeoutMs * msTicks)).collFailSelf n ccTimeout))
  )

/-- Rows of arriving packets (R182, R191, R193, R195, R201, R204, R231): the next packet of a tile is taken when it has the row's opcode, a
pinned or cached QP's or an unknown one's at once, another's after its context is fetched. ACKs and NAKs at the requester (R191, R201,
R202): SND_CUM never falls and never passes SND_NEXT; a NAK for a retry sets its packet's backoff; one of reason SEQ at SND_CUM sends an
ORDERED channel back; any other ends the QP in ERR. -/
def Obligations.PacketRowsAndAnswers : Prop :=
  (
    ∀ (t : Fin 64) (k : Packet) (q : Qp) (s v : State), s.works = true → s.faults.stopped = false →
    s.nextPacket t = some (k, v) →
    let qpn := k.trans.dstQpn.toNat
    let row (i : Instr) (op : Nat) : Prop := (k.trans.opcode.toNat = op →
        (∀ u, v.takePacket t k = some u → Gives i s u) ∧ (v.takePacket t k = none → Gives i s s))
      ∧ (k.trans.opcode.toNat ≠ op → Gives i s s)
    row (.putPacket t) 0x00 ∧ row (.sendPacket t) 0x01 ∧ row (.getPacket t) 0x02 ∧ row (.atomicPacket t) 0x03 ∧ row (.getRspPacket t) 0x08
    ∧ row (.atomicRspPacket t) 0x09 ∧ row (.ackPacket t) 0x0C ∧ row (.nakPacket t) 0x0D
    ∧ (v.wake.qp? qpn = none → v.takePacket t k = some (v.wake.process1 t k))
    ∧ (v.wake.qp? qpn = some q → q.pin = true ∨ (v.wake.tile t).cached.contains qpn = true →
        v.takePacket t k = some ((v.wake.touch qpn).process1 t k))
    ∧ (v.wake.qp? qpn = some q → q.pin = false → (v.wake.tile t).cached.contains qpn = false →
        ((v.wake.tile t).missQ.length < 32 →
          v.takePacket t k = some (((v.wake.tpCount t 0).count 0x0503 t qAny 1).modTile t fun x => { x with missQ := x.missQ ++ [k] }))
        ∧ (32 ≤ (v.wake.tile t).missQ.length → v.takePacket t k = none))
  ) ∧ (
    ∀ (a : Ans) (q : Qp) (s : State), s.qp? a.qpn = some q →
    let c := q.chan a.slot
    let d := (s.ackIn a).chan a.qpn a.slot
    let reason := bits (a.w 0) 39 32
    let v := (s.count 0x0505 (a.qpn % 64) qAny 1).modChan a.qpn a.slot fun c => { c with asnRx := max c.asnRx (nearest 24 c.asnRx a.th.psn.toNat) }
    let psn := nearest 24 (v.chan a.qpn a.slot).sndCum (bits (a.w 0) 63 40)
    (a.slot < q.chans.length → c.sndCum ≤ d.sndCum ∧ (c.sndCum ≤ c.sndNext → d.sndCum ≤ c.sndNext) ∧ d.sndNext = c.sndNext)
    ∧ (reason = nSeq → psn = (v.chan a.qpn a.slot).sndCum → (v.chan a.qpn a.slot).ordered = true → s.nakIn a = v.goBack a.qpn a.slot)
    ∧ (reason = nSeq → (v.chan a.qpn a.slot).ordered = false → s.nakIn a = v)
    ∧ (reason = nCtxRetry ∨ reason = nResource → s.nakIn a = v.modChan a.qpn a.slot fun c =>
        c.backOff psn (decide (reason = nCtxRetry)) (v.clk.now + bits (a.w 0) 23 8 * usTicks))
    ∧ (reason = nAccess → s.nakIn a = v.failQp a.qpn a.slot (some psn) (if bits (a.w 0) 31 24 = cTranslation then ccTranslation else ccRemoteAccess))
    ∧ (reason = nHostGone → s.nakIn a = v.failQp a.qpn a.slot (some psn) ccHostGone)
  )

/-- R179: a request is in the window when it lies fewer than W ahead of base, recent when it lies up to W behind it, and else stale; the three
exclude each other, and base itself is in the window. Requests at their target (R179, R182 to R186, R194, R209): a stale or duplicate one
is acknowledged and changes nothing else but counters; a new one with the wrong key or range is refused, and a new PUT is placed. Access
checks (R183, R209): a key that names no region of the QP's job is BAD_KEY, an access beyond the region BOUNDS, one without the permission
PERM, and an unaligned or unknown atomic its own cause. -/
def Obligations.RequestsAtTheTarget : Prop :=
  (
    ∀ (base psn w : Nat), 1 ≤ w → w ≤ 2 ^ 14 →
    (seqClass base psn w = .inWindow ↔ ∃ d, d < w ∧ (base + d) % 2 ^ 24 = psn % 2 ^ 24)
    ∧ (seqClass base psn w = .recent ↔ ∃ d, 1 ≤ d ∧ d ≤ w ∧ (psn + d) % 2 ^ 24 = base % 2 ^ 24)
    ∧ seqClass base base w = .inWindow
  ) ∧ (
    ∀ (q : Qp) (r : Req) (x : ReqSlot) (g : Region) (cause : Nat) (plain : List Byte) (s : State),
    let t := r.qpn % 64
    let c := q.chan r.slot
    let cls := seqClass c.rcvBase r.psn (2 ^ q.winLog2)
    let again : State := ((s.tpCount t 3).count 0x0502 t qAny 1).ackEvent r.qpn r.slot
    let new := cls = .inWindow ∧ Tbl.get? c.slots r.psn = none ∧ (c.ordered = false ∨ r.psn = c.rcvBase) ∧ q.prot = false ∧ r.th.prot = 0
    let twin := c.tc = 0 ∧ r.th.retry.toNat = x.retry ∧ x.hdr.copy ≠ r.k.hdr.copy
    (cls = .stale → s.sequence q r (some plain) = (s.tpCount t 5).ackEvent r.qpn r.slot)
    ∧ (cls = .recent → Tbl.get? c.slots r.psn = none → s.sequence q r (some plain) = again)
    ∧ (cls ≠ .stale → Tbl.get? c.slots r.psn = some x → x.placed = true → ¬twin → r.th.opcode.toNat ≤ 1 → s.sequence q r (some plain) = again)
    ∧ (cls ≠ .stale → Tbl.get? c.slots r.psn = some x → x.placed = true → twin →
        s.sequence q r (some plain) = (s.tpCount t 4).ackEvent r.qpn r.slot)
    ∧ (cls ≠ .stale → Tbl.get? c.slots r.psn = some x → x.placed = true → ¬twin → r.th.opcode.toNat = 2 ∨ r.th.opcode.toNat = 3 →
        s.sequence q r (some plain) = (s.redo r x).ackEvent r.qpn r.slot)
    ∧ (cls = .inWindow → Tbl.get? c.slots r.psn = none → c.ordered = true → r.psn ≠ c.rcvBase → c.nakBase = none →
        s.sequence q r (some plain) = (s.modChan r.qpn r.slot fun c => { c with nakBase := some (c.rcvBase, s.clk.now) }).nak r.qpn r.slot c.rcvBase nSeq 0 0)
    ∧ (new → r.th.opcode.toNat = 0 → s.accessOf q { r with payload := plain } = .error cause →
        s.sequence q r (some plain) = s.refuse { r with payload := plain } cause)
    ∧ (new → r.th.opcode.toNat = 0 → s.accessOf q { r with payload := plain } = .ok g → g.kind = .hbm → plain ≠ [] → s.sequence q r (some plain) =
        (s.takeSlot { r with payload := plain }).issue (.place r.qpn r.slot r.psn) g.owner
          ((s.takeSlot { r with payload := plain }).regionSpace g (r.w 1 % 2 ^ 48)) true plain plain.length none)
  ) ∧ (
    ∀ (q : Qp) (r : Req) (g : Region) (s : State),
    let op := r.th.opcode.toNat
    let off := r.w 1 % 2 ^ 48
    let n := if op = 0 then r.payload.length else if op = 2 then r.w 0 % 2 ^ 32 else 8
    let key := s.keyRegion (r.w 0 / 2 ^ 32)
    (key = none → s.accessOf q r = .error cBadKey)
    ∧ (key = some g → g.job ≠ q.job → s.accessOf q r = .error cBadKey)
    ∧ (key = some g → g.job = q.job → g.kind ≠ .cuWindow → g.size < off + n → s.accessOf q r = .error cBounds)
    ∧ (key = some g → g.job = q.job → off + n ≤ g.size → bit g.perm (if op = 0 then pRemoteWrite else if op = 2 then pRemoteRead else pRemoteAtomic) = false →
        s.accessOf q r = .error cPerm)
    ∧ (key = some g → g.job = q.job → off + n ≤ g.size → bit g.perm pRemoteAtomic = true → g.prot = q.prot → r.th.notify = 0 → op = 3 → off % 8 ≠ 0 →
        s.accessOf q r = .error cMisalign)
    ∧ ∀ a, s.accessOf q r = .ok a → key = some a ∧ a.job = q.job ∧ a.prot = q.prot ∧ (a.kind ≠ .cuWindow → off + n ≤ a.size)
  )

/-- Timers of a channel (R190, R197 to R203, R459): each acts at its time, which a step of its row brings about. R197: the retransmission
timeout doubles with each retry, up to the lifetime of a packet. Quarantine and holds (R168, R169, R299): after LT + 3 µs a QP returns to
RESET or its QPN is free, its GEN kept, and a region's index may be used again. -/
def Obligations.TransportTimers : Prop :=
  (
    ∀ (qpn psn t : Nat) (slot : Fin 2) (tile : Fin 64) (q : Qp) (k : Track) (p : Packet) (rest : List Packet)
      (i : Nat) (s : State), s.qp? qpn = some q →
    let lost : State := (s.modTile tile fun x => { x with lost := rest }).tpCount tile 9
    ((q.chan slot).ackFrom = some t → q.st = .rts → s.works = true → Gives (.ackDelayTimer qpn slot) s ((s.reach (t + q.ackDelay * 256)).sendAck qpn slot))
    ∧ (s.tracker qpn slot psn = some k → s.mayInject = true →
        Gives (.rtoExpiry qpn slot psn) s ((s.reach (k.lastSent + s.rto q k.retry)).rtoFires qpn slot k)
        ∧ (k.backoffAt = some t → Gives (.nakBackoffExpiry qpn slot psn) s ((s.reach t).resendOr qpn slot k)))
    ∧ (s.tracker qpn slot psn = some k → s.works = true →
        Gives (.lifeLimitExpiry qpn slot psn) s ((s.reach (k.firstSent + q.lifeMax * s.ltTicks)).spendQp qpn slot k))
    ∧ (s.resendOr qpn slot k = if k.retry + 1 ≤ q.retryMax then s.resend qpn slot k else s.spendQp qpn slot k)
    ∧ ((s.tile tile).lost = p :: rest → p.trans.srcQpn.toNat = qpn → q.slotOf p.tc = some i → lost.tracker qpn i p.trans.psn.toNat = some k →
        p.tc ≠ 0 → p.trans.gen.toNat = q.gen → k.acked = false → lost.mayInject = true → lost.qp? qpn = some q → Gives (.linkLost tile) s (lost.resendOr qpn i k))
    ∧ ((s.tile tile).lost = p :: rest → p.trans.srcQpn.toNat = qpn → q.slotOf p.tc = some i → lost.qp? qpn = some q →
        (lost.tracker qpn i p.trans.psn.toNat).isSome = true → p.tc = 0 → Gives (.linkLost tile) s lost)
  ) ∧ (
    ∀ (q : Qp) (k : Nat) (s : State),
    s.rto q k = min (q.rtoBase * 2 ^ k * usTicks) (s.time.lt * 16384) ∧ s.rto q k ≤ s.rto q (k + 1)
  ) ∧ (
    ∀ (qpn i t : Nat) (q : Qp) (g : Region) (s : State),
    let wait := s.time.lt * 16384 + 3 * usTicks
    (s.qp? qpn = some q → q.st = .quarantine → q.freeing = false → Gives (.quarantineExpiry qpn) s
        ((s.reach (q.quarFrom + wait)).setQp qpn { q with st := .reset, errCode := 0 }))
    ∧ (s.qp? qpn = some q → q.st = .quarantine → q.freeing = true → ∃ u : State,
        let v := s.reach (q.quarFrom + wait)
        Gives (.quarantineExpiry qpn) s u
      ∧ u = { v with qps := Tbl.erase s.qps qpn, gens := Tbl.set s.gens qpn q.gen, tiles := u.tiles }
      ∧ (∀ i, u.tile i = { s.tile i with cached := (s.tile i).cached.filter (· ≠ qpn) })
      ∧ u.qp? qpn = none ∧ Tbl.getD u.gens qpn 0 = q.gen)
    ∧ (s.qp? qpn = some q → q.st ≠ .quarantine → exec (.quarantineExpiry qpn) s = .next s)
    ∧ (s.region? i = some g → g.hold = some t → Gives (.regionHoldExpiry i) s ((s.reach (t + wait)).setRegion i { g with hold := none }))
  )

/-- The match rule (R220): the communicator is never a wildcard; ANY takes every rank, and MASK says which bits of the tag are compared. -/
def Obligations.MatchRule : Prop :=
  ∀ (r : Posted) (k : InMsg),
  (r.matches k = true ↔ r.comm = k.comm ∧ (r.any = true ∨ r.rank = k.rank) ∧ (r.tagv ^^^ k.tagv) &&& r.mask = 0)
  ∧ (r.matches k = true → r.comm = k.comm)
  ∧ (r.mask = BitVec.allOnes 64 → r.matches k = true → r.tagv = k.tagv)
  ∧ (r.mask = 0 → (r.matches k = true ↔ r.comm = k.comm ∧ (r.any = true ∨ r.rank = k.rank)))
  ∧ (r.matches k = true ↔ r.comm = k.comm ∧ (r.any = true ∨ r.rank = k.rank)
      ∧ ∀ i, i < 64 → r.mask.getLsbD i = true → r.tagv.getLsbD i = k.tagv.getLsbD i)

/-- The mark exchange (R32 to R37): a MARK falls due 10 µs after the last; a MARK is answered by a REPLY with the NT of its arrival, a REPLY
makes a valid sample or a failed one, and none in time a failed one. The sixteenth failure in a row loses the link's time. A valid sample
(R36, R37): 8 delays within 1 ns of each other lock the link; the parent's sample steers the module, within 100 ppm. -/
def Obligations.TimeSynchronisation : Prop :=
  (
    ∀ (p : Fin 64) (b : List Byte) (o : OutMark) (st : TStatus) (t0 : Nat) (s : State),
    let t := s.tport p
    let at64 (off : Nat) : U64 := BitVec.ofNat 64 (beNat ((b.drop off).take 8))
    let t4 := s.clk.nt
    let theta := (toSigned 64 ((t4 - at64 20) - (at64 12 - o.t1now) + BitVec.ofInt 64 t.asym).toNat).tdiv 2
    let d := (toSigned 64 ((t4 - o.t1now) - (at64 20 - at64 12)).toNat).tdiv 2
    let ok := beNat ((b.drop 2).take 2) = o.seq.toNat ∧ at64 4 = o.t1 ∧ ntDiff t4 o.t1now ≤ 512000 ∧ 0 ≤ d ∧ d ≤ 256000
      ∧ (t.link ≠ .locked ∨ (d - t.delay).natAbs ≤ 256)
    ((s.link p).st.up = true →
      (t.out = none → t.markWait = false → t.markAt = none → Gives (.markSend p) s (s.setTport p { t with markWait := true, markAt := some s.clk.now }))
      ∧ (t.out = none → t.markWait = false → t.markAt = some t0 → 
          let u := s.reach (t0 + 10 * usTicks)
          Gives (.markSend p) s (u.setTport p { u.tport p with markWait := true, markAt := some u.clk.now }))
      ∧ (t.out.isSome = true ∨ t.markWait = true → t.markAt = some t0 →
          let u := (s.reach (t0 + 10 * usTicks)).failSample p
          Gives (.markSend p) s (u.setTport p { u.tport p with markWait := true, markAt := some u.clk.now }))
      ∧ (field b 0 1 = 1 → flagStatus (field b 1 1) = some st → Gives (.markFlit p b) s ((s.hear p st b).sendLctl p
          (.reply (fit 64 ([0x02, 0x00] ++ (b.drop 2).take 10 ++ beBytes 8 s.clk.nt.toNat)))))
      ∧ (field b 0 1 = 2 → flagStatus (field b 1 1) = some st → t.out = some o →
          (ok → Gives (.replyFlit p b) s ((s.validSample p theta d st).hear p st b))
          ∧ (¬ ok → Gives (.replyFlit p b) s ((s.failSample p).hear p st b))))
    ∧ (t.out = some o → Gives (.replyDeadline p) s ((s.reachNt (o.t1now + 512000)).failSample p))
    ∧ (15 ≤ t.failRun → t.link ≠ .lost → ∃ c : State, s.failSample p = c.linkTimeLost p ∧ Only [.time, .perf] s c
        ∧ (c.tport p).failRun = 16 ∧ (c.tport p).out = none)
    ∧ (t.failRun < 15 → ((s.failSample p).tport p).failRun = t.failRun + 1 ∧ ((s.failSample p).tport p).link = t.link
        ∧ Only [.time, .perf] s (s.failSample p) ∧ ∀ q ≠ p.val, (s.failSample p).tport q = s.tport q)
  ) ∧ (
    ∀ (p : Fin 64) (theta d : Int) (st : TStatus) (s : State),
    let t := s.tport p
    let u := s.validSample p theta d st
    (u.tport p).failRun = 0 ∧ (u.tport p).theta = theta ∧ (u.tport p).out = none
    ∧ (t.link = .lost → (u.tport p).link = .acquire ∧ (u.tport p).delay = d ∧ (u.tport p).run = [d])
    ∧ (t.link = .locked → (u.tport p).link = .locked)
    ∧ (t.link ≠ .lost → (u.tport p).delay = t.delay + (d - t.delay).tdiv 16)
    ∧ (t.link = .acquire → (u.tport p).link = .locked → t.run.length ≥ 7 ∧ ∀ x ∈ (d :: t.run).take 8, (x - d).natAbs ≤ 256)
    ∧ (s.time.parent = some p.val → s.time.root = false → -100000 ≤ u.time.rateAdj ∧ u.time.rateAdj ≤ 100000 ∧ u.time.theta = theta)
    ∧ (s.time.parent ≠ some p.val → u.time.rateAdj = s.time.rateAdj ∧ u.time.integ = s.time.integ)
    ∧ Only [.time] s u ∧ ∀ q ≠ p.val, u.tport q = s.tport q
  )

/-- Status, references and PPS (R30, R31, R39, R40, R42): another LOCKED candidate after 1 ms, LOST past HOLD_LIMIT, REF_LOCK and its loss,
and the pulse that starts with each second of NT and lasts 100 ms. Gates and the bound (R152 to R154, R161): a due change takes effect, at
the latest when NT reaches it; 1 ms after it was last counted, a long or blocked TC0 packet no longer counts. -/
def Obligations.TimeStatusAndGates : Prop :=
  (
    ∀ (p q : Nat) (s : State),
    let next := (s.clk.nt.toNat / 256000000000 + 1) * 256000000000
    let t := if next < 2 ^ 64 then next else 0
    let lost : State := { s with time := { s.time with refLock := false } }
    (s.time.parent = some q → s.time.status ≠ .locked → (s.tport q).partner ≠ .locked →
        s.ranked.find? (fun p => decide (p ≠ q) && s.takeable p && (s.tport p).partner == .locked) = some p → ∃ u : State,
        u = (s.reach (s.time.parentBad + msTicks)).takeParent p ∧ Gives .parentStatusWait s (u.setStatus (if u.withinHold then .locked else .lost)))
    ∧ (s.time.status = .holdover → s.time.root = false → Gives .holdoverLimit s
        ((s.reach (s.time.errFrom + (s.time.holdLimit * 256 + 1 - s.time.errBase) * 1000000)).setStatus .lost))
    ∧ (s.time.status ≠ .holdover → exec .holdoverLimit s = .next s)
    ∧ (s.ppsRoot = true → ∃ u : State, Gives .ppsInEdge s u ∧ Only (.free :: .time :: .pins :: reporting) s u ∧ u.time.rateAdj.natAbs ≤ 100000
      ∧ (s.ppsError = 0 → u.time.rateAdj = 0) ∧ (0 < s.ppsError → u.time.rateAdj ≤ 0) ∧ (s.ppsError < 0 → 0 ≤ u.time.rateAdj)
      ∧ (s.ppsError.natAbs ≤ 512 → u.time.refLock = (s.time.refLock || u.pins.tref10m)) ∧ (12800 < s.ppsError.natAbs → u.time.refLock = false)
      ∧ (512 < s.ppsError.natAbs → s.ppsError.natAbs ≤ 12800 → u.time.refLock = s.time.refLock))
    ∧ (s.ppsRoot = true → (s.time.refLock = true → Gives .timeRefLost s
          (lost.timeEvent 0x0013 4 (timeData lost.time.status lost.time.status lost.time.parent lost.time.parent lost.errBound)))
        ∧ (s.time.refLock = false → Gives .timeRefLost s s))
    ∧ (s.time.ntValid = true → s.dieRuns = true → Gives .ppsOutStart s
        { s.reachNt (BitVec.ofNat 64 t) with pins := { s.pins with ppsOut := true, ppsOutUntil := BitVec.ofNat 64 (t + 100 * msTicks) } })
    ∧ (s.pins.ppsOut = true → Gives .ppsOutEnd s { s.reachNt s.pins.ppsOutUntil with pins := { s.pins with ppsOut := false } })
  ) ∧ (
    ∀ (p : Fin 64) (t0 : Nat) (s : State),
    let x := s.sched p
    let y := (s.gateSync p).sched p
    let same := x.active = y.active ∧ x.index = y.index ∧ x.openMask = y.openMask ∧ x.running = y.running
    (¬ same → Gives (.gateChange p) s (s.gateSync p))
    ∧ (same → x.gateEn = true → s.time.ntValid = true → Gives (.gateChange p) s
        ((s.reachNt (BitVec.ofNat 64 (x.nextGate s.clk.nt.toNat))).gateSync p))
    ∧ (x.boundBadAt = none → Gives (.boundOkRestore p) s s)
    ∧ (x.boundBadAt = some t0 → Gives (.boundOkRestore p) s ((s.reach (t0 + msTicks)).setSched p { x with boundBadAt := none }))
    ∧ (x.gateEn = false ∨ s.time.ntValid = false → y.running = false ∧ y.openMask = 0xFF ∧ y.active = x.active)
    ∧ (x.gateEn = true → s.time.ntValid = true → (x.bank x.active).base.toNat ≤ s.clk.nt.toNat → x.pend = false → y.running = true ∧ y.active = x.active)
  )

/-- The slot of a port (R135, R436, R437, R448, R464): ALIGN first, then what the pacer releases, then data; in STEP markers and IDLE alone; DOWN
fills every slot of a port that is down. R135: with nothing to replay and room in the escrow, a TC0 packet goes before any other, the one under way first; a packet under way
on the other stream goes on when there is none; else deficit round robin chooses, and with nothing eligible the slot is IDLE. R145:
deficit round robin chooses only an eligible class of TC1 to TC7 with a packet waiting, and never lets a class send past its deficit: what
it keeps is what it had, with at most one quantum more, less the packet's counted length. What the lanes carry (R429 to R433): a slot's bits
are scrambled, but an ALIGN flit goes plain and leaves the scrambler at all ones; the tenth slot sends the codeword, 514 message symbols and
30 of parity, symbol k on lane k mod w as five PAM4 levels, or ten NRZ symbols at rate code 3. -/
def Obligations.SchedulingAtAPort : Prop :=
  (
    ∀ (p : Fin 64) (f : Lctl) (rest : List Lctl) (s : State),
    let st := (s.link p).st
    let g := s.gateSync p
    let taken := g.takeLctl p f rest
    let slot := (s.link p).tx.slot
    (st = .down → Gives (.flitBoundary p) s (s.lctlSlot p (.down (s.link p).cause.code)))
    ∧ (st = .step → slot % 10 = 0 → (s.link p).alignDue (slot / 10) = true →
        Gives (.flitBoundary p) s (s.lctlSlot p (.align (BitVec.ofNat 32 (slot / 10)))))
    ∧ (st = .step → slot % 10 ≠ 0 → Gives (.flitBoundary p) s (s.lctlSlot p .idle))
    ∧ (st = .align ∨ st = .capx ∨ st = .active ∨ st = .doze →
        (g.paced p = .align → Gives (.flitBoundary p) s (g.lctlSlot p (.align (BitVec.ofNat 32 ((g.link p).tx.slot / 10)))))
        ∧ (g.paced p = .mark → Gives (.flitBoundary p) s (g.sendMark p))
        ∧ (g.paced p = .flit f rest → Gives (.flitBoundary p) s (taken.lctlSlot p (taken.stamped p f)))
        ∧ (g.paced p = .none → st = .active ∨ st = .doze → Gives (.flitBoundary p) s (((g.coinWait p).ctlFirst p).dataSlot p))
        ∧ (g.paced p = .none → st = .align ∨ st = .capx → Gives (.flitBoundary p) s (g.lctlSlot p .idle)))
  ) ∧ (
    ∀ (p : Fin 64) (k : Packet) (g g0 : TxProg) (s : State),
    let l := s.link p
    let x := s.sched p
    let tc0 := 0 ≤ (tc0Bucket l x).tokensAt s.clk.now ∧ coinsFor l k = true ∧ (s.ctlOnly p = false ∨ k.hdr.vn = 2)
    let r := drrChoose x (s.eligibleClass p) 300 x
    l.tx.replay = none → l.tx.escrow.length < 6144 →
    (l.tx.prog.getD 1 none = some g → s.dataSlot p = (s.preempt p).sendFlit p g 1)
    ∧ (l.tx.prog.getD 1 none = none → (x.queues.getD 0 []).head? = some k → tc0 → s.dataSlot p = (s.preempt p).startPacket p 0 1)
    ∧ (l.tx.prog.getD 1 none = none → x.queues.getD 0 [] = [] →
        (l.tx.prog.getD 0 none = some g0 → s.dataSlot p = (s.overrun p g0).sendFlit p g0 0)
        ∧ (l.tx.prog.getD 0 none = none → (∀ c, r.1 = some c → s.dataSlot p = (s.setSched p r.2).startPacket p c 0)
            ∧ (r.1 = none → s.dataSlot p = (s.setSched p r.2).lctlSlot p .idle)))
  ) ∧ (
    ∀ (x : SchedPort) (elig : Nat → Bool) (n i : Nat) (d : Drr) (c : Nat) (d' : Drr), d.deficit.length = 8 →
    d.fresh.length = 8 → n ≤ 7 → i + n ≤ 7 → drrScan x elig n i d = (some c, d') →
    1 ≤ c ∧ c ≤ 7 ∧ elig c = true ∧ d'.ptr = c - 1 ∧ ∃ k q, x.queues.getD c [] = k :: q
      ∧ d'.deficit.getD c 0 + x.counted k = d.deficit.getD c 0 + (if d.fresh.getD c false then 0 else x.quanta.getD c 16384)
  ) ∧ (
    ∀ (p code : Nat) (f : Lctl) (stream : Nat) (bytes : List Byte) (s : State),
    let l := s.link p
    let line := l.tx.line
    let plain := BitVec.ofNat 512 (beNat (fit 64 bytes))
    let key := scrBits 512 0 line.scr
    let sent := plain ^^^ BitVec.ofNat 512 key.1
    let filled (x : Line) : State := s.setLink p { l with tx := { l.tx with slot := l.tx.slot + 1, line := x } }
    let full := line.slots ++ [(code, sent)]
    (line.slots.length < 9 → s.fillSlot p code false bytes = filled { line with scr := key.2, slots := full }
      ∧ s.fillSlot p code true bytes = filled { line with scr := BitVec.allOnes 58, slots := line.slots ++ [(code, plain)] })
    ∧ (line.slots.length = 9 → s.fillSlot p code false bytes = (filled { line with scr := key.2, slots := [] }).emit
        (.codeword p line.rate ((List.range line.width).map fun i => laneLevels line.width line.rate i (codeword full))))
    ∧ ((∀ cw, f ≠ .align cw) → s.lctlSlot p f = (s.emit (.lctl p f)).fillSlot p 2 false f.bytes)
    ∧ (∀ cw, s.lctlSlot p (.align cw) = (s.emit (.lctl p (.align cw))).fillSlot p 2 true (Lctl.align cw).bytes)
    ∧ s.flitSlot p stream bytes = (s.emit (.dataFlit p stream bytes)).fillSlot p stream false bytes
  ) ∧ (
    ∀ (slots : List (Nat × BitVec 512)) (x : BitVec 58) (k w : Nat) (v : BitVec 10),
    (codeword slots).length = 544 ∧ (codeword slots).take 514 = messageSymbols slots
    ∧ (k < 514 → (codeword slots).getD k 0 = BitVec.ofNat 10 (messageBits slots / 2 ^ (10 * (513 - k))))
    ∧ (scrStep x).1 = (x.getLsbD 57 != x.getLsbD 38) ∧ (scrStep x).2.getLsbD 0 = (scrStep x).1
    ∧ (∀ i, i < 57 → (scrStep x).2.getLsbD (i + 1) = x.getLsbD i)
    ∧ (w = 8 ∨ w = 4 ∨ w = 2 ∨ w = 1 → k < w → (laneLevels w 0 k (codeword slots)).length = 5 * (544 / w)
        ∧ (laneLevels w 3 k (codeword slots)).length = 10 * (544 / w))
    ∧ (levels 3 v).length = 10 ∧ (levels 0 v).length = 5 ∧ (levels 0 v).headD 0 = gray (v.toNat / 256)
    ∧ [gray 0, gray 1, gray 3, gray 2] = [0, 1, 2, 3]
  )

/-- Cables (R462, R477, R478): insertion puts CBL_VCC on while the die runs, removal declares the four links down, power good lets the ports
leave DETECT; an identification is accepted for TYPE 1 or 2 of POWER up to 15, and rejected else; a power failure is a CABLE_POWER fault.
DETECT, CLOCK and SLOW (R424, R441, R442): each state is left by its condition or its time-out; a block with good CRC is counted, one
without starts its lane's count again, and 16 GO blocks each way lead to EQUALIZE. EQUALIZE to ACTIVE (R424, R439 to R441, R461): rates
are trained from the target down, then ALIGN and CAPX, which ends once a CAP with SEEN has gone each way; an incompatible partner waits 1
s; DOWN leads where its cause says. -/
def Obligations.CablesAndBringUp : Prop :=
  (
    ∀ (k : Fin 16) (mem : List Byte) (s : State),
    let c := s.conn k
    let ports := [4 * k.val, 4 * k.val + 1, 4 * k.val + 2, 4 * k.val + 3]
    let fitting := (field mem 0 1 = 1 ∨ field mem 0 1 = 2) ∧ field mem 3 1 ≤ 15
    let id := c.pg = true ∧ c.accepted = false ∧ c.rejected = false
    (c.present = false → Gives (.cableInserted k) s
        (let v := s.setConn k { Connector.reset with present := true, vcc := s.dieRuns, onAt := s.clk.now }
         if s.dieRuns then v.cableChange k else v))
    ∧ (c.present = true → Gives (.cableRemoved k) s ((State.cableChange
        (ports.foldl (fun s p => s.declareDown p .cableRemoved) (s.setConn k Connector.reset)) k).event 0x0024 0xFFFF [BitVec.ofNat 8 k.val]))
    ∧ (∀ v : State, v.cableChange k = ports.foldl (fun v p => v.portInt p 2) v)
    ∧ (c.vcc = true → c.pg = false → Gives (.cablePgAssert k) s
        ((s.setConn k { c with pg := true, powerOk := true }).event 0x0023 0xFFFF [BitVec.ofNat 8 k.val]))
    ∧ (id → fitting → Gives (.cableIdReadDone k mem) s
        (s.setConn k { c with accepted := true, ctype := field mem 0 1, lengthDm := beNat ((mem.drop 1).take 2) }))
    ∧ (id → ¬ fitting → Gives (.cableIdReadDone k mem) s
        ((s.setConn k { c with rejected := true, vcc := false, pg := false, powerOk := false }).event 0x0025 0xFFFF [BitVec.ofNat 8 k.val]))
    ∧ (c.vcc = true → c.pg = false → Gives (.cablePowerTimeout k) s ((s.reach (c.onAt + 100 * msTicks)).cablePowerFails k 0))
    ∧ (c.vcc = true → Gives (.cableOvercurrent k) s (s.cablePowerFails k 1))
    ∧ (∀ n, s.cablePowerFails k n =
        (s.setConn k { c with vcc := false, pg := false, powerOk := false, failed := true }).fault (0x0200 + 4 * k) .cablePower none (n + at_ k 4) 0)
  ) ∧ (
    ∀ (p : Fin 64) (lane : Fin 8) (w : BitVec 128) (s : State),
    let l := s.link p
    let inv := w.extractLsb' 96 32 = ~~~syncWord
    let b := if w.extractLsb' 96 32 == ~~~syncWord then ~~~w else w
    let good := (inv ∨ w.extractLsb' 96 32 = syncWord) ∧ blockGood b = true
    let fallen (v : State) : State := v.setLink p
      { v.link p with st := .detect, since := v.clk.now, cause := .trainTimeout, width := 0, train := { LinkTrain.reset with trained := 8 } }
    (l.st = .detect → s.cableReady p = true → Gives (.detectClock p) s
        (let v := s.reach (l.since + 100 * usTicks)
         v.setLink p { v.link p with st := .clock, since := v.clk.now }))
    ∧ (l.st = .clock → Gives (.clockLocked p) s
        (let v := s.reach (l.since + 10 * usTicks)
         v.setLink p { v.link p with st := .slow, since := v.clk.now, width := 0, train := { LinkTrain.reset with ckLock := true } }))
    ∧ (l.st = .clock → Gives (.clockTimeout p) s (fallen s))
    ∧ (l.st = .slow → Gives (.slowTimeout p) s (fallen (s.reach (l.since + 2 * msTicks))))
    ∧ (l.st ≠ .slow → exec (.tsNrzBlock p lane w) s = .next s)
    ∧ (l.st = .slow → ∃ (m : LinkPort) (mine : Nat), m = { l with train := m.train } ∧ mine = m.train.phase (b.extractLsb' 88 4).toNat
      ∧ (good → m.train.goodRun = put l.train.goodRun lane (min 8 (l.train.goodRun.getD lane 0 + 1))
          ∧ m.train.partnerRates = (b.extractLsb' 84 3).toNat + 8 ∧ m.train.partnerMaxWidth = (b.extractLsb' 80 4).toNat
          ∧ m.train.partnerAck.getLsbD lane = b.getLsbD 87 ∧ m.train.polarity.getLsbD lane = decide inv)
      ∧ (¬ good → m.train.goodRun = put l.train.goodRun lane 0 ∧ m.train.partnerRates = l.train.partnerRates)
      ∧ (lane.val ≠ 0 → m.train.goGot = l.train.goGot ∧ m.train.goSent = l.train.goSent)
      ∧ (lane.val = 0 → m.train.goSent = (if mine = 2 then min 16 (l.train.goSent + 1) else 0)
          ∧ (¬ good → m.train.goGot = 0)
          ∧ (good → m.train.goGot = if (b.extractLsb' 88 4).toNat = 2 ∧ b.getLsbD 87 = true then min 16 (l.train.goGot + 1) else 0))
      ∧ (m.train.goGot < 16 ∨ m.train.goSent < 16 ∨ m.targetW = 0 ∨ m.targetR = none →
          Gives (.tsNrzBlock p lane w) s ((s.setLink p m).emit (.trainBlock p lane (m.block lane mine).word)))
      ∧ ∀ r, 16 ≤ m.train.goGot → 16 ≤ m.train.goSent → m.targetW ≠ 0 → m.targetR = some r → Gives (.tsNrzBlock p lane w) s
          ((s.setLink p { m with st := .equalize, since := s.clk.now,
                                 train := { m.train with targetRate := r, targetWidth := m.targetW, eqRate := r, trained := 8, eqSelf := false,
                                                         eqPartner := false } }).emit (.trainBlock p lane (m.block lane mine).word)))
  ) ∧ (
    ∀ (p : Fin 64) (lanes : BitVec 8) (c : List Byte) (w : BitVec 128) (s : State),
    let l := s.link p
    let t := l.train
    let width := if t.trained = 8 then widthWithin lanes t.targetWidth else t.targetWidth
    let pass := width ≠ 0 ∧ ∀ i, i < width → lanes.getLsbD i = true
    let passed := { t with trained := t.trained + 2 ^ t.eqRate, targetRate := if t.trained = 8 then t.eqRate else t.targetRate, targetWidth := width,
                           laneOk := lanes, eqSelf := false, eqPartner := false }
    let back (v : State) (st : PortSt) : State := (v.setLink p { v.link p with cause := .trainTimeout }).enterPort p st
    let capped (seen : Bool) : LinkPort :=
      { l with tx := { l.tx with lctl := l.tx.lctl ++ [.cap (s.capBytes p seen)] },
               cap := { l.cap with seq := l.cap.seq + 1, repeats := l.cap.repeats - 1 },
               train := { t with capSent := t.capSent || seen } }
    let heard (ns : Nat) (known : Bool) : LinkPort :=
      { l with cap := { l.cap with partner := fit 64 c, echo := BitVec.ofNat 16 (beNat ((c.drop 50).take 2)), gotAt := s.clk.now, rttNs := ns,
                                   rttKnown := known },
               tx := { l.tx with partnerRes := (List.range 12).map (fun v => beNat ((c.drop (22 + 2 * v)).take 2)),
                                 partnerTotal := beNat ((c.drop 20).take 2) },
               train := { t with capSeen := true, capGot := t.capGot || bit (field c 2 1) 0 } }
    (l.st = .equalize → blockGood w = true → Gives (.tsPamBlock p w) s
        (let v := (s.fresh 5).1
         let lane := (w.extractLsb' 92 4).toNat
         let m := { l with train := { t with eqReq := (w.extractLsb' 72 2).toNat + 4 * (w.extractLsb' 70 2).toNat, eqPartner := w.getLsbD 69,
                                             eqSelf := bit v 4 } }
         ((s.fresh 5).2.setLink p m).emit (.trainBlock p lane
           ({ m.block lane 3 with preReq := v % 4 % 3, postReq := v / 4 % 4 % 3, eqDone := bit v 4 } : TrainBlock).word)))
    ∧ (l.st = .equalize → pass → t.eqRate < 2 →
        Gives (.equalizePass p lanes) s (s.setLink p { l with train := { passed with eqRate := t.eqRate + 1 }, since := s.clk.now }))
    ∧ (l.st = .equalize → pass → 2 ≤ t.eqRate →
        Gives (.equalizePass p lanes) s (s.setLink p
          { l with train := passed, st := .align, since := s.clk.now,
                   tx := { l.tx with slot := 0, lctl := [], line := { Line.reset with width := width, rate := passed.targetRate } } }))
    ∧ (l.st = .equalize → t.eqRate < 2 → Gives (.equalizeTimeout p) s
        (let v := s.reach (l.since + 20 * msTicks)
         v.setLink p { v.link p with train := { t with eqRate := t.eqRate + 1 }, since := v.clk.now, cause := .trainTimeout }))
    ∧ (l.st = .equalize → 2 ≤ t.eqRate → Gives (.equalizeTimeout p) s (back (s.reach (l.since + 20 * msTicks)) .detect))
    ∧ (l.st = .align → Gives (.alignLock p) s (s.setLink p
        { l with st := .capx, since := s.clk.now,
                 train := { t with markerLock := BitVec.ofNat 8 (2 ^ t.targetWidth - 1), capSent := false, capGot := false, capSeen := false,
                                   incompatible := false },
                 cap := { l.cap with sentAt := [], echo := 0, gotAt := 0, rttKnown := false, rttNs := 0, repeats := 0 } }))
    ∧ (l.st = .align → Gives (.alignTimeout p) s (back (s.reach (l.since + msTicks)) .slow))
    ∧ (l.st = .capx → t.incompatible = false → t.capGot = false ∨ (t.capSeen = false ∧ t.capSent = false) →
        Gives (.capSend p) s (s.setLink p (capped t.capSeen)))
    ∧ (l.st = .capx → t.incompatible = false → t.capGot = true → t.capSeen = true → Gives (.capSend p) s ((s.setLink p (capped true)).linkUp p))
    ∧ (l.st = .active → l.cap.repeats ≠ 0 → Gives (.capSend p) s (s.setLink p (capped true)))
    ∧ (l.st = .capx → field c 0 1 = 6 → capCompatible c = true → ∃ (ns : Nat) (known : Bool), (l.cap.rttKnown = true → known = true ∧ ns ≤ l.cap.rttNs)
        ∧ (t.capSent = false → Gives (.capFlit p c) s (s.setLink p (heard ns known)))
        ∧ (t.capSent = true → t.capGot = true ∨ bit (field c 2 1) 0 = true → Gives (.capFlit p c) s ((s.setLink p (heard ns known)).linkUp p)))
    ∧ (l.st = .capx → field c 0 1 = 6 → capCompatible c = false →
        Gives (.capFlit p c) s (s.setLink p { l with cause := .incompatible, train := { t with incompatible := true } }))
    ∧ (l.st = .capx → t.incompatible = false → Gives (.capxTimeout p) s (back (s.reach (l.since + msTicks)) .slow))
    ∧ (l.st = .capx → t.incompatible = true → Gives (.incompatibleHold p) s ((s.reach (l.since + secTicks)).enterPort p .detect))
    ∧ (l.st = .down →
        let v := s.reach (l.since + usTicks)
        let other := l.cause ≠ .disabled ∧ l.cause ≠ .isolated ∧ l.cause ≠ .power ∧ l.cause ≠ .retrain
        (l.cause = .disabled ∨ l.cause = .isolated ∨ l.cause = .power → Gives (.downTimer p) s (v.enterPort p .disabled))
        ∧ (l.cause = .retrain → Gives (.downTimer p) s (v.enterPort p (if t.ckLock then .slow else .detect)))
        ∧ (other → l.cfg.autoRetrain = false → Gives (.downTimer p) s (v.enterPort p .disabled))
        ∧ (other → l.cfg.autoRetrain = true → l.downs.length < 8 →
            Gives (.downTimer p) s (v.enterPort p .detect))
        ∧ (other → l.cfg.autoRetrain = true → 8 ≤ l.downs.length →
            let h := (v.enterPort p .holdoff).portInt p 5
            Gives (.downTimer p) s (h.event 0x0022 (0x0200 + p) (h.portData p l.cause.code 0))))
    ∧ (l.st = .holdoff → Gives (.holdoffExpiry p) s ((s.reach (l.since + 10 * secTicks)).enterPort p .detect))
    ∧ s.enterPort p .detect = s.setLink p { l with st := .detect, since := s.clk.now, width := 0, train := { LinkTrain.reset with trained := 8 } }
    ∧ s.enterPort p .slow = s.setLink p { l with st := .slow, since := s.clk.now, width := 0, train := { LinkTrain.reset with ckLock := t.ckLock } }
    ∧ s.enterPort p .disabled = s.setLink p { l with st := .disabled, since := s.clk.now, width := 0, train := LinkTrain.reset }
    ∧ s.enterPort p .holdoff = s.setLink p { l with st := .holdoff, since := s.clk.now, width := 0, train := LinkTrain.reset }
  )

/-- Entry to ACTIVE, and a link declared down (R439, R444, R458 to R461): sequence numbers and coins start afresh; what the port held is
dropped, the till keeps its packets, and nothing stays queued. Timers of a link (R446 to R449, R456, R464): an ACK at the latest 1 µs
after the last, a replay when the ack timer expires with a flit unacknowledged, another REPLAY_REQ, and the declarations of R424, R456 and
R457. Operating points (R463 to R465): a request sets the partner's wants; a width alone switches at once, a rate or DOZE passes through
STEP, which waits for a running replay, and ends at the point named. -/
def Obligations.LinksAndOperatingPoints : Prop :=
  (
    ∀ (p : Nat) (c : DownCause) (s : State),
    let l := s.link p
    let u := s.linkUp p
    let d := s.declareDown p c
    (l.want = Point.full → l.pwant = Point.full → (u.link p).st = .active ∧ (u.link p).tx.next = 0 ∧ (u.link p).tx.escrow = []
      ∧ (u.link p).tx.occ = List.replicate 12 0 ∧ (u.link p).rx.expect = 0 ∧ (u.link p).rx.till = l.rx.till ∧ (u.link p).width = l.train.targetWidth
      ∧ (u.link p).rate = l.train.targetRate)
    ∧ Only (.links :: .scheds :: .route :: reporting) s u ∧ Elsewhere p s u
    ∧ (l.st.up = false → d = s)
    ∧ (l.st.up = true → (d.link p).st = .down ∧ (d.link p).cause = c ∧ (d.link p).width = 0 ∧ (d.link p).tx.escrow = []
      ∧ (d.link p).rx.till = l.rx.till.map (fun k => { k with old := true }) ∧ (d.sched p).queues = List.replicate 8 [])
    ∧ Only (.clk :: .time :: .links :: .scheds :: .route :: .tiles :: .net :: reporting) s d ∧ Elsewhere p s d
  ) ∧ (
    ∀ (p : Fin 64) (t0 cause : Nat) (f : EFlit) (rest : List EFlit) (s : State),
    let l := s.link p
    (l.st.up = true → Gives (.ackSendTimer p) s
        ((s.reach (if l.rx.due then min (l.rx.dueFrom + 100 * 256) (l.rx.ackAt + usTicks) else l.rx.ackAt + usTicks)).queueAck p))
    ∧ (l.st.up = true → l.st ≠ .step → l.tx.escrow = f :: rest → Gives (.ackTimer p) s
        (let v := s.reach (l.tx.ackFrom + l.ackEffNs * 256)
         (v.setLink p { v.link p with tx := { l.tx with ackFrom := v.clk.now } }).startReplay p f.seq 2))
    ∧ (l.st.up = true → l.st ≠ .step → l.rx.waiting = true → Gives (.replayWaitTimer p) s
        ((s.reach (l.rx.waitFrom + l.ackEffNs * 256)).replayRequest p 3))
    ∧ (l.st.up = true → l.st ≠ .step → l.tx.creditFrom = some t0 → Gives (.creditTimeout p) s
        ((s.reach (t0 + l.cfg.creditTimeout * usTicks)).declareDown p .creditTimeout))
    ∧ (l.st.up = true → Gives (.clockLost p) s
        ((s.modLink p fun l => { l with train := { l.train with ckLock := false } }).declareDown p .clockLost))
    ∧ Gives (.lockLost p) s (s.declareDown p .lockLost) ∧ Gives (.downFlit p cause) s (s.declareDown p .partnerDown)
    ∧ (l.st = .step → Gives (.stepTimeout p) s ((s.reach (l.since + 20 * usTicks)).declareDown p .wakeFailed))
  ) ∧ (
    ∀ (p : Fin 64) (doze : Bool) (width rate : Nat) (cw : U32) (pt : Point) (at_ : Nat) (s : State),
    let l := s.link p
    let r := { l.rx with badRun := 0 }
    let widthOnly := pt.doze = false ∧ l.st = .active ∧ pt.rate = l.rate
    let v := s.syncTc0 p
    let slot := max l.tx.slot (at_ * 10)
    let line : Line := { l.tx.line with width := pt.width, rate := pt.rate, slots := if slot = l.tx.slot then l.tx.line.slots else [] }
    let stepped := v.setLink p { l with st := .step, since := s.clk.now, width := pt.width, rate := pt.rate,
                                        ckPrev := if l.st = .active then (if pt.doze then l.rate else pt.rate) else l.ckPrev,
                                        tx := { l.tx with slot := slot, switched := some at_, line := line } }
    (l.st.up = true → Gives (.pstateRequest p doze width rate) s
        ((s.setLink p { l with rx := r, pwant := { doze := doze, width := width, rate := rate } }).propose p))
    ∧ (l.st.up = true → Gives (.pstateSwitch p doze width rate cw) s
        (s.setLink p { l with rx := r, train := { l.train with switchCw := some cw.toNat } }))
    ∧ (l.tx.switchTo = some (pt, at_) → l.st = .active ∨ l.st = .doze →
        (widthOnly → Gives (.operatingPointSwitch p) s
          (((v.setLink p { l with width := pt.width, tx := { l.tx with slot := slot, switchTo := none, switched := some at_, line := line } }).portInt
            p 4).propose p))
        ∧ (¬ widthOnly → l.tx.replay ≠ none → Gives (.operatingPointSwitch p) s v)
        ∧ (¬ widthOnly → l.tx.replay = none → (s.tport p).out = none → Gives (.operatingPointSwitch p) s stepped)
        ∧ (¬ widthOnly → l.tx.replay = none → (s.tport p).out ≠ none → Gives (.operatingPointSwitch p) s (stepped.failSample p)))
    ∧ (l.st = .step → l.tx.switchTo = some (pt, at_) →
        let on (x : Nat) := x + (s.clk.now - max x l.since)
        Gives (.stepAligned p) s
          (((s.setLink p { l with st := if pt.doze then .doze else .active, since := s.clk.now,
                                  tx := { l.tx with switchTo := none, ackFrom := on l.tx.ackFrom, creditFrom := l.tx.creditFrom.map on },
                                  rx := { l.rx with waitFrom := on l.rx.waitFrom },
                                  train := { l.train with markerLock := BitVec.ofNat 8 (2 ^ l.width - 1), switchCw := none } }).portInt p 4).propose p))
    ∧ ∀ (m : LinkPort) (y : State), y = s.setLink p m → (m.st ≠ .active ∧ m.st ≠ .doze ∨ m.point = m.current → y.propose p = y)
      ∧ (m.st = .active ∨ m.st = .doze → m.point ≠ m.current → m.tx.switchTo = none → y.propose p = s.setLink p
          { m with tx := { m.tx with switchTo := some (m.point, m.tx.cw + 16), lctl := m.tx.lctl ++
            [.pstateSwitch m.point.doze m.point.width m.point.rate (BitVec.ofNat 32 (m.tx.cw + 16))] } })
  )

/-- Data flits (R445, R446, R451, R469): counted, with the symbols corrected in a codeword given with its first flit; dropped and counted as a
duplicate while a replay overlaps; else accepted as EXPECT, which moves on. While the receiver waits for a replay nothing is accepted. The
32nd acceptance since the last ACK, and the first after a replay, send one. Uncorrectable codewords (R445, R449, R457): counted; the first
asks for a replay from EXPECT, further ones while waiting do not; the 64th in a row declares the link down. R523: an injection at the lane FEC
inverts parity symbols of the codewords that come; with up to 13 symbols in all they are corrected and counted, with more the codeword is
uncorrectable. -/
def Obligations.FlitsReceived : Prop :=
  (
    ∀ (p : Fin 64) (stream : Fin 2) (cw : Option (List Nat)) (flit : List Byte) (s : State),
    let l := s.link p
    let c := { l.ctr with dataRx := l.ctr.dataRx + 1 }
    let counted : LinkCtr := match cw with
      | none => c
      | some fixed => { c with cwRx := c.cwRx + 1, cwCorrected := if fixed.sum = 0 then c.cwCorrected else c.cwCorrected + 1,
                               symCorr := (List.range 8).map fun i => c.symCorr.getD i 0 + BitVec.ofNat 64 (fixed.getD i 0) }
    let m := { l with rx := { l.rx with badRun := 0 }, ctr := counted }
    let v := s.setLink p m
    let a := { m with rx := { m.rx with expect := l.rx.expect + 1, firstAfter := false, ackSince := l.rx.ackSince + 1, due := true,
                                        dueFrom := if l.rx.due then l.rx.dueFrom else s.clk.now } }
    let b := { a with rx := { a.rx with ackSince := 0, due := false, ackAt := s.clk.now }, tx := { l.tx with lctl := l.tx.lctl ++ [.ack 0 []] } }
    l.st.up = true → cw = none ∨ s.armedAt (0x0200 + p) 0x82 = none →
    (l.rx.waiting = true → Gives (.dataFlit p stream cw flit) s v)
    ∧ (l.rx.waiting = false → l.rx.drop ≠ 0 → Gives (.dataFlit p stream cw flit) s (s.setLink p
        { m with rx := { m.rx with drop := l.rx.drop - 1 }, ctr := { m.ctr with dup := m.ctr.dup + 1 } }))
    ∧ (l.rx.waiting = false → l.rx.drop = 0 → l.rx.firstAfter = false → l.rx.ackSince + 1 < 32 →
        Gives (.dataFlit p stream cw flit) s ((s.setLink p a).assemble p stream flit))
    ∧ (l.rx.waiting = false → l.rx.drop = 0 → l.rx.firstAfter = false → 32 ≤ l.rx.ackSince + 1 →
        Gives (.dataFlit p stream cw flit) s ((s.setLink p b).assemble p stream flit))
    ∧ (l.rx.waiting = false → l.rx.drop = 0 → l.rx.firstAfter = true →
        Gives (.dataFlit p stream cw flit) s (((s.setLink p b).repaired p).assemble p stream flit))
  ) ∧ (
    ∀ (p : Fin 64) (kind : Fin 2) (s : State),
    let l := s.link p
    let c := { l.ctr with cwRx := l.ctr.cwRx + 1, cwUncorr := l.ctr.cwUncorr + 1 }
    let m := { l with ctr := c, badAt := s.clk.now :: (l.badAt.filter fun t => s.clk.now < t + secTicks),
                      rx := { l.rx with badRun := l.rx.badRun + 1, repair := true } }
    let w := { m with rx := { m.rx with waiting := true, waitFrom := s.clk.now }, ctr := { c with rreqTx := c.rreqTx + 1 },
                      tx := { l.tx with lctl := l.tx.lctl ++ [.replayReq l.rx.expect (kind.val + 1)] } }
    s.armedAt (0x0200 + p) 0x82 = none →
    (l.st = .align ∨ l.st = .capx → Gives (.uncorrectableCodeword p kind) s (s.setLink p { l with ctr := c }))
    ∧ (l.st.up = true → l.rx.waiting = false → l.rx.badRun < 63 → Gives (.uncorrectableCodeword p kind) s (s.setLink p w))
    ∧ (l.st.up = true → l.rx.waiting = true → l.rx.badRun < 63 → Gives (.uncorrectableCodeword p kind) s (s.setLink p m))
    ∧ (l.st.up = true → 63 ≤ l.rx.badRun →
        Gives (.uncorrectableCodeword p kind) s ((s.setLink p (if l.rx.waiting then m else w)).declareDown p .lockLost))
  ) ∧ (
    ∀ (p : Fin 64) (stream : Fin 2) (fixed : List Nat) (flit : List Byte) (i : Injection) (s : State),
    let src := 0x0200 + p.val
    let u := s.setCapture src { s.capture src with inject := if i.left ≤ 1 then none else some { i with left := i.left - 1 } }
    let n := ((List.range 30).filter fun k => i.mask.getLsbD k).length
    (s.link p).st.up = true → (s.capture src).inject = some i → i.checker = 0x82 →
    (fixed.sum + n ≤ 13 → ∃ cw, cw.length = 8
      ∧ (∀ k, k < 8 → cw.getD k 0 = fixed.getD k 0 + ((List.range 30).filter fun j => i.mask.getLsbD j && (514 + j) % (s.link p).width == k).length)
      ∧ Gives (.dataFlit p stream (some fixed) flit) s (u.dataArrives p stream (some cw) flit))
    ∧ (13 < fixed.sum + n → exec (.dataFlit p stream (some fixed) flit) s = exec (.uncorrectableCodeword p 0) s
      ∧ Gives (.uncorrectableCodeword p 0) s
          ((u.setLink p { s.link p with rx := { (s.link p).rx with injected := some i.full } }).badCodeword p 0))
  )

/-- Acknowledgement and replay (R435, R445, R447 to R449): an ACK frees flits and returns coins; a REPLAY_REQ acknowledges and starts a replay
from a flit still kept; a REPLAY_START renumbers the receiver, or names a flit not yet due and is a protocol error; markers keep the lock.
R447: the FSEQ of an ACK frees exactly the flits before it, in serial order; one past the next flit to be sent is a protocol error. R448,
R449: a replay names its first flit in REPLAY_START; the one that would be REPLAY_LIMIT + 1 in a row from one flit declares the link down.
Coins (R454, R455): a returned FREED count gives back its increase modulo 2^16, and never more than is charged. -/
def Obligations.AcknowledgementAndReplay : Prop :=
  (
    ∀ (p : Fin 64) (seq : U16) (freed : List U16) (cause : Nat) (cw : U32) (s : State),
    let l := s.link p
    let v := s.setLink p { l with rx := { l.rx with badRun := 0 } }
    let a := v.applyAck p seq
    let n := s.setLink p { l with rx := { l.rx with badRun := 0 }, ctr := { l.ctr with rreqRx := l.ctr.rreqRx + 1 } }
    let b := n.applyAck p seq
    (l.st.up = true →
      ((a.link p).st.up = true → Gives (.ackFlit p seq freed) s (a.applyFreed p freed))
      ∧ ((a.link p).st.up = false → Gives (.ackFlit p seq freed) s a)
      ∧ ((b.link p).st.up = true → Gives (.replayReqFlit p seq cause) s
          (b.startReplay p (if seqGe seq (b.link p).tx.oldest then seq else (b.link p).tx.oldest) 1))
      ∧ ((b.link p).st.up = false → Gives (.replayReqFlit p seq cause) s b)
      ∧ (seqGe l.rx.expect seq = true → Gives (.replayStartFlit p seq cause) s
          (s.setLink p { l with rx := { l.rx with badRun := 0, waiting := false, drop := (l.rx.expect - seq).toNat, firstAfter := true } }))
      ∧ (seqGe l.rx.expect seq = false → Gives (.replayStartFlit p seq cause) s (v.declareDown p .protocol)))
    ∧ (l.st = .align ∨ l.st = .capx ∨ l.st.up = true → Gives (.alignFlit p cw) s
        (s.setLink p { l with rx := { l.rx with cw := cw.toNat, badRun := 0 },
                              train := { l.train with markerLock := BitVec.ofNat 8 (2 ^ (if l.st.up then l.width else l.train.targetWidth) - 1) } }))
  ) ∧ (
    ∀ (p : Nat) (seq : U16) (f : EFlit) (rest : List EFlit) (s : State),
    let l := s.link p
    (seqGe l.tx.next seq = false → s.applyAck p seq = s.declareDown p .protocol)
    ∧ (seqGe l.tx.next seq = true → l.tx.escrow = f :: rest → seq = f.seq ∨ seqGe seq f.seq = false → s.applyAck p seq = s)
    ∧ (seqGe l.tx.next seq = true → l.tx.escrow = f :: rest → seq ≠ f.seq → seqGe seq f.seq = true →
        ((s.applyAck p seq).link p).tx.escrow = l.tx.escrow.filter (fun f => seqGe f.seq seq)
        ∧ ((s.applyAck p seq).link p).tx.replayRun = 0 ∧ ((s.applyAck p seq).link p).tx.next = l.tx.next
        ∧ Only [.links] s (s.applyAck p seq) ∧ Elsewhere p s (s.applyAck p seq))
  ) ∧ (
    ∀ (p : Nat) (seq : U16) (cause : Nat) (s : State),
    let l := s.link p
    let run := if l.tx.replayFrom = seq then l.tx.replayRun else 0
    let u := s.startReplay p seq cause
    (l.cfg.replayLimit ≤ run → u = s.declareDown p .replayLimit)
    ∧ (run < l.cfg.replayLimit → (u.link p).tx.lctl = l.tx.lctl ++ [.replayStart seq cause] ∧ (u.link p).tx.replayRun = run + 1
        ∧ (u.link p).tx.replayFrom = seq ∧ (u.link p).tx.replay = (if seq = l.tx.next then none else some seq)
        ∧ (u.link p).tx.escrow = l.tx.escrow ∧ (u.link p).ctr.replays = l.ctr.replays + 1 ∧ Only (.links :: reporting) s u ∧ Elsewhere p s u)
  ) ∧ (
    ∀ (p v n : Nat) (freed : List U16) (s : State), v < 12 →
    let l := s.link p
    let u := s.applyFreed p freed
    (u.link p).tx.occ.getD v 0 = l.tx.occ.getD v 0 - (freed.getD v 0 - l.tx.freedSeen.getD v 0).toNat
    ∧ (u.link p).tx.freedSeen = freed ∧ (u.link p).tx.escrow = l.tx.escrow ∧ Only [.links] s u ∧ Elsewhere p s u
    ∧ (l.rx.freed.length = 12 → ((s.freeCoins p v n).link p).rx.freed.getD v 0 = l.rx.freed.getD v 0 + BitVec.ofNat 16 n
        ∧ ((s.freeCoins p v n).link p).rx.due = true ∧ ∀ w, w ≠ v → ((s.freeCoins p v n).link p).rx.freed.getD w 0 = l.rx.freed.getD w 0)
  )

/-- R511: the first fault of a source fills its record and sets VALID and the severities; later ones set SECOND, count up to the largest
count, raise HIGHEST_SEV when theirs is higher, and leave the record as it is. Faults of one sample (R505, R511): FAULT_DETECT takes what
a source's checkers found by falling severity, each of them once. What a fault is captured as (R511, R512): no other source's capture
changes, and the first source is remembered only while no other is VALID. -/
def Obligations.SourcesCaptureFaults : Prop :=
  (
    ∀ (src : Nat) (r : Report) (s : State),
    let c := s.capture src
    let d := (s.record src r).capture src
    let sev := Sev.of r.d.kind r.d.fatal
    d.valid = true
    ∧ (c.valid = false → d.firstSev = sev ∧ d.highestSev = sev ∧ d.second = c.second ∧ d.count = c.count
      ∧ ∃ f, d.record = some f ∧ f.seq = c.seq ∧ f.kind = r.d.kind ∧ f.sev = sev ∧ f.source = src ∧ f.nt = s.clk.nt
          ∧ f.ntInvalid = !s.time.ntValid ∧ f.injected = r.injected ∧ f.persist = r.persist ∧ f.context = r.d.context ∧ f.infoA = r.d.infoA
          ∧ f.infoB = r.d.infoB)
    ∧ (c.valid = true → d.record = c.record ∧ d.firstSev = c.firstSev ∧ d.second = true
      ∧ d.count = (if c.count = BitVec.allOnes 32 then c.count else c.count + 1)
      ∧ d.highestSev = if sevValue c.highestSev < sevValue sev then sev else c.highestSev)
  ) ∧ (
    ∀ (src given : Nat) (ds : List Detection) (s : State),
    (s.dieRuns = true → s.sourceOk src = true → Gives (.faultDetect src given ds) s
        ((bySeverity (ds.filter (s.detectable src))).foldl (fun s d => s.detect src given d) s))
    ∧ List.Perm (bySeverity ds) ds
    ∧ List.Pairwise (fun a b => sevValue (Sev.of b.kind b.fatal) ≤ sevValue (Sev.of a.kind a.fatal)) (bySeverity ds)
  ) ∧ (
    ∀ (src : Nat) (r : Report) (s : State),
    let u := s.record src r
    (∀ k, k ≠ src → u.capture k = s.capture k)
    ∧ (s.allClear = true → s.faults.scheme = 0 → u.faults.firstSource = src)
    ∧ (s.allClear = false → u.faults.firstSource = s.faults.firstSource)
  )

/-- Detections and report pairs (R505 to R511, R519, R528 to R530): a wire fault leaves the source unwatched, whose reactions the auditor's
polls apply until the pair is restored; a stalled stage is recorded; a dump time starts a dump, or is missed. -/
def Obligations.DetectionsAndSweep : Prop :=
  ∀ (src : Nat) (levels : Fin 2) (stage : U32) (g : Region) (s : State),
  let c := s.capture src
  let here := s.dieRuns = true ∧ s.sourceOk src = true
  let wire : Detection := { kind := .wireFault, fatal := false, context := none, infoA := BitVec.ofNat 32 (3 * levels.val), infoB := 0 }
  let stall : Detection := { kind := .handshakeStall, fatal := false, context := none, infoA := stage, infoB := 1000000 }
  let n := s.reachNt s.nextDump
  (here → s.faults.scheme = 0 → c.unwatched = false → 
      let v := s.passTime (30 * 256)
      Gives (.wireFault src levels) s ((v.setCapture src { c with unwatched := true, levels := 3 * levels.val, polledAt := v.clk.now }).faultBy
        src 0xFF wire))
  ∧ (here → c.unwatched = true → Gives (.unwatchedPoll src) s ((s.reach (c.polledAt + 10 * usTicks)).poll src))
  ∧ (here → c.unwatched = true → Gives (.wirePairRestored src) s ((s.setCapture src { c with unwatched := false, levels := 0 }).poll src))
  ∧ (here → s.pwr.st ≠ .a2 → Gives (.handshakeStall src stage) s ((s.reachNt (s.clk.nt + BitVec.ofNat 64 msTicks)).record src
      { d := stall, injected := false, full := true, persist := false }))
  ∧ (s.works = true → s.perf.running = true →
      (n.keyRegion n.perf.lkey.toNat = some g → n.perf.dump = none → n.pwr.st ≠ .a2 ∨ g.kind ≠ .hbm → Gives .sweepDump s (n.startDump g))
      ∧ (n.keyRegion n.perf.lkey.toNat = some g → n.perf.dump ≠ none ∨ (n.pwr.st = .a2 ∧ g.kind = .hbm) → Gives .sweepDump s
          { n with perf := { n.perf with missed := n.perf.missed + 1, missedSince := n.perf.missedSince + 1 } })
      ∧ (n.keyRegion n.perf.lkey.toNat = none → Gives .sweepDump s
          { n with perf := { n.perf with running := false, stoppedDest := true, dump := none } }))

/-- Memories (R287, R300, log 2): a byte reads as it was last written, every other byte as before; a zeroed range reads zero; equal contents
are equal lists. HBM reads so too through its gateways, protected blocks included, which hold what the XTS key makes of them. -/
def Obligations.MemoriesReadBack : Prop :=
  (∀ (s u : State) (da i : Nat) (l : List Byte), Memory.wf s.mem.cells → u = { s with mem := { s.mem with cells := s.hbmPut da l } } →
    u.hbmBytes da l.length = l
    ∧ u.hbmBytes i 1 = (if da ≤ i ∧ i < da + l.length then [l.getD (i - da) 0] else s.hbmBytes i 1)) ∧
  ∀ (m m' : List Host.Cell) (a n i : Nat) (l : List Byte), Memory.wf m → Memory.wf m' →
  Memory.byte (Memory.write m a l) i = (if a ≤ i ∧ i < a + l.length then l.getD (i - a) 0 else Memory.byte m i)
  ∧ Memory.byte (Memory.zero m a n) i = (if a ≤ i ∧ i < a + n then 0 else Memory.byte m i)
  ∧ Memory.read (Memory.write m a l) a l.length = l
  ∧ ((∀ j, Memory.byte m j = Memory.byte m' j) → m = m')
end

