-- ==== Sys2Proof/Laws/Bci.lean ====
section
/-! SUPPORT. What the frame of BCI commands does: a served request gets what its work answers; a clear list of refusals runs the work. -/
namespace Sys2Proof.Machine
set_option Elab.async false

/-- A served request is answered with what the work gives. -/
theorem State.bci_served {s : State} {m : Fin 5} {c : BciCmd} {len : List Byte → Nat} {fs : List Byte → List Fld} {r : BciReq}
    (work : List Byte → Res) (h : Served s m c len fs r) : s.bci m c len fs work = s.answerBci m r false (work r.payload) := by
  obtain ⟨h1, h2, h3, h4, h5, h6⟩ := h
  have h7 : (c.long && decide (8 ≤ (s.box m.val).longOut)) = false := by
    cases hl : c.long with
    | false => rfl
    | true => simpa using h5 hl
  simp [State.bci, h1, h2, h3, h4, h6, h7]

theorem State.answerBci_ok (s u : State) (m : Fin 5) (r : BciReq) (p : List Byte) :
    s.answerBci m r false (.ok u p) = Answered u m r p := rfl

theorem State.answerBci_accepted (s u : State) (m : Fin 5) (r : BciReq) (w : LongWork) (p : List Byte) :
    s.answerBci m r false (.accepted u w p) = Accepted u m r w p := rfl

theorem State.answerBci_err (s : State) (m : Fin 5) (r : BciReq) (code detail : Nat) :
    s.answerBci m r false (.err code detail) = s.reply m r code (detailOf code detail) 0 [] := rfl

/-- No condition holds: the work runs. -/
theorem guardBci_clear (cs : List (Bool × Nat × Nat)) (w : Res) (h : ∀ c ∈ cs, c.1 = false) : guardBci cs w = w := by
  induction cs with
  | nil => rfl
  | cons a t ih =>
    obtain ⟨b, code, detail⟩ := a
    have hb : b = false := h _ (List.mem_cons_self ..)
    subst hb
    exact ih fun c hc => h c (List.mem_cons_of_mem _ hc)

/-- The first condition that holds refuses. -/
theorem guardBci_first (cs t : List (Bool × Nat × Nat)) (code detail : Nat) (w : Res) (h : ∀ c ∈ cs, c.1 = false) :
    guardBci (cs ++ (true, code, detail) :: t) w = .err code detail := by
  induction cs with
  | nil => rfl
  | cons a l ih =>
    obtain ⟨b, x, y⟩ := a
    have hb : b = false := h _ (List.mem_cons_self ..)
    subst hb
    exact ih fun c hc => h c (List.mem_cons_of_mem _ hc)

theorem State.ctxRefusals_clear {s : State} {m c : Nat} (off : Nat) (h : s.Owns m c) : ∀ e ∈ s.ctxRefusals m c off, e.1 = false := by
  obtain ⟨h1, h2, h3⟩ := h
  simp [State.ctxRefusals, h1, h2, h3]

end Sys2Proof.Machine
end

