-- ==== Sys2Proof/Laws/State.lean ====
section
/-! SUPPORT. What each named update of the state does to each of its fields: one lemma per field and update. -/
namespace Sys2Proof.Machine
set_option Elab.async false

@[simp] theorem State.setLink_clk (s : State) (p : Nat) (x : LinkPort) : (s.setLink p x).clk = s.clk := rfl
@[simp] theorem State.setLink_pwr (s : State) (p : Nat) (x : LinkPort) : (s.setLink p x).pwr = s.pwr := rfl
@[simp] theorem State.setLink_pwrCfg (s : State) (p : Nat) (x : LinkPort) : (s.setLink p x).pwrCfg = s.pwrCfg := rfl
@[simp] theorem State.setLink_sup (s : State) (p : Nat) (x : LinkPort) : (s.setLink p x).sup = s.sup := rfl
@[simp] theorem State.setLink_pins (s : State) (p : Nat) (x : LinkPort) : (s.setLink p x).pins = s.pins := rfl
@[simp] theorem State.setLink_boot (s : State) (p : Nat) (x : LinkPort) : (s.setLink p x).boot = s.boot := rfl
@[simp] theorem State.setLink_host (s : State) (p : Nat) (x : LinkPort) : (s.setLink p x).host = s.host := rfl
@[simp] theorem State.setLink_mbx (s : State) (p : Nat) (x : LinkPort) : (s.setLink p x).mbx = s.mbx := rfl
@[simp] theorem State.setLink_bmc (s : State) (p : Nat) (x : LinkPort) : (s.setLink p x).bmc = s.bmc := rfl
@[simp] theorem State.setLink_faults (s : State) (p : Nat) (x : LinkPort) : (s.setLink p x).faults = s.faults := rfl
@[simp] theorem State.setLink_plog (s : State) (p : Nat) (x : LinkPort) : (s.setLink p x).plog = s.plog := rfl
@[simp] theorem State.setLink_perf (s : State) (p : Nat) (x : LinkPort) : (s.setLink p x).perf = s.perf := rfl
@[simp] theorem State.setLink_time (s : State) (p : Nat) (x : LinkPort) : (s.setLink p x).time = s.time := rfl
@[simp] theorem State.setLink_route (s : State) (p : Nat) (x : LinkPort) : (s.setLink p x).route = s.route := rfl
@[simp] theorem State.setLink_links (s : State) (p : Nat) (x : LinkPort) : (s.setLink p x).links = Tbl.set s.links p x := rfl
@[simp] theorem State.setLink_conns (s : State) (p : Nat) (x : LinkPort) : (s.setLink p x).conns = s.conns := rfl
@[simp] theorem State.setLink_scheds (s : State) (p : Nat) (x : LinkPort) : (s.setLink p x).scheds = s.scheds := rfl
@[simp] theorem State.setLink_tiles (s : State) (p : Nat) (x : LinkPort) : (s.setLink p x).tiles = s.tiles := rfl
@[simp] theorem State.setLink_planes (s : State) (p : Nat) (x : LinkPort) : (s.setLink p x).planes = s.planes := rfl
@[simp] theorem State.setLink_net (s : State) (p : Nat) (x : LinkPort) : (s.setLink p x).net = s.net := rfl
@[simp] theorem State.setLink_sec (s : State) (p : Nat) (x : LinkPort) : (s.setLink p x).sec = s.sec := rfl
@[simp] theorem State.setLink_fw (s : State) (p : Nat) (x : LinkPort) : (s.setLink p x).fw = s.fw := rfl
@[simp] theorem State.setLink_mem (s : State) (p : Nat) (x : LinkPort) : (s.setLink p x).mem = s.mem := rfl
@[simp] theorem State.setLink_ctxs (s : State) (p : Nat) (x : LinkPort) : (s.setLink p x).ctxs = s.ctxs := rfl
@[simp] theorem State.setLink_ledgers (s : State) (p : Nat) (x : LinkPort) : (s.setLink p x).ledgers = s.ledgers := rfl
@[simp] theorem State.setLink_qps (s : State) (p : Nat) (x : LinkPort) : (s.setLink p x).qps = s.qps := rfl
@[simp] theorem State.setLink_gens (s : State) (p : Nat) (x : LinkPort) : (s.setLink p x).gens = s.gens := rfl
@[simp] theorem State.setLink_domains (s : State) (p : Nat) (x : LinkPort) : (s.setLink p x).domains = s.domains := rfl
@[simp] theorem State.setLink_nodes (s : State) (p : Nat) (x : LinkPort) : (s.setLink p x).nodes = s.nodes := rfl
@[simp] theorem State.setLink_violAt (s : State) (p : Nat) (x : LinkPort) : (s.setLink p x).violAt = s.violAt := rfl
@[simp] theorem State.setLink_free (s : State) (p : Nat) (x : LinkPort) : (s.setLink p x).free = s.free := rfl
@[simp] theorem State.setLink_out (s : State) (p : Nat) (x : LinkPort) : (s.setLink p x).out = s.out := rfl
@[simp] theorem State.setLink_pending (s : State) (p : Nat) (x : LinkPort) : (s.setLink p x).pending = s.pending := rfl

@[simp] theorem State.setSched_clk (s : State) (p : Nat) (x : SchedPort) : (s.setSched p x).clk = s.clk := rfl
@[simp] theorem State.setSched_pwr (s : State) (p : Nat) (x : SchedPort) : (s.setSched p x).pwr = s.pwr := rfl
@[simp] theorem State.setSched_pwrCfg (s : State) (p : Nat) (x : SchedPort) : (s.setSched p x).pwrCfg = s.pwrCfg := rfl
@[simp] theorem State.setSched_sup (s : State) (p : Nat) (x : SchedPort) : (s.setSched p x).sup = s.sup := rfl
@[simp] theorem State.setSched_pins (s : State) (p : Nat) (x : SchedPort) : (s.setSched p x).pins = s.pins := rfl
@[simp] theorem State.setSched_boot (s : State) (p : Nat) (x : SchedPort) : (s.setSched p x).boot = s.boot := rfl
@[simp] theorem State.setSched_host (s : State) (p : Nat) (x : SchedPort) : (s.setSched p x).host = s.host := rfl
@[simp] theorem State.setSched_mbx (s : State) (p : Nat) (x : SchedPort) : (s.setSched p x).mbx = s.mbx := rfl
@[simp] theorem State.setSched_bmc (s : State) (p : Nat) (x : SchedPort) : (s.setSched p x).bmc = s.bmc := rfl
@[simp] theorem State.setSched_faults (s : State) (p : Nat) (x : SchedPort) : (s.setSched p x).faults = s.faults := rfl
@[simp] theorem State.setSched_plog (s : State) (p : Nat) (x : SchedPort) : (s.setSched p x).plog = s.plog := rfl
@[simp] theorem State.setSched_perf (s : State) (p : Nat) (x : SchedPort) : (s.setSched p x).perf = s.perf := rfl
@[simp] theorem State.setSched_time (s : State) (p : Nat) (x : SchedPort) : (s.setSched p x).time = s.time := rfl
@[simp] theorem State.setSched_route (s : State) (p : Nat) (x : SchedPort) : (s.setSched p x).route = s.route := rfl
@[simp] theorem State.setSched_links (s : State) (p : Nat) (x : SchedPort) : (s.setSched p x).links = s.links := rfl
@[simp] theorem State.setSched_conns (s : State) (p : Nat) (x : SchedPort) : (s.setSched p x).conns = s.conns := rfl
@[simp] theorem State.setSched_scheds (s : State) (p : Nat) (x : SchedPort) : (s.setSched p x).scheds = Tbl.set s.scheds p x := rfl
@[simp] theorem State.setSched_tiles (s : State) (p : Nat) (x : SchedPort) : (s.setSched p x).tiles = s.tiles := rfl
@[simp] theorem State.setSched_planes (s : State) (p : Nat) (x : SchedPort) : (s.setSched p x).planes = s.planes := rfl
@[simp] theorem State.setSched_net (s : State) (p : Nat) (x : SchedPort) : (s.setSched p x).net = s.net := rfl
@[simp] theorem State.setSched_sec (s : State) (p : Nat) (x : SchedPort) : (s.setSched p x).sec = s.sec := rfl
@[simp] theorem State.setSched_fw (s : State) (p : Nat) (x : SchedPort) : (s.setSched p x).fw = s.fw := rfl
@[simp] theorem State.setSched_mem (s : State) (p : Nat) (x : SchedPort) : (s.setSched p x).mem = s.mem := rfl
@[simp] theorem State.setSched_ctxs (s : State) (p : Nat) (x : SchedPort) : (s.setSched p x).ctxs = s.ctxs := rfl
@[simp] theorem State.setSched_ledgers (s : State) (p : Nat) (x : SchedPort) : (s.setSched p x).ledgers = s.ledgers := rfl
@[simp] theorem State.setSched_qps (s : State) (p : Nat) (x : SchedPort) : (s.setSched p x).qps = s.qps := rfl
@[simp] theorem State.setSched_gens (s : State) (p : Nat) (x : SchedPort) : (s.setSched p x).gens = s.gens := rfl
@[simp] theorem State.setSched_domains (s : State) (p : Nat) (x : SchedPort) : (s.setSched p x).domains = s.domains := rfl
@[simp] theorem State.setSched_nodes (s : State) (p : Nat) (x : SchedPort) : (s.setSched p x).nodes = s.nodes := rfl
@[simp] theorem State.setSched_violAt (s : State) (p : Nat) (x : SchedPort) : (s.setSched p x).violAt = s.violAt := rfl
@[simp] theorem State.setSched_free (s : State) (p : Nat) (x : SchedPort) : (s.setSched p x).free = s.free := rfl
@[simp] theorem State.setSched_out (s : State) (p : Nat) (x : SchedPort) : (s.setSched p x).out = s.out := rfl
@[simp] theorem State.setSched_pending (s : State) (p : Nat) (x : SchedPort) : (s.setSched p x).pending = s.pending := rfl

@[simp] theorem State.setTile_clk (s : State) (t : Nat) (x : Tile) : (s.setTile t x).clk = s.clk := rfl
@[simp] theorem State.setTile_pwr (s : State) (t : Nat) (x : Tile) : (s.setTile t x).pwr = s.pwr := rfl
@[simp] theorem State.setTile_pwrCfg (s : State) (t : Nat) (x : Tile) : (s.setTile t x).pwrCfg = s.pwrCfg := rfl
@[simp] theorem State.setTile_sup (s : State) (t : Nat) (x : Tile) : (s.setTile t x).sup = s.sup := rfl
@[simp] theorem State.setTile_pins (s : State) (t : Nat) (x : Tile) : (s.setTile t x).pins = s.pins := rfl
@[simp] theorem State.setTile_boot (s : State) (t : Nat) (x : Tile) : (s.setTile t x).boot = s.boot := rfl
@[simp] theorem State.setTile_host (s : State) (t : Nat) (x : Tile) : (s.setTile t x).host = s.host := rfl
@[simp] theorem State.setTile_mbx (s : State) (t : Nat) (x : Tile) : (s.setTile t x).mbx = s.mbx := rfl
@[simp] theorem State.setTile_bmc (s : State) (t : Nat) (x : Tile) : (s.setTile t x).bmc = s.bmc := rfl
@[simp] theorem State.setTile_faults (s : State) (t : Nat) (x : Tile) : (s.setTile t x).faults = s.faults := rfl
@[simp] theorem State.setTile_plog (s : State) (t : Nat) (x : Tile) : (s.setTile t x).plog = s.plog := rfl
@[simp] theorem State.setTile_perf (s : State) (t : Nat) (x : Tile) : (s.setTile t x).perf = s.perf := rfl
@[simp] theorem State.setTile_time (s : State) (t : Nat) (x : Tile) : (s.setTile t x).time = s.time := rfl
@[simp] theorem State.setTile_route (s : State) (t : Nat) (x : Tile) : (s.setTile t x).route = s.route := rfl
@[simp] theorem State.setTile_links (s : State) (t : Nat) (x : Tile) : (s.setTile t x).links = s.links := rfl
@[simp] theorem State.setTile_conns (s : State) (t : Nat) (x : Tile) : (s.setTile t x).conns = s.conns := rfl
@[simp] theorem State.setTile_scheds (s : State) (t : Nat) (x : Tile) : (s.setTile t x).scheds = s.scheds := rfl
@[simp] theorem State.setTile_tiles (s : State) (t : Nat) (x : Tile) : (s.setTile t x).tiles = Tbl.set s.tiles t x := rfl
@[simp] theorem State.setTile_planes (s : State) (t : Nat) (x : Tile) : (s.setTile t x).planes = s.planes := rfl
@[simp] theorem State.setTile_net (s : State) (t : Nat) (x : Tile) : (s.setTile t x).net = s.net := rfl
@[simp] theorem State.setTile_sec (s : State) (t : Nat) (x : Tile) : (s.setTile t x).sec = s.sec := rfl
@[simp] theorem State.setTile_fw (s : State) (t : Nat) (x : Tile) : (s.setTile t x).fw = s.fw := rfl
@[simp] theorem State.setTile_mem (s : State) (t : Nat) (x : Tile) : (s.setTile t x).mem = s.mem := rfl
@[simp] theorem State.setTile_ctxs (s : State) (t : Nat) (x : Tile) : (s.setTile t x).ctxs = s.ctxs := rfl
@[simp] theorem State.setTile_ledgers (s : State) (t : Nat) (x : Tile) : (s.setTile t x).ledgers = s.ledgers := rfl
@[simp] theorem State.setTile_qps (s : State) (t : Nat) (x : Tile) : (s.setTile t x).qps = s.qps := rfl
@[simp] theorem State.setTile_gens (s : State) (t : Nat) (x : Tile) : (s.setTile t x).gens = s.gens := rfl
@[simp] theorem State.setTile_domains (s : State) (t : Nat) (x : Tile) : (s.setTile t x).domains = s.domains := rfl
@[simp] theorem State.setTile_nodes (s : State) (t : Nat) (x : Tile) : (s.setTile t x).nodes = s.nodes := rfl
@[simp] theorem State.setTile_violAt (s : State) (t : Nat) (x : Tile) : (s.setTile t x).violAt = s.violAt := rfl
@[simp] theorem State.setTile_free (s : State) (t : Nat) (x : Tile) : (s.setTile t x).free = s.free := rfl
@[simp] theorem State.setTile_out (s : State) (t : Nat) (x : Tile) : (s.setTile t x).out = s.out := rfl
@[simp] theorem State.setTile_pending (s : State) (t : Nat) (x : Tile) : (s.setTile t x).pending = s.pending := rfl

@[simp] theorem State.setEp_clk (s : State) (e : Nat) (x : Endpoint) : (s.setEp e x).clk = s.clk := rfl
@[simp] theorem State.setEp_pwr (s : State) (e : Nat) (x : Endpoint) : (s.setEp e x).pwr = s.pwr := rfl
@[simp] theorem State.setEp_pwrCfg (s : State) (e : Nat) (x : Endpoint) : (s.setEp e x).pwrCfg = s.pwrCfg := rfl
@[simp] theorem State.setEp_sup (s : State) (e : Nat) (x : Endpoint) : (s.setEp e x).sup = s.sup := rfl
@[simp] theorem State.setEp_pins (s : State) (e : Nat) (x : Endpoint) : (s.setEp e x).pins = s.pins := rfl
@[simp] theorem State.setEp_boot (s : State) (e : Nat) (x : Endpoint) : (s.setEp e x).boot = s.boot := rfl
@[simp] theorem State.setEp_host (s : State) (e : Nat) (x : Endpoint) : (s.setEp e x).host = { s.host with eps := Tbl.set s.host.eps e x } := rfl
@[simp] theorem State.setEp_mbx (s : State) (e : Nat) (x : Endpoint) : (s.setEp e x).mbx = s.mbx := rfl
@[simp] theorem State.setEp_bmc (s : State) (e : Nat) (x : Endpoint) : (s.setEp e x).bmc = s.bmc := rfl
@[simp] theorem State.setEp_faults (s : State) (e : Nat) (x : Endpoint) : (s.setEp e x).faults = s.faults := rfl
@[simp] theorem State.setEp_plog (s : State) (e : Nat) (x : Endpoint) : (s.setEp e x).plog = s.plog := rfl
@[simp] theorem State.setEp_perf (s : State) (e : Nat) (x : Endpoint) : (s.setEp e x).perf = s.perf := rfl
@[simp] theorem State.setEp_time (s : State) (e : Nat) (x : Endpoint) : (s.setEp e x).time = s.time := rfl
@[simp] theorem State.setEp_route (s : State) (e : Nat) (x : Endpoint) : (s.setEp e x).route = s.route := rfl
@[simp] theorem State.setEp_links (s : State) (e : Nat) (x : Endpoint) : (s.setEp e x).links = s.links := rfl
@[simp] theorem State.setEp_conns (s : State) (e : Nat) (x : Endpoint) : (s.setEp e x).conns = s.conns := rfl
@[simp] theorem State.setEp_scheds (s : State) (e : Nat) (x : Endpoint) : (s.setEp e x).scheds = s.scheds := rfl
@[simp] theorem State.setEp_tiles (s : State) (e : Nat) (x : Endpoint) : (s.setEp e x).tiles = s.tiles := rfl
@[simp] theorem State.setEp_planes (s : State) (e : Nat) (x : Endpoint) : (s.setEp e x).planes = s.planes := rfl
@[simp] theorem State.setEp_net (s : State) (e : Nat) (x : Endpoint) : (s.setEp e x).net = s.net := rfl
@[simp] theorem State.setEp_sec (s : State) (e : Nat) (x : Endpoint) : (s.setEp e x).sec = s.sec := rfl
@[simp] theorem State.setEp_fw (s : State) (e : Nat) (x : Endpoint) : (s.setEp e x).fw = s.fw := rfl
@[simp] theorem State.setEp_mem (s : State) (e : Nat) (x : Endpoint) : (s.setEp e x).mem = s.mem := rfl
@[simp] theorem State.setEp_ctxs (s : State) (e : Nat) (x : Endpoint) : (s.setEp e x).ctxs = s.ctxs := rfl
@[simp] theorem State.setEp_ledgers (s : State) (e : Nat) (x : Endpoint) : (s.setEp e x).ledgers = s.ledgers := rfl
@[simp] theorem State.setEp_qps (s : State) (e : Nat) (x : Endpoint) : (s.setEp e x).qps = s.qps := rfl
@[simp] theorem State.setEp_gens (s : State) (e : Nat) (x : Endpoint) : (s.setEp e x).gens = s.gens := rfl
@[simp] theorem State.setEp_domains (s : State) (e : Nat) (x : Endpoint) : (s.setEp e x).domains = s.domains := rfl
@[simp] theorem State.setEp_nodes (s : State) (e : Nat) (x : Endpoint) : (s.setEp e x).nodes = s.nodes := rfl
@[simp] theorem State.setEp_violAt (s : State) (e : Nat) (x : Endpoint) : (s.setEp e x).violAt = s.violAt := rfl
@[simp] theorem State.setEp_free (s : State) (e : Nat) (x : Endpoint) : (s.setEp e x).free = s.free := rfl
@[simp] theorem State.setEp_out (s : State) (e : Nat) (x : Endpoint) : (s.setEp e x).out = s.out := rfl
@[simp] theorem State.setEp_pending (s : State) (e : Nat) (x : Endpoint) : (s.setEp e x).pending = s.pending := rfl

@[simp] theorem State.setFunc_clk (s : State) (f : FnId) (x : Func) : (s.setFunc f x).clk = s.clk := rfl
@[simp] theorem State.setFunc_pwr (s : State) (f : FnId) (x : Func) : (s.setFunc f x).pwr = s.pwr := rfl
@[simp] theorem State.setFunc_pwrCfg (s : State) (f : FnId) (x : Func) : (s.setFunc f x).pwrCfg = s.pwrCfg := rfl
@[simp] theorem State.setFunc_sup (s : State) (f : FnId) (x : Func) : (s.setFunc f x).sup = s.sup := rfl
@[simp] theorem State.setFunc_pins (s : State) (f : FnId) (x : Func) : (s.setFunc f x).pins = s.pins := rfl
@[simp] theorem State.setFunc_boot (s : State) (f : FnId) (x : Func) : (s.setFunc f x).boot = s.boot := rfl
@[simp] theorem State.setFunc_host (s : State) (f : FnId) (x : Func) : (s.setFunc f x).host = { s.host with funcs := Tbl.set s.host.funcs f.key x } := rfl
@[simp] theorem State.setFunc_mbx (s : State) (f : FnId) (x : Func) : (s.setFunc f x).mbx = s.mbx := rfl
@[simp] theorem State.setFunc_bmc (s : State) (f : FnId) (x : Func) : (s.setFunc f x).bmc = s.bmc := rfl
@[simp] theorem State.setFunc_faults (s : State) (f : FnId) (x : Func) : (s.setFunc f x).faults = s.faults := rfl
@[simp] theorem State.setFunc_plog (s : State) (f : FnId) (x : Func) : (s.setFunc f x).plog = s.plog := rfl
@[simp] theorem State.setFunc_perf (s : State) (f : FnId) (x : Func) : (s.setFunc f x).perf = s.perf := rfl
@[simp] theorem State.setFunc_time (s : State) (f : FnId) (x : Func) : (s.setFunc f x).time = s.time := rfl
@[simp] theorem State.setFunc_route (s : State) (f : FnId) (x : Func) : (s.setFunc f x).route = s.route := rfl
@[simp] theorem State.setFunc_links (s : State) (f : FnId) (x : Func) : (s.setFunc f x).links = s.links := rfl
@[simp] theorem State.setFunc_conns (s : State) (f : FnId) (x : Func) : (s.setFunc f x).conns = s.conns := rfl
@[simp] theorem State.setFunc_scheds (s : State) (f : FnId) (x : Func) : (s.setFunc f x).scheds = s.scheds := rfl
@[simp] theorem State.setFunc_tiles (s : State) (f : FnId) (x : Func) : (s.setFunc f x).tiles = s.tiles := rfl
@[simp] theorem State.setFunc_planes (s : State) (f : FnId) (x : Func) : (s.setFunc f x).planes = s.planes := rfl
@[simp] theorem State.setFunc_net (s : State) (f : FnId) (x : Func) : (s.setFunc f x).net = s.net := rfl
@[simp] theorem State.setFunc_sec (s : State) (f : FnId) (x : Func) : (s.setFunc f x).sec = s.sec := rfl
@[simp] theorem State.setFunc_fw (s : State) (f : FnId) (x : Func) : (s.setFunc f x).fw = s.fw := rfl
@[simp] theorem State.setFunc_mem (s : State) (f : FnId) (x : Func) : (s.setFunc f x).mem = s.mem := rfl
@[simp] theorem State.setFunc_ctxs (s : State) (f : FnId) (x : Func) : (s.setFunc f x).ctxs = s.ctxs := rfl
@[simp] theorem State.setFunc_ledgers (s : State) (f : FnId) (x : Func) : (s.setFunc f x).ledgers = s.ledgers := rfl
@[simp] theorem State.setFunc_qps (s : State) (f : FnId) (x : Func) : (s.setFunc f x).qps = s.qps := rfl
@[simp] theorem State.setFunc_gens (s : State) (f : FnId) (x : Func) : (s.setFunc f x).gens = s.gens := rfl
@[simp] theorem State.setFunc_domains (s : State) (f : FnId) (x : Func) : (s.setFunc f x).domains = s.domains := rfl
@[simp] theorem State.setFunc_nodes (s : State) (f : FnId) (x : Func) : (s.setFunc f x).nodes = s.nodes := rfl
@[simp] theorem State.setFunc_violAt (s : State) (f : FnId) (x : Func) : (s.setFunc f x).violAt = s.violAt := rfl
@[simp] theorem State.setFunc_free (s : State) (f : FnId) (x : Func) : (s.setFunc f x).free = s.free := rfl
@[simp] theorem State.setFunc_out (s : State) (f : FnId) (x : Func) : (s.setFunc f x).out = s.out := rfl
@[simp] theorem State.setFunc_pending (s : State) (f : FnId) (x : Func) : (s.setFunc f x).pending = s.pending := rfl

@[simp] theorem State.setBox_clk (s : State) (m : Nat) (x : Mailbox) : (s.setBox m x).clk = s.clk := rfl
@[simp] theorem State.setBox_pwr (s : State) (m : Nat) (x : Mailbox) : (s.setBox m x).pwr = s.pwr := rfl
@[simp] theorem State.setBox_pwrCfg (s : State) (m : Nat) (x : Mailbox) : (s.setBox m x).pwrCfg = s.pwrCfg := rfl
@[simp] theorem State.setBox_sup (s : State) (m : Nat) (x : Mailbox) : (s.setBox m x).sup = s.sup := rfl
@[simp] theorem State.setBox_pins (s : State) (m : Nat) (x : Mailbox) : (s.setBox m x).pins = s.pins := rfl
@[simp] theorem State.setBox_boot (s : State) (m : Nat) (x : Mailbox) : (s.setBox m x).boot = s.boot := rfl
@[simp] theorem State.setBox_host (s : State) (m : Nat) (x : Mailbox) : (s.setBox m x).host = s.host := rfl
@[simp] theorem State.setBox_mbx (s : State) (m : Nat) (x : Mailbox) : (s.setBox m x).mbx = Tbl.set s.mbx m x := rfl
@[simp] theorem State.setBox_bmc (s : State) (m : Nat) (x : Mailbox) : (s.setBox m x).bmc = s.bmc := rfl
@[simp] theorem State.setBox_faults (s : State) (m : Nat) (x : Mailbox) : (s.setBox m x).faults = s.faults := rfl
@[simp] theorem State.setBox_plog (s : State) (m : Nat) (x : Mailbox) : (s.setBox m x).plog = s.plog := rfl
@[simp] theorem State.setBox_perf (s : State) (m : Nat) (x : Mailbox) : (s.setBox m x).perf = s.perf := rfl
@[simp] theorem State.setBox_time (s : State) (m : Nat) (x : Mailbox) : (s.setBox m x).time = s.time := rfl
@[simp] theorem State.setBox_route (s : State) (m : Nat) (x : Mailbox) : (s.setBox m x).route = s.route := rfl
@[simp] theorem State.setBox_links (s : State) (m : Nat) (x : Mailbox) : (s.setBox m x).links = s.links := rfl
@[simp] theorem State.setBox_conns (s : State) (m : Nat) (x : Mailbox) : (s.setBox m x).conns = s.conns := rfl
@[simp] theorem State.setBox_scheds (s : State) (m : Nat) (x : Mailbox) : (s.setBox m x).scheds = s.scheds := rfl
@[simp] theorem State.setBox_tiles (s : State) (m : Nat) (x : Mailbox) : (s.setBox m x).tiles = s.tiles := rfl
@[simp] theorem State.setBox_planes (s : State) (m : Nat) (x : Mailbox) : (s.setBox m x).planes = s.planes := rfl
@[simp] theorem State.setBox_net (s : State) (m : Nat) (x : Mailbox) : (s.setBox m x).net = s.net := rfl
@[simp] theorem State.setBox_sec (s : State) (m : Nat) (x : Mailbox) : (s.setBox m x).sec = s.sec := rfl
@[simp] theorem State.setBox_fw (s : State) (m : Nat) (x : Mailbox) : (s.setBox m x).fw = s.fw := rfl
@[simp] theorem State.setBox_mem (s : State) (m : Nat) (x : Mailbox) : (s.setBox m x).mem = s.mem := rfl
@[simp] theorem State.setBox_ctxs (s : State) (m : Nat) (x : Mailbox) : (s.setBox m x).ctxs = s.ctxs := rfl
@[simp] theorem State.setBox_ledgers (s : State) (m : Nat) (x : Mailbox) : (s.setBox m x).ledgers = s.ledgers := rfl
@[simp] theorem State.setBox_qps (s : State) (m : Nat) (x : Mailbox) : (s.setBox m x).qps = s.qps := rfl
@[simp] theorem State.setBox_gens (s : State) (m : Nat) (x : Mailbox) : (s.setBox m x).gens = s.gens := rfl
@[simp] theorem State.setBox_domains (s : State) (m : Nat) (x : Mailbox) : (s.setBox m x).domains = s.domains := rfl
@[simp] theorem State.setBox_nodes (s : State) (m : Nat) (x : Mailbox) : (s.setBox m x).nodes = s.nodes := rfl
@[simp] theorem State.setBox_violAt (s : State) (m : Nat) (x : Mailbox) : (s.setBox m x).violAt = s.violAt := rfl
@[simp] theorem State.setBox_free (s : State) (m : Nat) (x : Mailbox) : (s.setBox m x).free = s.free := rfl
@[simp] theorem State.setBox_out (s : State) (m : Nat) (x : Mailbox) : (s.setBox m x).out = s.out := rfl
@[simp] theorem State.setBox_pending (s : State) (m : Nat) (x : Mailbox) : (s.setBox m x).pending = s.pending := rfl

@[simp] theorem State.setConn_clk (s : State) (k : Nat) (x : Connector) : (s.setConn k x).clk = s.clk := rfl
@[simp] theorem State.setConn_pwr (s : State) (k : Nat) (x : Connector) : (s.setConn k x).pwr = s.pwr := rfl
@[simp] theorem State.setConn_pwrCfg (s : State) (k : Nat) (x : Connector) : (s.setConn k x).pwrCfg = s.pwrCfg := rfl
@[simp] theorem State.setConn_sup (s : State) (k : Nat) (x : Connector) : (s.setConn k x).sup = s.sup := rfl
@[simp] theorem State.setConn_pins (s : State) (k : Nat) (x : Connector) : (s.setConn k x).pins = s.pins := rfl
@[simp] theorem State.setConn_boot (s : State) (k : Nat) (x : Connector) : (s.setConn k x).boot = s.boot := rfl
@[simp] theorem State.setConn_host (s : State) (k : Nat) (x : Connector) : (s.setConn k x).host = s.host := rfl
@[simp] theorem State.setConn_mbx (s : State) (k : Nat) (x : Connector) : (s.setConn k x).mbx = s.mbx := rfl
@[simp] theorem State.setConn_bmc (s : State) (k : Nat) (x : Connector) : (s.setConn k x).bmc = s.bmc := rfl
@[simp] theorem State.setConn_faults (s : State) (k : Nat) (x : Connector) : (s.setConn k x).faults = s.faults := rfl
@[simp] theorem State.setConn_plog (s : State) (k : Nat) (x : Connector) : (s.setConn k x).plog = s.plog := rfl
@[simp] theorem State.setConn_perf (s : State) (k : Nat) (x : Connector) : (s.setConn k x).perf = s.perf := rfl
@[simp] theorem State.setConn_time (s : State) (k : Nat) (x : Connector) : (s.setConn k x).time = s.time := rfl
@[simp] theorem State.setConn_route (s : State) (k : Nat) (x : Connector) : (s.setConn k x).route = s.route := rfl
@[simp] theorem State.setConn_links (s : State) (k : Nat) (x : Connector) : (s.setConn k x).links = s.links := rfl
@[simp] theorem State.setConn_conns (s : State) (k : Nat) (x : Connector) : (s.setConn k x).conns = Tbl.set s.conns k x := rfl
@[simp] theorem State.setConn_scheds (s : State) (k : Nat) (x : Connector) : (s.setConn k x).scheds = s.scheds := rfl
@[simp] theorem State.setConn_tiles (s : State) (k : Nat) (x : Connector) : (s.setConn k x).tiles = s.tiles := rfl
@[simp] theorem State.setConn_planes (s : State) (k : Nat) (x : Connector) : (s.setConn k x).planes = s.planes := rfl
@[simp] theorem State.setConn_net (s : State) (k : Nat) (x : Connector) : (s.setConn k x).net = s.net := rfl
@[simp] theorem State.setConn_sec (s : State) (k : Nat) (x : Connector) : (s.setConn k x).sec = s.sec := rfl
@[simp] theorem State.setConn_fw (s : State) (k : Nat) (x : Connector) : (s.setConn k x).fw = s.fw := rfl
@[simp] theorem State.setConn_mem (s : State) (k : Nat) (x : Connector) : (s.setConn k x).mem = s.mem := rfl
@[simp] theorem State.setConn_ctxs (s : State) (k : Nat) (x : Connector) : (s.setConn k x).ctxs = s.ctxs := rfl
@[simp] theorem State.setConn_ledgers (s : State) (k : Nat) (x : Connector) : (s.setConn k x).ledgers = s.ledgers := rfl
@[simp] theorem State.setConn_qps (s : State) (k : Nat) (x : Connector) : (s.setConn k x).qps = s.qps := rfl
@[simp] theorem State.setConn_gens (s : State) (k : Nat) (x : Connector) : (s.setConn k x).gens = s.gens := rfl
@[simp] theorem State.setConn_domains (s : State) (k : Nat) (x : Connector) : (s.setConn k x).domains = s.domains := rfl
@[simp] theorem State.setConn_nodes (s : State) (k : Nat) (x : Connector) : (s.setConn k x).nodes = s.nodes := rfl
@[simp] theorem State.setConn_violAt (s : State) (k : Nat) (x : Connector) : (s.setConn k x).violAt = s.violAt := rfl
@[simp] theorem State.setConn_free (s : State) (k : Nat) (x : Connector) : (s.setConn k x).free = s.free := rfl
@[simp] theorem State.setConn_out (s : State) (k : Nat) (x : Connector) : (s.setConn k x).out = s.out := rfl
@[simp] theorem State.setConn_pending (s : State) (k : Nat) (x : Connector) : (s.setConn k x).pending = s.pending := rfl

@[simp] theorem State.setTport_clk (s : State) (p : Nat) (x : TimePort) : (s.setTport p x).clk = s.clk := rfl
@[simp] theorem State.setTport_pwr (s : State) (p : Nat) (x : TimePort) : (s.setTport p x).pwr = s.pwr := rfl
@[simp] theorem State.setTport_pwrCfg (s : State) (p : Nat) (x : TimePort) : (s.setTport p x).pwrCfg = s.pwrCfg := rfl
@[simp] theorem State.setTport_sup (s : State) (p : Nat) (x : TimePort) : (s.setTport p x).sup = s.sup := rfl
@[simp] theorem State.setTport_pins (s : State) (p : Nat) (x : TimePort) : (s.setTport p x).pins = s.pins := rfl
@[simp] theorem State.setTport_boot (s : State) (p : Nat) (x : TimePort) : (s.setTport p x).boot = s.boot := rfl
@[simp] theorem State.setTport_host (s : State) (p : Nat) (x : TimePort) : (s.setTport p x).host = s.host := rfl
@[simp] theorem State.setTport_mbx (s : State) (p : Nat) (x : TimePort) : (s.setTport p x).mbx = s.mbx := rfl
@[simp] theorem State.setTport_bmc (s : State) (p : Nat) (x : TimePort) : (s.setTport p x).bmc = s.bmc := rfl
@[simp] theorem State.setTport_faults (s : State) (p : Nat) (x : TimePort) : (s.setTport p x).faults = s.faults := rfl
@[simp] theorem State.setTport_plog (s : State) (p : Nat) (x : TimePort) : (s.setTport p x).plog = s.plog := rfl
@[simp] theorem State.setTport_perf (s : State) (p : Nat) (x : TimePort) : (s.setTport p x).perf = s.perf := rfl
@[simp] theorem State.setTport_time (s : State) (p : Nat) (x : TimePort) : (s.setTport p x).time = { s.time with ports := Tbl.set s.time.ports p x } := rfl
@[simp] theorem State.setTport_route (s : State) (p : Nat) (x : TimePort) : (s.setTport p x).route = s.route := rfl
@[simp] theorem State.setTport_links (s : State) (p : Nat) (x : TimePort) : (s.setTport p x).links = s.links := rfl
@[simp] theorem State.setTport_conns (s : State) (p : Nat) (x : TimePort) : (s.setTport p x).conns = s.conns := rfl
@[simp] theorem State.setTport_scheds (s : State) (p : Nat) (x : TimePort) : (s.setTport p x).scheds = s.scheds := rfl
@[simp] theorem State.setTport_tiles (s : State) (p : Nat) (x : TimePort) : (s.setTport p x).tiles = s.tiles := rfl
@[simp] theorem State.setTport_planes (s : State) (p : Nat) (x : TimePort) : (s.setTport p x).planes = s.planes := rfl
@[simp] theorem State.setTport_net (s : State) (p : Nat) (x : TimePort) : (s.setTport p x).net = s.net := rfl
@[simp] theorem State.setTport_sec (s : State) (p : Nat) (x : TimePort) : (s.setTport p x).sec = s.sec := rfl
@[simp] theorem State.setTport_fw (s : State) (p : Nat) (x : TimePort) : (s.setTport p x).fw = s.fw := rfl
@[simp] theorem State.setTport_mem (s : State) (p : Nat) (x : TimePort) : (s.setTport p x).mem = s.mem := rfl
@[simp] theorem State.setTport_ctxs (s : State) (p : Nat) (x : TimePort) : (s.setTport p x).ctxs = s.ctxs := rfl
@[simp] theorem State.setTport_ledgers (s : State) (p : Nat) (x : TimePort) : (s.setTport p x).ledgers = s.ledgers := rfl
@[simp] theorem State.setTport_qps (s : State) (p : Nat) (x : TimePort) : (s.setTport p x).qps = s.qps := rfl
@[simp] theorem State.setTport_gens (s : State) (p : Nat) (x : TimePort) : (s.setTport p x).gens = s.gens := rfl
@[simp] theorem State.setTport_domains (s : State) (p : Nat) (x : TimePort) : (s.setTport p x).domains = s.domains := rfl
@[simp] theorem State.setTport_nodes (s : State) (p : Nat) (x : TimePort) : (s.setTport p x).nodes = s.nodes := rfl
@[simp] theorem State.setTport_violAt (s : State) (p : Nat) (x : TimePort) : (s.setTport p x).violAt = s.violAt := rfl
@[simp] theorem State.setTport_free (s : State) (p : Nat) (x : TimePort) : (s.setTport p x).free = s.free := rfl
@[simp] theorem State.setTport_out (s : State) (p : Nat) (x : TimePort) : (s.setTport p x).out = s.out := rfl
@[simp] theorem State.setTport_pending (s : State) (p : Nat) (x : TimePort) : (s.setTport p x).pending = s.pending := rfl

@[simp] theorem State.setRport_clk (s : State) (p : Nat) (x : RPort) : (s.setRport p x).clk = s.clk := rfl
@[simp] theorem State.setRport_pwr (s : State) (p : Nat) (x : RPort) : (s.setRport p x).pwr = s.pwr := rfl
@[simp] theorem State.setRport_pwrCfg (s : State) (p : Nat) (x : RPort) : (s.setRport p x).pwrCfg = s.pwrCfg := rfl
@[simp] theorem State.setRport_sup (s : State) (p : Nat) (x : RPort) : (s.setRport p x).sup = s.sup := rfl
@[simp] theorem State.setRport_pins (s : State) (p : Nat) (x : RPort) : (s.setRport p x).pins = s.pins := rfl
@[simp] theorem State.setRport_boot (s : State) (p : Nat) (x : RPort) : (s.setRport p x).boot = s.boot := rfl
@[simp] theorem State.setRport_host (s : State) (p : Nat) (x : RPort) : (s.setRport p x).host = s.host := rfl
@[simp] theorem State.setRport_mbx (s : State) (p : Nat) (x : RPort) : (s.setRport p x).mbx = s.mbx := rfl
@[simp] theorem State.setRport_bmc (s : State) (p : Nat) (x : RPort) : (s.setRport p x).bmc = s.bmc := rfl
@[simp] theorem State.setRport_faults (s : State) (p : Nat) (x : RPort) : (s.setRport p x).faults = s.faults := rfl
@[simp] theorem State.setRport_plog (s : State) (p : Nat) (x : RPort) : (s.setRport p x).plog = s.plog := rfl
@[simp] theorem State.setRport_perf (s : State) (p : Nat) (x : RPort) : (s.setRport p x).perf = s.perf := rfl
@[simp] theorem State.setRport_time (s : State) (p : Nat) (x : RPort) : (s.setRport p x).time = s.time := rfl
@[simp] theorem State.setRport_route (s : State) (p : Nat) (x : RPort) : (s.setRport p x).route = { s.route with ports := Tbl.set s.route.ports p x } := rfl
@[simp] theorem State.setRport_links (s : State) (p : Nat) (x : RPort) : (s.setRport p x).links = s.links := rfl
@[simp] theorem State.setRport_conns (s : State) (p : Nat) (x : RPort) : (s.setRport p x).conns = s.conns := rfl
@[simp] theorem State.setRport_scheds (s : State) (p : Nat) (x : RPort) : (s.setRport p x).scheds = s.scheds := rfl
@[simp] theorem State.setRport_tiles (s : State) (p : Nat) (x : RPort) : (s.setRport p x).tiles = s.tiles := rfl
@[simp] theorem State.setRport_planes (s : State) (p : Nat) (x : RPort) : (s.setRport p x).planes = s.planes := rfl
@[simp] theorem State.setRport_net (s : State) (p : Nat) (x : RPort) : (s.setRport p x).net = s.net := rfl
@[simp] theorem State.setRport_sec (s : State) (p : Nat) (x : RPort) : (s.setRport p x).sec = s.sec := rfl
@[simp] theorem State.setRport_fw (s : State) (p : Nat) (x : RPort) : (s.setRport p x).fw = s.fw := rfl
@[simp] theorem State.setRport_mem (s : State) (p : Nat) (x : RPort) : (s.setRport p x).mem = s.mem := rfl
@[simp] theorem State.setRport_ctxs (s : State) (p : Nat) (x : RPort) : (s.setRport p x).ctxs = s.ctxs := rfl
@[simp] theorem State.setRport_ledgers (s : State) (p : Nat) (x : RPort) : (s.setRport p x).ledgers = s.ledgers := rfl
@[simp] theorem State.setRport_qps (s : State) (p : Nat) (x : RPort) : (s.setRport p x).qps = s.qps := rfl
@[simp] theorem State.setRport_gens (s : State) (p : Nat) (x : RPort) : (s.setRport p x).gens = s.gens := rfl
@[simp] theorem State.setRport_domains (s : State) (p : Nat) (x : RPort) : (s.setRport p x).domains = s.domains := rfl
@[simp] theorem State.setRport_nodes (s : State) (p : Nat) (x : RPort) : (s.setRport p x).nodes = s.nodes := rfl
@[simp] theorem State.setRport_violAt (s : State) (p : Nat) (x : RPort) : (s.setRport p x).violAt = s.violAt := rfl
@[simp] theorem State.setRport_free (s : State) (p : Nat) (x : RPort) : (s.setRport p x).free = s.free := rfl
@[simp] theorem State.setRport_out (s : State) (p : Nat) (x : RPort) : (s.setRport p x).out = s.out := rfl
@[simp] theorem State.setRport_pending (s : State) (p : Nat) (x : RPort) : (s.setRport p x).pending = s.pending := rfl

@[simp] theorem State.setCtx_clk (s : State) (c : Nat) (x : Ctx) : (s.setCtx c x).clk = s.clk := rfl
@[simp] theorem State.setCtx_pwr (s : State) (c : Nat) (x : Ctx) : (s.setCtx c x).pwr = s.pwr := rfl
@[simp] theorem State.setCtx_pwrCfg (s : State) (c : Nat) (x : Ctx) : (s.setCtx c x).pwrCfg = s.pwrCfg := rfl
@[simp] theorem State.setCtx_sup (s : State) (c : Nat) (x : Ctx) : (s.setCtx c x).sup = s.sup := rfl
@[simp] theorem State.setCtx_pins (s : State) (c : Nat) (x : Ctx) : (s.setCtx c x).pins = s.pins := rfl
@[simp] theorem State.setCtx_boot (s : State) (c : Nat) (x : Ctx) : (s.setCtx c x).boot = s.boot := rfl
@[simp] theorem State.setCtx_host (s : State) (c : Nat) (x : Ctx) : (s.setCtx c x).host = s.host := rfl
@[simp] theorem State.setCtx_mbx (s : State) (c : Nat) (x : Ctx) : (s.setCtx c x).mbx = s.mbx := rfl
@[simp] theorem State.setCtx_bmc (s : State) (c : Nat) (x : Ctx) : (s.setCtx c x).bmc = s.bmc := rfl
@[simp] theorem State.setCtx_faults (s : State) (c : Nat) (x : Ctx) : (s.setCtx c x).faults = s.faults := rfl
@[simp] theorem State.setCtx_plog (s : State) (c : Nat) (x : Ctx) : (s.setCtx c x).plog = s.plog := rfl
@[simp] theorem State.setCtx_perf (s : State) (c : Nat) (x : Ctx) : (s.setCtx c x).perf = s.perf := rfl
@[simp] theorem State.setCtx_time (s : State) (c : Nat) (x : Ctx) : (s.setCtx c x).time = s.time := rfl
@[simp] theorem State.setCtx_route (s : State) (c : Nat) (x : Ctx) : (s.setCtx c x).route = s.route := rfl
@[simp] theorem State.setCtx_links (s : State) (c : Nat) (x : Ctx) : (s.setCtx c x).links = s.links := rfl
@[simp] theorem State.setCtx_conns (s : State) (c : Nat) (x : Ctx) : (s.setCtx c x).conns = s.conns := rfl
@[simp] theorem State.setCtx_scheds (s : State) (c : Nat) (x : Ctx) : (s.setCtx c x).scheds = s.scheds := rfl
@[simp] theorem State.setCtx_tiles (s : State) (c : Nat) (x : Ctx) : (s.setCtx c x).tiles = s.tiles := rfl
@[simp] theorem State.setCtx_planes (s : State) (c : Nat) (x : Ctx) : (s.setCtx c x).planes = s.planes := rfl
@[simp] theorem State.setCtx_net (s : State) (c : Nat) (x : Ctx) : (s.setCtx c x).net = s.net := rfl
@[simp] theorem State.setCtx_sec (s : State) (c : Nat) (x : Ctx) : (s.setCtx c x).sec = s.sec := rfl
@[simp] theorem State.setCtx_fw (s : State) (c : Nat) (x : Ctx) : (s.setCtx c x).fw = s.fw := rfl
@[simp] theorem State.setCtx_mem (s : State) (c : Nat) (x : Ctx) : (s.setCtx c x).mem = s.mem := rfl
@[simp] theorem State.setCtx_ctxs (s : State) (c : Nat) (x : Ctx) : (s.setCtx c x).ctxs = Tbl.set s.ctxs c x := rfl
@[simp] theorem State.setCtx_ledgers (s : State) (c : Nat) (x : Ctx) : (s.setCtx c x).ledgers = s.ledgers := rfl
@[simp] theorem State.setCtx_qps (s : State) (c : Nat) (x : Ctx) : (s.setCtx c x).qps = s.qps := rfl
@[simp] theorem State.setCtx_gens (s : State) (c : Nat) (x : Ctx) : (s.setCtx c x).gens = s.gens := rfl
@[simp] theorem State.setCtx_domains (s : State) (c : Nat) (x : Ctx) : (s.setCtx c x).domains = s.domains := rfl
@[simp] theorem State.setCtx_nodes (s : State) (c : Nat) (x : Ctx) : (s.setCtx c x).nodes = s.nodes := rfl
@[simp] theorem State.setCtx_violAt (s : State) (c : Nat) (x : Ctx) : (s.setCtx c x).violAt = s.violAt := rfl
@[simp] theorem State.setCtx_free (s : State) (c : Nat) (x : Ctx) : (s.setCtx c x).free = s.free := rfl
@[simp] theorem State.setCtx_out (s : State) (c : Nat) (x : Ctx) : (s.setCtx c x).out = s.out := rfl
@[simp] theorem State.setCtx_pending (s : State) (c : Nat) (x : Ctx) : (s.setCtx c x).pending = s.pending := rfl

@[simp] theorem State.setQp_clk (s : State) (q : Nat) (x : Qp) : (s.setQp q x).clk = s.clk := rfl
@[simp] theorem State.setQp_pwr (s : State) (q : Nat) (x : Qp) : (s.setQp q x).pwr = s.pwr := rfl
@[simp] theorem State.setQp_pwrCfg (s : State) (q : Nat) (x : Qp) : (s.setQp q x).pwrCfg = s.pwrCfg := rfl
@[simp] theorem State.setQp_sup (s : State) (q : Nat) (x : Qp) : (s.setQp q x).sup = s.sup := rfl
@[simp] theorem State.setQp_pins (s : State) (q : Nat) (x : Qp) : (s.setQp q x).pins = s.pins := rfl
@[simp] theorem State.setQp_boot (s : State) (q : Nat) (x : Qp) : (s.setQp q x).boot = s.boot := rfl
@[simp] theorem State.setQp_host (s : State) (q : Nat) (x : Qp) : (s.setQp q x).host = s.host := rfl
@[simp] theorem State.setQp_mbx (s : State) (q : Nat) (x : Qp) : (s.setQp q x).mbx = s.mbx := rfl
@[simp] theorem State.setQp_bmc (s : State) (q : Nat) (x : Qp) : (s.setQp q x).bmc = s.bmc := rfl
@[simp] theorem State.setQp_faults (s : State) (q : Nat) (x : Qp) : (s.setQp q x).faults = s.faults := rfl
@[simp] theorem State.setQp_plog (s : State) (q : Nat) (x : Qp) : (s.setQp q x).plog = s.plog := rfl
@[simp] theorem State.setQp_perf (s : State) (q : Nat) (x : Qp) : (s.setQp q x).perf = s.perf := rfl
@[simp] theorem State.setQp_time (s : State) (q : Nat) (x : Qp) : (s.setQp q x).time = s.time := rfl
@[simp] theorem State.setQp_route (s : State) (q : Nat) (x : Qp) : (s.setQp q x).route = s.route := rfl
@[simp] theorem State.setQp_links (s : State) (q : Nat) (x : Qp) : (s.setQp q x).links = s.links := rfl
@[simp] theorem State.setQp_conns (s : State) (q : Nat) (x : Qp) : (s.setQp q x).conns = s.conns := rfl
@[simp] theorem State.setQp_scheds (s : State) (q : Nat) (x : Qp) : (s.setQp q x).scheds = s.scheds := rfl
@[simp] theorem State.setQp_tiles (s : State) (q : Nat) (x : Qp) : (s.setQp q x).tiles = s.tiles := rfl
@[simp] theorem State.setQp_planes (s : State) (q : Nat) (x : Qp) : (s.setQp q x).planes = s.planes := rfl
@[simp] theorem State.setQp_net (s : State) (q : Nat) (x : Qp) : (s.setQp q x).net = s.net := rfl
@[simp] theorem State.setQp_sec (s : State) (q : Nat) (x : Qp) : (s.setQp q x).sec = s.sec := rfl
@[simp] theorem State.setQp_fw (s : State) (q : Nat) (x : Qp) : (s.setQp q x).fw = s.fw := rfl
@[simp] theorem State.setQp_mem (s : State) (q : Nat) (x : Qp) : (s.setQp q x).mem = s.mem := rfl
@[simp] theorem State.setQp_ctxs (s : State) (q : Nat) (x : Qp) : (s.setQp q x).ctxs = s.ctxs := rfl
@[simp] theorem State.setQp_ledgers (s : State) (q : Nat) (x : Qp) : (s.setQp q x).ledgers = s.ledgers := rfl
@[simp] theorem State.setQp_qps (s : State) (q : Nat) (x : Qp) : (s.setQp q x).qps = Tbl.set s.qps q x := rfl
@[simp] theorem State.setQp_gens (s : State) (q : Nat) (x : Qp) : (s.setQp q x).gens = s.gens := rfl
@[simp] theorem State.setQp_domains (s : State) (q : Nat) (x : Qp) : (s.setQp q x).domains = s.domains := rfl
@[simp] theorem State.setQp_nodes (s : State) (q : Nat) (x : Qp) : (s.setQp q x).nodes = s.nodes := rfl
@[simp] theorem State.setQp_violAt (s : State) (q : Nat) (x : Qp) : (s.setQp q x).violAt = s.violAt := rfl
@[simp] theorem State.setQp_free (s : State) (q : Nat) (x : Qp) : (s.setQp q x).free = s.free := rfl
@[simp] theorem State.setQp_out (s : State) (q : Nat) (x : Qp) : (s.setQp q x).out = s.out := rfl
@[simp] theorem State.setQp_pending (s : State) (q : Nat) (x : Qp) : (s.setQp q x).pending = s.pending := rfl

@[simp] theorem State.setDomain_clk (s : State) (c : Nat) (x : Domain) : (s.setDomain c x).clk = s.clk := rfl
@[simp] theorem State.setDomain_pwr (s : State) (c : Nat) (x : Domain) : (s.setDomain c x).pwr = s.pwr := rfl
@[simp] theorem State.setDomain_pwrCfg (s : State) (c : Nat) (x : Domain) : (s.setDomain c x).pwrCfg = s.pwrCfg := rfl
@[simp] theorem State.setDomain_sup (s : State) (c : Nat) (x : Domain) : (s.setDomain c x).sup = s.sup := rfl
@[simp] theorem State.setDomain_pins (s : State) (c : Nat) (x : Domain) : (s.setDomain c x).pins = s.pins := rfl
@[simp] theorem State.setDomain_boot (s : State) (c : Nat) (x : Domain) : (s.setDomain c x).boot = s.boot := rfl
@[simp] theorem State.setDomain_host (s : State) (c : Nat) (x : Domain) : (s.setDomain c x).host = s.host := rfl
@[simp] theorem State.setDomain_mbx (s : State) (c : Nat) (x : Domain) : (s.setDomain c x).mbx = s.mbx := rfl
@[simp] theorem State.setDomain_bmc (s : State) (c : Nat) (x : Domain) : (s.setDomain c x).bmc = s.bmc := rfl
@[simp] theorem State.setDomain_faults (s : State) (c : Nat) (x : Domain) : (s.setDomain c x).faults = s.faults := rfl
@[simp] theorem State.setDomain_plog (s : State) (c : Nat) (x : Domain) : (s.setDomain c x).plog = s.plog := rfl
@[simp] theorem State.setDomain_perf (s : State) (c : Nat) (x : Domain) : (s.setDomain c x).perf = s.perf := rfl
@[simp] theorem State.setDomain_time (s : State) (c : Nat) (x : Domain) : (s.setDomain c x).time = s.time := rfl
@[simp] theorem State.setDomain_route (s : State) (c : Nat) (x : Domain) : (s.setDomain c x).route = s.route := rfl
@[simp] theorem State.setDomain_links (s : State) (c : Nat) (x : Domain) : (s.setDomain c x).links = s.links := rfl
@[simp] theorem State.setDomain_conns (s : State) (c : Nat) (x : Domain) : (s.setDomain c x).conns = s.conns := rfl
@[simp] theorem State.setDomain_scheds (s : State) (c : Nat) (x : Domain) : (s.setDomain c x).scheds = s.scheds := rfl
@[simp] theorem State.setDomain_tiles (s : State) (c : Nat) (x : Domain) : (s.setDomain c x).tiles = s.tiles := rfl
@[simp] theorem State.setDomain_planes (s : State) (c : Nat) (x : Domain) : (s.setDomain c x).planes = s.planes := rfl
@[simp] theorem State.setDomain_net (s : State) (c : Nat) (x : Domain) : (s.setDomain c x).net = s.net := rfl
@[simp] theorem State.setDomain_sec (s : State) (c : Nat) (x : Domain) : (s.setDomain c x).sec = s.sec := rfl
@[simp] theorem State.setDomain_fw (s : State) (c : Nat) (x : Domain) : (s.setDomain c x).fw = s.fw := rfl
@[simp] theorem State.setDomain_mem (s : State) (c : Nat) (x : Domain) : (s.setDomain c x).mem = s.mem := rfl
@[simp] theorem State.setDomain_ctxs (s : State) (c : Nat) (x : Domain) : (s.setDomain c x).ctxs = s.ctxs := rfl
@[simp] theorem State.setDomain_ledgers (s : State) (c : Nat) (x : Domain) : (s.setDomain c x).ledgers = s.ledgers := rfl
@[simp] theorem State.setDomain_qps (s : State) (c : Nat) (x : Domain) : (s.setDomain c x).qps = s.qps := rfl
@[simp] theorem State.setDomain_gens (s : State) (c : Nat) (x : Domain) : (s.setDomain c x).gens = s.gens := rfl
@[simp] theorem State.setDomain_domains (s : State) (c : Nat) (x : Domain) : (s.setDomain c x).domains = Tbl.set s.domains c x := rfl
@[simp] theorem State.setDomain_nodes (s : State) (c : Nat) (x : Domain) : (s.setDomain c x).nodes = s.nodes := rfl
@[simp] theorem State.setDomain_violAt (s : State) (c : Nat) (x : Domain) : (s.setDomain c x).violAt = s.violAt := rfl
@[simp] theorem State.setDomain_free (s : State) (c : Nat) (x : Domain) : (s.setDomain c x).free = s.free := rfl
@[simp] theorem State.setDomain_out (s : State) (c : Nat) (x : Domain) : (s.setDomain c x).out = s.out := rfl
@[simp] theorem State.setDomain_pending (s : State) (c : Nat) (x : Domain) : (s.setDomain c x).pending = s.pending := rfl

@[simp] theorem State.setNode_clk (s : State) (n : Nat) (x : Node) : (s.setNode n x).clk = s.clk := rfl
@[simp] theorem State.setNode_pwr (s : State) (n : Nat) (x : Node) : (s.setNode n x).pwr = s.pwr := rfl
@[simp] theorem State.setNode_pwrCfg (s : State) (n : Nat) (x : Node) : (s.setNode n x).pwrCfg = s.pwrCfg := rfl
@[simp] theorem State.setNode_sup (s : State) (n : Nat) (x : Node) : (s.setNode n x).sup = s.sup := rfl
@[simp] theorem State.setNode_pins (s : State) (n : Nat) (x : Node) : (s.setNode n x).pins = s.pins := rfl
@[simp] theorem State.setNode_boot (s : State) (n : Nat) (x : Node) : (s.setNode n x).boot = s.boot := rfl
@[simp] theorem State.setNode_host (s : State) (n : Nat) (x : Node) : (s.setNode n x).host = s.host := rfl
@[simp] theorem State.setNode_mbx (s : State) (n : Nat) (x : Node) : (s.setNode n x).mbx = s.mbx := rfl
@[simp] theorem State.setNode_bmc (s : State) (n : Nat) (x : Node) : (s.setNode n x).bmc = s.bmc := rfl
@[simp] theorem State.setNode_faults (s : State) (n : Nat) (x : Node) : (s.setNode n x).faults = s.faults := rfl
@[simp] theorem State.setNode_plog (s : State) (n : Nat) (x : Node) : (s.setNode n x).plog = s.plog := rfl
@[simp] theorem State.setNode_perf (s : State) (n : Nat) (x : Node) : (s.setNode n x).perf = s.perf := rfl
@[simp] theorem State.setNode_time (s : State) (n : Nat) (x : Node) : (s.setNode n x).time = s.time := rfl
@[simp] theorem State.setNode_route (s : State) (n : Nat) (x : Node) : (s.setNode n x).route = s.route := rfl
@[simp] theorem State.setNode_links (s : State) (n : Nat) (x : Node) : (s.setNode n x).links = s.links := rfl
@[simp] theorem State.setNode_conns (s : State) (n : Nat) (x : Node) : (s.setNode n x).conns = s.conns := rfl
@[simp] theorem State.setNode_scheds (s : State) (n : Nat) (x : Node) : (s.setNode n x).scheds = s.scheds := rfl
@[simp] theorem State.setNode_tiles (s : State) (n : Nat) (x : Node) : (s.setNode n x).tiles = s.tiles := rfl
@[simp] theorem State.setNode_planes (s : State) (n : Nat) (x : Node) : (s.setNode n x).planes = s.planes := rfl
@[simp] theorem State.setNode_net (s : State) (n : Nat) (x : Node) : (s.setNode n x).net = s.net := rfl
@[simp] theorem State.setNode_sec (s : State) (n : Nat) (x : Node) : (s.setNode n x).sec = s.sec := rfl
@[simp] theorem State.setNode_fw (s : State) (n : Nat) (x : Node) : (s.setNode n x).fw = s.fw := rfl
@[simp] theorem State.setNode_mem (s : State) (n : Nat) (x : Node) : (s.setNode n x).mem = s.mem := rfl
@[simp] theorem State.setNode_ctxs (s : State) (n : Nat) (x : Node) : (s.setNode n x).ctxs = s.ctxs := rfl
@[simp] theorem State.setNode_ledgers (s : State) (n : Nat) (x : Node) : (s.setNode n x).ledgers = s.ledgers := rfl
@[simp] theorem State.setNode_qps (s : State) (n : Nat) (x : Node) : (s.setNode n x).qps = s.qps := rfl
@[simp] theorem State.setNode_gens (s : State) (n : Nat) (x : Node) : (s.setNode n x).gens = s.gens := rfl
@[simp] theorem State.setNode_domains (s : State) (n : Nat) (x : Node) : (s.setNode n x).domains = s.domains := rfl
@[simp] theorem State.setNode_nodes (s : State) (n : Nat) (x : Node) : (s.setNode n x).nodes = Tbl.set s.nodes n x := rfl
@[simp] theorem State.setNode_violAt (s : State) (n : Nat) (x : Node) : (s.setNode n x).violAt = s.violAt := rfl
@[simp] theorem State.setNode_free (s : State) (n : Nat) (x : Node) : (s.setNode n x).free = s.free := rfl
@[simp] theorem State.setNode_out (s : State) (n : Nat) (x : Node) : (s.setNode n x).out = s.out := rfl
@[simp] theorem State.setNode_pending (s : State) (n : Nat) (x : Node) : (s.setNode n x).pending = s.pending := rfl

@[simp] theorem State.setCapture_clk (s : State) (src : Nat) (x : Capture) : (s.setCapture src x).clk = s.clk := rfl
@[simp] theorem State.setCapture_pwr (s : State) (src : Nat) (x : Capture) : (s.setCapture src x).pwr = s.pwr := rfl
@[simp] theorem State.setCapture_pwrCfg (s : State) (src : Nat) (x : Capture) : (s.setCapture src x).pwrCfg = s.pwrCfg := rfl
@[simp] theorem State.setCapture_sup (s : State) (src : Nat) (x : Capture) : (s.setCapture src x).sup = s.sup := rfl
@[simp] theorem State.setCapture_pins (s : State) (src : Nat) (x : Capture) : (s.setCapture src x).pins = s.pins := rfl
@[simp] theorem State.setCapture_boot (s : State) (src : Nat) (x : Capture) : (s.setCapture src x).boot = s.boot := rfl
@[simp] theorem State.setCapture_host (s : State) (src : Nat) (x : Capture) : (s.setCapture src x).host = s.host := rfl
@[simp] theorem State.setCapture_mbx (s : State) (src : Nat) (x : Capture) : (s.setCapture src x).mbx = s.mbx := rfl
@[simp] theorem State.setCapture_bmc (s : State) (src : Nat) (x : Capture) : (s.setCapture src x).bmc = s.bmc := rfl
@[simp] theorem State.setCapture_faults (s : State) (src : Nat) (x : Capture) : (s.setCapture src x).faults = { s.faults with captures := Tbl.set s.faults.captures src x } := rfl
@[simp] theorem State.setCapture_plog (s : State) (src : Nat) (x : Capture) : (s.setCapture src x).plog = s.plog := rfl
@[simp] theorem State.setCapture_perf (s : State) (src : Nat) (x : Capture) : (s.setCapture src x).perf = s.perf := rfl
@[simp] theorem State.setCapture_time (s : State) (src : Nat) (x : Capture) : (s.setCapture src x).time = s.time := rfl
@[simp] theorem State.setCapture_route (s : State) (src : Nat) (x : Capture) : (s.setCapture src x).route = s.route := rfl
@[simp] theorem State.setCapture_links (s : State) (src : Nat) (x : Capture) : (s.setCapture src x).links = s.links := rfl
@[simp] theorem State.setCapture_conns (s : State) (src : Nat) (x : Capture) : (s.setCapture src x).conns = s.conns := rfl
@[simp] theorem State.setCapture_scheds (s : State) (src : Nat) (x : Capture) : (s.setCapture src x).scheds = s.scheds := rfl
@[simp] theorem State.setCapture_tiles (s : State) (src : Nat) (x : Capture) : (s.setCapture src x).tiles = s.tiles := rfl
@[simp] theorem State.setCapture_planes (s : State) (src : Nat) (x : Capture) : (s.setCapture src x).planes = s.planes := rfl
@[simp] theorem State.setCapture_net (s : State) (src : Nat) (x : Capture) : (s.setCapture src x).net = s.net := rfl
@[simp] theorem State.setCapture_sec (s : State) (src : Nat) (x : Capture) : (s.setCapture src x).sec = s.sec := rfl
@[simp] theorem State.setCapture_fw (s : State) (src : Nat) (x : Capture) : (s.setCapture src x).fw = s.fw := rfl
@[simp] theorem State.setCapture_mem (s : State) (src : Nat) (x : Capture) : (s.setCapture src x).mem = s.mem := rfl
@[simp] theorem State.setCapture_ctxs (s : State) (src : Nat) (x : Capture) : (s.setCapture src x).ctxs = s.ctxs := rfl
@[simp] theorem State.setCapture_ledgers (s : State) (src : Nat) (x : Capture) : (s.setCapture src x).ledgers = s.ledgers := rfl
@[simp] theorem State.setCapture_qps (s : State) (src : Nat) (x : Capture) : (s.setCapture src x).qps = s.qps := rfl
@[simp] theorem State.setCapture_gens (s : State) (src : Nat) (x : Capture) : (s.setCapture src x).gens = s.gens := rfl
@[simp] theorem State.setCapture_domains (s : State) (src : Nat) (x : Capture) : (s.setCapture src x).domains = s.domains := rfl
@[simp] theorem State.setCapture_nodes (s : State) (src : Nat) (x : Capture) : (s.setCapture src x).nodes = s.nodes := rfl
@[simp] theorem State.setCapture_violAt (s : State) (src : Nat) (x : Capture) : (s.setCapture src x).violAt = s.violAt := rfl
@[simp] theorem State.setCapture_free (s : State) (src : Nat) (x : Capture) : (s.setCapture src x).free = s.free := rfl
@[simp] theorem State.setCapture_out (s : State) (src : Nat) (x : Capture) : (s.setCapture src x).out = s.out := rfl
@[simp] theorem State.setCapture_pending (s : State) (src : Nat) (x : Capture) : (s.setCapture src x).pending = s.pending := rfl

@[simp] theorem State.modMem_clk (s : State) (f : Mem → Mem) : (s.modMem f).clk = s.clk := rfl
@[simp] theorem State.modMem_pwr (s : State) (f : Mem → Mem) : (s.modMem f).pwr = s.pwr := rfl
@[simp] theorem State.modMem_pwrCfg (s : State) (f : Mem → Mem) : (s.modMem f).pwrCfg = s.pwrCfg := rfl
@[simp] theorem State.modMem_sup (s : State) (f : Mem → Mem) : (s.modMem f).sup = s.sup := rfl
@[simp] theorem State.modMem_pins (s : State) (f : Mem → Mem) : (s.modMem f).pins = s.pins := rfl
@[simp] theorem State.modMem_boot (s : State) (f : Mem → Mem) : (s.modMem f).boot = s.boot := rfl
@[simp] theorem State.modMem_host (s : State) (f : Mem → Mem) : (s.modMem f).host = s.host := rfl
@[simp] theorem State.modMem_mbx (s : State) (f : Mem → Mem) : (s.modMem f).mbx = s.mbx := rfl
@[simp] theorem State.modMem_bmc (s : State) (f : Mem → Mem) : (s.modMem f).bmc = s.bmc := rfl
@[simp] theorem State.modMem_faults (s : State) (f : Mem → Mem) : (s.modMem f).faults = s.faults := rfl
@[simp] theorem State.modMem_plog (s : State) (f : Mem → Mem) : (s.modMem f).plog = s.plog := rfl
@[simp] theorem State.modMem_perf (s : State) (f : Mem → Mem) : (s.modMem f).perf = s.perf := rfl
@[simp] theorem State.modMem_time (s : State) (f : Mem → Mem) : (s.modMem f).time = s.time := rfl
@[simp] theorem State.modMem_route (s : State) (f : Mem → Mem) : (s.modMem f).route = s.route := rfl
@[simp] theorem State.modMem_links (s : State) (f : Mem → Mem) : (s.modMem f).links = s.links := rfl
@[simp] theorem State.modMem_conns (s : State) (f : Mem → Mem) : (s.modMem f).conns = s.conns := rfl
@[simp] theorem State.modMem_scheds (s : State) (f : Mem → Mem) : (s.modMem f).scheds = s.scheds := rfl
@[simp] theorem State.modMem_tiles (s : State) (f : Mem → Mem) : (s.modMem f).tiles = s.tiles := rfl
@[simp] theorem State.modMem_planes (s : State) (f : Mem → Mem) : (s.modMem f).planes = s.planes := rfl
@[simp] theorem State.modMem_net (s : State) (f : Mem → Mem) : (s.modMem f).net = s.net := rfl
@[simp] theorem State.modMem_sec (s : State) (f : Mem → Mem) : (s.modMem f).sec = s.sec := rfl
@[simp] theorem State.modMem_fw (s : State) (f : Mem → Mem) : (s.modMem f).fw = s.fw := rfl
@[simp] theorem State.modMem_mem (s : State) (f : Mem → Mem) : (s.modMem f).mem = f s.mem := rfl
@[simp] theorem State.modMem_ctxs (s : State) (f : Mem → Mem) : (s.modMem f).ctxs = s.ctxs := rfl
@[simp] theorem State.modMem_ledgers (s : State) (f : Mem → Mem) : (s.modMem f).ledgers = s.ledgers := rfl
@[simp] theorem State.modMem_qps (s : State) (f : Mem → Mem) : (s.modMem f).qps = s.qps := rfl
@[simp] theorem State.modMem_gens (s : State) (f : Mem → Mem) : (s.modMem f).gens = s.gens := rfl
@[simp] theorem State.modMem_domains (s : State) (f : Mem → Mem) : (s.modMem f).domains = s.domains := rfl
@[simp] theorem State.modMem_nodes (s : State) (f : Mem → Mem) : (s.modMem f).nodes = s.nodes := rfl
@[simp] theorem State.modMem_violAt (s : State) (f : Mem → Mem) : (s.modMem f).violAt = s.violAt := rfl
@[simp] theorem State.modMem_free (s : State) (f : Mem → Mem) : (s.modMem f).free = s.free := rfl
@[simp] theorem State.modMem_out (s : State) (f : Mem → Mem) : (s.modMem f).out = s.out := rfl
@[simp] theorem State.modMem_pending (s : State) (f : Mem → Mem) : (s.modMem f).pending = s.pending := rfl

@[simp] theorem State.modSec_clk (s : State) (f : Sec → Sec) : (s.modSec f).clk = s.clk := rfl
@[simp] theorem State.modSec_pwr (s : State) (f : Sec → Sec) : (s.modSec f).pwr = s.pwr := rfl
@[simp] theorem State.modSec_pwrCfg (s : State) (f : Sec → Sec) : (s.modSec f).pwrCfg = s.pwrCfg := rfl
@[simp] theorem State.modSec_sup (s : State) (f : Sec → Sec) : (s.modSec f).sup = s.sup := rfl
@[simp] theorem State.modSec_pins (s : State) (f : Sec → Sec) : (s.modSec f).pins = s.pins := rfl
@[simp] theorem State.modSec_boot (s : State) (f : Sec → Sec) : (s.modSec f).boot = s.boot := rfl
@[simp] theorem State.modSec_host (s : State) (f : Sec → Sec) : (s.modSec f).host = s.host := rfl
@[simp] theorem State.modSec_mbx (s : State) (f : Sec → Sec) : (s.modSec f).mbx = s.mbx := rfl
@[simp] theorem State.modSec_bmc (s : State) (f : Sec → Sec) : (s.modSec f).bmc = s.bmc := rfl
@[simp] theorem State.modSec_faults (s : State) (f : Sec → Sec) : (s.modSec f).faults = s.faults := rfl
@[simp] theorem State.modSec_plog (s : State) (f : Sec → Sec) : (s.modSec f).plog = s.plog := rfl
@[simp] theorem State.modSec_perf (s : State) (f : Sec → Sec) : (s.modSec f).perf = s.perf := rfl
@[simp] theorem State.modSec_time (s : State) (f : Sec → Sec) : (s.modSec f).time = s.time := rfl
@[simp] theorem State.modSec_route (s : State) (f : Sec → Sec) : (s.modSec f).route = s.route := rfl
@[simp] theorem State.modSec_links (s : State) (f : Sec → Sec) : (s.modSec f).links = s.links := rfl
@[simp] theorem State.modSec_conns (s : State) (f : Sec → Sec) : (s.modSec f).conns = s.conns := rfl
@[simp] theorem State.modSec_scheds (s : State) (f : Sec → Sec) : (s.modSec f).scheds = s.scheds := rfl
@[simp] theorem State.modSec_tiles (s : State) (f : Sec → Sec) : (s.modSec f).tiles = s.tiles := rfl
@[simp] theorem State.modSec_planes (s : State) (f : Sec → Sec) : (s.modSec f).planes = s.planes := rfl
@[simp] theorem State.modSec_net (s : State) (f : Sec → Sec) : (s.modSec f).net = s.net := rfl
@[simp] theorem State.modSec_sec (s : State) (f : Sec → Sec) : (s.modSec f).sec = f s.sec := rfl
@[simp] theorem State.modSec_fw (s : State) (f : Sec → Sec) : (s.modSec f).fw = s.fw := rfl
@[simp] theorem State.modSec_mem (s : State) (f : Sec → Sec) : (s.modSec f).mem = s.mem := rfl
@[simp] theorem State.modSec_ctxs (s : State) (f : Sec → Sec) : (s.modSec f).ctxs = s.ctxs := rfl
@[simp] theorem State.modSec_ledgers (s : State) (f : Sec → Sec) : (s.modSec f).ledgers = s.ledgers := rfl
@[simp] theorem State.modSec_qps (s : State) (f : Sec → Sec) : (s.modSec f).qps = s.qps := rfl
@[simp] theorem State.modSec_gens (s : State) (f : Sec → Sec) : (s.modSec f).gens = s.gens := rfl
@[simp] theorem State.modSec_domains (s : State) (f : Sec → Sec) : (s.modSec f).domains = s.domains := rfl
@[simp] theorem State.modSec_nodes (s : State) (f : Sec → Sec) : (s.modSec f).nodes = s.nodes := rfl
@[simp] theorem State.modSec_violAt (s : State) (f : Sec → Sec) : (s.modSec f).violAt = s.violAt := rfl
@[simp] theorem State.modSec_free (s : State) (f : Sec → Sec) : (s.modSec f).free = s.free := rfl
@[simp] theorem State.modSec_out (s : State) (f : Sec → Sec) : (s.modSec f).out = s.out := rfl
@[simp] theorem State.modSec_pending (s : State) (f : Sec → Sec) : (s.modSec f).pending = s.pending := rfl

@[simp] theorem State.modPwr_clk (s : State) (f : Power → Power) : (s.modPwr f).clk = s.clk := rfl
@[simp] theorem State.modPwr_pwr (s : State) (f : Power → Power) : (s.modPwr f).pwr = f s.pwr := rfl
@[simp] theorem State.modPwr_pwrCfg (s : State) (f : Power → Power) : (s.modPwr f).pwrCfg = s.pwrCfg := rfl
@[simp] theorem State.modPwr_sup (s : State) (f : Power → Power) : (s.modPwr f).sup = s.sup := rfl
@[simp] theorem State.modPwr_pins (s : State) (f : Power → Power) : (s.modPwr f).pins = s.pins := rfl
@[simp] theorem State.modPwr_boot (s : State) (f : Power → Power) : (s.modPwr f).boot = s.boot := rfl
@[simp] theorem State.modPwr_host (s : State) (f : Power → Power) : (s.modPwr f).host = s.host := rfl
@[simp] theorem State.modPwr_mbx (s : State) (f : Power → Power) : (s.modPwr f).mbx = s.mbx := rfl
@[simp] theorem State.modPwr_bmc (s : State) (f : Power → Power) : (s.modPwr f).bmc = s.bmc := rfl
@[simp] theorem State.modPwr_faults (s : State) (f : Power → Power) : (s.modPwr f).faults = s.faults := rfl
@[simp] theorem State.modPwr_plog (s : State) (f : Power → Power) : (s.modPwr f).plog = s.plog := rfl
@[simp] theorem State.modPwr_perf (s : State) (f : Power → Power) : (s.modPwr f).perf = s.perf := rfl
@[simp] theorem State.modPwr_time (s : State) (f : Power → Power) : (s.modPwr f).time = s.time := rfl
@[simp] theorem State.modPwr_route (s : State) (f : Power → Power) : (s.modPwr f).route = s.route := rfl
@[simp] theorem State.modPwr_links (s : State) (f : Power → Power) : (s.modPwr f).links = s.links := rfl
@[simp] theorem State.modPwr_conns (s : State) (f : Power → Power) : (s.modPwr f).conns = s.conns := rfl
@[simp] theorem State.modPwr_scheds (s : State) (f : Power → Power) : (s.modPwr f).scheds = s.scheds := rfl
@[simp] theorem State.modPwr_tiles (s : State) (f : Power → Power) : (s.modPwr f).tiles = s.tiles := rfl
@[simp] theorem State.modPwr_planes (s : State) (f : Power → Power) : (s.modPwr f).planes = s.planes := rfl
@[simp] theorem State.modPwr_net (s : State) (f : Power → Power) : (s.modPwr f).net = s.net := rfl
@[simp] theorem State.modPwr_sec (s : State) (f : Power → Power) : (s.modPwr f).sec = s.sec := rfl
@[simp] theorem State.modPwr_fw (s : State) (f : Power → Power) : (s.modPwr f).fw = s.fw := rfl
@[simp] theorem State.modPwr_mem (s : State) (f : Power → Power) : (s.modPwr f).mem = s.mem := rfl
@[simp] theorem State.modPwr_ctxs (s : State) (f : Power → Power) : (s.modPwr f).ctxs = s.ctxs := rfl
@[simp] theorem State.modPwr_ledgers (s : State) (f : Power → Power) : (s.modPwr f).ledgers = s.ledgers := rfl
@[simp] theorem State.modPwr_qps (s : State) (f : Power → Power) : (s.modPwr f).qps = s.qps := rfl
@[simp] theorem State.modPwr_gens (s : State) (f : Power → Power) : (s.modPwr f).gens = s.gens := rfl
@[simp] theorem State.modPwr_domains (s : State) (f : Power → Power) : (s.modPwr f).domains = s.domains := rfl
@[simp] theorem State.modPwr_nodes (s : State) (f : Power → Power) : (s.modPwr f).nodes = s.nodes := rfl
@[simp] theorem State.modPwr_violAt (s : State) (f : Power → Power) : (s.modPwr f).violAt = s.violAt := rfl
@[simp] theorem State.modPwr_free (s : State) (f : Power → Power) : (s.modPwr f).free = s.free := rfl
@[simp] theorem State.modPwr_out (s : State) (f : Power → Power) : (s.modPwr f).out = s.out := rfl
@[simp] theorem State.modPwr_pending (s : State) (f : Power → Power) : (s.modPwr f).pending = s.pending := rfl

@[simp] theorem State.modSup_clk (s : State) (f : Supply → Supply) : (s.modSup f).clk = s.clk := rfl
@[simp] theorem State.modSup_pwr (s : State) (f : Supply → Supply) : (s.modSup f).pwr = s.pwr := rfl
@[simp] theorem State.modSup_pwrCfg (s : State) (f : Supply → Supply) : (s.modSup f).pwrCfg = s.pwrCfg := rfl
@[simp] theorem State.modSup_sup (s : State) (f : Supply → Supply) : (s.modSup f).sup = f s.sup := rfl
@[simp] theorem State.modSup_pins (s : State) (f : Supply → Supply) : (s.modSup f).pins = s.pins := rfl
@[simp] theorem State.modSup_boot (s : State) (f : Supply → Supply) : (s.modSup f).boot = s.boot := rfl
@[simp] theorem State.modSup_host (s : State) (f : Supply → Supply) : (s.modSup f).host = s.host := rfl
@[simp] theorem State.modSup_mbx (s : State) (f : Supply → Supply) : (s.modSup f).mbx = s.mbx := rfl
@[simp] theorem State.modSup_bmc (s : State) (f : Supply → Supply) : (s.modSup f).bmc = s.bmc := rfl
@[simp] theorem State.modSup_faults (s : State) (f : Supply → Supply) : (s.modSup f).faults = s.faults := rfl
@[simp] theorem State.modSup_plog (s : State) (f : Supply → Supply) : (s.modSup f).plog = s.plog := rfl
@[simp] theorem State.modSup_perf (s : State) (f : Supply → Supply) : (s.modSup f).perf = s.perf := rfl
@[simp] theorem State.modSup_time (s : State) (f : Supply → Supply) : (s.modSup f).time = s.time := rfl
@[simp] theorem State.modSup_route (s : State) (f : Supply → Supply) : (s.modSup f).route = s.route := rfl
@[simp] theorem State.modSup_links (s : State) (f : Supply → Supply) : (s.modSup f).links = s.links := rfl
@[simp] theorem State.modSup_conns (s : State) (f : Supply → Supply) : (s.modSup f).conns = s.conns := rfl
@[simp] theorem State.modSup_scheds (s : State) (f : Supply → Supply) : (s.modSup f).scheds = s.scheds := rfl
@[simp] theorem State.modSup_tiles (s : State) (f : Supply → Supply) : (s.modSup f).tiles = s.tiles := rfl
@[simp] theorem State.modSup_planes (s : State) (f : Supply → Supply) : (s.modSup f).planes = s.planes := rfl
@[simp] theorem State.modSup_net (s : State) (f : Supply → Supply) : (s.modSup f).net = s.net := rfl
@[simp] theorem State.modSup_sec (s : State) (f : Supply → Supply) : (s.modSup f).sec = s.sec := rfl
@[simp] theorem State.modSup_fw (s : State) (f : Supply → Supply) : (s.modSup f).fw = s.fw := rfl
@[simp] theorem State.modSup_mem (s : State) (f : Supply → Supply) : (s.modSup f).mem = s.mem := rfl
@[simp] theorem State.modSup_ctxs (s : State) (f : Supply → Supply) : (s.modSup f).ctxs = s.ctxs := rfl
@[simp] theorem State.modSup_ledgers (s : State) (f : Supply → Supply) : (s.modSup f).ledgers = s.ledgers := rfl
@[simp] theorem State.modSup_qps (s : State) (f : Supply → Supply) : (s.modSup f).qps = s.qps := rfl
@[simp] theorem State.modSup_gens (s : State) (f : Supply → Supply) : (s.modSup f).gens = s.gens := rfl
@[simp] theorem State.modSup_domains (s : State) (f : Supply → Supply) : (s.modSup f).domains = s.domains := rfl
@[simp] theorem State.modSup_nodes (s : State) (f : Supply → Supply) : (s.modSup f).nodes = s.nodes := rfl
@[simp] theorem State.modSup_violAt (s : State) (f : Supply → Supply) : (s.modSup f).violAt = s.violAt := rfl
@[simp] theorem State.modSup_free (s : State) (f : Supply → Supply) : (s.modSup f).free = s.free := rfl
@[simp] theorem State.modSup_out (s : State) (f : Supply → Supply) : (s.modSup f).out = s.out := rfl
@[simp] theorem State.modSup_pending (s : State) (f : Supply → Supply) : (s.modSup f).pending = s.pending := rfl

@[simp] theorem State.modBoot_clk (s : State) (f : Boot → Boot) : (s.modBoot f).clk = s.clk := rfl
@[simp] theorem State.modBoot_pwr (s : State) (f : Boot → Boot) : (s.modBoot f).pwr = s.pwr := rfl
@[simp] theorem State.modBoot_pwrCfg (s : State) (f : Boot → Boot) : (s.modBoot f).pwrCfg = s.pwrCfg := rfl
@[simp] theorem State.modBoot_sup (s : State) (f : Boot → Boot) : (s.modBoot f).sup = s.sup := rfl
@[simp] theorem State.modBoot_pins (s : State) (f : Boot → Boot) : (s.modBoot f).pins = s.pins := rfl
@[simp] theorem State.modBoot_boot (s : State) (f : Boot → Boot) : (s.modBoot f).boot = f s.boot := rfl
@[simp] theorem State.modBoot_host (s : State) (f : Boot → Boot) : (s.modBoot f).host = s.host := rfl
@[simp] theorem State.modBoot_mbx (s : State) (f : Boot → Boot) : (s.modBoot f).mbx = s.mbx := rfl
@[simp] theorem State.modBoot_bmc (s : State) (f : Boot → Boot) : (s.modBoot f).bmc = s.bmc := rfl
@[simp] theorem State.modBoot_faults (s : State) (f : Boot → Boot) : (s.modBoot f).faults = s.faults := rfl
@[simp] theorem State.modBoot_plog (s : State) (f : Boot → Boot) : (s.modBoot f).plog = s.plog := rfl
@[simp] theorem State.modBoot_perf (s : State) (f : Boot → Boot) : (s.modBoot f).perf = s.perf := rfl
@[simp] theorem State.modBoot_time (s : State) (f : Boot → Boot) : (s.modBoot f).time = s.time := rfl
@[simp] theorem State.modBoot_route (s : State) (f : Boot → Boot) : (s.modBoot f).route = s.route := rfl
@[simp] theorem State.modBoot_links (s : State) (f : Boot → Boot) : (s.modBoot f).links = s.links := rfl
@[simp] theorem State.modBoot_conns (s : State) (f : Boot → Boot) : (s.modBoot f).conns = s.conns := rfl
@[simp] theorem State.modBoot_scheds (s : State) (f : Boot → Boot) : (s.modBoot f).scheds = s.scheds := rfl
@[simp] theorem State.modBoot_tiles (s : State) (f : Boot → Boot) : (s.modBoot f).tiles = s.tiles := rfl
@[simp] theorem State.modBoot_planes (s : State) (f : Boot → Boot) : (s.modBoot f).planes = s.planes := rfl
@[simp] theorem State.modBoot_net (s : State) (f : Boot → Boot) : (s.modBoot f).net = s.net := rfl
@[simp] theorem State.modBoot_sec (s : State) (f : Boot → Boot) : (s.modBoot f).sec = s.sec := rfl
@[simp] theorem State.modBoot_fw (s : State) (f : Boot → Boot) : (s.modBoot f).fw = s.fw := rfl
@[simp] theorem State.modBoot_mem (s : State) (f : Boot → Boot) : (s.modBoot f).mem = s.mem := rfl
@[simp] theorem State.modBoot_ctxs (s : State) (f : Boot → Boot) : (s.modBoot f).ctxs = s.ctxs := rfl
@[simp] theorem State.modBoot_ledgers (s : State) (f : Boot → Boot) : (s.modBoot f).ledgers = s.ledgers := rfl
@[simp] theorem State.modBoot_qps (s : State) (f : Boot → Boot) : (s.modBoot f).qps = s.qps := rfl
@[simp] theorem State.modBoot_gens (s : State) (f : Boot → Boot) : (s.modBoot f).gens = s.gens := rfl
@[simp] theorem State.modBoot_domains (s : State) (f : Boot → Boot) : (s.modBoot f).domains = s.domains := rfl
@[simp] theorem State.modBoot_nodes (s : State) (f : Boot → Boot) : (s.modBoot f).nodes = s.nodes := rfl
@[simp] theorem State.modBoot_violAt (s : State) (f : Boot → Boot) : (s.modBoot f).violAt = s.violAt := rfl
@[simp] theorem State.modBoot_free (s : State) (f : Boot → Boot) : (s.modBoot f).free = s.free := rfl
@[simp] theorem State.modBoot_out (s : State) (f : Boot → Boot) : (s.modBoot f).out = s.out := rfl
@[simp] theorem State.modBoot_pending (s : State) (f : Boot → Boot) : (s.modBoot f).pending = s.pending := rfl

@[simp] theorem State.emit_clk (s : State) (o : Output) : (s.emit o).clk = s.clk := rfl
@[simp] theorem State.emit_pwr (s : State) (o : Output) : (s.emit o).pwr = s.pwr := rfl
@[simp] theorem State.emit_pwrCfg (s : State) (o : Output) : (s.emit o).pwrCfg = s.pwrCfg := rfl
@[simp] theorem State.emit_sup (s : State) (o : Output) : (s.emit o).sup = s.sup := rfl
@[simp] theorem State.emit_pins (s : State) (o : Output) : (s.emit o).pins = s.pins := rfl
@[simp] theorem State.emit_boot (s : State) (o : Output) : (s.emit o).boot = s.boot := rfl
@[simp] theorem State.emit_host (s : State) (o : Output) : (s.emit o).host = s.host := rfl
@[simp] theorem State.emit_mbx (s : State) (o : Output) : (s.emit o).mbx = s.mbx := rfl
@[simp] theorem State.emit_bmc (s : State) (o : Output) : (s.emit o).bmc = s.bmc := rfl
@[simp] theorem State.emit_faults (s : State) (o : Output) : (s.emit o).faults = s.faults := rfl
@[simp] theorem State.emit_plog (s : State) (o : Output) : (s.emit o).plog = s.plog := rfl
@[simp] theorem State.emit_perf (s : State) (o : Output) : (s.emit o).perf = s.perf := rfl
@[simp] theorem State.emit_time (s : State) (o : Output) : (s.emit o).time = s.time := rfl
@[simp] theorem State.emit_route (s : State) (o : Output) : (s.emit o).route = s.route := rfl
@[simp] theorem State.emit_links (s : State) (o : Output) : (s.emit o).links = s.links := rfl
@[simp] theorem State.emit_conns (s : State) (o : Output) : (s.emit o).conns = s.conns := rfl
@[simp] theorem State.emit_scheds (s : State) (o : Output) : (s.emit o).scheds = s.scheds := rfl
@[simp] theorem State.emit_tiles (s : State) (o : Output) : (s.emit o).tiles = s.tiles := rfl
@[simp] theorem State.emit_planes (s : State) (o : Output) : (s.emit o).planes = s.planes := rfl
@[simp] theorem State.emit_net (s : State) (o : Output) : (s.emit o).net = s.net := rfl
@[simp] theorem State.emit_sec (s : State) (o : Output) : (s.emit o).sec = s.sec := rfl
@[simp] theorem State.emit_fw (s : State) (o : Output) : (s.emit o).fw = s.fw := rfl
@[simp] theorem State.emit_mem (s : State) (o : Output) : (s.emit o).mem = s.mem := rfl
@[simp] theorem State.emit_ctxs (s : State) (o : Output) : (s.emit o).ctxs = s.ctxs := rfl
@[simp] theorem State.emit_ledgers (s : State) (o : Output) : (s.emit o).ledgers = s.ledgers := rfl
@[simp] theorem State.emit_qps (s : State) (o : Output) : (s.emit o).qps = s.qps := rfl
@[simp] theorem State.emit_gens (s : State) (o : Output) : (s.emit o).gens = s.gens := rfl
@[simp] theorem State.emit_domains (s : State) (o : Output) : (s.emit o).domains = s.domains := rfl
@[simp] theorem State.emit_nodes (s : State) (o : Output) : (s.emit o).nodes = s.nodes := rfl
@[simp] theorem State.emit_violAt (s : State) (o : Output) : (s.emit o).violAt = s.violAt := rfl
@[simp] theorem State.emit_free (s : State) (o : Output) : (s.emit o).free = s.free := rfl
@[simp] theorem State.emit_out (s : State) (o : Output) : (s.emit o).out = s.out ++ [o] := rfl
@[simp] theorem State.emit_pending (s : State) (o : Output) : (s.emit o).pending = s.pending := rfl

@[simp] theorem State.fresh_clk (s : State) (w : Nat) : (s.fresh w).2.clk = s.clk := rfl
@[simp] theorem State.fresh_pwr (s : State) (w : Nat) : (s.fresh w).2.pwr = s.pwr := rfl
@[simp] theorem State.fresh_pwrCfg (s : State) (w : Nat) : (s.fresh w).2.pwrCfg = s.pwrCfg := rfl
@[simp] theorem State.fresh_sup (s : State) (w : Nat) : (s.fresh w).2.sup = s.sup := rfl
@[simp] theorem State.fresh_pins (s : State) (w : Nat) : (s.fresh w).2.pins = s.pins := rfl
@[simp] theorem State.fresh_boot (s : State) (w : Nat) : (s.fresh w).2.boot = s.boot := rfl
@[simp] theorem State.fresh_host (s : State) (w : Nat) : (s.fresh w).2.host = s.host := rfl
@[simp] theorem State.fresh_mbx (s : State) (w : Nat) : (s.fresh w).2.mbx = s.mbx := rfl
@[simp] theorem State.fresh_bmc (s : State) (w : Nat) : (s.fresh w).2.bmc = s.bmc := rfl
@[simp] theorem State.fresh_faults (s : State) (w : Nat) : (s.fresh w).2.faults = s.faults := rfl
@[simp] theorem State.fresh_plog (s : State) (w : Nat) : (s.fresh w).2.plog = s.plog := rfl
@[simp] theorem State.fresh_perf (s : State) (w : Nat) : (s.fresh w).2.perf = s.perf := rfl
@[simp] theorem State.fresh_time (s : State) (w : Nat) : (s.fresh w).2.time = s.time := rfl
@[simp] theorem State.fresh_route (s : State) (w : Nat) : (s.fresh w).2.route = s.route := rfl
@[simp] theorem State.fresh_links (s : State) (w : Nat) : (s.fresh w).2.links = s.links := rfl
@[simp] theorem State.fresh_conns (s : State) (w : Nat) : (s.fresh w).2.conns = s.conns := rfl
@[simp] theorem State.fresh_scheds (s : State) (w : Nat) : (s.fresh w).2.scheds = s.scheds := rfl
@[simp] theorem State.fresh_tiles (s : State) (w : Nat) : (s.fresh w).2.tiles = s.tiles := rfl
@[simp] theorem State.fresh_planes (s : State) (w : Nat) : (s.fresh w).2.planes = s.planes := rfl
@[simp] theorem State.fresh_net (s : State) (w : Nat) : (s.fresh w).2.net = s.net := rfl
@[simp] theorem State.fresh_sec (s : State) (w : Nat) : (s.fresh w).2.sec = s.sec := rfl
@[simp] theorem State.fresh_fw (s : State) (w : Nat) : (s.fresh w).2.fw = s.fw := rfl
@[simp] theorem State.fresh_mem (s : State) (w : Nat) : (s.fresh w).2.mem = s.mem := rfl
@[simp] theorem State.fresh_ctxs (s : State) (w : Nat) : (s.fresh w).2.ctxs = s.ctxs := rfl
@[simp] theorem State.fresh_ledgers (s : State) (w : Nat) : (s.fresh w).2.ledgers = s.ledgers := rfl
@[simp] theorem State.fresh_qps (s : State) (w : Nat) : (s.fresh w).2.qps = s.qps := rfl
@[simp] theorem State.fresh_gens (s : State) (w : Nat) : (s.fresh w).2.gens = s.gens := rfl
@[simp] theorem State.fresh_domains (s : State) (w : Nat) : (s.fresh w).2.domains = s.domains := rfl
@[simp] theorem State.fresh_nodes (s : State) (w : Nat) : (s.fresh w).2.nodes = s.nodes := rfl
@[simp] theorem State.fresh_violAt (s : State) (w : Nat) : (s.fresh w).2.violAt = s.violAt := rfl
@[simp] theorem State.fresh_free (s : State) (w : Nat) : (s.fresh w).2.free = s.free + 1 := rfl
@[simp] theorem State.fresh_out (s : State) (w : Nat) : (s.fresh w).2.out = s.out := rfl
@[simp] theorem State.fresh_pending (s : State) (w : Nat) : (s.fresh w).2.pending = s.pending := rfl

end Sys2Proof.Machine
end

