-- ==== Sys2Proof/Laws/Report.lean ====
section
/-! SUPPORT. What interrupts, log records, events and fault records can change: the functions' MSI-X structures, what leaves the module, the
performance counters, the auditor's registers and logs, and nothing else. -/
namespace Sys2Proof.Machine
set_option Elab.async false

/-- `t` is `s` but for what reporting writes. -/
def Reports (s t : State) : Prop :=
  t = { s with host := { s.host with funcs := t.host.funcs }, out := t.out, perf := t.perf, faults := t.faults, plog := t.plog }

theorem Reports.refl (s : State) : Reports s s := rfl

theorem Reports.trans {s t u : State} (h : Reports s t) (k : Reports t u) : Reports s u := by
  unfold Reports at *; rw [k, h]

theorem State.count_reports (s : State) (ev i n : Nat) (q : Nat → Bool) : Reports s (s.count ev i q n) := rfl

theorem State.raise_reports (s : State) (f : FnId) (v : Nat) : Reports s (s.raise f v) := by
  simp only [State.raise]; split <;> rfl

theorem State.raiseMgmt_reports (s : State) : Reports s s.raiseMgmt := by
  simp only [State.raiseMgmt]; split
  · exact State.raise_reports _ _ _
  · rfl

theorem State.notify_reports {w : Nat} (s : State) (a b c : BitVec w) : Reports s (s.notify a b c) := by
  simp only [State.notify]; split
  · rfl
  · exact State.raiseMgmt_reports _

theorem State.persist_reports (s : State) (r : LogRec) : Reports s (s.persist r) := by
  simp only [State.persist]; split <;> split <;> rfl

theorem Reports.setFaults {s t : State} (h : Reports s t) (f : Faults) : Reports s { t with faults := f } := by
  unfold Reports at h ⊢; rw [h]

theorem Reports.setPlog {s t : State} (h : Reports s t) (p : PLog) : Reports s { t with plog := p } := by
  unfold Reports at h ⊢; rw [h]

theorem State.logRecordAt_reports (s : State) (nt : U64) (i : Bool) (e n : Nat) (b k : Bool) (d : List Byte) :
    Reports s (s.logRecordAt nt i e n b k d) := by
  simp only [State.logRecordAt]
  refine Reports.trans ?_ (State.notify_reports _ _ _ _)
  split
  · exact Reports.trans ((Reports.refl s).setFaults _) (State.persist_reports _ _)
  · exact (Reports.refl s).setFaults _

theorem State.logRecord_reports (s : State) (e n : Nat) (b k : Bool) (d : List Byte) : Reports s (s.logRecord e n b k d) :=
  State.logRecordAt_reports _ _ _ _ _ _ _ _

theorem State.event_reports (s : State) (e n : Nat) (d : List Byte) : Reports s (s.event e n d) := by
  simp only [State.event]; split
  · exact State.logRecord_reports _ _ _ _ _ _
  · rfl

theorem State.powerEvent_reports (s : State) (e : Nat) (d : List Byte) : Reports s (s.powerEvent e d) := by
  simp only [State.powerEvent]; split
  · exact State.logRecord_reports _ _ _ _ _ _
  · exact Reports.trans ((Reports.refl s).setPlog _) (State.persist_reports _ _)

theorem State.setCapture_reports (s : State) (src : Nat) (c : Capture) : Reports s (s.setCapture src c) := rfl

theorem State.react_reports (s : State) (src : Nat) (x : Deferred) : Reports s (s.react src x) := by
  have h := State.logRecordAt_reports s x.record.nt x.record.ntInvalid 0x0001 src false (sevValue x.record.sev ≥ 2) (s.stampedRec x).bytes
  have k (t : State) (ht : Reports s t) (st : BitVec 5) (c : Prop) [Decidable c] (e : Bool) :
      Reports s (if c then (if e then ({ t with faults := { t.faults with intStatus := st } } : State).raiseMgmt
        else { t with faults := { t.faults with intStatus := st } })
        else ({ t with faults := { t.faults with intStatus := st } } : State).notify t.faults.intStatus st t.faults.intEnable) := by
    split
    · split
      · exact Reports.trans (ht.setFaults _) (State.raiseMgmt_reports _)
      · exact ht.setFaults _
    · exact Reports.trans (ht.setFaults _) (State.notify_reports _ _ _ _)
  simp only [State.react]
  split
  · refine Reports.setFaults ?_ _
    split
    · exact k _ h _ _ _
    · exact h
  · split
    · exact k _ h _ _ _
    · exact h

theorem State.record_reports (s : State) (src : Nat) (r : Report) : Reports s (s.record src r) := by
  unfold State.record
  extract_lets c sev react0 frec x first later c' s1 f1 s2 f2 s3 s4
  have h2 : Reports s s2 := (State.setCapture_reports s src _).setFaults _
  have h3 : Reports s s3 := by
    show Reports s (if _ then _ else _)
    split
    · exact h2.setFaults _
    · exact h2
  have h4 : Reports s s4 := h3.trans (State.count_reports _ _ _ _ _)
  split
  · exact h4
  · exact h4.trans (State.react_reports _ _ _)

theorem State.fault_reports (s : State) (src : Nat) (k : FaultKind) (c : Option Nat) (a b : Nat) : Reports s (s.fault src k c a b) :=
  State.record_reports _ _ _

theorem State.faultBy_reports (s : State) (src k : Nat) (d : Detection) : Reports s (s.faultBy src k d) := by
  simp only [State.faultBy]; split
  · split
    · exact Reports.trans (State.setCapture_reports _ _ _) (State.record_reports _ _ _)
    · exact State.record_reports _ _ _
  · exact State.record_reports _ _ _

theorem State.clearCapture_reports (s : State) (src : Nat) : Reports s (s.clearCapture src) := by
  simp only [State.clearCapture]; split <;> rfl


theorem Reports.clk {s t : State} (h : Reports s t) : t.clk = s.clk := by rw [h]
theorem Reports.pwr {s t : State} (h : Reports s t) : t.pwr = s.pwr := by rw [h]
theorem Reports.pwrCfg {s t : State} (h : Reports s t) : t.pwrCfg = s.pwrCfg := by rw [h]
theorem Reports.sup {s t : State} (h : Reports s t) : t.sup = s.sup := by rw [h]
theorem Reports.pins {s t : State} (h : Reports s t) : t.pins = s.pins := by rw [h]
theorem Reports.boot {s t : State} (h : Reports s t) : t.boot = s.boot := by rw [h]
theorem Reports.mbx {s t : State} (h : Reports s t) : t.mbx = s.mbx := by rw [h]
theorem Reports.bmc {s t : State} (h : Reports s t) : t.bmc = s.bmc := by rw [h]
theorem Reports.time {s t : State} (h : Reports s t) : t.time = s.time := by rw [h]
theorem Reports.route {s t : State} (h : Reports s t) : t.route = s.route := by rw [h]
theorem Reports.links {s t : State} (h : Reports s t) : t.links = s.links := by rw [h]
theorem Reports.conns {s t : State} (h : Reports s t) : t.conns = s.conns := by rw [h]
theorem Reports.scheds {s t : State} (h : Reports s t) : t.scheds = s.scheds := by rw [h]
theorem Reports.tiles {s t : State} (h : Reports s t) : t.tiles = s.tiles := by rw [h]
theorem Reports.planes {s t : State} (h : Reports s t) : t.planes = s.planes := by rw [h]
theorem Reports.net {s t : State} (h : Reports s t) : t.net = s.net := by rw [h]
theorem Reports.sec {s t : State} (h : Reports s t) : t.sec = s.sec := by rw [h]
theorem Reports.fw {s t : State} (h : Reports s t) : t.fw = s.fw := by rw [h]
theorem Reports.mem {s t : State} (h : Reports s t) : t.mem = s.mem := by rw [h]
theorem Reports.ctxs {s t : State} (h : Reports s t) : t.ctxs = s.ctxs := by rw [h]
theorem Reports.ledgers {s t : State} (h : Reports s t) : t.ledgers = s.ledgers := by rw [h]
theorem Reports.qps {s t : State} (h : Reports s t) : t.qps = s.qps := by rw [h]
theorem Reports.gens {s t : State} (h : Reports s t) : t.gens = s.gens := by rw [h]
theorem Reports.domains {s t : State} (h : Reports s t) : t.domains = s.domains := by rw [h]
theorem Reports.nodes {s t : State} (h : Reports s t) : t.nodes = s.nodes := by rw [h]
theorem Reports.violAt {s t : State} (h : Reports s t) : t.violAt = s.violAt := by rw [h]
theorem Reports.free {s t : State} (h : Reports s t) : t.free = s.free := by rw [h]
theorem Reports.pending {s t : State} (h : Reports s t) : t.pending = s.pending := by rw [h]
theorem Reports.eps {s t : State} (h : Reports s t) : t.host.eps = s.host.eps := by rw [h]
theorem Reports.mgmt {s t : State} (h : Reports s t) : t.host.mgmt = s.host.mgmt := by rw [h]

@[simp] theorem State.count_clk (s : State) (ev i n : Nat) (q : Nat → Bool) : (s.count ev i q n).clk = s.clk := (State.count_reports _ _ _ _ _).clk
@[simp] theorem State.count_pwr (s : State) (ev i n : Nat) (q : Nat → Bool) : (s.count ev i q n).pwr = s.pwr := (State.count_reports _ _ _ _ _).pwr
@[simp] theorem State.count_pwrCfg (s : State) (ev i n : Nat) (q : Nat → Bool) : (s.count ev i q n).pwrCfg = s.pwrCfg := (State.count_reports _ _ _ _ _).pwrCfg
@[simp] theorem State.count_sup (s : State) (ev i n : Nat) (q : Nat → Bool) : (s.count ev i q n).sup = s.sup := (State.count_reports _ _ _ _ _).sup
@[simp] theorem State.count_pins (s : State) (ev i n : Nat) (q : Nat → Bool) : (s.count ev i q n).pins = s.pins := (State.count_reports _ _ _ _ _).pins
@[simp] theorem State.count_boot (s : State) (ev i n : Nat) (q : Nat → Bool) : (s.count ev i q n).boot = s.boot := (State.count_reports _ _ _ _ _).boot
@[simp] theorem State.count_mbx (s : State) (ev i n : Nat) (q : Nat → Bool) : (s.count ev i q n).mbx = s.mbx := (State.count_reports _ _ _ _ _).mbx
@[simp] theorem State.count_bmc (s : State) (ev i n : Nat) (q : Nat → Bool) : (s.count ev i q n).bmc = s.bmc := (State.count_reports _ _ _ _ _).bmc
@[simp] theorem State.count_time (s : State) (ev i n : Nat) (q : Nat → Bool) : (s.count ev i q n).time = s.time := (State.count_reports _ _ _ _ _).time
@[simp] theorem State.count_route (s : State) (ev i n : Nat) (q : Nat → Bool) : (s.count ev i q n).route = s.route := (State.count_reports _ _ _ _ _).route
@[simp] theorem State.count_links (s : State) (ev i n : Nat) (q : Nat → Bool) : (s.count ev i q n).links = s.links := (State.count_reports _ _ _ _ _).links
@[simp] theorem State.count_conns (s : State) (ev i n : Nat) (q : Nat → Bool) : (s.count ev i q n).conns = s.conns := (State.count_reports _ _ _ _ _).conns
@[simp] theorem State.count_scheds (s : State) (ev i n : Nat) (q : Nat → Bool) : (s.count ev i q n).scheds = s.scheds := (State.count_reports _ _ _ _ _).scheds
@[simp] theorem State.count_tiles (s : State) (ev i n : Nat) (q : Nat → Bool) : (s.count ev i q n).tiles = s.tiles := (State.count_reports _ _ _ _ _).tiles
@[simp] theorem State.count_planes (s : State) (ev i n : Nat) (q : Nat → Bool) : (s.count ev i q n).planes = s.planes := (State.count_reports _ _ _ _ _).planes
@[simp] theorem State.count_net (s : State) (ev i n : Nat) (q : Nat → Bool) : (s.count ev i q n).net = s.net := (State.count_reports _ _ _ _ _).net
@[simp] theorem State.count_sec (s : State) (ev i n : Nat) (q : Nat → Bool) : (s.count ev i q n).sec = s.sec := (State.count_reports _ _ _ _ _).sec
@[simp] theorem State.count_fw (s : State) (ev i n : Nat) (q : Nat → Bool) : (s.count ev i q n).fw = s.fw := (State.count_reports _ _ _ _ _).fw
@[simp] theorem State.count_mem (s : State) (ev i n : Nat) (q : Nat → Bool) : (s.count ev i q n).mem = s.mem := (State.count_reports _ _ _ _ _).mem
@[simp] theorem State.count_ctxs (s : State) (ev i n : Nat) (q : Nat → Bool) : (s.count ev i q n).ctxs = s.ctxs := (State.count_reports _ _ _ _ _).ctxs
@[simp] theorem State.count_ledgers (s : State) (ev i n : Nat) (q : Nat → Bool) : (s.count ev i q n).ledgers = s.ledgers := (State.count_reports _ _ _ _ _).ledgers
@[simp] theorem State.count_qps (s : State) (ev i n : Nat) (q : Nat → Bool) : (s.count ev i q n).qps = s.qps := (State.count_reports _ _ _ _ _).qps
@[simp] theorem State.count_gens (s : State) (ev i n : Nat) (q : Nat → Bool) : (s.count ev i q n).gens = s.gens := (State.count_reports _ _ _ _ _).gens
@[simp] theorem State.count_domains (s : State) (ev i n : Nat) (q : Nat → Bool) : (s.count ev i q n).domains = s.domains := (State.count_reports _ _ _ _ _).domains
@[simp] theorem State.count_nodes (s : State) (ev i n : Nat) (q : Nat → Bool) : (s.count ev i q n).nodes = s.nodes := (State.count_reports _ _ _ _ _).nodes
@[simp] theorem State.count_violAt (s : State) (ev i n : Nat) (q : Nat → Bool) : (s.count ev i q n).violAt = s.violAt := (State.count_reports _ _ _ _ _).violAt
@[simp] theorem State.count_free (s : State) (ev i n : Nat) (q : Nat → Bool) : (s.count ev i q n).free = s.free := (State.count_reports _ _ _ _ _).free
@[simp] theorem State.count_pending (s : State) (ev i n : Nat) (q : Nat → Bool) : (s.count ev i q n).pending = s.pending := (State.count_reports _ _ _ _ _).pending
@[simp] theorem State.count_eps (s : State) (ev i n : Nat) (q : Nat → Bool) : (s.count ev i q n).host.eps = s.host.eps := (State.count_reports _ _ _ _ _).eps

@[simp] theorem State.raise_clk (s : State) (f : FnId) (v : Nat) : (s.raise f v).clk = s.clk := (State.raise_reports _ _ _).clk
@[simp] theorem State.raise_pwr (s : State) (f : FnId) (v : Nat) : (s.raise f v).pwr = s.pwr := (State.raise_reports _ _ _).pwr
@[simp] theorem State.raise_pwrCfg (s : State) (f : FnId) (v : Nat) : (s.raise f v).pwrCfg = s.pwrCfg := (State.raise_reports _ _ _).pwrCfg
@[simp] theorem State.raise_sup (s : State) (f : FnId) (v : Nat) : (s.raise f v).sup = s.sup := (State.raise_reports _ _ _).sup
@[simp] theorem State.raise_pins (s : State) (f : FnId) (v : Nat) : (s.raise f v).pins = s.pins := (State.raise_reports _ _ _).pins
@[simp] theorem State.raise_boot (s : State) (f : FnId) (v : Nat) : (s.raise f v).boot = s.boot := (State.raise_reports _ _ _).boot
@[simp] theorem State.raise_mbx (s : State) (f : FnId) (v : Nat) : (s.raise f v).mbx = s.mbx := (State.raise_reports _ _ _).mbx
@[simp] theorem State.raise_bmc (s : State) (f : FnId) (v : Nat) : (s.raise f v).bmc = s.bmc := (State.raise_reports _ _ _).bmc
@[simp] theorem State.raise_time (s : State) (f : FnId) (v : Nat) : (s.raise f v).time = s.time := (State.raise_reports _ _ _).time
@[simp] theorem State.raise_route (s : State) (f : FnId) (v : Nat) : (s.raise f v).route = s.route := (State.raise_reports _ _ _).route
@[simp] theorem State.raise_links (s : State) (f : FnId) (v : Nat) : (s.raise f v).links = s.links := (State.raise_reports _ _ _).links
@[simp] theorem State.raise_conns (s : State) (f : FnId) (v : Nat) : (s.raise f v).conns = s.conns := (State.raise_reports _ _ _).conns
@[simp] theorem State.raise_scheds (s : State) (f : FnId) (v : Nat) : (s.raise f v).scheds = s.scheds := (State.raise_reports _ _ _).scheds
@[simp] theorem State.raise_tiles (s : State) (f : FnId) (v : Nat) : (s.raise f v).tiles = s.tiles := (State.raise_reports _ _ _).tiles
@[simp] theorem State.raise_planes (s : State) (f : FnId) (v : Nat) : (s.raise f v).planes = s.planes := (State.raise_reports _ _ _).planes
@[simp] theorem State.raise_net (s : State) (f : FnId) (v : Nat) : (s.raise f v).net = s.net := (State.raise_reports _ _ _).net
@[simp] theorem State.raise_sec (s : State) (f : FnId) (v : Nat) : (s.raise f v).sec = s.sec := (State.raise_reports _ _ _).sec
@[simp] theorem State.raise_fw (s : State) (f : FnId) (v : Nat) : (s.raise f v).fw = s.fw := (State.raise_reports _ _ _).fw
@[simp] theorem State.raise_mem (s : State) (f : FnId) (v : Nat) : (s.raise f v).mem = s.mem := (State.raise_reports _ _ _).mem
@[simp] theorem State.raise_ctxs (s : State) (f : FnId) (v : Nat) : (s.raise f v).ctxs = s.ctxs := (State.raise_reports _ _ _).ctxs
@[simp] theorem State.raise_ledgers (s : State) (f : FnId) (v : Nat) : (s.raise f v).ledgers = s.ledgers := (State.raise_reports _ _ _).ledgers
@[simp] theorem State.raise_qps (s : State) (f : FnId) (v : Nat) : (s.raise f v).qps = s.qps := (State.raise_reports _ _ _).qps
@[simp] theorem State.raise_gens (s : State) (f : FnId) (v : Nat) : (s.raise f v).gens = s.gens := (State.raise_reports _ _ _).gens
@[simp] theorem State.raise_domains (s : State) (f : FnId) (v : Nat) : (s.raise f v).domains = s.domains := (State.raise_reports _ _ _).domains
@[simp] theorem State.raise_nodes (s : State) (f : FnId) (v : Nat) : (s.raise f v).nodes = s.nodes := (State.raise_reports _ _ _).nodes
@[simp] theorem State.raise_violAt (s : State) (f : FnId) (v : Nat) : (s.raise f v).violAt = s.violAt := (State.raise_reports _ _ _).violAt
@[simp] theorem State.raise_free (s : State) (f : FnId) (v : Nat) : (s.raise f v).free = s.free := (State.raise_reports _ _ _).free
@[simp] theorem State.raise_pending (s : State) (f : FnId) (v : Nat) : (s.raise f v).pending = s.pending := (State.raise_reports _ _ _).pending
@[simp] theorem State.raise_eps (s : State) (f : FnId) (v : Nat) : (s.raise f v).host.eps = s.host.eps := (State.raise_reports _ _ _).eps

@[simp] theorem State.raiseMgmt_clk (s : State) : (s.raiseMgmt).clk = s.clk := (State.raiseMgmt_reports _).clk
@[simp] theorem State.raiseMgmt_pwr (s : State) : (s.raiseMgmt).pwr = s.pwr := (State.raiseMgmt_reports _).pwr
@[simp] theorem State.raiseMgmt_pwrCfg (s : State) : (s.raiseMgmt).pwrCfg = s.pwrCfg := (State.raiseMgmt_reports _).pwrCfg
@[simp] theorem State.raiseMgmt_sup (s : State) : (s.raiseMgmt).sup = s.sup := (State.raiseMgmt_reports _).sup
@[simp] theorem State.raiseMgmt_pins (s : State) : (s.raiseMgmt).pins = s.pins := (State.raiseMgmt_reports _).pins
@[simp] theorem State.raiseMgmt_boot (s : State) : (s.raiseMgmt).boot = s.boot := (State.raiseMgmt_reports _).boot
@[simp] theorem State.raiseMgmt_mbx (s : State) : (s.raiseMgmt).mbx = s.mbx := (State.raiseMgmt_reports _).mbx
@[simp] theorem State.raiseMgmt_bmc (s : State) : (s.raiseMgmt).bmc = s.bmc := (State.raiseMgmt_reports _).bmc
@[simp] theorem State.raiseMgmt_time (s : State) : (s.raiseMgmt).time = s.time := (State.raiseMgmt_reports _).time
@[simp] theorem State.raiseMgmt_route (s : State) : (s.raiseMgmt).route = s.route := (State.raiseMgmt_reports _).route
@[simp] theorem State.raiseMgmt_links (s : State) : (s.raiseMgmt).links = s.links := (State.raiseMgmt_reports _).links
@[simp] theorem State.raiseMgmt_conns (s : State) : (s.raiseMgmt).conns = s.conns := (State.raiseMgmt_reports _).conns
@[simp] theorem State.raiseMgmt_scheds (s : State) : (s.raiseMgmt).scheds = s.scheds := (State.raiseMgmt_reports _).scheds
@[simp] theorem State.raiseMgmt_tiles (s : State) : (s.raiseMgmt).tiles = s.tiles := (State.raiseMgmt_reports _).tiles
@[simp] theorem State.raiseMgmt_planes (s : State) : (s.raiseMgmt).planes = s.planes := (State.raiseMgmt_reports _).planes
@[simp] theorem State.raiseMgmt_net (s : State) : (s.raiseMgmt).net = s.net := (State.raiseMgmt_reports _).net
@[simp] theorem State.raiseMgmt_sec (s : State) : (s.raiseMgmt).sec = s.sec := (State.raiseMgmt_reports _).sec
@[simp] theorem State.raiseMgmt_fw (s : State) : (s.raiseMgmt).fw = s.fw := (State.raiseMgmt_reports _).fw
@[simp] theorem State.raiseMgmt_mem (s : State) : (s.raiseMgmt).mem = s.mem := (State.raiseMgmt_reports _).mem
@[simp] theorem State.raiseMgmt_ctxs (s : State) : (s.raiseMgmt).ctxs = s.ctxs := (State.raiseMgmt_reports _).ctxs
@[simp] theorem State.raiseMgmt_ledgers (s : State) : (s.raiseMgmt).ledgers = s.ledgers := (State.raiseMgmt_reports _).ledgers
@[simp] theorem State.raiseMgmt_qps (s : State) : (s.raiseMgmt).qps = s.qps := (State.raiseMgmt_reports _).qps
@[simp] theorem State.raiseMgmt_gens (s : State) : (s.raiseMgmt).gens = s.gens := (State.raiseMgmt_reports _).gens
@[simp] theorem State.raiseMgmt_domains (s : State) : (s.raiseMgmt).domains = s.domains := (State.raiseMgmt_reports _).domains
@[simp] theorem State.raiseMgmt_nodes (s : State) : (s.raiseMgmt).nodes = s.nodes := (State.raiseMgmt_reports _).nodes
@[simp] theorem State.raiseMgmt_violAt (s : State) : (s.raiseMgmt).violAt = s.violAt := (State.raiseMgmt_reports _).violAt
@[simp] theorem State.raiseMgmt_free (s : State) : (s.raiseMgmt).free = s.free := (State.raiseMgmt_reports _).free
@[simp] theorem State.raiseMgmt_pending (s : State) : (s.raiseMgmt).pending = s.pending := (State.raiseMgmt_reports _).pending
@[simp] theorem State.raiseMgmt_eps (s : State) : (s.raiseMgmt).host.eps = s.host.eps := (State.raiseMgmt_reports _).eps

@[simp] theorem State.notify_clk (s : State) {w : Nat} (a b c : BitVec w) : (s.notify a b c).clk = s.clk := (State.notify_reports _ _ _ _).clk
@[simp] theorem State.notify_pwr (s : State) {w : Nat} (a b c : BitVec w) : (s.notify a b c).pwr = s.pwr := (State.notify_reports _ _ _ _).pwr
@[simp] theorem State.notify_pwrCfg (s : State) {w : Nat} (a b c : BitVec w) : (s.notify a b c).pwrCfg = s.pwrCfg := (State.notify_reports _ _ _ _).pwrCfg
@[simp] theorem State.notify_sup (s : State) {w : Nat} (a b c : BitVec w) : (s.notify a b c).sup = s.sup := (State.notify_reports _ _ _ _).sup
@[simp] theorem State.notify_pins (s : State) {w : Nat} (a b c : BitVec w) : (s.notify a b c).pins = s.pins := (State.notify_reports _ _ _ _).pins
@[simp] theorem State.notify_boot (s : State) {w : Nat} (a b c : BitVec w) : (s.notify a b c).boot = s.boot := (State.notify_reports _ _ _ _).boot
@[simp] theorem State.notify_mbx (s : State) {w : Nat} (a b c : BitVec w) : (s.notify a b c).mbx = s.mbx := (State.notify_reports _ _ _ _).mbx
@[simp] theorem State.notify_bmc (s : State) {w : Nat} (a b c : BitVec w) : (s.notify a b c).bmc = s.bmc := (State.notify_reports _ _ _ _).bmc
@[simp] theorem State.notify_time (s : State) {w : Nat} (a b c : BitVec w) : (s.notify a b c).time = s.time := (State.notify_reports _ _ _ _).time
@[simp] theorem State.notify_route (s : State) {w : Nat} (a b c : BitVec w) : (s.notify a b c).route = s.route := (State.notify_reports _ _ _ _).route
@[simp] theorem State.notify_links (s : State) {w : Nat} (a b c : BitVec w) : (s.notify a b c).links = s.links := (State.notify_reports _ _ _ _).links
@[simp] theorem State.notify_conns (s : State) {w : Nat} (a b c : BitVec w) : (s.notify a b c).conns = s.conns := (State.notify_reports _ _ _ _).conns
@[simp] theorem State.notify_scheds (s : State) {w : Nat} (a b c : BitVec w) : (s.notify a b c).scheds = s.scheds := (State.notify_reports _ _ _ _).scheds
@[simp] theorem State.notify_tiles (s : State) {w : Nat} (a b c : BitVec w) : (s.notify a b c).tiles = s.tiles := (State.notify_reports _ _ _ _).tiles
@[simp] theorem State.notify_planes (s : State) {w : Nat} (a b c : BitVec w) : (s.notify a b c).planes = s.planes := (State.notify_reports _ _ _ _).planes
@[simp] theorem State.notify_net (s : State) {w : Nat} (a b c : BitVec w) : (s.notify a b c).net = s.net := (State.notify_reports _ _ _ _).net
@[simp] theorem State.notify_sec (s : State) {w : Nat} (a b c : BitVec w) : (s.notify a b c).sec = s.sec := (State.notify_reports _ _ _ _).sec
@[simp] theorem State.notify_fw (s : State) {w : Nat} (a b c : BitVec w) : (s.notify a b c).fw = s.fw := (State.notify_reports _ _ _ _).fw
@[simp] theorem State.notify_mem (s : State) {w : Nat} (a b c : BitVec w) : (s.notify a b c).mem = s.mem := (State.notify_reports _ _ _ _).mem
@[simp] theorem State.notify_ctxs (s : State) {w : Nat} (a b c : BitVec w) : (s.notify a b c).ctxs = s.ctxs := (State.notify_reports _ _ _ _).ctxs
@[simp] theorem State.notify_ledgers (s : State) {w : Nat} (a b c : BitVec w) : (s.notify a b c).ledgers = s.ledgers := (State.notify_reports _ _ _ _).ledgers
@[simp] theorem State.notify_qps (s : State) {w : Nat} (a b c : BitVec w) : (s.notify a b c).qps = s.qps := (State.notify_reports _ _ _ _).qps
@[simp] theorem State.notify_gens (s : State) {w : Nat} (a b c : BitVec w) : (s.notify a b c).gens = s.gens := (State.notify_reports _ _ _ _).gens
@[simp] theorem State.notify_domains (s : State) {w : Nat} (a b c : BitVec w) : (s.notify a b c).domains = s.domains := (State.notify_reports _ _ _ _).domains
@[simp] theorem State.notify_nodes (s : State) {w : Nat} (a b c : BitVec w) : (s.notify a b c).nodes = s.nodes := (State.notify_reports _ _ _ _).nodes
@[simp] theorem State.notify_violAt (s : State) {w : Nat} (a b c : BitVec w) : (s.notify a b c).violAt = s.violAt := (State.notify_reports _ _ _ _).violAt
@[simp] theorem State.notify_free (s : State) {w : Nat} (a b c : BitVec w) : (s.notify a b c).free = s.free := (State.notify_reports _ _ _ _).free
@[simp] theorem State.notify_pending (s : State) {w : Nat} (a b c : BitVec w) : (s.notify a b c).pending = s.pending := (State.notify_reports _ _ _ _).pending
@[simp] theorem State.notify_eps (s : State) {w : Nat} (a b c : BitVec w) : (s.notify a b c).host.eps = s.host.eps := (State.notify_reports _ _ _ _).eps

@[simp] theorem State.persist_clk (s : State) (r : LogRec) : (s.persist r).clk = s.clk := (State.persist_reports _ _).clk
@[simp] theorem State.persist_pwr (s : State) (r : LogRec) : (s.persist r).pwr = s.pwr := (State.persist_reports _ _).pwr
@[simp] theorem State.persist_pwrCfg (s : State) (r : LogRec) : (s.persist r).pwrCfg = s.pwrCfg := (State.persist_reports _ _).pwrCfg
@[simp] theorem State.persist_sup (s : State) (r : LogRec) : (s.persist r).sup = s.sup := (State.persist_reports _ _).sup
@[simp] theorem State.persist_pins (s : State) (r : LogRec) : (s.persist r).pins = s.pins := (State.persist_reports _ _).pins
@[simp] theorem State.persist_boot (s : State) (r : LogRec) : (s.persist r).boot = s.boot := (State.persist_reports _ _).boot
@[simp] theorem State.persist_mbx (s : State) (r : LogRec) : (s.persist r).mbx = s.mbx := (State.persist_reports _ _).mbx
@[simp] theorem State.persist_bmc (s : State) (r : LogRec) : (s.persist r).bmc = s.bmc := (State.persist_reports _ _).bmc
@[simp] theorem State.persist_time (s : State) (r : LogRec) : (s.persist r).time = s.time := (State.persist_reports _ _).time
@[simp] theorem State.persist_route (s : State) (r : LogRec) : (s.persist r).route = s.route := (State.persist_reports _ _).route
@[simp] theorem State.persist_links (s : State) (r : LogRec) : (s.persist r).links = s.links := (State.persist_reports _ _).links
@[simp] theorem State.persist_conns (s : State) (r : LogRec) : (s.persist r).conns = s.conns := (State.persist_reports _ _).conns
@[simp] theorem State.persist_scheds (s : State) (r : LogRec) : (s.persist r).scheds = s.scheds := (State.persist_reports _ _).scheds
@[simp] theorem State.persist_tiles (s : State) (r : LogRec) : (s.persist r).tiles = s.tiles := (State.persist_reports _ _).tiles
@[simp] theorem State.persist_planes (s : State) (r : LogRec) : (s.persist r).planes = s.planes := (State.persist_reports _ _).planes
@[simp] theorem State.persist_net (s : State) (r : LogRec) : (s.persist r).net = s.net := (State.persist_reports _ _).net
@[simp] theorem State.persist_sec (s : State) (r : LogRec) : (s.persist r).sec = s.sec := (State.persist_reports _ _).sec
@[simp] theorem State.persist_fw (s : State) (r : LogRec) : (s.persist r).fw = s.fw := (State.persist_reports _ _).fw
@[simp] theorem State.persist_mem (s : State) (r : LogRec) : (s.persist r).mem = s.mem := (State.persist_reports _ _).mem
@[simp] theorem State.persist_ctxs (s : State) (r : LogRec) : (s.persist r).ctxs = s.ctxs := (State.persist_reports _ _).ctxs
@[simp] theorem State.persist_ledgers (s : State) (r : LogRec) : (s.persist r).ledgers = s.ledgers := (State.persist_reports _ _).ledgers
@[simp] theorem State.persist_qps (s : State) (r : LogRec) : (s.persist r).qps = s.qps := (State.persist_reports _ _).qps
@[simp] theorem State.persist_gens (s : State) (r : LogRec) : (s.persist r).gens = s.gens := (State.persist_reports _ _).gens
@[simp] theorem State.persist_domains (s : State) (r : LogRec) : (s.persist r).domains = s.domains := (State.persist_reports _ _).domains
@[simp] theorem State.persist_nodes (s : State) (r : LogRec) : (s.persist r).nodes = s.nodes := (State.persist_reports _ _).nodes
@[simp] theorem State.persist_violAt (s : State) (r : LogRec) : (s.persist r).violAt = s.violAt := (State.persist_reports _ _).violAt
@[simp] theorem State.persist_free (s : State) (r : LogRec) : (s.persist r).free = s.free := (State.persist_reports _ _).free
@[simp] theorem State.persist_pending (s : State) (r : LogRec) : (s.persist r).pending = s.pending := (State.persist_reports _ _).pending
@[simp] theorem State.persist_eps (s : State) (r : LogRec) : (s.persist r).host.eps = s.host.eps := (State.persist_reports _ _).eps

@[simp] theorem State.logRecord_clk (s : State) (e n : Nat) (b k : Bool) (d : List Byte) : (s.logRecord e n b k d).clk = s.clk := (State.logRecord_reports _ _ _ _ _ _).clk
@[simp] theorem State.logRecord_pwr (s : State) (e n : Nat) (b k : Bool) (d : List Byte) : (s.logRecord e n b k d).pwr = s.pwr := (State.logRecord_reports _ _ _ _ _ _).pwr
@[simp] theorem State.logRecord_pwrCfg (s : State) (e n : Nat) (b k : Bool) (d : List Byte) : (s.logRecord e n b k d).pwrCfg = s.pwrCfg := (State.logRecord_reports _ _ _ _ _ _).pwrCfg
@[simp] theorem State.logRecord_sup (s : State) (e n : Nat) (b k : Bool) (d : List Byte) : (s.logRecord e n b k d).sup = s.sup := (State.logRecord_reports _ _ _ _ _ _).sup
@[simp] theorem State.logRecord_pins (s : State) (e n : Nat) (b k : Bool) (d : List Byte) : (s.logRecord e n b k d).pins = s.pins := (State.logRecord_reports _ _ _ _ _ _).pins
@[simp] theorem State.logRecord_boot (s : State) (e n : Nat) (b k : Bool) (d : List Byte) : (s.logRecord e n b k d).boot = s.boot := (State.logRecord_reports _ _ _ _ _ _).boot
@[simp] theorem State.logRecord_mbx (s : State) (e n : Nat) (b k : Bool) (d : List Byte) : (s.logRecord e n b k d).mbx = s.mbx := (State.logRecord_reports _ _ _ _ _ _).mbx
@[simp] theorem State.logRecord_bmc (s : State) (e n : Nat) (b k : Bool) (d : List Byte) : (s.logRecord e n b k d).bmc = s.bmc := (State.logRecord_reports _ _ _ _ _ _).bmc
@[simp] theorem State.logRecord_time (s : State) (e n : Nat) (b k : Bool) (d : List Byte) : (s.logRecord e n b k d).time = s.time := (State.logRecord_reports _ _ _ _ _ _).time
@[simp] theorem State.logRecord_route (s : State) (e n : Nat) (b k : Bool) (d : List Byte) : (s.logRecord e n b k d).route = s.route := (State.logRecord_reports _ _ _ _ _ _).route
@[simp] theorem State.logRecord_links (s : State) (e n : Nat) (b k : Bool) (d : List Byte) : (s.logRecord e n b k d).links = s.links := (State.logRecord_reports _ _ _ _ _ _).links
@[simp] theorem State.logRecord_conns (s : State) (e n : Nat) (b k : Bool) (d : List Byte) : (s.logRecord e n b k d).conns = s.conns := (State.logRecord_reports _ _ _ _ _ _).conns
@[simp] theorem State.logRecord_scheds (s : State) (e n : Nat) (b k : Bool) (d : List Byte) : (s.logRecord e n b k d).scheds = s.scheds := (State.logRecord_reports _ _ _ _ _ _).scheds
@[simp] theorem State.logRecord_tiles (s : State) (e n : Nat) (b k : Bool) (d : List Byte) : (s.logRecord e n b k d).tiles = s.tiles := (State.logRecord_reports _ _ _ _ _ _).tiles
@[simp] theorem State.logRecord_planes (s : State) (e n : Nat) (b k : Bool) (d : List Byte) : (s.logRecord e n b k d).planes = s.planes := (State.logRecord_reports _ _ _ _ _ _).planes
@[simp] theorem State.logRecord_net (s : State) (e n : Nat) (b k : Bool) (d : List Byte) : (s.logRecord e n b k d).net = s.net := (State.logRecord_reports _ _ _ _ _ _).net
@[simp] theorem State.logRecord_sec (s : State) (e n : Nat) (b k : Bool) (d : List Byte) : (s.logRecord e n b k d).sec = s.sec := (State.logRecord_reports _ _ _ _ _ _).sec
@[simp] theorem State.logRecord_fw (s : State) (e n : Nat) (b k : Bool) (d : List Byte) : (s.logRecord e n b k d).fw = s.fw := (State.logRecord_reports _ _ _ _ _ _).fw
@[simp] theorem State.logRecord_mem (s : State) (e n : Nat) (b k : Bool) (d : List Byte) : (s.logRecord e n b k d).mem = s.mem := (State.logRecord_reports _ _ _ _ _ _).mem
@[simp] theorem State.logRecord_ctxs (s : State) (e n : Nat) (b k : Bool) (d : List Byte) : (s.logRecord e n b k d).ctxs = s.ctxs := (State.logRecord_reports _ _ _ _ _ _).ctxs
@[simp] theorem State.logRecord_ledgers (s : State) (e n : Nat) (b k : Bool) (d : List Byte) : (s.logRecord e n b k d).ledgers = s.ledgers := (State.logRecord_reports _ _ _ _ _ _).ledgers
@[simp] theorem State.logRecord_qps (s : State) (e n : Nat) (b k : Bool) (d : List Byte) : (s.logRecord e n b k d).qps = s.qps := (State.logRecord_reports _ _ _ _ _ _).qps
@[simp] theorem State.logRecord_gens (s : State) (e n : Nat) (b k : Bool) (d : List Byte) : (s.logRecord e n b k d).gens = s.gens := (State.logRecord_reports _ _ _ _ _ _).gens
@[simp] theorem State.logRecord_domains (s : State) (e n : Nat) (b k : Bool) (d : List Byte) : (s.logRecord e n b k d).domains = s.domains := (State.logRecord_reports _ _ _ _ _ _).domains
@[simp] theorem State.logRecord_nodes (s : State) (e n : Nat) (b k : Bool) (d : List Byte) : (s.logRecord e n b k d).nodes = s.nodes := (State.logRecord_reports _ _ _ _ _ _).nodes
@[simp] theorem State.logRecord_violAt (s : State) (e n : Nat) (b k : Bool) (d : List Byte) : (s.logRecord e n b k d).violAt = s.violAt := (State.logRecord_reports _ _ _ _ _ _).violAt
@[simp] theorem State.logRecord_free (s : State) (e n : Nat) (b k : Bool) (d : List Byte) : (s.logRecord e n b k d).free = s.free := (State.logRecord_reports _ _ _ _ _ _).free
@[simp] theorem State.logRecord_pending (s : State) (e n : Nat) (b k : Bool) (d : List Byte) : (s.logRecord e n b k d).pending = s.pending := (State.logRecord_reports _ _ _ _ _ _).pending
@[simp] theorem State.logRecord_eps (s : State) (e n : Nat) (b k : Bool) (d : List Byte) : (s.logRecord e n b k d).host.eps = s.host.eps := (State.logRecord_reports _ _ _ _ _ _).eps

@[simp] theorem State.event_clk (s : State) (e n : Nat) (d : List Byte) : (s.event e n d).clk = s.clk := (State.event_reports _ _ _ _).clk
@[simp] theorem State.event_pwr (s : State) (e n : Nat) (d : List Byte) : (s.event e n d).pwr = s.pwr := (State.event_reports _ _ _ _).pwr
@[simp] theorem State.event_pwrCfg (s : State) (e n : Nat) (d : List Byte) : (s.event e n d).pwrCfg = s.pwrCfg := (State.event_reports _ _ _ _).pwrCfg
@[simp] theorem State.event_sup (s : State) (e n : Nat) (d : List Byte) : (s.event e n d).sup = s.sup := (State.event_reports _ _ _ _).sup
@[simp] theorem State.event_pins (s : State) (e n : Nat) (d : List Byte) : (s.event e n d).pins = s.pins := (State.event_reports _ _ _ _).pins
@[simp] theorem State.event_boot (s : State) (e n : Nat) (d : List Byte) : (s.event e n d).boot = s.boot := (State.event_reports _ _ _ _).boot
@[simp] theorem State.event_mbx (s : State) (e n : Nat) (d : List Byte) : (s.event e n d).mbx = s.mbx := (State.event_reports _ _ _ _).mbx
@[simp] theorem State.event_bmc (s : State) (e n : Nat) (d : List Byte) : (s.event e n d).bmc = s.bmc := (State.event_reports _ _ _ _).bmc
@[simp] theorem State.event_time (s : State) (e n : Nat) (d : List Byte) : (s.event e n d).time = s.time := (State.event_reports _ _ _ _).time
@[simp] theorem State.event_route (s : State) (e n : Nat) (d : List Byte) : (s.event e n d).route = s.route := (State.event_reports _ _ _ _).route
@[simp] theorem State.event_links (s : State) (e n : Nat) (d : List Byte) : (s.event e n d).links = s.links := (State.event_reports _ _ _ _).links
@[simp] theorem State.event_conns (s : State) (e n : Nat) (d : List Byte) : (s.event e n d).conns = s.conns := (State.event_reports _ _ _ _).conns
@[simp] theorem State.event_scheds (s : State) (e n : Nat) (d : List Byte) : (s.event e n d).scheds = s.scheds := (State.event_reports _ _ _ _).scheds
@[simp] theorem State.event_tiles (s : State) (e n : Nat) (d : List Byte) : (s.event e n d).tiles = s.tiles := (State.event_reports _ _ _ _).tiles
@[simp] theorem State.event_planes (s : State) (e n : Nat) (d : List Byte) : (s.event e n d).planes = s.planes := (State.event_reports _ _ _ _).planes
@[simp] theorem State.event_net (s : State) (e n : Nat) (d : List Byte) : (s.event e n d).net = s.net := (State.event_reports _ _ _ _).net
@[simp] theorem State.event_sec (s : State) (e n : Nat) (d : List Byte) : (s.event e n d).sec = s.sec := (State.event_reports _ _ _ _).sec
@[simp] theorem State.event_fw (s : State) (e n : Nat) (d : List Byte) : (s.event e n d).fw = s.fw := (State.event_reports _ _ _ _).fw
@[simp] theorem State.event_mem (s : State) (e n : Nat) (d : List Byte) : (s.event e n d).mem = s.mem := (State.event_reports _ _ _ _).mem
@[simp] theorem State.event_ctxs (s : State) (e n : Nat) (d : List Byte) : (s.event e n d).ctxs = s.ctxs := (State.event_reports _ _ _ _).ctxs
@[simp] theorem State.event_ledgers (s : State) (e n : Nat) (d : List Byte) : (s.event e n d).ledgers = s.ledgers := (State.event_reports _ _ _ _).ledgers
@[simp] theorem State.event_qps (s : State) (e n : Nat) (d : List Byte) : (s.event e n d).qps = s.qps := (State.event_reports _ _ _ _).qps
@[simp] theorem State.event_gens (s : State) (e n : Nat) (d : List Byte) : (s.event e n d).gens = s.gens := (State.event_reports _ _ _ _).gens
@[simp] theorem State.event_domains (s : State) (e n : Nat) (d : List Byte) : (s.event e n d).domains = s.domains := (State.event_reports _ _ _ _).domains
@[simp] theorem State.event_nodes (s : State) (e n : Nat) (d : List Byte) : (s.event e n d).nodes = s.nodes := (State.event_reports _ _ _ _).nodes
@[simp] theorem State.event_violAt (s : State) (e n : Nat) (d : List Byte) : (s.event e n d).violAt = s.violAt := (State.event_reports _ _ _ _).violAt
@[simp] theorem State.event_free (s : State) (e n : Nat) (d : List Byte) : (s.event e n d).free = s.free := (State.event_reports _ _ _ _).free
@[simp] theorem State.event_pending (s : State) (e n : Nat) (d : List Byte) : (s.event e n d).pending = s.pending := (State.event_reports _ _ _ _).pending
@[simp] theorem State.event_eps (s : State) (e n : Nat) (d : List Byte) : (s.event e n d).host.eps = s.host.eps := (State.event_reports _ _ _ _).eps

@[simp] theorem State.powerEvent_clk (s : State) (e : Nat) (d : List Byte) : (s.powerEvent e d).clk = s.clk := (State.powerEvent_reports _ _ _).clk
@[simp] theorem State.powerEvent_pwr (s : State) (e : Nat) (d : List Byte) : (s.powerEvent e d).pwr = s.pwr := (State.powerEvent_reports _ _ _).pwr
@[simp] theorem State.powerEvent_pwrCfg (s : State) (e : Nat) (d : List Byte) : (s.powerEvent e d).pwrCfg = s.pwrCfg := (State.powerEvent_reports _ _ _).pwrCfg
@[simp] theorem State.powerEvent_sup (s : State) (e : Nat) (d : List Byte) : (s.powerEvent e d).sup = s.sup := (State.powerEvent_reports _ _ _).sup
@[simp] theorem State.powerEvent_pins (s : State) (e : Nat) (d : List Byte) : (s.powerEvent e d).pins = s.pins := (State.powerEvent_reports _ _ _).pins
@[simp] theorem State.powerEvent_boot (s : State) (e : Nat) (d : List Byte) : (s.powerEvent e d).boot = s.boot := (State.powerEvent_reports _ _ _).boot
@[simp] theorem State.powerEvent_mbx (s : State) (e : Nat) (d : List Byte) : (s.powerEvent e d).mbx = s.mbx := (State.powerEvent_reports _ _ _).mbx
@[simp] theorem State.powerEvent_bmc (s : State) (e : Nat) (d : List Byte) : (s.powerEvent e d).bmc = s.bmc := (State.powerEvent_reports _ _ _).bmc
@[simp] theorem State.powerEvent_time (s : State) (e : Nat) (d : List Byte) : (s.powerEvent e d).time = s.time := (State.powerEvent_reports _ _ _).time
@[simp] theorem State.powerEvent_route (s : State) (e : Nat) (d : List Byte) : (s.powerEvent e d).route = s.route := (State.powerEvent_reports _ _ _).route
@[simp] theorem State.powerEvent_links (s : State) (e : Nat) (d : List Byte) : (s.powerEvent e d).links = s.links := (State.powerEvent_reports _ _ _).links
@[simp] theorem State.powerEvent_conns (s : State) (e : Nat) (d : List Byte) : (s.powerEvent e d).conns = s.conns := (State.powerEvent_reports _ _ _).conns
@[simp] theorem State.powerEvent_scheds (s : State) (e : Nat) (d : List Byte) : (s.powerEvent e d).scheds = s.scheds := (State.powerEvent_reports _ _ _).scheds
@[simp] theorem State.powerEvent_tiles (s : State) (e : Nat) (d : List Byte) : (s.powerEvent e d).tiles = s.tiles := (State.powerEvent_reports _ _ _).tiles
@[simp] theorem State.powerEvent_planes (s : State) (e : Nat) (d : List Byte) : (s.powerEvent e d).planes = s.planes := (State.powerEvent_reports _ _ _).planes
@[simp] theorem State.powerEvent_net (s : State) (e : Nat) (d : List Byte) : (s.powerEvent e d).net = s.net := (State.powerEvent_reports _ _ _).net
@[simp] theorem State.powerEvent_sec (s : State) (e : Nat) (d : List Byte) : (s.powerEvent e d).sec = s.sec := (State.powerEvent_reports _ _ _).sec
@[simp] theorem State.powerEvent_fw (s : State) (e : Nat) (d : List Byte) : (s.powerEvent e d).fw = s.fw := (State.powerEvent_reports _ _ _).fw
@[simp] theorem State.powerEvent_mem (s : State) (e : Nat) (d : List Byte) : (s.powerEvent e d).mem = s.mem := (State.powerEvent_reports _ _ _).mem
@[simp] theorem State.powerEvent_ctxs (s : State) (e : Nat) (d : List Byte) : (s.powerEvent e d).ctxs = s.ctxs := (State.powerEvent_reports _ _ _).ctxs
@[simp] theorem State.powerEvent_ledgers (s : State) (e : Nat) (d : List Byte) : (s.powerEvent e d).ledgers = s.ledgers := (State.powerEvent_reports _ _ _).ledgers
@[simp] theorem State.powerEvent_qps (s : State) (e : Nat) (d : List Byte) : (s.powerEvent e d).qps = s.qps := (State.powerEvent_reports _ _ _).qps
@[simp] theorem State.powerEvent_gens (s : State) (e : Nat) (d : List Byte) : (s.powerEvent e d).gens = s.gens := (State.powerEvent_reports _ _ _).gens
@[simp] theorem State.powerEvent_domains (s : State) (e : Nat) (d : List Byte) : (s.powerEvent e d).domains = s.domains := (State.powerEvent_reports _ _ _).domains
@[simp] theorem State.powerEvent_nodes (s : State) (e : Nat) (d : List Byte) : (s.powerEvent e d).nodes = s.nodes := (State.powerEvent_reports _ _ _).nodes
@[simp] theorem State.powerEvent_violAt (s : State) (e : Nat) (d : List Byte) : (s.powerEvent e d).violAt = s.violAt := (State.powerEvent_reports _ _ _).violAt
@[simp] theorem State.powerEvent_free (s : State) (e : Nat) (d : List Byte) : (s.powerEvent e d).free = s.free := (State.powerEvent_reports _ _ _).free
@[simp] theorem State.powerEvent_pending (s : State) (e : Nat) (d : List Byte) : (s.powerEvent e d).pending = s.pending := (State.powerEvent_reports _ _ _).pending
@[simp] theorem State.powerEvent_eps (s : State) (e : Nat) (d : List Byte) : (s.powerEvent e d).host.eps = s.host.eps := (State.powerEvent_reports _ _ _).eps

@[simp] theorem State.react_clk (s : State) (src : Nat) (x : Deferred) : (s.react src x).clk = s.clk := (State.react_reports _ _ _).clk
@[simp] theorem State.react_pwr (s : State) (src : Nat) (x : Deferred) : (s.react src x).pwr = s.pwr := (State.react_reports _ _ _).pwr
@[simp] theorem State.react_pwrCfg (s : State) (src : Nat) (x : Deferred) : (s.react src x).pwrCfg = s.pwrCfg := (State.react_reports _ _ _).pwrCfg
@[simp] theorem State.react_sup (s : State) (src : Nat) (x : Deferred) : (s.react src x).sup = s.sup := (State.react_reports _ _ _).sup
@[simp] theorem State.react_pins (s : State) (src : Nat) (x : Deferred) : (s.react src x).pins = s.pins := (State.react_reports _ _ _).pins
@[simp] theorem State.react_boot (s : State) (src : Nat) (x : Deferred) : (s.react src x).boot = s.boot := (State.react_reports _ _ _).boot
@[simp] theorem State.react_mbx (s : State) (src : Nat) (x : Deferred) : (s.react src x).mbx = s.mbx := (State.react_reports _ _ _).mbx
@[simp] theorem State.react_bmc (s : State) (src : Nat) (x : Deferred) : (s.react src x).bmc = s.bmc := (State.react_reports _ _ _).bmc
@[simp] theorem State.react_time (s : State) (src : Nat) (x : Deferred) : (s.react src x).time = s.time := (State.react_reports _ _ _).time
@[simp] theorem State.react_route (s : State) (src : Nat) (x : Deferred) : (s.react src x).route = s.route := (State.react_reports _ _ _).route
@[simp] theorem State.react_links (s : State) (src : Nat) (x : Deferred) : (s.react src x).links = s.links := (State.react_reports _ _ _).links
@[simp] theorem State.react_conns (s : State) (src : Nat) (x : Deferred) : (s.react src x).conns = s.conns := (State.react_reports _ _ _).conns
@[simp] theorem State.react_scheds (s : State) (src : Nat) (x : Deferred) : (s.react src x).scheds = s.scheds := (State.react_reports _ _ _).scheds
@[simp] theorem State.react_tiles (s : State) (src : Nat) (x : Deferred) : (s.react src x).tiles = s.tiles := (State.react_reports _ _ _).tiles
@[simp] theorem State.react_planes (s : State) (src : Nat) (x : Deferred) : (s.react src x).planes = s.planes := (State.react_reports _ _ _).planes
@[simp] theorem State.react_net (s : State) (src : Nat) (x : Deferred) : (s.react src x).net = s.net := (State.react_reports _ _ _).net
@[simp] theorem State.react_sec (s : State) (src : Nat) (x : Deferred) : (s.react src x).sec = s.sec := (State.react_reports _ _ _).sec
@[simp] theorem State.react_fw (s : State) (src : Nat) (x : Deferred) : (s.react src x).fw = s.fw := (State.react_reports _ _ _).fw
@[simp] theorem State.react_mem (s : State) (src : Nat) (x : Deferred) : (s.react src x).mem = s.mem := (State.react_reports _ _ _).mem
@[simp] theorem State.react_ctxs (s : State) (src : Nat) (x : Deferred) : (s.react src x).ctxs = s.ctxs := (State.react_reports _ _ _).ctxs
@[simp] theorem State.react_ledgers (s : State) (src : Nat) (x : Deferred) : (s.react src x).ledgers = s.ledgers := (State.react_reports _ _ _).ledgers
@[simp] theorem State.react_qps (s : State) (src : Nat) (x : Deferred) : (s.react src x).qps = s.qps := (State.react_reports _ _ _).qps
@[simp] theorem State.react_gens (s : State) (src : Nat) (x : Deferred) : (s.react src x).gens = s.gens := (State.react_reports _ _ _).gens
@[simp] theorem State.react_domains (s : State) (src : Nat) (x : Deferred) : (s.react src x).domains = s.domains := (State.react_reports _ _ _).domains
@[simp] theorem State.react_nodes (s : State) (src : Nat) (x : Deferred) : (s.react src x).nodes = s.nodes := (State.react_reports _ _ _).nodes
@[simp] theorem State.react_violAt (s : State) (src : Nat) (x : Deferred) : (s.react src x).violAt = s.violAt := (State.react_reports _ _ _).violAt
@[simp] theorem State.react_free (s : State) (src : Nat) (x : Deferred) : (s.react src x).free = s.free := (State.react_reports _ _ _).free
@[simp] theorem State.react_pending (s : State) (src : Nat) (x : Deferred) : (s.react src x).pending = s.pending := (State.react_reports _ _ _).pending
@[simp] theorem State.react_eps (s : State) (src : Nat) (x : Deferred) : (s.react src x).host.eps = s.host.eps := (State.react_reports _ _ _).eps

@[simp] theorem State.record_clk (s : State) (src : Nat) (r : Report) : (s.record src r).clk = s.clk := (State.record_reports _ _ _).clk
@[simp] theorem State.record_pwr (s : State) (src : Nat) (r : Report) : (s.record src r).pwr = s.pwr := (State.record_reports _ _ _).pwr
@[simp] theorem State.record_pwrCfg (s : State) (src : Nat) (r : Report) : (s.record src r).pwrCfg = s.pwrCfg := (State.record_reports _ _ _).pwrCfg
@[simp] theorem State.record_sup (s : State) (src : Nat) (r : Report) : (s.record src r).sup = s.sup := (State.record_reports _ _ _).sup
@[simp] theorem State.record_pins (s : State) (src : Nat) (r : Report) : (s.record src r).pins = s.pins := (State.record_reports _ _ _).pins
@[simp] theorem State.record_boot (s : State) (src : Nat) (r : Report) : (s.record src r).boot = s.boot := (State.record_reports _ _ _).boot
@[simp] theorem State.record_mbx (s : State) (src : Nat) (r : Report) : (s.record src r).mbx = s.mbx := (State.record_reports _ _ _).mbx
@[simp] theorem State.record_bmc (s : State) (src : Nat) (r : Report) : (s.record src r).bmc = s.bmc := (State.record_reports _ _ _).bmc
@[simp] theorem State.record_time (s : State) (src : Nat) (r : Report) : (s.record src r).time = s.time := (State.record_reports _ _ _).time
@[simp] theorem State.record_route (s : State) (src : Nat) (r : Report) : (s.record src r).route = s.route := (State.record_reports _ _ _).route
@[simp] theorem State.record_links (s : State) (src : Nat) (r : Report) : (s.record src r).links = s.links := (State.record_reports _ _ _).links
@[simp] theorem State.record_conns (s : State) (src : Nat) (r : Report) : (s.record src r).conns = s.conns := (State.record_reports _ _ _).conns
@[simp] theorem State.record_scheds (s : State) (src : Nat) (r : Report) : (s.record src r).scheds = s.scheds := (State.record_reports _ _ _).scheds
@[simp] theorem State.record_tiles (s : State) (src : Nat) (r : Report) : (s.record src r).tiles = s.tiles := (State.record_reports _ _ _).tiles
@[simp] theorem State.record_planes (s : State) (src : Nat) (r : Report) : (s.record src r).planes = s.planes := (State.record_reports _ _ _).planes
@[simp] theorem State.record_net (s : State) (src : Nat) (r : Report) : (s.record src r).net = s.net := (State.record_reports _ _ _).net
@[simp] theorem State.record_sec (s : State) (src : Nat) (r : Report) : (s.record src r).sec = s.sec := (State.record_reports _ _ _).sec
@[simp] theorem State.record_fw (s : State) (src : Nat) (r : Report) : (s.record src r).fw = s.fw := (State.record_reports _ _ _).fw
@[simp] theorem State.record_mem (s : State) (src : Nat) (r : Report) : (s.record src r).mem = s.mem := (State.record_reports _ _ _).mem
@[simp] theorem State.record_ctxs (s : State) (src : Nat) (r : Report) : (s.record src r).ctxs = s.ctxs := (State.record_reports _ _ _).ctxs
@[simp] theorem State.record_ledgers (s : State) (src : Nat) (r : Report) : (s.record src r).ledgers = s.ledgers := (State.record_reports _ _ _).ledgers
@[simp] theorem State.record_qps (s : State) (src : Nat) (r : Report) : (s.record src r).qps = s.qps := (State.record_reports _ _ _).qps
@[simp] theorem State.record_gens (s : State) (src : Nat) (r : Report) : (s.record src r).gens = s.gens := (State.record_reports _ _ _).gens
@[simp] theorem State.record_domains (s : State) (src : Nat) (r : Report) : (s.record src r).domains = s.domains := (State.record_reports _ _ _).domains
@[simp] theorem State.record_nodes (s : State) (src : Nat) (r : Report) : (s.record src r).nodes = s.nodes := (State.record_reports _ _ _).nodes
@[simp] theorem State.record_violAt (s : State) (src : Nat) (r : Report) : (s.record src r).violAt = s.violAt := (State.record_reports _ _ _).violAt
@[simp] theorem State.record_free (s : State) (src : Nat) (r : Report) : (s.record src r).free = s.free := (State.record_reports _ _ _).free
@[simp] theorem State.record_pending (s : State) (src : Nat) (r : Report) : (s.record src r).pending = s.pending := (State.record_reports _ _ _).pending
@[simp] theorem State.record_eps (s : State) (src : Nat) (r : Report) : (s.record src r).host.eps = s.host.eps := (State.record_reports _ _ _).eps

@[simp] theorem State.fault_clk (s : State) (src : Nat) (k : FaultKind) (c : Option Nat) (a b : Nat) : (s.fault src k c a b).clk = s.clk := (State.fault_reports _ _ _ _ _ _).clk
@[simp] theorem State.fault_pwr (s : State) (src : Nat) (k : FaultKind) (c : Option Nat) (a b : Nat) : (s.fault src k c a b).pwr = s.pwr := (State.fault_reports _ _ _ _ _ _).pwr
@[simp] theorem State.fault_pwrCfg (s : State) (src : Nat) (k : FaultKind) (c : Option Nat) (a b : Nat) : (s.fault src k c a b).pwrCfg = s.pwrCfg := (State.fault_reports _ _ _ _ _ _).pwrCfg
@[simp] theorem State.fault_sup (s : State) (src : Nat) (k : FaultKind) (c : Option Nat) (a b : Nat) : (s.fault src k c a b).sup = s.sup := (State.fault_reports _ _ _ _ _ _).sup
@[simp] theorem State.fault_pins (s : State) (src : Nat) (k : FaultKind) (c : Option Nat) (a b : Nat) : (s.fault src k c a b).pins = s.pins := (State.fault_reports _ _ _ _ _ _).pins
@[simp] theorem State.fault_boot (s : State) (src : Nat) (k : FaultKind) (c : Option Nat) (a b : Nat) : (s.fault src k c a b).boot = s.boot := (State.fault_reports _ _ _ _ _ _).boot
@[simp] theorem State.fault_mbx (s : State) (src : Nat) (k : FaultKind) (c : Option Nat) (a b : Nat) : (s.fault src k c a b).mbx = s.mbx := (State.fault_reports _ _ _ _ _ _).mbx
@[simp] theorem State.fault_bmc (s : State) (src : Nat) (k : FaultKind) (c : Option Nat) (a b : Nat) : (s.fault src k c a b).bmc = s.bmc := (State.fault_reports _ _ _ _ _ _).bmc
@[simp] theorem State.fault_time (s : State) (src : Nat) (k : FaultKind) (c : Option Nat) (a b : Nat) : (s.fault src k c a b).time = s.time := (State.fault_reports _ _ _ _ _ _).time
@[simp] theorem State.fault_route (s : State) (src : Nat) (k : FaultKind) (c : Option Nat) (a b : Nat) : (s.fault src k c a b).route = s.route := (State.fault_reports _ _ _ _ _ _).route
@[simp] theorem State.fault_links (s : State) (src : Nat) (k : FaultKind) (c : Option Nat) (a b : Nat) : (s.fault src k c a b).links = s.links := (State.fault_reports _ _ _ _ _ _).links
@[simp] theorem State.fault_conns (s : State) (src : Nat) (k : FaultKind) (c : Option Nat) (a b : Nat) : (s.fault src k c a b).conns = s.conns := (State.fault_reports _ _ _ _ _ _).conns
@[simp] theorem State.fault_scheds (s : State) (src : Nat) (k : FaultKind) (c : Option Nat) (a b : Nat) : (s.fault src k c a b).scheds = s.scheds := (State.fault_reports _ _ _ _ _ _).scheds
@[simp] theorem State.fault_tiles (s : State) (src : Nat) (k : FaultKind) (c : Option Nat) (a b : Nat) : (s.fault src k c a b).tiles = s.tiles := (State.fault_reports _ _ _ _ _ _).tiles
@[simp] theorem State.fault_planes (s : State) (src : Nat) (k : FaultKind) (c : Option Nat) (a b : Nat) : (s.fault src k c a b).planes = s.planes := (State.fault_reports _ _ _ _ _ _).planes
@[simp] theorem State.fault_net (s : State) (src : Nat) (k : FaultKind) (c : Option Nat) (a b : Nat) : (s.fault src k c a b).net = s.net := (State.fault_reports _ _ _ _ _ _).net
@[simp] theorem State.fault_sec (s : State) (src : Nat) (k : FaultKind) (c : Option Nat) (a b : Nat) : (s.fault src k c a b).sec = s.sec := (State.fault_reports _ _ _ _ _ _).sec
@[simp] theorem State.fault_fw (s : State) (src : Nat) (k : FaultKind) (c : Option Nat) (a b : Nat) : (s.fault src k c a b).fw = s.fw := (State.fault_reports _ _ _ _ _ _).fw
@[simp] theorem State.fault_mem (s : State) (src : Nat) (k : FaultKind) (c : Option Nat) (a b : Nat) : (s.fault src k c a b).mem = s.mem := (State.fault_reports _ _ _ _ _ _).mem
@[simp] theorem State.fault_ctxs (s : State) (src : Nat) (k : FaultKind) (c : Option Nat) (a b : Nat) : (s.fault src k c a b).ctxs = s.ctxs := (State.fault_reports _ _ _ _ _ _).ctxs
@[simp] theorem State.fault_ledgers (s : State) (src : Nat) (k : FaultKind) (c : Option Nat) (a b : Nat) : (s.fault src k c a b).ledgers = s.ledgers := (State.fault_reports _ _ _ _ _ _).ledgers
@[simp] theorem State.fault_qps (s : State) (src : Nat) (k : FaultKind) (c : Option Nat) (a b : Nat) : (s.fault src k c a b).qps = s.qps := (State.fault_reports _ _ _ _ _ _).qps
@[simp] theorem State.fault_gens (s : State) (src : Nat) (k : FaultKind) (c : Option Nat) (a b : Nat) : (s.fault src k c a b).gens = s.gens := (State.fault_reports _ _ _ _ _ _).gens
@[simp] theorem State.fault_domains (s : State) (src : Nat) (k : FaultKind) (c : Option Nat) (a b : Nat) : (s.fault src k c a b).domains = s.domains := (State.fault_reports _ _ _ _ _ _).domains
@[simp] theorem State.fault_nodes (s : State) (src : Nat) (k : FaultKind) (c : Option Nat) (a b : Nat) : (s.fault src k c a b).nodes = s.nodes := (State.fault_reports _ _ _ _ _ _).nodes
@[simp] theorem State.fault_violAt (s : State) (src : Nat) (k : FaultKind) (c : Option Nat) (a b : Nat) : (s.fault src k c a b).violAt = s.violAt := (State.fault_reports _ _ _ _ _ _).violAt
@[simp] theorem State.fault_free (s : State) (src : Nat) (k : FaultKind) (c : Option Nat) (a b : Nat) : (s.fault src k c a b).free = s.free := (State.fault_reports _ _ _ _ _ _).free
@[simp] theorem State.fault_pending (s : State) (src : Nat) (k : FaultKind) (c : Option Nat) (a b : Nat) : (s.fault src k c a b).pending = s.pending := (State.fault_reports _ _ _ _ _ _).pending
@[simp] theorem State.fault_eps (s : State) (src : Nat) (k : FaultKind) (c : Option Nat) (a b : Nat) : (s.fault src k c a b).host.eps = s.host.eps := (State.fault_reports _ _ _ _ _ _).eps

@[simp] theorem State.faultBy_clk (s : State) (src k : Nat) (d : Detection) : (s.faultBy src k d).clk = s.clk := (State.faultBy_reports _ _ _ _).clk
@[simp] theorem State.faultBy_pwr (s : State) (src k : Nat) (d : Detection) : (s.faultBy src k d).pwr = s.pwr := (State.faultBy_reports _ _ _ _).pwr
@[simp] theorem State.faultBy_pwrCfg (s : State) (src k : Nat) (d : Detection) : (s.faultBy src k d).pwrCfg = s.pwrCfg := (State.faultBy_reports _ _ _ _).pwrCfg
@[simp] theorem State.faultBy_sup (s : State) (src k : Nat) (d : Detection) : (s.faultBy src k d).sup = s.sup := (State.faultBy_reports _ _ _ _).sup
@[simp] theorem State.faultBy_pins (s : State) (src k : Nat) (d : Detection) : (s.faultBy src k d).pins = s.pins := (State.faultBy_reports _ _ _ _).pins
@[simp] theorem State.faultBy_boot (s : State) (src k : Nat) (d : Detection) : (s.faultBy src k d).boot = s.boot := (State.faultBy_reports _ _ _ _).boot
@[simp] theorem State.faultBy_mbx (s : State) (src k : Nat) (d : Detection) : (s.faultBy src k d).mbx = s.mbx := (State.faultBy_reports _ _ _ _).mbx
@[simp] theorem State.faultBy_bmc (s : State) (src k : Nat) (d : Detection) : (s.faultBy src k d).bmc = s.bmc := (State.faultBy_reports _ _ _ _).bmc
@[simp] theorem State.faultBy_time (s : State) (src k : Nat) (d : Detection) : (s.faultBy src k d).time = s.time := (State.faultBy_reports _ _ _ _).time
@[simp] theorem State.faultBy_route (s : State) (src k : Nat) (d : Detection) : (s.faultBy src k d).route = s.route := (State.faultBy_reports _ _ _ _).route
@[simp] theorem State.faultBy_links (s : State) (src k : Nat) (d : Detection) : (s.faultBy src k d).links = s.links := (State.faultBy_reports _ _ _ _).links
@[simp] theorem State.faultBy_conns (s : State) (src k : Nat) (d : Detection) : (s.faultBy src k d).conns = s.conns := (State.faultBy_reports _ _ _ _).conns
@[simp] theorem State.faultBy_scheds (s : State) (src k : Nat) (d : Detection) : (s.faultBy src k d).scheds = s.scheds := (State.faultBy_reports _ _ _ _).scheds
@[simp] theorem State.faultBy_tiles (s : State) (src k : Nat) (d : Detection) : (s.faultBy src k d).tiles = s.tiles := (State.faultBy_reports _ _ _ _).tiles
@[simp] theorem State.faultBy_planes (s : State) (src k : Nat) (d : Detection) : (s.faultBy src k d).planes = s.planes := (State.faultBy_reports _ _ _ _).planes
@[simp] theorem State.faultBy_net (s : State) (src k : Nat) (d : Detection) : (s.faultBy src k d).net = s.net := (State.faultBy_reports _ _ _ _).net
@[simp] theorem State.faultBy_sec (s : State) (src k : Nat) (d : Detection) : (s.faultBy src k d).sec = s.sec := (State.faultBy_reports _ _ _ _).sec
@[simp] theorem State.faultBy_fw (s : State) (src k : Nat) (d : Detection) : (s.faultBy src k d).fw = s.fw := (State.faultBy_reports _ _ _ _).fw
@[simp] theorem State.faultBy_mem (s : State) (src k : Nat) (d : Detection) : (s.faultBy src k d).mem = s.mem := (State.faultBy_reports _ _ _ _).mem
@[simp] theorem State.faultBy_ctxs (s : State) (src k : Nat) (d : Detection) : (s.faultBy src k d).ctxs = s.ctxs := (State.faultBy_reports _ _ _ _).ctxs
@[simp] theorem State.faultBy_ledgers (s : State) (src k : Nat) (d : Detection) : (s.faultBy src k d).ledgers = s.ledgers := (State.faultBy_reports _ _ _ _).ledgers
@[simp] theorem State.faultBy_qps (s : State) (src k : Nat) (d : Detection) : (s.faultBy src k d).qps = s.qps := (State.faultBy_reports _ _ _ _).qps
@[simp] theorem State.faultBy_gens (s : State) (src k : Nat) (d : Detection) : (s.faultBy src k d).gens = s.gens := (State.faultBy_reports _ _ _ _).gens
@[simp] theorem State.faultBy_domains (s : State) (src k : Nat) (d : Detection) : (s.faultBy src k d).domains = s.domains := (State.faultBy_reports _ _ _ _).domains
@[simp] theorem State.faultBy_nodes (s : State) (src k : Nat) (d : Detection) : (s.faultBy src k d).nodes = s.nodes := (State.faultBy_reports _ _ _ _).nodes
@[simp] theorem State.faultBy_violAt (s : State) (src k : Nat) (d : Detection) : (s.faultBy src k d).violAt = s.violAt := (State.faultBy_reports _ _ _ _).violAt
@[simp] theorem State.faultBy_free (s : State) (src k : Nat) (d : Detection) : (s.faultBy src k d).free = s.free := (State.faultBy_reports _ _ _ _).free
@[simp] theorem State.faultBy_pending (s : State) (src k : Nat) (d : Detection) : (s.faultBy src k d).pending = s.pending := (State.faultBy_reports _ _ _ _).pending
@[simp] theorem State.faultBy_eps (s : State) (src k : Nat) (d : Detection) : (s.faultBy src k d).host.eps = s.host.eps := (State.faultBy_reports _ _ _ _).eps

@[simp] theorem State.clearCapture_clk (s : State) (src : Nat) : (s.clearCapture src).clk = s.clk := (State.clearCapture_reports _ _).clk
@[simp] theorem State.clearCapture_pwr (s : State) (src : Nat) : (s.clearCapture src).pwr = s.pwr := (State.clearCapture_reports _ _).pwr
@[simp] theorem State.clearCapture_pwrCfg (s : State) (src : Nat) : (s.clearCapture src).pwrCfg = s.pwrCfg := (State.clearCapture_reports _ _).pwrCfg
@[simp] theorem State.clearCapture_sup (s : State) (src : Nat) : (s.clearCapture src).sup = s.sup := (State.clearCapture_reports _ _).sup
@[simp] theorem State.clearCapture_pins (s : State) (src : Nat) : (s.clearCapture src).pins = s.pins := (State.clearCapture_reports _ _).pins
@[simp] theorem State.clearCapture_boot (s : State) (src : Nat) : (s.clearCapture src).boot = s.boot := (State.clearCapture_reports _ _).boot
@[simp] theorem State.clearCapture_mbx (s : State) (src : Nat) : (s.clearCapture src).mbx = s.mbx := (State.clearCapture_reports _ _).mbx
@[simp] theorem State.clearCapture_bmc (s : State) (src : Nat) : (s.clearCapture src).bmc = s.bmc := (State.clearCapture_reports _ _).bmc
@[simp] theorem State.clearCapture_time (s : State) (src : Nat) : (s.clearCapture src).time = s.time := (State.clearCapture_reports _ _).time
@[simp] theorem State.clearCapture_route (s : State) (src : Nat) : (s.clearCapture src).route = s.route := (State.clearCapture_reports _ _).route
@[simp] theorem State.clearCapture_links (s : State) (src : Nat) : (s.clearCapture src).links = s.links := (State.clearCapture_reports _ _).links
@[simp] theorem State.clearCapture_conns (s : State) (src : Nat) : (s.clearCapture src).conns = s.conns := (State.clearCapture_reports _ _).conns
@[simp] theorem State.clearCapture_scheds (s : State) (src : Nat) : (s.clearCapture src).scheds = s.scheds := (State.clearCapture_reports _ _).scheds
@[simp] theorem State.clearCapture_tiles (s : State) (src : Nat) : (s.clearCapture src).tiles = s.tiles := (State.clearCapture_reports _ _).tiles
@[simp] theorem State.clearCapture_planes (s : State) (src : Nat) : (s.clearCapture src).planes = s.planes := (State.clearCapture_reports _ _).planes
@[simp] theorem State.clearCapture_net (s : State) (src : Nat) : (s.clearCapture src).net = s.net := (State.clearCapture_reports _ _).net
@[simp] theorem State.clearCapture_sec (s : State) (src : Nat) : (s.clearCapture src).sec = s.sec := (State.clearCapture_reports _ _).sec
@[simp] theorem State.clearCapture_fw (s : State) (src : Nat) : (s.clearCapture src).fw = s.fw := (State.clearCapture_reports _ _).fw
@[simp] theorem State.clearCapture_mem (s : State) (src : Nat) : (s.clearCapture src).mem = s.mem := (State.clearCapture_reports _ _).mem
@[simp] theorem State.clearCapture_ctxs (s : State) (src : Nat) : (s.clearCapture src).ctxs = s.ctxs := (State.clearCapture_reports _ _).ctxs
@[simp] theorem State.clearCapture_ledgers (s : State) (src : Nat) : (s.clearCapture src).ledgers = s.ledgers := (State.clearCapture_reports _ _).ledgers
@[simp] theorem State.clearCapture_qps (s : State) (src : Nat) : (s.clearCapture src).qps = s.qps := (State.clearCapture_reports _ _).qps
@[simp] theorem State.clearCapture_gens (s : State) (src : Nat) : (s.clearCapture src).gens = s.gens := (State.clearCapture_reports _ _).gens
@[simp] theorem State.clearCapture_domains (s : State) (src : Nat) : (s.clearCapture src).domains = s.domains := (State.clearCapture_reports _ _).domains
@[simp] theorem State.clearCapture_nodes (s : State) (src : Nat) : (s.clearCapture src).nodes = s.nodes := (State.clearCapture_reports _ _).nodes
@[simp] theorem State.clearCapture_violAt (s : State) (src : Nat) : (s.clearCapture src).violAt = s.violAt := (State.clearCapture_reports _ _).violAt
@[simp] theorem State.clearCapture_free (s : State) (src : Nat) : (s.clearCapture src).free = s.free := (State.clearCapture_reports _ _).free
@[simp] theorem State.clearCapture_pending (s : State) (src : Nat) : (s.clearCapture src).pending = s.pending := (State.clearCapture_reports _ _).pending
@[simp] theorem State.clearCapture_eps (s : State) (src : Nat) : (s.clearCapture src).host.eps = s.host.eps := (State.clearCapture_reports _ _).eps

end Sys2Proof.Machine
end

