-- ==== Sys2Proof/Laws/Tables.lean ====
section
/-! SUPPORT. Keyed tables and byte memories: what a read gives after a write, and that every memory operation keeps the canonical form. -/
namespace Sys2Proof.Machine
set_option Elab.async false

/-! ### Keyed tables -/

@[simp] theorem Tbl.get?_nil {α : Type} (k : Nat) : Tbl.get? ([] : Tbl α) k = none := rfl

@[simp] theorem Tbl.getD_nil {α : Type} (k : Nat) (d : α) : Tbl.getD ([] : Tbl α) k d = d := rfl

@[simp] theorem Tbl.get?_set_self {α : Type} (t : Tbl α) (k : Nat) (v : α) : Tbl.get? (Tbl.set t k v) k = some v := by
  induction t with
  | nil => simp [Tbl.set, Tbl.get?]
  | cons e t ih =>
    obtain ⟨j, w⟩ := e
    simp only [Tbl.set]
    split
    · simp [Tbl.get?]
    · split
      · simp [Tbl.get?]
      · simp [Tbl.get?, *]

theorem Tbl.get?_set_ne {α : Type} (t : Tbl α) {k i : Nat} (v : α) (h : i ≠ k) : Tbl.get? (Tbl.set t k v) i = Tbl.get? t i := by
  induction t with
  | nil => simp [Tbl.set, Tbl.get?, Ne.symm h]
  | cons e t ih =>
    obtain ⟨j, w⟩ := e
    simp only [Tbl.set]
    split
    · subst_vars; simp [Tbl.get?, Ne.symm h]
    · split
      · simp [Tbl.get?, Ne.symm h]
      · simp [Tbl.get?, ih]

theorem Tbl.get?_set {α : Type} (t : Tbl α) (k i : Nat) (v : α) : Tbl.get? (Tbl.set t k v) i = if i = k then some v else Tbl.get? t i := by
  split
  · subst_vars; simp
  · exact Tbl.get?_set_ne t v ‹_›

/-- Of two writes to one key the later stays. -/
@[simp] theorem Tbl.set_set {α : Type} (t : Tbl α) (k : Nat) (v w : α) : Tbl.set (Tbl.set t k v) k w = Tbl.set t k w := by
  induction t with
  | nil => simp [Tbl.set]
  | cons e t ih =>
    obtain ⟨j, x⟩ := e
    simp only [Tbl.set]
    split
    · simp [Tbl.set]
    · split
      · simp [Tbl.set]
      · simp [Tbl.set, *]

@[simp] theorem Tbl.getD_set_self {α : Type} (t : Tbl α) (k : Nat) (v d : α) : Tbl.getD (Tbl.set t k v) k d = v := by
  simp [Tbl.getD]

theorem Tbl.getD_set_ne {α : Type} (t : Tbl α) {k i : Nat} (v d : α) (h : i ≠ k) : Tbl.getD (Tbl.set t k v) i d = Tbl.getD t i d := by
  simp [Tbl.getD, Tbl.get?_set_ne t v h]

theorem Tbl.getD_set {α : Type} (t : Tbl α) (k i : Nat) (v d : α) : Tbl.getD (Tbl.set t k v) i d = if i = k then v else Tbl.getD t i d := by
  split
  · subst_vars; simp
  · exact Tbl.getD_set_ne t v d ‹_›

theorem Tbl.get?_map {α : Type} (f : Nat → α → α) (t : Tbl α) (k : Nat) : Tbl.get? (Tbl.map f t) k = (Tbl.get? t k).map (f k) := by
  induction t with
  | nil => rfl
  | cons e t ih =>
    obtain ⟨j, w⟩ := e
    simp only [Tbl.map, List.map_cons, Tbl.get?] at ih ⊢
    split
    · subst_vars; rfl
    · exact ih

@[simp] theorem Tbl.get?_erase_self {α : Type} (t : Tbl α) (k : Nat) : Tbl.get? (Tbl.erase t k) k = none := by
  induction t with
  | nil => rfl
  | cons e t ih =>
    obtain ⟨j, w⟩ := e
    simp only [Tbl.erase]
    split
    · exact ih
    · simp [Tbl.get?, *]

theorem Tbl.get?_erase_ne {α : Type} (t : Tbl α) {k i : Nat} (h : i ≠ k) : Tbl.get? (Tbl.erase t k) i = Tbl.get? t i := by
  induction t with
  | nil => rfl
  | cons e t ih =>
    obtain ⟨j, w⟩ := e
    simp only [Tbl.erase]
    split
    · subst_vars; simp [Tbl.get?, Ne.symm h, ih]
    · simp [Tbl.get?, ih]

/-! ### Byte memories -/

theorem Memory.wf_nil : Memory.wf [] := ⟨List.Pairwise.nil, fun _ h => nomatch h⟩

/-- Every address a one-byte write lists was listed before or is the one written. -/
theorem Memory.mem_write1 {m : List Host.Cell} {a : Nat} {v : Byte} {c : Host.Cell} (h : c ∈ Memory.write1 m a v) : c ∈ m ∨ (c = (a, v) ∧ v ≠ 0) := by
  induction m with
  | nil =>
    simp only [Memory.write1] at h
    split at h
    · exact nomatch h
    · right; exact ⟨List.mem_singleton.mp h, ‹_›⟩
  | cons e t ih =>
    obtain ⟨b, w⟩ := e
    simp only [Memory.write1] at h
    split at h
    · split at h
      · left; exact List.mem_cons_of_mem _ h
      · rcases List.mem_cons.mp h with h | h
        · right; exact ⟨h, ‹_›⟩
        · left; exact List.mem_cons_of_mem _ h
    · split at h
      · split at h
        · left; exact h
        · rcases List.mem_cons.mp h with h | h
          · right; exact ⟨h, ‹_›⟩
          · left; exact h
      · rcases List.mem_cons.mp h with h | h
        · left; rw [h]; exact List.mem_cons_self
        · rcases ih h with h | h
          · left; exact List.mem_cons_of_mem _ h
          · right; exact h

theorem Memory.wf_write1 {m : List Host.Cell} (a : Nat) (v : Byte) (h : Memory.wf m) : Memory.wf (Memory.write1 m a v) := by
  induction m with
  | nil =>
    simp only [Memory.write1]
    split
    · exact Memory.wf_nil
    · exact ⟨List.pairwise_singleton _ _, fun c hc => by simp at hc; subst hc; assumption⟩
  | cons e t ih =>
    obtain ⟨b, w⟩ := e
    have ht : Memory.wf t := ⟨(List.pairwise_cons.mp h.1).2, fun c hc => h.2 c (List.mem_cons_of_mem _ hc)⟩
    have hb := (List.pairwise_cons.mp h.1).1
    have hw : w ≠ 0 := h.2 (b, w) List.mem_cons_self
    simp only [Memory.write1]
    split
    · subst_vars
      split
      · exact ht
      · refine ⟨List.pairwise_cons.mpr ⟨hb, ht.1⟩, fun c hc => ?_⟩
        rcases List.mem_cons.mp hc with hc | hc
        · subst hc; assumption
        · exact ht.2 c hc
    · split
      · split
        · exact h
        · refine ⟨List.pairwise_cons.mpr ⟨fun c hc => ?_, h.1⟩, fun c hc => ?_⟩
          · rcases List.mem_cons.mp hc with hc | hc
            · subst hc; assumption
            · exact Nat.lt_trans ‹a < b› (hb c hc)
          · rcases List.mem_cons.mp hc with hc | hc
            · subst hc; assumption
            · exact h.2 c hc
      · have i := ih ht
        refine ⟨List.pairwise_cons.mpr ⟨fun c hc => ?_, i.1⟩, fun c hc => ?_⟩
        · rcases Memory.mem_write1 hc with hc | ⟨hc, -⟩
          · exact hb c hc
          · subst hc; show b < a; omega
        · rcases List.mem_cons.mp hc with hc | hc
          · subst hc; exact hw
          · exact i.2 c hc

theorem Memory.wf_write {m : List Host.Cell} (a : Nat) (l : List Byte) (h : Memory.wf m) : Memory.wf (Memory.write m a l) := by
  induction l generalizing m a with
  | nil => exact h
  | cons v l ih => exact ih (a + 1) (Memory.wf_write1 a v h)

theorem Memory.wf_zero {m : List Host.Cell} (a n : Nat) (h : Memory.wf m) : Memory.wf (Memory.zero m a n) :=
  ⟨h.1.filter _, fun c hc => h.2 c (List.mem_of_mem_filter hc)⟩

end Sys2Proof.Machine
end

