-- ==== Sys2Proof/Laws/Time.lean ====
section
/-! SUPPORT. What the passing of time can change: the clock, the curve timers and the counters of nanoseconds, and nothing else. -/
namespace Sys2Proof.Machine
set_option Elab.async false

/-- A fold keeps what each of its steps keeps. -/
theorem foldl_keeps {α β : Type} (P : β → Prop) (f : β → α → β) (hf : ∀ b a, P b → P (f b a)) (l : List α) (b : β) (hb : P b) :
    P (l.foldl f b) := by
  induction l generalizing b with
  | nil => exact hb
  | cons a l ih => exact ih _ (hf b a hb)

/-- `t` is `s` but for counters of nanoseconds: the links' and endpoints' own, the VCs' STALL_NS and the performance counters. A port's link
changes in its counters only. -/
structure Counts (s t : State) : Prop where
  same : t = { s with host := { s.host with eps := t.host.eps }, perf := t.perf, route := t.route, links := t.links, net := t.net }
  link : ∀ p, ∃ c, t.link p = { s.link p with ctr := c }

theorem Counts.refl (s : State) : Counts s s := ⟨rfl, fun _ => ⟨_, rfl⟩⟩

theorem Counts.trans {s t u : State} (h : Counts s t) (k : Counts t u) : Counts s u where
  same := by rw [k.same, h.same]
  link p := by
    obtain ⟨c, hc⟩ := h.link p
    obtain ⟨d, hd⟩ := k.link p
    exact ⟨d, by rw [hd, hc]⟩

theorem State.count_counts (s : State) (ev i n : Nat) (q : Nat → Bool) : Counts s (s.count ev i q n) := ⟨rfl, fun _ => ⟨_, rfl⟩⟩

theorem State.addStall_counts (s : State) (p v n : Nat) : Counts s (s.addStall p v n) := ⟨rfl, fun _ => ⟨_, rfl⟩⟩

theorem State.portNs_counts (s : State) (p n : Nat) : Counts s (s.portNs p n) := by
  unfold State.portNs
  extract_lets l x s1 s2
  have h1 : Counts s s1 := foldl_keeps (Counts s) _ (fun b v hb => by
    split
    · exact hb.trans ((State.addStall_counts _ _ _ _).trans (State.count_counts _ _ _ _ _))
    · exact hb) _ _ (Counts.refl s)
  have h2 : Counts s s2 := foldl_keeps (Counts s) _ (fun b c hb => by
    extract_lets b1
    have h : Counts s b1 := by
      show Counts s (if _ then _ else _)
      split
      · exact hb.trans (State.count_counts _ _ _ _ _)
      · exact hb
    split
    · split
      · exact h.trans (State.count_counts _ _ _ _ _)
      · exact h
    · exact h) _ _ h1
  split
  · refine h2.trans ⟨rfl, fun q => ?_⟩
    simp only [State.modLink, State.link, State.setLink, Tbl.getD_set]
    split
    · subst_vars; exact ⟨_, rfl⟩
    · exact ⟨_, rfl⟩
  · exact h2

theorem State.epNs_counts (s : State) (e n : Nat) : Counts s (s.epNs e n) := by
  simp only [State.epNs]; split
  · exact Counts.refl s
  · exact Counts.trans (t := s.modEp e _) ⟨rfl, fun _ => ⟨_, rfl⟩⟩ (State.count_counts _ _ _ _ _)

theorem State.tileNs_counts (s : State) (t n : Nat) : Counts s (s.tileNs t n) := by
  simp only [State.tileNs]; split
  · exact Counts.refl s
  · exact State.count_counts _ _ _ _ _

theorem State.linkStall_counts (s : State) (t i n : Nat) : Counts s (s.linkStall t i n) := ⟨rfl, fun _ => ⟨_, rfl⟩⟩

theorem State.agentNs_counts (s : State) (a n : Nat) : Counts s (s.agentNs a n) := by
  simp only [State.agentNs]; split
  · exact Counts.refl s
  · exact State.count_counts _ _ _ _ _

theorem State.ctxNs_counts (s : State) (e : Nat × Ctx) (n : Nat) : Counts s (s.ctxNs e n) := by
  simp only [State.ctxNs]; split
  · exact State.count_counts _ _ _ _ _
  · exact Counts.refl s

theorem State.countNs_counts (s : State) (n : Nat) : Counts s (s.countNs n) := by
  unfold State.countNs
  split
  · exact Counts.refl s
  · extract_lets s0 s1 s2 s2' s3 s4
    have h0 : Counts s s0 := State.count_counts s 0x0100 0 n qAny
    have h1 : Counts s s1 := foldl_keeps (Counts s) _ (fun b p hb => hb.trans (State.portNs_counts b p n)) _ _ h0
    have h2 : Counts s s2 := foldl_keeps (Counts s) _ (fun b e hb => hb.trans (State.tileNs_counts b e.1 n)) _ _ h1
    have h2' : Counts s s2' := foldl_keeps (Counts s) _ (fun b o hb => hb.trans (State.linkStall_counts b o.1 o.2 n)) _ _ h2
    have h3 : Counts s s3 := foldl_keeps (Counts s) _ (fun b a hb => hb.trans (State.agentNs_counts b a n)) _ _ h2'
    have h4 : Counts s s4 := foldl_keeps (Counts s) _ (fun b e hb => hb.trans (State.ctxNs_counts b e n)) _ _ h3
    exact foldl_keeps (Counts s) _ (fun b e hb => hb.trans (State.epNs_counts b e n)) _ _ h4

/-- `t` is `s` after some time: its clock, curve timers and counters of nanoseconds. -/
structure Later (s t : State) : Prop where
  same : t = { s with clk := t.clk, pwrCfg := t.pwrCfg, host := { s.host with eps := t.host.eps }, perf := t.perf, route := t.route, links := t.links, net := t.net }
  link : ∀ p, ∃ c, t.link p = { s.link p with ctr := c }
  timers : ∃ l, t.pwrCfg = { s.pwrCfg with timers := l }

theorem State.curveTime_later (s : State) (d : Nat) : Later s (s.curveTime d) := by
  simp only [State.curveTime]; split
  · exact ⟨rfl, fun _ => ⟨_, rfl⟩, _, rfl⟩
  · exact ⟨rfl, fun _ => ⟨_, rfl⟩, _, rfl⟩

/-- `d` ticks change only what time changes. -/
theorem State.passTime_later (s : State) (d : Nat) : Later s (s.passTime d) := by
  let n := s.clk.ntTicks s.time.rateAdj d
  have h := State.curveTime_later s n
  have k := State.countNs_counts (s.curveTime n) (nsOver s.clk.now n)
  unfold State.passTime
  split
  · exact ⟨rfl, fun _ => ⟨_, rfl⟩, _, rfl⟩
  · split
    · refine ⟨?_, fun p => ?_, ?_⟩
      · dsimp only; rw [k.same, h.same]
      · obtain ⟨c, hc⟩ := k.link p
        obtain ⟨d', hd⟩ := h.link p
        refine ⟨c, ?_⟩
        show ((s.curveTime n).countNs _).link p = _
        rw [hc, hd]
      · obtain ⟨l, hl⟩ := h.timers
        refine ⟨l, ?_⟩
        show ((s.curveTime n).countNs _).pwrCfg = _
        rw [k.same, hl]
    · have h := State.curveTime_later s d
      refine ⟨?_, h.link, h.timers⟩
      rw [h.same]

/-- `d` ticks of the clock source later the clock has advanced by them; NT only while the die runs. -/
theorem State.passTime_clk (s : State) (d : Nat) (h : d ≠ 0) :
    (s.passTime d).clk = if s.dieRuns then s.clk.advance s.time.rateAdj d else { s.clk with now := s.clk.now + d } := by
  unfold State.passTime
  rw [if_neg h]
  split <;> rfl

/-- No time passes in 0 ticks. -/
@[simp] theorem State.passTime_zero (s : State) : s.passTime 0 = s := rfl

theorem Later.pwr {s t : State} (h : Later s t) : t.pwr = s.pwr := by rw [h.same]
theorem Later.sup {s t : State} (h : Later s t) : t.sup = s.sup := by rw [h.same]
theorem Later.pins {s t : State} (h : Later s t) : t.pins = s.pins := by rw [h.same]
theorem Later.boot {s t : State} (h : Later s t) : t.boot = s.boot := by rw [h.same]
theorem Later.mbx {s t : State} (h : Later s t) : t.mbx = s.mbx := by rw [h.same]
theorem Later.bmc {s t : State} (h : Later s t) : t.bmc = s.bmc := by rw [h.same]
theorem Later.faults {s t : State} (h : Later s t) : t.faults = s.faults := by rw [h.same]
theorem Later.plog {s t : State} (h : Later s t) : t.plog = s.plog := by rw [h.same]
theorem Later.time {s t : State} (h : Later s t) : t.time = s.time := by rw [h.same]
theorem Later.conns {s t : State} (h : Later s t) : t.conns = s.conns := by rw [h.same]
theorem Later.scheds {s t : State} (h : Later s t) : t.scheds = s.scheds := by rw [h.same]
theorem Later.tiles {s t : State} (h : Later s t) : t.tiles = s.tiles := by rw [h.same]
theorem Later.planes {s t : State} (h : Later s t) : t.planes = s.planes := by rw [h.same]
theorem Later.sec {s t : State} (h : Later s t) : t.sec = s.sec := by rw [h.same]
theorem Later.fw {s t : State} (h : Later s t) : t.fw = s.fw := by rw [h.same]
theorem Later.mem {s t : State} (h : Later s t) : t.mem = s.mem := by rw [h.same]
theorem Later.ctxs {s t : State} (h : Later s t) : t.ctxs = s.ctxs := by rw [h.same]
theorem Later.ledgers {s t : State} (h : Later s t) : t.ledgers = s.ledgers := by rw [h.same]
theorem Later.qps {s t : State} (h : Later s t) : t.qps = s.qps := by rw [h.same]
theorem Later.gens {s t : State} (h : Later s t) : t.gens = s.gens := by rw [h.same]
theorem Later.domains {s t : State} (h : Later s t) : t.domains = s.domains := by rw [h.same]
theorem Later.nodes {s t : State} (h : Later s t) : t.nodes = s.nodes := by rw [h.same]
theorem Later.violAt {s t : State} (h : Later s t) : t.violAt = s.violAt := by rw [h.same]
theorem Later.free {s t : State} (h : Later s t) : t.free = s.free := by rw [h.same]
theorem Later.out {s t : State} (h : Later s t) : t.out = s.out := by rw [h.same]
theorem Later.pending {s t : State} (h : Later s t) : t.pending = s.pending := by rw [h.same]

@[simp] theorem State.passTime_pwr (s : State) (d : Nat) : (s.passTime d).pwr = s.pwr := (State.passTime_later s _).pwr
@[simp] theorem State.passTime_sup (s : State) (d : Nat) : (s.passTime d).sup = s.sup := (State.passTime_later s _).sup
@[simp] theorem State.passTime_pins (s : State) (d : Nat) : (s.passTime d).pins = s.pins := (State.passTime_later s _).pins
@[simp] theorem State.passTime_boot (s : State) (d : Nat) : (s.passTime d).boot = s.boot := (State.passTime_later s _).boot
@[simp] theorem State.passTime_mbx (s : State) (d : Nat) : (s.passTime d).mbx = s.mbx := (State.passTime_later s _).mbx
@[simp] theorem State.passTime_bmc (s : State) (d : Nat) : (s.passTime d).bmc = s.bmc := (State.passTime_later s _).bmc
@[simp] theorem State.passTime_faults (s : State) (d : Nat) : (s.passTime d).faults = s.faults := (State.passTime_later s _).faults
@[simp] theorem State.passTime_plog (s : State) (d : Nat) : (s.passTime d).plog = s.plog := (State.passTime_later s _).plog
@[simp] theorem State.passTime_time (s : State) (d : Nat) : (s.passTime d).time = s.time := (State.passTime_later s _).time
@[simp] theorem State.passTime_conns (s : State) (d : Nat) : (s.passTime d).conns = s.conns := (State.passTime_later s _).conns
@[simp] theorem State.passTime_scheds (s : State) (d : Nat) : (s.passTime d).scheds = s.scheds := (State.passTime_later s _).scheds
@[simp] theorem State.passTime_tiles (s : State) (d : Nat) : (s.passTime d).tiles = s.tiles := (State.passTime_later s _).tiles
@[simp] theorem State.passTime_planes (s : State) (d : Nat) : (s.passTime d).planes = s.planes := (State.passTime_later s _).planes
@[simp] theorem State.passTime_sec (s : State) (d : Nat) : (s.passTime d).sec = s.sec := (State.passTime_later s _).sec
@[simp] theorem State.passTime_fw (s : State) (d : Nat) : (s.passTime d).fw = s.fw := (State.passTime_later s _).fw
@[simp] theorem State.passTime_mem (s : State) (d : Nat) : (s.passTime d).mem = s.mem := (State.passTime_later s _).mem
@[simp] theorem State.passTime_ctxs (s : State) (d : Nat) : (s.passTime d).ctxs = s.ctxs := (State.passTime_later s _).ctxs
@[simp] theorem State.passTime_ledgers (s : State) (d : Nat) : (s.passTime d).ledgers = s.ledgers := (State.passTime_later s _).ledgers
@[simp] theorem State.passTime_qps (s : State) (d : Nat) : (s.passTime d).qps = s.qps := (State.passTime_later s _).qps
@[simp] theorem State.passTime_gens (s : State) (d : Nat) : (s.passTime d).gens = s.gens := (State.passTime_later s _).gens
@[simp] theorem State.passTime_domains (s : State) (d : Nat) : (s.passTime d).domains = s.domains := (State.passTime_later s _).domains
@[simp] theorem State.passTime_nodes (s : State) (d : Nat) : (s.passTime d).nodes = s.nodes := (State.passTime_later s _).nodes
@[simp] theorem State.passTime_violAt (s : State) (d : Nat) : (s.passTime d).violAt = s.violAt := (State.passTime_later s _).violAt
@[simp] theorem State.passTime_free (s : State) (d : Nat) : (s.passTime d).free = s.free := (State.passTime_later s _).free
@[simp] theorem State.passTime_out (s : State) (d : Nat) : (s.passTime d).out = s.out := (State.passTime_later s _).out
@[simp] theorem State.passTime_pending (s : State) (d : Nat) : (s.passTime d).pending = s.pending := (State.passTime_later s _).pending

@[simp] theorem State.reach_pwr (s : State) (due : Nat) : (s.reach due).pwr = s.pwr := (State.passTime_later s _).pwr
@[simp] theorem State.reach_sup (s : State) (due : Nat) : (s.reach due).sup = s.sup := (State.passTime_later s _).sup
@[simp] theorem State.reach_pins (s : State) (due : Nat) : (s.reach due).pins = s.pins := (State.passTime_later s _).pins
@[simp] theorem State.reach_boot (s : State) (due : Nat) : (s.reach due).boot = s.boot := (State.passTime_later s _).boot
@[simp] theorem State.reach_mbx (s : State) (due : Nat) : (s.reach due).mbx = s.mbx := (State.passTime_later s _).mbx
@[simp] theorem State.reach_bmc (s : State) (due : Nat) : (s.reach due).bmc = s.bmc := (State.passTime_later s _).bmc
@[simp] theorem State.reach_faults (s : State) (due : Nat) : (s.reach due).faults = s.faults := (State.passTime_later s _).faults
@[simp] theorem State.reach_plog (s : State) (due : Nat) : (s.reach due).plog = s.plog := (State.passTime_later s _).plog
@[simp] theorem State.reach_time (s : State) (due : Nat) : (s.reach due).time = s.time := (State.passTime_later s _).time
@[simp] theorem State.reach_conns (s : State) (due : Nat) : (s.reach due).conns = s.conns := (State.passTime_later s _).conns
@[simp] theorem State.reach_scheds (s : State) (due : Nat) : (s.reach due).scheds = s.scheds := (State.passTime_later s _).scheds
@[simp] theorem State.reach_tiles (s : State) (due : Nat) : (s.reach due).tiles = s.tiles := (State.passTime_later s _).tiles
@[simp] theorem State.reach_planes (s : State) (due : Nat) : (s.reach due).planes = s.planes := (State.passTime_later s _).planes
@[simp] theorem State.reach_sec (s : State) (due : Nat) : (s.reach due).sec = s.sec := (State.passTime_later s _).sec
@[simp] theorem State.reach_fw (s : State) (due : Nat) : (s.reach due).fw = s.fw := (State.passTime_later s _).fw
@[simp] theorem State.reach_mem (s : State) (due : Nat) : (s.reach due).mem = s.mem := (State.passTime_later s _).mem
@[simp] theorem State.reach_ctxs (s : State) (due : Nat) : (s.reach due).ctxs = s.ctxs := (State.passTime_later s _).ctxs
@[simp] theorem State.reach_ledgers (s : State) (due : Nat) : (s.reach due).ledgers = s.ledgers := (State.passTime_later s _).ledgers
@[simp] theorem State.reach_qps (s : State) (due : Nat) : (s.reach due).qps = s.qps := (State.passTime_later s _).qps
@[simp] theorem State.reach_gens (s : State) (due : Nat) : (s.reach due).gens = s.gens := (State.passTime_later s _).gens
@[simp] theorem State.reach_domains (s : State) (due : Nat) : (s.reach due).domains = s.domains := (State.passTime_later s _).domains
@[simp] theorem State.reach_nodes (s : State) (due : Nat) : (s.reach due).nodes = s.nodes := (State.passTime_later s _).nodes
@[simp] theorem State.reach_violAt (s : State) (due : Nat) : (s.reach due).violAt = s.violAt := (State.passTime_later s _).violAt
@[simp] theorem State.reach_free (s : State) (due : Nat) : (s.reach due).free = s.free := (State.passTime_later s _).free
@[simp] theorem State.reach_out (s : State) (due : Nat) : (s.reach due).out = s.out := (State.passTime_later s _).out
@[simp] theorem State.reach_pending (s : State) (due : Nat) : (s.reach due).pending = s.pending := (State.passTime_later s _).pending

@[simp] theorem State.reachNt_pwr (s : State) (t : U64) : (s.reachNt t).pwr = s.pwr := (State.passTime_later s _).pwr
@[simp] theorem State.reachNt_sup (s : State) (t : U64) : (s.reachNt t).sup = s.sup := (State.passTime_later s _).sup
@[simp] theorem State.reachNt_pins (s : State) (t : U64) : (s.reachNt t).pins = s.pins := (State.passTime_later s _).pins
@[simp] theorem State.reachNt_boot (s : State) (t : U64) : (s.reachNt t).boot = s.boot := (State.passTime_later s _).boot
@[simp] theorem State.reachNt_mbx (s : State) (t : U64) : (s.reachNt t).mbx = s.mbx := (State.passTime_later s _).mbx
@[simp] theorem State.reachNt_bmc (s : State) (t : U64) : (s.reachNt t).bmc = s.bmc := (State.passTime_later s _).bmc
@[simp] theorem State.reachNt_faults (s : State) (t : U64) : (s.reachNt t).faults = s.faults := (State.passTime_later s _).faults
@[simp] theorem State.reachNt_plog (s : State) (t : U64) : (s.reachNt t).plog = s.plog := (State.passTime_later s _).plog
@[simp] theorem State.reachNt_time (s : State) (t : U64) : (s.reachNt t).time = s.time := (State.passTime_later s _).time
@[simp] theorem State.reachNt_conns (s : State) (t : U64) : (s.reachNt t).conns = s.conns := (State.passTime_later s _).conns
@[simp] theorem State.reachNt_scheds (s : State) (t : U64) : (s.reachNt t).scheds = s.scheds := (State.passTime_later s _).scheds
@[simp] theorem State.reachNt_tiles (s : State) (t : U64) : (s.reachNt t).tiles = s.tiles := (State.passTime_later s _).tiles
@[simp] theorem State.reachNt_planes (s : State) (t : U64) : (s.reachNt t).planes = s.planes := (State.passTime_later s _).planes
@[simp] theorem State.reachNt_sec (s : State) (t : U64) : (s.reachNt t).sec = s.sec := (State.passTime_later s _).sec
@[simp] theorem State.reachNt_fw (s : State) (t : U64) : (s.reachNt t).fw = s.fw := (State.passTime_later s _).fw
@[simp] theorem State.reachNt_mem (s : State) (t : U64) : (s.reachNt t).mem = s.mem := (State.passTime_later s _).mem
@[simp] theorem State.reachNt_ctxs (s : State) (t : U64) : (s.reachNt t).ctxs = s.ctxs := (State.passTime_later s _).ctxs
@[simp] theorem State.reachNt_ledgers (s : State) (t : U64) : (s.reachNt t).ledgers = s.ledgers := (State.passTime_later s _).ledgers
@[simp] theorem State.reachNt_qps (s : State) (t : U64) : (s.reachNt t).qps = s.qps := (State.passTime_later s _).qps
@[simp] theorem State.reachNt_gens (s : State) (t : U64) : (s.reachNt t).gens = s.gens := (State.passTime_later s _).gens
@[simp] theorem State.reachNt_domains (s : State) (t : U64) : (s.reachNt t).domains = s.domains := (State.passTime_later s _).domains
@[simp] theorem State.reachNt_nodes (s : State) (t : U64) : (s.reachNt t).nodes = s.nodes := (State.passTime_later s _).nodes
@[simp] theorem State.reachNt_violAt (s : State) (t : U64) : (s.reachNt t).violAt = s.violAt := (State.passTime_later s _).violAt
@[simp] theorem State.reachNt_free (s : State) (t : U64) : (s.reachNt t).free = s.free := (State.passTime_later s _).free
@[simp] theorem State.reachNt_out (s : State) (t : U64) : (s.reachNt t).out = s.out := (State.passTime_later s _).out
@[simp] theorem State.reachNt_pending (s : State) (t : U64) : (s.reachNt t).pending = s.pending := (State.passTime_later s _).pending

end Sys2Proof.Machine
end

