-- ==== Sys2Proof/Laws/Power.lean ====
section
/-! SUPPORT. What the operations of power and reset change: one lemma per field, and the whole of what a trip and a device reset leave. -/
namespace Sys2Proof.Machine
set_option Elab.async false

@[simp] theorem State.supInt_clk (s : State) (b : Nat) : (s.supInt b).clk = s.clk := by
  unfold State.supInt; simp
@[simp] theorem State.supInt_pwr (s : State) (b : Nat) : (s.supInt b).pwr = s.pwr := by
  unfold State.supInt; simp
@[simp] theorem State.supInt_pwrCfg (s : State) (b : Nat) : (s.supInt b).pwrCfg = s.pwrCfg := by
  unfold State.supInt; simp
@[simp] theorem State.supInt_pins (s : State) (b : Nat) : (s.supInt b).pins = s.pins := by
  unfold State.supInt; simp
@[simp] theorem State.supInt_boot (s : State) (b : Nat) : (s.supInt b).boot = s.boot := by
  unfold State.supInt; simp
@[simp] theorem State.supInt_mbx (s : State) (b : Nat) : (s.supInt b).mbx = s.mbx := by
  unfold State.supInt; simp
@[simp] theorem State.supInt_bmc (s : State) (b : Nat) : (s.supInt b).bmc = s.bmc := by
  unfold State.supInt; simp
@[simp] theorem State.supInt_time (s : State) (b : Nat) : (s.supInt b).time = s.time := by
  unfold State.supInt; simp
@[simp] theorem State.supInt_route (s : State) (b : Nat) : (s.supInt b).route = s.route := by
  unfold State.supInt; simp
@[simp] theorem State.supInt_links (s : State) (b : Nat) : (s.supInt b).links = s.links := by
  unfold State.supInt; simp
@[simp] theorem State.supInt_conns (s : State) (b : Nat) : (s.supInt b).conns = s.conns := by
  unfold State.supInt; simp
@[simp] theorem State.supInt_scheds (s : State) (b : Nat) : (s.supInt b).scheds = s.scheds := by
  unfold State.supInt; simp
@[simp] theorem State.supInt_tiles (s : State) (b : Nat) : (s.supInt b).tiles = s.tiles := by
  unfold State.supInt; simp
@[simp] theorem State.supInt_planes (s : State) (b : Nat) : (s.supInt b).planes = s.planes := by
  unfold State.supInt; simp
@[simp] theorem State.supInt_net (s : State) (b : Nat) : (s.supInt b).net = s.net := by
  unfold State.supInt; simp
@[simp] theorem State.supInt_sec (s : State) (b : Nat) : (s.supInt b).sec = s.sec := by
  unfold State.supInt; simp
@[simp] theorem State.supInt_fw (s : State) (b : Nat) : (s.supInt b).fw = s.fw := by
  unfold State.supInt; simp
@[simp] theorem State.supInt_mem (s : State) (b : Nat) : (s.supInt b).mem = s.mem := by
  unfold State.supInt; simp
@[simp] theorem State.supInt_ctxs (s : State) (b : Nat) : (s.supInt b).ctxs = s.ctxs := by
  unfold State.supInt; simp
@[simp] theorem State.supInt_ledgers (s : State) (b : Nat) : (s.supInt b).ledgers = s.ledgers := by
  unfold State.supInt; simp
@[simp] theorem State.supInt_qps (s : State) (b : Nat) : (s.supInt b).qps = s.qps := by
  unfold State.supInt; simp
@[simp] theorem State.supInt_gens (s : State) (b : Nat) : (s.supInt b).gens = s.gens := by
  unfold State.supInt; simp
@[simp] theorem State.supInt_domains (s : State) (b : Nat) : (s.supInt b).domains = s.domains := by
  unfold State.supInt; simp
@[simp] theorem State.supInt_nodes (s : State) (b : Nat) : (s.supInt b).nodes = s.nodes := by
  unfold State.supInt; simp
@[simp] theorem State.supInt_violAt (s : State) (b : Nat) : (s.supInt b).violAt = s.violAt := by
  unfold State.supInt; simp
@[simp] theorem State.supInt_free (s : State) (b : Nat) : (s.supInt b).free = s.free := by
  unfold State.supInt; simp
@[simp] theorem State.supInt_pending (s : State) (b : Nat) : (s.supInt b).pending = s.pending := by
  unfold State.supInt; simp

@[simp] theorem State.secInt_clk (s : State) (b : Nat) : (s.secInt b).clk = s.clk := by
  unfold State.secInt; simp
@[simp] theorem State.secInt_pwr (s : State) (b : Nat) : (s.secInt b).pwr = s.pwr := by
  unfold State.secInt; simp
@[simp] theorem State.secInt_pwrCfg (s : State) (b : Nat) : (s.secInt b).pwrCfg = s.pwrCfg := by
  unfold State.secInt; simp
@[simp] theorem State.secInt_sup (s : State) (b : Nat) : (s.secInt b).sup = s.sup := by
  unfold State.secInt; simp
@[simp] theorem State.secInt_pins (s : State) (b : Nat) : (s.secInt b).pins = s.pins := by
  unfold State.secInt; simp
@[simp] theorem State.secInt_boot (s : State) (b : Nat) : (s.secInt b).boot = s.boot := by
  unfold State.secInt; simp
@[simp] theorem State.secInt_mbx (s : State) (b : Nat) : (s.secInt b).mbx = s.mbx := by
  unfold State.secInt; simp
@[simp] theorem State.secInt_bmc (s : State) (b : Nat) : (s.secInt b).bmc = s.bmc := by
  unfold State.secInt; simp
@[simp] theorem State.secInt_time (s : State) (b : Nat) : (s.secInt b).time = s.time := by
  unfold State.secInt; simp
@[simp] theorem State.secInt_route (s : State) (b : Nat) : (s.secInt b).route = s.route := by
  unfold State.secInt; simp
@[simp] theorem State.secInt_links (s : State) (b : Nat) : (s.secInt b).links = s.links := by
  unfold State.secInt; simp
@[simp] theorem State.secInt_conns (s : State) (b : Nat) : (s.secInt b).conns = s.conns := by
  unfold State.secInt; simp
@[simp] theorem State.secInt_scheds (s : State) (b : Nat) : (s.secInt b).scheds = s.scheds := by
  unfold State.secInt; simp
@[simp] theorem State.secInt_tiles (s : State) (b : Nat) : (s.secInt b).tiles = s.tiles := by
  unfold State.secInt; simp
@[simp] theorem State.secInt_planes (s : State) (b : Nat) : (s.secInt b).planes = s.planes := by
  unfold State.secInt; simp
@[simp] theorem State.secInt_net (s : State) (b : Nat) : (s.secInt b).net = s.net := by
  unfold State.secInt; simp
@[simp] theorem State.secInt_fw (s : State) (b : Nat) : (s.secInt b).fw = s.fw := by
  unfold State.secInt; simp
@[simp] theorem State.secInt_mem (s : State) (b : Nat) : (s.secInt b).mem = s.mem := by
  unfold State.secInt; simp
@[simp] theorem State.secInt_ctxs (s : State) (b : Nat) : (s.secInt b).ctxs = s.ctxs := by
  unfold State.secInt; simp
@[simp] theorem State.secInt_ledgers (s : State) (b : Nat) : (s.secInt b).ledgers = s.ledgers := by
  unfold State.secInt; simp
@[simp] theorem State.secInt_qps (s : State) (b : Nat) : (s.secInt b).qps = s.qps := by
  unfold State.secInt; simp
@[simp] theorem State.secInt_gens (s : State) (b : Nat) : (s.secInt b).gens = s.gens := by
  unfold State.secInt; simp
@[simp] theorem State.secInt_domains (s : State) (b : Nat) : (s.secInt b).domains = s.domains := by
  unfold State.secInt; simp
@[simp] theorem State.secInt_nodes (s : State) (b : Nat) : (s.secInt b).nodes = s.nodes := by
  unfold State.secInt; simp
@[simp] theorem State.secInt_violAt (s : State) (b : Nat) : (s.secInt b).violAt = s.violAt := by
  unfold State.secInt; simp
@[simp] theorem State.secInt_free (s : State) (b : Nat) : (s.secInt b).free = s.free := by
  unfold State.secInt; simp
@[simp] theorem State.secInt_pending (s : State) (b : Nat) : (s.secInt b).pending = s.pending := by
  unfold State.secInt; simp

@[simp] theorem State.pwrEvent_clk (s : State) (e : Nat) : (s.pwrEvent e).clk = s.clk := by
  unfold State.pwrEvent; simp
@[simp] theorem State.pwrEvent_pwr (s : State) (e : Nat) : (s.pwrEvent e).pwr = s.pwr := by
  unfold State.pwrEvent; simp
@[simp] theorem State.pwrEvent_pwrCfg (s : State) (e : Nat) : (s.pwrEvent e).pwrCfg = s.pwrCfg := by
  unfold State.pwrEvent; simp
@[simp] theorem State.pwrEvent_sup (s : State) (e : Nat) : (s.pwrEvent e).sup = s.sup := by
  unfold State.pwrEvent; simp
@[simp] theorem State.pwrEvent_pins (s : State) (e : Nat) : (s.pwrEvent e).pins = s.pins := by
  unfold State.pwrEvent; simp
@[simp] theorem State.pwrEvent_boot (s : State) (e : Nat) : (s.pwrEvent e).boot = s.boot := by
  unfold State.pwrEvent; simp
@[simp] theorem State.pwrEvent_mbx (s : State) (e : Nat) : (s.pwrEvent e).mbx = s.mbx := by
  unfold State.pwrEvent; simp
@[simp] theorem State.pwrEvent_bmc (s : State) (e : Nat) : (s.pwrEvent e).bmc = s.bmc := by
  unfold State.pwrEvent; simp
@[simp] theorem State.pwrEvent_time (s : State) (e : Nat) : (s.pwrEvent e).time = s.time := by
  unfold State.pwrEvent; simp
@[simp] theorem State.pwrEvent_route (s : State) (e : Nat) : (s.pwrEvent e).route = s.route := by
  unfold State.pwrEvent; simp
@[simp] theorem State.pwrEvent_links (s : State) (e : Nat) : (s.pwrEvent e).links = s.links := by
  unfold State.pwrEvent; simp
@[simp] theorem State.pwrEvent_conns (s : State) (e : Nat) : (s.pwrEvent e).conns = s.conns := by
  unfold State.pwrEvent; simp
@[simp] theorem State.pwrEvent_scheds (s : State) (e : Nat) : (s.pwrEvent e).scheds = s.scheds := by
  unfold State.pwrEvent; simp
@[simp] theorem State.pwrEvent_tiles (s : State) (e : Nat) : (s.pwrEvent e).tiles = s.tiles := by
  unfold State.pwrEvent; simp
@[simp] theorem State.pwrEvent_planes (s : State) (e : Nat) : (s.pwrEvent e).planes = s.planes := by
  unfold State.pwrEvent; simp
@[simp] theorem State.pwrEvent_net (s : State) (e : Nat) : (s.pwrEvent e).net = s.net := by
  unfold State.pwrEvent; simp
@[simp] theorem State.pwrEvent_sec (s : State) (e : Nat) : (s.pwrEvent e).sec = s.sec := by
  unfold State.pwrEvent; simp
@[simp] theorem State.pwrEvent_fw (s : State) (e : Nat) : (s.pwrEvent e).fw = s.fw := by
  unfold State.pwrEvent; simp
@[simp] theorem State.pwrEvent_mem (s : State) (e : Nat) : (s.pwrEvent e).mem = s.mem := by
  unfold State.pwrEvent; simp
@[simp] theorem State.pwrEvent_ctxs (s : State) (e : Nat) : (s.pwrEvent e).ctxs = s.ctxs := by
  unfold State.pwrEvent; simp
@[simp] theorem State.pwrEvent_ledgers (s : State) (e : Nat) : (s.pwrEvent e).ledgers = s.ledgers := by
  unfold State.pwrEvent; simp
@[simp] theorem State.pwrEvent_qps (s : State) (e : Nat) : (s.pwrEvent e).qps = s.qps := by
  unfold State.pwrEvent; simp
@[simp] theorem State.pwrEvent_gens (s : State) (e : Nat) : (s.pwrEvent e).gens = s.gens := by
  unfold State.pwrEvent; simp
@[simp] theorem State.pwrEvent_domains (s : State) (e : Nat) : (s.pwrEvent e).domains = s.domains := by
  unfold State.pwrEvent; simp
@[simp] theorem State.pwrEvent_nodes (s : State) (e : Nat) : (s.pwrEvent e).nodes = s.nodes := by
  unfold State.pwrEvent; simp
@[simp] theorem State.pwrEvent_violAt (s : State) (e : Nat) : (s.pwrEvent e).violAt = s.violAt := by
  unfold State.pwrEvent; simp
@[simp] theorem State.pwrEvent_free (s : State) (e : Nat) : (s.pwrEvent e).free = s.free := by
  unfold State.pwrEvent; simp
@[simp] theorem State.pwrEvent_pending (s : State) (e : Nat) : (s.pwrEvent e).pending = s.pending := by
  unfold State.pwrEvent; simp

@[simp] theorem State.setPwr_clk (s : State) (p : PwrState) : (s.setPwr p).clk = s.clk := by
  simp only [State.setPwr]; split <;> simp
@[simp] theorem State.setPwr_pwrCfg (s : State) (p : PwrState) : (s.setPwr p).pwrCfg = s.pwrCfg := by
  simp only [State.setPwr]; split <;> simp
@[simp] theorem State.setPwr_pins (s : State) (p : PwrState) : (s.setPwr p).pins = s.pins := by
  simp only [State.setPwr]; split <;> simp
@[simp] theorem State.setPwr_boot (s : State) (p : PwrState) : (s.setPwr p).boot = s.boot := by
  simp only [State.setPwr]; split <;> simp
@[simp] theorem State.setPwr_mbx (s : State) (p : PwrState) : (s.setPwr p).mbx = s.mbx := by
  simp only [State.setPwr]; split <;> simp
@[simp] theorem State.setPwr_bmc (s : State) (p : PwrState) : (s.setPwr p).bmc = s.bmc := by
  simp only [State.setPwr]; split <;> simp
@[simp] theorem State.setPwr_time (s : State) (p : PwrState) : (s.setPwr p).time = s.time := by
  simp only [State.setPwr]; split <;> simp
@[simp] theorem State.setPwr_route (s : State) (p : PwrState) : (s.setPwr p).route = s.route := by
  simp only [State.setPwr]; split <;> simp
@[simp] theorem State.setPwr_links (s : State) (p : PwrState) : (s.setPwr p).links = s.links := by
  simp only [State.setPwr]; split <;> simp
@[simp] theorem State.setPwr_conns (s : State) (p : PwrState) : (s.setPwr p).conns = s.conns := by
  simp only [State.setPwr]; split <;> simp
@[simp] theorem State.setPwr_scheds (s : State) (p : PwrState) : (s.setPwr p).scheds = s.scheds := by
  simp only [State.setPwr]; split <;> simp
@[simp] theorem State.setPwr_tiles (s : State) (p : PwrState) : (s.setPwr p).tiles = s.tiles := by
  simp only [State.setPwr]; split <;> simp
@[simp] theorem State.setPwr_planes (s : State) (p : PwrState) : (s.setPwr p).planes = s.planes := by
  simp only [State.setPwr]; split <;> simp
@[simp] theorem State.setPwr_net (s : State) (p : PwrState) : (s.setPwr p).net = s.net := by
  simp only [State.setPwr]; split <;> simp
@[simp] theorem State.setPwr_sec (s : State) (p : PwrState) : (s.setPwr p).sec = s.sec := by
  simp only [State.setPwr]; split <;> simp
@[simp] theorem State.setPwr_fw (s : State) (p : PwrState) : (s.setPwr p).fw = s.fw := by
  simp only [State.setPwr]; split <;> simp
@[simp] theorem State.setPwr_mem (s : State) (p : PwrState) : (s.setPwr p).mem = s.mem := by
  simp only [State.setPwr]; split <;> simp
@[simp] theorem State.setPwr_ctxs (s : State) (p : PwrState) : (s.setPwr p).ctxs = s.ctxs := by
  simp only [State.setPwr]; split <;> simp
@[simp] theorem State.setPwr_ledgers (s : State) (p : PwrState) : (s.setPwr p).ledgers = s.ledgers := by
  simp only [State.setPwr]; split <;> simp
@[simp] theorem State.setPwr_qps (s : State) (p : PwrState) : (s.setPwr p).qps = s.qps := by
  simp only [State.setPwr]; split <;> simp
@[simp] theorem State.setPwr_gens (s : State) (p : PwrState) : (s.setPwr p).gens = s.gens := by
  simp only [State.setPwr]; split <;> simp
@[simp] theorem State.setPwr_domains (s : State) (p : PwrState) : (s.setPwr p).domains = s.domains := by
  simp only [State.setPwr]; split <;> simp
@[simp] theorem State.setPwr_nodes (s : State) (p : PwrState) : (s.setPwr p).nodes = s.nodes := by
  simp only [State.setPwr]; split <;> simp
@[simp] theorem State.setPwr_violAt (s : State) (p : PwrState) : (s.setPwr p).violAt = s.violAt := by
  simp only [State.setPwr]; split <;> simp
@[simp] theorem State.setPwr_free (s : State) (p : PwrState) : (s.setPwr p).free = s.free := by
  simp only [State.setPwr]; split <;> simp
@[simp] theorem State.setPwr_pending (s : State) (p : PwrState) : (s.setPwr p).pending = s.pending := by
  simp only [State.setPwr]; split <;> simp

@[simp] theorem State.gateOff_clk (s : State) : (s.gateOff).clk = s.clk := rfl
@[simp] theorem State.gateOff_pwrCfg (s : State) : (s.gateOff).pwrCfg = s.pwrCfg := rfl
@[simp] theorem State.gateOff_pins (s : State) : (s.gateOff).pins = s.pins := rfl
@[simp] theorem State.gateOff_boot (s : State) : (s.gateOff).boot = s.boot := rfl
@[simp] theorem State.gateOff_host (s : State) : (s.gateOff).host = s.host := rfl
@[simp] theorem State.gateOff_mbx (s : State) : (s.gateOff).mbx = s.mbx := rfl
@[simp] theorem State.gateOff_bmc (s : State) : (s.gateOff).bmc = s.bmc := rfl
@[simp] theorem State.gateOff_faults (s : State) : (s.gateOff).faults = s.faults := rfl
@[simp] theorem State.gateOff_plog (s : State) : (s.gateOff).plog = s.plog := rfl
@[simp] theorem State.gateOff_perf (s : State) : (s.gateOff).perf = s.perf := rfl
@[simp] theorem State.gateOff_time (s : State) : (s.gateOff).time = s.time := rfl
@[simp] theorem State.gateOff_route (s : State) : (s.gateOff).route = s.route := rfl
@[simp] theorem State.gateOff_links (s : State) : (s.gateOff).links = s.links := rfl
@[simp] theorem State.gateOff_conns (s : State) : (s.gateOff).conns = s.conns := rfl
@[simp] theorem State.gateOff_scheds (s : State) : (s.gateOff).scheds = s.scheds := rfl
@[simp] theorem State.gateOff_tiles (s : State) : (s.gateOff).tiles = s.tiles := rfl
@[simp] theorem State.gateOff_planes (s : State) : (s.gateOff).planes = s.planes := rfl
@[simp] theorem State.gateOff_net (s : State) : (s.gateOff).net = s.net := rfl
@[simp] theorem State.gateOff_sec (s : State) : (s.gateOff).sec = s.sec := rfl
@[simp] theorem State.gateOff_fw (s : State) : (s.gateOff).fw = s.fw := rfl
@[simp] theorem State.gateOff_mem (s : State) : (s.gateOff).mem = s.mem := rfl
@[simp] theorem State.gateOff_ctxs (s : State) : (s.gateOff).ctxs = s.ctxs := rfl
@[simp] theorem State.gateOff_ledgers (s : State) : (s.gateOff).ledgers = s.ledgers := rfl
@[simp] theorem State.gateOff_qps (s : State) : (s.gateOff).qps = s.qps := rfl
@[simp] theorem State.gateOff_gens (s : State) : (s.gateOff).gens = s.gens := rfl
@[simp] theorem State.gateOff_domains (s : State) : (s.gateOff).domains = s.domains := rfl
@[simp] theorem State.gateOff_nodes (s : State) : (s.gateOff).nodes = s.nodes := rfl
@[simp] theorem State.gateOff_violAt (s : State) : (s.gateOff).violAt = s.violAt := rfl
@[simp] theorem State.gateOff_free (s : State) : (s.gateOff).free = s.free := rfl
@[simp] theorem State.gateOff_out (s : State) : (s.gateOff).out = s.out := rfl
@[simp] theorem State.gateOff_pending (s : State) : (s.gateOff).pending = s.pending := rfl

@[simp] theorem State.failChange_clk (s : State) : (s.failChange).clk = s.clk := rfl
@[simp] theorem State.failChange_pwrCfg (s : State) : (s.failChange).pwrCfg = s.pwrCfg := rfl
@[simp] theorem State.failChange_sup (s : State) : (s.failChange).sup = s.sup := rfl
@[simp] theorem State.failChange_pins (s : State) : (s.failChange).pins = s.pins := rfl
@[simp] theorem State.failChange_boot (s : State) : (s.failChange).boot = s.boot := rfl
@[simp] theorem State.failChange_host (s : State) : (s.failChange).host = s.host := rfl
@[simp] theorem State.failChange_mbx (s : State) : (s.failChange).mbx = s.mbx := rfl
@[simp] theorem State.failChange_bmc (s : State) : (s.failChange).bmc = s.bmc := rfl
@[simp] theorem State.failChange_faults (s : State) : (s.failChange).faults = s.faults := rfl
@[simp] theorem State.failChange_plog (s : State) : (s.failChange).plog = s.plog := rfl
@[simp] theorem State.failChange_perf (s : State) : (s.failChange).perf = s.perf := rfl
@[simp] theorem State.failChange_time (s : State) : (s.failChange).time = s.time := rfl
@[simp] theorem State.failChange_route (s : State) : (s.failChange).route = s.route := rfl
@[simp] theorem State.failChange_links (s : State) : (s.failChange).links = s.links := rfl
@[simp] theorem State.failChange_conns (s : State) : (s.failChange).conns = s.conns := rfl
@[simp] theorem State.failChange_scheds (s : State) : (s.failChange).scheds = s.scheds := rfl
@[simp] theorem State.failChange_tiles (s : State) : (s.failChange).tiles = s.tiles := rfl
@[simp] theorem State.failChange_planes (s : State) : (s.failChange).planes = s.planes := rfl
@[simp] theorem State.failChange_net (s : State) : (s.failChange).net = s.net := rfl
@[simp] theorem State.failChange_sec (s : State) : (s.failChange).sec = s.sec := rfl
@[simp] theorem State.failChange_fw (s : State) : (s.failChange).fw = s.fw := rfl
@[simp] theorem State.failChange_mem (s : State) : (s.failChange).mem = s.mem := rfl
@[simp] theorem State.failChange_ctxs (s : State) : (s.failChange).ctxs = s.ctxs := rfl
@[simp] theorem State.failChange_ledgers (s : State) : (s.failChange).ledgers = s.ledgers := rfl
@[simp] theorem State.failChange_qps (s : State) : (s.failChange).qps = s.qps := rfl
@[simp] theorem State.failChange_gens (s : State) : (s.failChange).gens = s.gens := rfl
@[simp] theorem State.failChange_domains (s : State) : (s.failChange).domains = s.domains := rfl
@[simp] theorem State.failChange_nodes (s : State) : (s.failChange).nodes = s.nodes := rfl
@[simp] theorem State.failChange_violAt (s : State) : (s.failChange).violAt = s.violAt := rfl
@[simp] theorem State.failChange_free (s : State) : (s.failChange).free = s.free := rfl
@[simp] theorem State.failChange_out (s : State) : (s.failChange).out = s.out := rfl
@[simp] theorem State.failChange_pending (s : State) : (s.failChange).pending = s.pending := rfl

@[simp] theorem State.okChange_clk (s : State) (p : PwrState) : (s.okChange p).clk = s.clk := rfl
@[simp] theorem State.okChange_pwrCfg (s : State) (p : PwrState) : (s.okChange p).pwrCfg = s.pwrCfg := rfl
@[simp] theorem State.okChange_sup (s : State) (p : PwrState) : (s.okChange p).sup = s.sup := rfl
@[simp] theorem State.okChange_pins (s : State) (p : PwrState) : (s.okChange p).pins = s.pins := rfl
@[simp] theorem State.okChange_boot (s : State) (p : PwrState) : (s.okChange p).boot = s.boot := rfl
@[simp] theorem State.okChange_host (s : State) (p : PwrState) : (s.okChange p).host = s.host := rfl
@[simp] theorem State.okChange_mbx (s : State) (p : PwrState) : (s.okChange p).mbx = s.mbx := rfl
@[simp] theorem State.okChange_bmc (s : State) (p : PwrState) : (s.okChange p).bmc = s.bmc := rfl
@[simp] theorem State.okChange_faults (s : State) (p : PwrState) : (s.okChange p).faults = s.faults := rfl
@[simp] theorem State.okChange_plog (s : State) (p : PwrState) : (s.okChange p).plog = s.plog := rfl
@[simp] theorem State.okChange_perf (s : State) (p : PwrState) : (s.okChange p).perf = s.perf := rfl
@[simp] theorem State.okChange_time (s : State) (p : PwrState) : (s.okChange p).time = s.time := rfl
@[simp] theorem State.okChange_route (s : State) (p : PwrState) : (s.okChange p).route = s.route := rfl
@[simp] theorem State.okChange_links (s : State) (p : PwrState) : (s.okChange p).links = s.links := rfl
@[simp] theorem State.okChange_conns (s : State) (p : PwrState) : (s.okChange p).conns = s.conns := rfl
@[simp] theorem State.okChange_scheds (s : State) (p : PwrState) : (s.okChange p).scheds = s.scheds := rfl
@[simp] theorem State.okChange_tiles (s : State) (p : PwrState) : (s.okChange p).tiles = s.tiles := rfl
@[simp] theorem State.okChange_planes (s : State) (p : PwrState) : (s.okChange p).planes = s.planes := rfl
@[simp] theorem State.okChange_net (s : State) (p : PwrState) : (s.okChange p).net = s.net := rfl
@[simp] theorem State.okChange_sec (s : State) (p : PwrState) : (s.okChange p).sec = s.sec := rfl
@[simp] theorem State.okChange_fw (s : State) (p : PwrState) : (s.okChange p).fw = s.fw := rfl
@[simp] theorem State.okChange_mem (s : State) (p : PwrState) : (s.okChange p).mem = s.mem := rfl
@[simp] theorem State.okChange_ctxs (s : State) (p : PwrState) : (s.okChange p).ctxs = s.ctxs := rfl
@[simp] theorem State.okChange_ledgers (s : State) (p : PwrState) : (s.okChange p).ledgers = s.ledgers := rfl
@[simp] theorem State.okChange_qps (s : State) (p : PwrState) : (s.okChange p).qps = s.qps := rfl
@[simp] theorem State.okChange_gens (s : State) (p : PwrState) : (s.okChange p).gens = s.gens := rfl
@[simp] theorem State.okChange_domains (s : State) (p : PwrState) : (s.okChange p).domains = s.domains := rfl
@[simp] theorem State.okChange_nodes (s : State) (p : PwrState) : (s.okChange p).nodes = s.nodes := rfl
@[simp] theorem State.okChange_violAt (s : State) (p : PwrState) : (s.okChange p).violAt = s.violAt := rfl
@[simp] theorem State.okChange_free (s : State) (p : PwrState) : (s.okChange p).free = s.free := rfl
@[simp] theorem State.okChange_out (s : State) (p : PwrState) : (s.okChange p).out = s.out := rfl
@[simp] theorem State.okChange_pending (s : State) (p : PwrState) : (s.okChange p).pending = s.pending := rfl

@[simp] theorem State.startAttempt_clk (s : State) : (s.startAttempt).clk = s.clk := rfl
@[simp] theorem State.startAttempt_pwrCfg (s : State) : (s.startAttempt).pwrCfg = s.pwrCfg := rfl
@[simp] theorem State.startAttempt_sup (s : State) : (s.startAttempt).sup = s.sup := rfl
@[simp] theorem State.startAttempt_pins (s : State) : (s.startAttempt).pins = s.pins := rfl
@[simp] theorem State.startAttempt_boot (s : State) : (s.startAttempt).boot = s.boot := rfl
@[simp] theorem State.startAttempt_host (s : State) : (s.startAttempt).host = s.host := rfl
@[simp] theorem State.startAttempt_mbx (s : State) : (s.startAttempt).mbx = s.mbx := rfl
@[simp] theorem State.startAttempt_bmc (s : State) : (s.startAttempt).bmc = s.bmc := rfl
@[simp] theorem State.startAttempt_faults (s : State) : (s.startAttempt).faults = s.faults := rfl
@[simp] theorem State.startAttempt_plog (s : State) : (s.startAttempt).plog = s.plog := rfl
@[simp] theorem State.startAttempt_perf (s : State) : (s.startAttempt).perf = s.perf := rfl
@[simp] theorem State.startAttempt_time (s : State) : (s.startAttempt).time = s.time := rfl
@[simp] theorem State.startAttempt_route (s : State) : (s.startAttempt).route = s.route := rfl
@[simp] theorem State.startAttempt_links (s : State) : (s.startAttempt).links = s.links := rfl
@[simp] theorem State.startAttempt_conns (s : State) : (s.startAttempt).conns = s.conns := rfl
@[simp] theorem State.startAttempt_scheds (s : State) : (s.startAttempt).scheds = s.scheds := rfl
@[simp] theorem State.startAttempt_tiles (s : State) : (s.startAttempt).tiles = s.tiles := rfl
@[simp] theorem State.startAttempt_planes (s : State) : (s.startAttempt).planes = s.planes := rfl
@[simp] theorem State.startAttempt_net (s : State) : (s.startAttempt).net = s.net := rfl
@[simp] theorem State.startAttempt_sec (s : State) : (s.startAttempt).sec = s.sec := rfl
@[simp] theorem State.startAttempt_fw (s : State) : (s.startAttempt).fw = s.fw := rfl
@[simp] theorem State.startAttempt_mem (s : State) : (s.startAttempt).mem = s.mem := rfl
@[simp] theorem State.startAttempt_ctxs (s : State) : (s.startAttempt).ctxs = s.ctxs := rfl
@[simp] theorem State.startAttempt_ledgers (s : State) : (s.startAttempt).ledgers = s.ledgers := rfl
@[simp] theorem State.startAttempt_qps (s : State) : (s.startAttempt).qps = s.qps := rfl
@[simp] theorem State.startAttempt_gens (s : State) : (s.startAttempt).gens = s.gens := rfl
@[simp] theorem State.startAttempt_domains (s : State) : (s.startAttempt).domains = s.domains := rfl
@[simp] theorem State.startAttempt_nodes (s : State) : (s.startAttempt).nodes = s.nodes := rfl
@[simp] theorem State.startAttempt_violAt (s : State) : (s.startAttempt).violAt = s.violAt := rfl
@[simp] theorem State.startAttempt_free (s : State) : (s.startAttempt).free = s.free := rfl
@[simp] theorem State.startAttempt_out (s : State) : (s.startAttempt).out = s.out := rfl
@[simp] theorem State.startAttempt_pending (s : State) : (s.startAttempt).pending = s.pending := rfl

@[simp] theorem State.relSync_clk (s : State) : (s.relSync).clk = s.clk := by
  simp only [State.relSync]; split <;> simp
@[simp] theorem State.relSync_pwr (s : State) : (s.relSync).pwr = s.pwr := by
  simp only [State.relSync]; split <;> simp
@[simp] theorem State.relSync_pwrCfg (s : State) : (s.relSync).pwrCfg = s.pwrCfg := by
  simp only [State.relSync]; split <;> simp
@[simp] theorem State.relSync_sup (s : State) : (s.relSync).sup = s.sup := by
  simp only [State.relSync]; split <;> simp
@[simp] theorem State.relSync_pins (s : State) : (s.relSync).pins = s.pins := by
  simp only [State.relSync]; split <;> simp
@[simp] theorem State.relSync_host (s : State) : (s.relSync).host = s.host := by
  simp only [State.relSync]; split <;> simp
@[simp] theorem State.relSync_mbx (s : State) : (s.relSync).mbx = s.mbx := by
  simp only [State.relSync]; split <;> simp
@[simp] theorem State.relSync_bmc (s : State) : (s.relSync).bmc = s.bmc := by
  simp only [State.relSync]; split <;> simp
@[simp] theorem State.relSync_faults (s : State) : (s.relSync).faults = s.faults := by
  simp only [State.relSync]; split <;> simp
@[simp] theorem State.relSync_plog (s : State) : (s.relSync).plog = s.plog := by
  simp only [State.relSync]; split <;> simp
@[simp] theorem State.relSync_perf (s : State) : (s.relSync).perf = s.perf := by
  simp only [State.relSync]; split <;> simp
@[simp] theorem State.relSync_time (s : State) : (s.relSync).time = s.time := by
  simp only [State.relSync]; split <;> simp
@[simp] theorem State.relSync_route (s : State) : (s.relSync).route = s.route := by
  simp only [State.relSync]; split <;> simp
@[simp] theorem State.relSync_links (s : State) : (s.relSync).links = s.links := by
  simp only [State.relSync]; split <;> simp
@[simp] theorem State.relSync_conns (s : State) : (s.relSync).conns = s.conns := by
  simp only [State.relSync]; split <;> simp
@[simp] theorem State.relSync_scheds (s : State) : (s.relSync).scheds = s.scheds := by
  simp only [State.relSync]; split <;> simp
@[simp] theorem State.relSync_tiles (s : State) : (s.relSync).tiles = s.tiles := by
  simp only [State.relSync]; split <;> simp
@[simp] theorem State.relSync_planes (s : State) : (s.relSync).planes = s.planes := by
  simp only [State.relSync]; split <;> simp
@[simp] theorem State.relSync_net (s : State) : (s.relSync).net = s.net := by
  simp only [State.relSync]; split <;> simp
@[simp] theorem State.relSync_sec (s : State) : (s.relSync).sec = s.sec := by
  simp only [State.relSync]; split <;> simp
@[simp] theorem State.relSync_fw (s : State) : (s.relSync).fw = s.fw := by
  simp only [State.relSync]; split <;> simp
@[simp] theorem State.relSync_mem (s : State) : (s.relSync).mem = s.mem := by
  simp only [State.relSync]; split <;> simp
@[simp] theorem State.relSync_ctxs (s : State) : (s.relSync).ctxs = s.ctxs := by
  simp only [State.relSync]; split <;> simp
@[simp] theorem State.relSync_ledgers (s : State) : (s.relSync).ledgers = s.ledgers := by
  simp only [State.relSync]; split <;> simp
@[simp] theorem State.relSync_qps (s : State) : (s.relSync).qps = s.qps := by
  simp only [State.relSync]; split <;> simp
@[simp] theorem State.relSync_gens (s : State) : (s.relSync).gens = s.gens := by
  simp only [State.relSync]; split <;> simp
@[simp] theorem State.relSync_domains (s : State) : (s.relSync).domains = s.domains := by
  simp only [State.relSync]; split <;> simp
@[simp] theorem State.relSync_nodes (s : State) : (s.relSync).nodes = s.nodes := by
  simp only [State.relSync]; split <;> simp
@[simp] theorem State.relSync_violAt (s : State) : (s.relSync).violAt = s.violAt := by
  simp only [State.relSync]; split <;> simp
@[simp] theorem State.relSync_free (s : State) : (s.relSync).free = s.free := by
  simp only [State.relSync]; split <;> simp
@[simp] theorem State.relSync_out (s : State) : (s.relSync).out = s.out := by
  simp only [State.relSync]; split <;> simp
@[simp] theorem State.relSync_pending (s : State) : (s.relSync).pending = s.pending := by
  simp only [State.relSync]; split <;> simp

@[simp] theorem State.sagWarn_clk (s : State) : (s.sagWarn).clk = s.clk := by
  simp only [State.sagWarn]; split <;> simp
@[simp] theorem State.sagWarn_pwr (s : State) : (s.sagWarn).pwr = s.pwr := by
  simp only [State.sagWarn]; split <;> simp
@[simp] theorem State.sagWarn_pwrCfg (s : State) : (s.sagWarn).pwrCfg = s.pwrCfg := by
  simp only [State.sagWarn]; split <;> simp
@[simp] theorem State.sagWarn_pins (s : State) : (s.sagWarn).pins = s.pins := by
  simp only [State.sagWarn]; split <;> simp
@[simp] theorem State.sagWarn_boot (s : State) : (s.sagWarn).boot = s.boot := by
  simp only [State.sagWarn]; split <;> simp
@[simp] theorem State.sagWarn_mbx (s : State) : (s.sagWarn).mbx = s.mbx := by
  simp only [State.sagWarn]; split <;> simp
@[simp] theorem State.sagWarn_bmc (s : State) : (s.sagWarn).bmc = s.bmc := by
  simp only [State.sagWarn]; split <;> simp
@[simp] theorem State.sagWarn_time (s : State) : (s.sagWarn).time = s.time := by
  simp only [State.sagWarn]; split <;> simp
@[simp] theorem State.sagWarn_route (s : State) : (s.sagWarn).route = s.route := by
  simp only [State.sagWarn]; split <;> simp
@[simp] theorem State.sagWarn_links (s : State) : (s.sagWarn).links = s.links := by
  simp only [State.sagWarn]; split <;> simp
@[simp] theorem State.sagWarn_conns (s : State) : (s.sagWarn).conns = s.conns := by
  simp only [State.sagWarn]; split <;> simp
@[simp] theorem State.sagWarn_scheds (s : State) : (s.sagWarn).scheds = s.scheds := by
  simp only [State.sagWarn]; split <;> simp
@[simp] theorem State.sagWarn_tiles (s : State) : (s.sagWarn).tiles = s.tiles := by
  simp only [State.sagWarn]; split <;> simp
@[simp] theorem State.sagWarn_planes (s : State) : (s.sagWarn).planes = s.planes := by
  simp only [State.sagWarn]; split <;> simp
@[simp] theorem State.sagWarn_net (s : State) : (s.sagWarn).net = s.net := by
  simp only [State.sagWarn]; split <;> simp
@[simp] theorem State.sagWarn_sec (s : State) : (s.sagWarn).sec = s.sec := by
  simp only [State.sagWarn]; split <;> simp
@[simp] theorem State.sagWarn_fw (s : State) : (s.sagWarn).fw = s.fw := by
  simp only [State.sagWarn]; split <;> simp
@[simp] theorem State.sagWarn_mem (s : State) : (s.sagWarn).mem = s.mem := by
  simp only [State.sagWarn]; split <;> simp
@[simp] theorem State.sagWarn_ctxs (s : State) : (s.sagWarn).ctxs = s.ctxs := by
  simp only [State.sagWarn]; split <;> simp
@[simp] theorem State.sagWarn_ledgers (s : State) : (s.sagWarn).ledgers = s.ledgers := by
  simp only [State.sagWarn]; split <;> simp
@[simp] theorem State.sagWarn_qps (s : State) : (s.sagWarn).qps = s.qps := by
  simp only [State.sagWarn]; split <;> simp
@[simp] theorem State.sagWarn_gens (s : State) : (s.sagWarn).gens = s.gens := by
  simp only [State.sagWarn]; split <;> simp
@[simp] theorem State.sagWarn_domains (s : State) : (s.sagWarn).domains = s.domains := by
  simp only [State.sagWarn]; split <;> simp
@[simp] theorem State.sagWarn_nodes (s : State) : (s.sagWarn).nodes = s.nodes := by
  simp only [State.sagWarn]; split <;> simp
@[simp] theorem State.sagWarn_violAt (s : State) : (s.sagWarn).violAt = s.violAt := by
  simp only [State.sagWarn]; split <;> simp
@[simp] theorem State.sagWarn_free (s : State) : (s.sagWarn).free = s.free := by
  simp only [State.sagWarn]; split <;> simp
@[simp] theorem State.sagWarn_pending (s : State) : (s.sagWarn).pending = s.pending := by
  simp only [State.sagWarn]; split <;> simp

@[simp] theorem State.hotWarn_clk (s : State) (q : Nat) : (s.hotWarn q).clk = s.clk := by
  simp only [State.hotWarn]; split <;> simp
@[simp] theorem State.hotWarn_pwr (s : State) (q : Nat) : (s.hotWarn q).pwr = s.pwr := by
  simp only [State.hotWarn]; split <;> simp
@[simp] theorem State.hotWarn_pwrCfg (s : State) (q : Nat) : (s.hotWarn q).pwrCfg = s.pwrCfg := by
  simp only [State.hotWarn]; split <;> simp
@[simp] theorem State.hotWarn_pins (s : State) (q : Nat) : (s.hotWarn q).pins = s.pins := by
  simp only [State.hotWarn]; split <;> simp
@[simp] theorem State.hotWarn_boot (s : State) (q : Nat) : (s.hotWarn q).boot = s.boot := by
  simp only [State.hotWarn]; split <;> simp
@[simp] theorem State.hotWarn_mbx (s : State) (q : Nat) : (s.hotWarn q).mbx = s.mbx := by
  simp only [State.hotWarn]; split <;> simp
@[simp] theorem State.hotWarn_bmc (s : State) (q : Nat) : (s.hotWarn q).bmc = s.bmc := by
  simp only [State.hotWarn]; split <;> simp
@[simp] theorem State.hotWarn_time (s : State) (q : Nat) : (s.hotWarn q).time = s.time := by
  simp only [State.hotWarn]; split <;> simp
@[simp] theorem State.hotWarn_route (s : State) (q : Nat) : (s.hotWarn q).route = s.route := by
  simp only [State.hotWarn]; split <;> simp
@[simp] theorem State.hotWarn_links (s : State) (q : Nat) : (s.hotWarn q).links = s.links := by
  simp only [State.hotWarn]; split <;> simp
@[simp] theorem State.hotWarn_conns (s : State) (q : Nat) : (s.hotWarn q).conns = s.conns := by
  simp only [State.hotWarn]; split <;> simp
@[simp] theorem State.hotWarn_scheds (s : State) (q : Nat) : (s.hotWarn q).scheds = s.scheds := by
  simp only [State.hotWarn]; split <;> simp
@[simp] theorem State.hotWarn_tiles (s : State) (q : Nat) : (s.hotWarn q).tiles = s.tiles := by
  simp only [State.hotWarn]; split <;> simp
@[simp] theorem State.hotWarn_planes (s : State) (q : Nat) : (s.hotWarn q).planes = s.planes := by
  simp only [State.hotWarn]; split <;> simp
@[simp] theorem State.hotWarn_net (s : State) (q : Nat) : (s.hotWarn q).net = s.net := by
  simp only [State.hotWarn]; split <;> simp
@[simp] theorem State.hotWarn_sec (s : State) (q : Nat) : (s.hotWarn q).sec = s.sec := by
  simp only [State.hotWarn]; split <;> simp
@[simp] theorem State.hotWarn_fw (s : State) (q : Nat) : (s.hotWarn q).fw = s.fw := by
  simp only [State.hotWarn]; split <;> simp
@[simp] theorem State.hotWarn_mem (s : State) (q : Nat) : (s.hotWarn q).mem = s.mem := by
  simp only [State.hotWarn]; split <;> simp
@[simp] theorem State.hotWarn_ctxs (s : State) (q : Nat) : (s.hotWarn q).ctxs = s.ctxs := by
  simp only [State.hotWarn]; split <;> simp
@[simp] theorem State.hotWarn_ledgers (s : State) (q : Nat) : (s.hotWarn q).ledgers = s.ledgers := by
  simp only [State.hotWarn]; split <;> simp
@[simp] theorem State.hotWarn_qps (s : State) (q : Nat) : (s.hotWarn q).qps = s.qps := by
  simp only [State.hotWarn]; split <;> simp
@[simp] theorem State.hotWarn_gens (s : State) (q : Nat) : (s.hotWarn q).gens = s.gens := by
  simp only [State.hotWarn]; split <;> simp
@[simp] theorem State.hotWarn_domains (s : State) (q : Nat) : (s.hotWarn q).domains = s.domains := by
  simp only [State.hotWarn]; split <;> simp
@[simp] theorem State.hotWarn_nodes (s : State) (q : Nat) : (s.hotWarn q).nodes = s.nodes := by
  simp only [State.hotWarn]; split <;> simp
@[simp] theorem State.hotWarn_violAt (s : State) (q : Nat) : (s.hotWarn q).violAt = s.violAt := by
  simp only [State.hotWarn]; split <;> simp
@[simp] theorem State.hotWarn_free (s : State) (q : Nat) : (s.hotWarn q).free = s.free := by
  simp only [State.hotWarn]; split <;> simp
@[simp] theorem State.hotWarn_pending (s : State) (q : Nat) : (s.hotWarn q).pending = s.pending := by
  simp only [State.hotWarn]; split <;> simp

@[simp] theorem State.wake_clk (s : State) : (s.wake).clk = s.clk := by
  simp only [State.wake]; split <;> split <;> rfl
@[simp] theorem State.wake_pwrCfg (s : State) : (s.wake).pwrCfg = s.pwrCfg := by
  simp only [State.wake]; split <;> split <;> rfl
@[simp] theorem State.wake_sup (s : State) : (s.wake).sup = s.sup := by
  simp only [State.wake]; split <;> split <;> rfl
@[simp] theorem State.wake_pins (s : State) : (s.wake).pins = s.pins := by
  simp only [State.wake]; split <;> split <;> rfl
@[simp] theorem State.wake_boot (s : State) : (s.wake).boot = s.boot := by
  simp only [State.wake]; split <;> split <;> rfl
@[simp] theorem State.wake_host (s : State) : (s.wake).host = s.host := by
  simp only [State.wake]; split <;> split <;> rfl
@[simp] theorem State.wake_mbx (s : State) : (s.wake).mbx = s.mbx := by
  simp only [State.wake]; split <;> split <;> rfl
@[simp] theorem State.wake_bmc (s : State) : (s.wake).bmc = s.bmc := by
  simp only [State.wake]; split <;> split <;> rfl
@[simp] theorem State.wake_faults (s : State) : (s.wake).faults = s.faults := by
  simp only [State.wake]; split <;> split <;> rfl
@[simp] theorem State.wake_plog (s : State) : (s.wake).plog = s.plog := by
  simp only [State.wake]; split <;> split <;> rfl
@[simp] theorem State.wake_perf (s : State) : (s.wake).perf = s.perf := by
  simp only [State.wake]; split <;> split <;> rfl
@[simp] theorem State.wake_time (s : State) : (s.wake).time = s.time := by
  simp only [State.wake]; split <;> split <;> rfl
@[simp] theorem State.wake_route (s : State) : (s.wake).route = s.route := by
  simp only [State.wake]; split <;> split <;> rfl
@[simp] theorem State.wake_links (s : State) : (s.wake).links = s.links := by
  simp only [State.wake]; split <;> split <;> rfl
@[simp] theorem State.wake_conns (s : State) : (s.wake).conns = s.conns := by
  simp only [State.wake]; split <;> split <;> rfl
@[simp] theorem State.wake_scheds (s : State) : (s.wake).scheds = s.scheds := by
  simp only [State.wake]; split <;> split <;> rfl
@[simp] theorem State.wake_tiles (s : State) : (s.wake).tiles = s.tiles := by
  simp only [State.wake]; split <;> split <;> rfl
@[simp] theorem State.wake_planes (s : State) : (s.wake).planes = s.planes := by
  simp only [State.wake]; split <;> split <;> rfl
@[simp] theorem State.wake_net (s : State) : (s.wake).net = s.net := by
  simp only [State.wake]; split <;> split <;> rfl
@[simp] theorem State.wake_sec (s : State) : (s.wake).sec = s.sec := by
  simp only [State.wake]; split <;> split <;> rfl
@[simp] theorem State.wake_fw (s : State) : (s.wake).fw = s.fw := by
  simp only [State.wake]; split <;> split <;> rfl
@[simp] theorem State.wake_mem (s : State) : (s.wake).mem = s.mem := by
  simp only [State.wake]; split <;> split <;> rfl
@[simp] theorem State.wake_ctxs (s : State) : (s.wake).ctxs = s.ctxs := by
  simp only [State.wake]; split <;> split <;> rfl
@[simp] theorem State.wake_ledgers (s : State) : (s.wake).ledgers = s.ledgers := by
  simp only [State.wake]; split <;> split <;> rfl
@[simp] theorem State.wake_qps (s : State) : (s.wake).qps = s.qps := by
  simp only [State.wake]; split <;> split <;> rfl
@[simp] theorem State.wake_gens (s : State) : (s.wake).gens = s.gens := by
  simp only [State.wake]; split <;> split <;> rfl
@[simp] theorem State.wake_domains (s : State) : (s.wake).domains = s.domains := by
  simp only [State.wake]; split <;> split <;> rfl
@[simp] theorem State.wake_nodes (s : State) : (s.wake).nodes = s.nodes := by
  simp only [State.wake]; split <;> split <;> rfl
@[simp] theorem State.wake_violAt (s : State) : (s.wake).violAt = s.violAt := by
  simp only [State.wake]; split <;> split <;> rfl
@[simp] theorem State.wake_free (s : State) : (s.wake).free = s.free := by
  simp only [State.wake]; split <;> split <;> rfl
@[simp] theorem State.wake_out (s : State) : (s.wake).out = s.out := by
  simp only [State.wake]; split <;> split <;> rfl
@[simp] theorem State.wake_pending (s : State) : (s.wake).pending = s.pending := by
  simp only [State.wake]; split <;> split <;> rfl

@[simp] theorem State.supInt_sup (s : State) (b : Nat) :
    (s.supInt b).sup = { s.sup with intStatus := s.sup.intStatus ||| BitVec.ofNat 5 (2 ^ b) } := by
  unfold State.supInt; simp

@[simp] theorem State.secInt_sec (s : State) (b : Nat) :
    (s.secInt b).sec = { s.sec with intStatus := s.sec.intStatus ||| BitVec.ofNat 5 (2 ^ b) } := by
  unfold State.secInt; simp

@[simp] theorem State.setPwr_pwr (s : State) (p : PwrState) : (s.setPwr p).pwr = { s.pwr with st := p } := by
  simp only [State.setPwr]; split
  · subst_vars; rfl
  · simp

/-- Every change of the state sets STATE_CHANGED (R494). -/
theorem State.setPwr_sup (s : State) (p : PwrState) :
    (s.setPwr p).sup = if s.pwr.st = p then s.sup else { s.sup with intStatus := s.sup.intStatus ||| 16 } := by
  simp only [State.setPwr]; split <;> simp

@[simp] theorem State.gateOff_sup (s : State) : s.gateOff.sup = { s.sup with iinMa := 0 } := rfl

@[simp] theorem State.gateOff_pwr (s : State) : s.gateOff.pwr =
    { s.pwr with gate := .off, gateOffAt := if s.pwr.gate = .off then s.pwr.gateOffAt else s.clk.now, converters := false, pwrGood := false } := rfl

@[simp] theorem State.startAttempt_pwr (s : State) : s.startAttempt.pwr = { s.pwr with gate := .ramping, attemptAt := s.clk.now } := rfl

theorem State.failChange_pwr (s : State) : ∃ c, s.failChange.pwr = { s.pwr with change := c } := ⟨_, rfl⟩
theorem State.okChange_pwr (s : State) (p : PwrState) : ∃ c, (s.okChange p).pwr = { s.pwr with change := c } := ⟨_, rfl⟩

/-- Reading the configuration record changes the fields in force, and what the report of a defaulted record writes. -/
theorem State.loadMcr_spec (s : State) : ∃ m f n, Reports
    { s with boot := { s.boot with mcr := m, mcrFrom := f }, faults := { s.faults with scheme := n } } s.loadMcr := by
  let f := match s.boot.readMcr with
    | some x => x.fields
    | none => McrFields.default
  refine ⟨f, s.boot.readMcr, f.faultScheme, ?_⟩
  unfold State.loadMcr
  dsimp only
  split
  · exact State.fault_reports _ _ _ _ _ _
  · exact Reports.refl _

/-- What entry to device reset leaves, (R345, R493). -/
structure InReset (s u : State) : Prop where
  boot : u.boot.inReset = true ∧ u.boot.alive = .booting ∧ u.boot.balyn = false ∧ u.boot.mintDone = false ∧ u.boot.releases = s.boot.releases
    ∧ u.boot.mcrCopies = s.boot.mcrCopies
  die : u.mem = Mem.reset 0 ∧ u.ctxs = [] ∧ u.qps = [] ∧ u.links = [] ∧ u.scheds = [] ∧ u.tiles = [] ∧ u.nodes = [] ∧ u.domains = []
    ∧ u.ledgers = [] ∧ u.host.eps = [] ∧ u.time = TimeState.reset ∧ u.clk.nt = 0
  kept : u.clk.now = s.clk.now ∧ u.pins = { s.pins with ppsOut := false } ∧ u.fw.slots = s.fw.slots ∧ u.pwrCfg = s.pwrCfg ∧ u.sec.fusedSvn = s.sec.fusedSvn
    ∧ u.sec.ownerHash = s.sec.ownerHash

/-- An asked-for change comes to its end. -/
theorem State.endChange_eq (t : State) : ∃ c, ((t.okChange .a0).modPwr fun x => { x with wakeFrom := none }).failChange =
    { t with pwr := { t.pwr with wakeFrom := none, change := c } } := ⟨_, rfl⟩

theorem State.enterReset_spec (s : State) (h : s.boot.inReset = false) :
    InReset s s.enterReset ∧ (∃ c, s.enterReset.pwr =
      { s.pwr with st := if s.pwr.st = .a1 ∨ s.pwr.st = .a2 then .a0 else s.pwr.st, wakeFrom := none, change := c })
      ∧ s.enterReset.sup = (if s.pwr.st = .a1 ∨ s.pwr.st = .a2 then s.setPwr .a0 else s).sup := by
  unfold State.enterReset
  rw [if_neg (by simp [h])]
  extract_lets s1 s2 s3 s4 s5
  have b1 : s1 = s ∨ s1 = s.setPwr .a0 := by
    simp only [s1]; split <;> simp
  have p1 : s1.pwr = { s.pwr with st := if s.pwr.st = .a1 ∨ s.pwr.st = .a2 then .a0 else s.pwr.st } := by
    simp only [s1]; split <;> simp
  obtain ⟨a, b, c, hl⟩ := State.loadMcr_spec s5
  have e5 : ∃ c, s5 = { s4 with pwr := { s4.pwr with change := c } } := by
    simp only [s5]; split
    · exact ⟨_, rfl⟩
    · exact ⟨_, rfl⟩
  obtain ⟨c', e5⟩ := e5
  have e3 : ∃ c, s3 = { s1 with pwr := { s1.pwr with wakeFrom := none, change := c } } := State.endChange_eq s1
  obtain ⟨c3, e3⟩ := e3
  have hb := hl.boot
  have hp := hl.pwr
  have hs := hl.sup
  refine ⟨⟨?_, ?_, ?_⟩, ?_, ?_⟩
  · rw [hb, e5]; simp only [s4, e3]; rcases b1 with b1 | b1 <;> simp [b1, State.dieReset]
  · rw [hl.mem, hl.ctxs, hl.qps, hl.links, hl.scheds, hl.tiles, hl.nodes, hl.domains, hl.ledgers, hl.eps, hl.time, hl.clk, e5]
    simp [s4, State.dieReset, HostPorts.reset]
  · rw [hl.clk, hl.pins, hl.fw, hl.pwrCfg, hl.sec, e5]; simp only [s4, e3]; rcases b1 with b1 | b1 <;> simp [b1, State.dieReset, Sec.reset]
  · rw [hp, e5]; simp only [s4, e3]; exact ⟨c', by simp only [State.dieReset, p1]; rfl⟩
  · rw [hs, e5]; simp only [s4, e3, State.dieReset]; rfl

end Sys2Proof.Machine
end

