-- ==== Sys2Proof/Laws/Frames.lean ====
section
/-! SUPPORT. Frames: how `Only` composes, and which parts of the state each shared operation can change. -/
namespace Sys2Proof.Machine
set_option Elab.async false

theorem Only.refl (l : List Part) (s : State) : Only l s s := fun p => .inr (by cases p <;> rfl)

theorem Part.same_trans {s t u : State} {p : Part} (h : p.same s t) (k : p.same t u) : p.same s u := by
  cases p <;> simp only [Part.same] at h k ⊢
  case host =>
    have : { u.host with funcs := s.host.funcs } = ({ t.host with funcs := s.host.funcs } : HostPorts) := by rw [← k]
    rw [this, h]
  all_goals rw [k, h]

theorem Only.trans {l : List Part} {s t u : State} (h : Only l s t) (k : Only l t u) : Only l s u := fun p =>
  (h p).elim .inl fun a => (k p).imp id fun b => Part.same_trans a b

theorem Only.mono {a b : List Part} {s t : State} (h : Only a s t) (sub : ∀ p ∈ a, p ∈ b := by decide) : Only b s t := fun p =>
  (h p).imp (sub p) id

/-- A fold changes only what its steps change. -/
theorem Only.foldl {α : Type} {l : List Part} {f : State → α → State} (h : ∀ s a, Only l s (f s a)) (xs : List α) (s : State) :
    Only l s (xs.foldl f s) := by
  induction xs generalizing s with
  | nil => exact Only.refl l s
  | cons a xs ih => exact (h s a).trans (ih _)

theorem Only.ite {l : List Part} {s t u : State} {c : Prop} [Decidable c] (h : c → Only l s t) (k : ¬ c → Only l s u) :
    Only l s (if c then t else u) := by
  split
  · exact h ‹_›
  · exact k ‹_›

theorem Reports.only {s t : State} (h : Reports s t) : Only reporting s t := by
  rw [h]; exact fun p => by cases p <;> first | exact .inl (by decide) | exact .inr rfl

theorem Later.only {s t : State} (h : Later s t) : Only passing s t := by
  rw [h.same]; exact fun p => by cases p <;> first | exact .inl (by decide) | exact .inr rfl

theorem State.passTime_only (s : State) (d : Nat) : Only passing s (s.passTime d) := (s.passTime_later d).only
theorem State.reach_only (s : State) (t : Nat) : Only passing s (s.reach t) := (s.passTime_later _).only
theorem State.reachNt_only (s : State) (t : U64) : Only passing s (s.reachNt t) := (s.passTime_later _).only
theorem State.count_only (s : State) (ev i n : Nat) (q : Nat → Bool) : Only [.perf] s (s.count ev i q n) := fun p => by
  cases p <;> first | exact .inl (by decide) | exact .inr rfl
theorem State.raise_only (s : State) (f : FnId) (v : Nat) : Only reporting s (s.raise f v) := (s.raise_reports f v).only
theorem State.raiseMgmt_only (s : State) : Only reporting s s.raiseMgmt := s.raiseMgmt_reports.only
theorem State.notify_only {w : Nat} (s : State) (a b c : BitVec w) : Only reporting s (s.notify a b c) := (s.notify_reports a b c).only
theorem State.event_only (s : State) (e n : Nat) (d : List Byte) : Only reporting s (s.event e n d) := (s.event_reports e n d).only
theorem State.powerEvent_only (s : State) (e : Nat) (d : List Byte) : Only reporting s (s.powerEvent e d) := (s.powerEvent_reports e d).only
theorem State.fault_only (s : State) (src : Nat) (k : FaultKind) (c : Option Nat) (a b : Nat) : Only reporting s (s.fault src k c a b) :=
  (s.fault_reports src k c a b).only
theorem State.record_only (s : State) (src : Nat) (r : Report) : Only reporting s (s.record src r) := (s.record_reports src r).only

/-! ### Ports -/

theorem Elsewhere.refl (p : Nat) (s : State) : Elsewhere p s s := fun _ _ => ⟨rfl, rfl, rfl⟩
theorem Elsewhere.trans {p : Nat} {s t u : State} (h : Elsewhere p s t) (k : Elsewhere p t u) : Elsewhere p s u := fun q hq =>
  let a := h q hq
  let b := k q hq
  ⟨b.1.trans a.1, b.2.1.trans a.2.1, b.2.2.trans a.2.2⟩
theorem Elsewhere.foldl {α : Type} {p : Nat} {f : State → α → State} (h : ∀ s a, Elsewhere p s (f s a)) (xs : List α) (s : State) :
    Elsewhere p s (xs.foldl f s) := by
  induction xs generalizing s with
  | nil => exact Elsewhere.refl p s
  | cons a xs ih => exact (h s a).trans (ih _)
/-- What changes no port changes none but `p`. -/
theorem Only.elsewhere {l : List Part} {s u : State} (p : Nat) (h : Only l s u) (a : .links ∉ l := by decide) (b : .scheds ∉ l := by decide)
    (c : .route ∉ l := by decide) : Elsewhere p s u := fun q _ => by
  have x : u.links = s.links := (h .links).resolve_left a
  have y : u.scheds = s.scheds := (h .scheds).resolve_left b
  have z : u.route = s.route := (h .route).resolve_left c
  simp only [State.link, State.sched, State.rport, x, y, z, and_self]

/-- What an operation of port `p` may change: the named parts, and of the ports' own only `p`'s. -/
structure Port (p : Nat) (l : List Part) (s u : State) : Prop where
  only : Only l s u
  elsewhere : Elsewhere p s u

theorem Port.refl (p : Nat) (l : List Part) (s : State) : Port p l s s := ⟨Only.refl l s, Elsewhere.refl p s⟩
theorem Port.trans {p : Nat} {l : List Part} {s t u : State} (h : Port p l s t) (k : Port p l t u) : Port p l s u :=
  ⟨h.only.trans k.only, h.elsewhere.trans k.elsewhere⟩
theorem Port.mono {p : Nat} {a b : List Part} {s t : State} (h : Port p a s t) (sub : ∀ x ∈ a, x ∈ b := by decide) : Port p b s t :=
  ⟨h.only.mono sub, h.elsewhere⟩
theorem Only.port {l : List Part} {s u : State} (p : Nat) (h : Only l s u) (a : .links ∉ l := by decide) (b : .scheds ∉ l := by decide)
    (c : .route ∉ l := by decide) : Port p l s u := ⟨h, h.elsewhere p a b c⟩
theorem Port.foldl {α : Type} {p : Nat} {l : List Part} {f : State → α → State} (h : ∀ s a, Port p l s (f s a)) (xs : List α) (s : State) :
    Port p l s (xs.foldl f s) := ⟨Only.foldl (fun s a => (h s a).only) xs s, Elsewhere.foldl (fun s a => (h s a).elsewhere) xs s⟩

theorem State.setLink_port (s : State) (p : Nat) (x : LinkPort) : Port p [.links] s (s.setLink p x) :=
  ⟨fun q => by cases q <;> first | exact .inl (by decide) | exact .inr rfl,
   fun q hq => ⟨by simp [State.link, State.setLink, Tbl.getD_set_ne _ _ _ hq], rfl, rfl⟩⟩
theorem State.modLink_port (s : State) (p : Nat) (f : LinkPort → LinkPort) : Port p [.links] s (s.modLink p f) := s.setLink_port p _
theorem State.setSched_port (s : State) (p : Nat) (x : SchedPort) : Port p [.scheds] s (s.setSched p x) :=
  ⟨fun q => by cases q <;> first | exact .inl (by decide) | exact .inr rfl,
   fun q hq => ⟨rfl, by simp [State.sched, State.setSched, Tbl.getD_set_ne _ _ _ hq], rfl⟩⟩
theorem State.setRport_port (s : State) (p : Nat) (x : RPort) : Port p [.route] s (s.setRport p x) :=
  ⟨fun q => by cases q <;> first | exact .inl (by decide) | exact .inr rfl,
   fun q hq => ⟨rfl, rfl, by simp [State.rport, State.setRport, Tbl.getD_set_ne _ _ _ hq]⟩⟩
theorem State.setTport_only (s : State) (p : Nat) (x : TimePort) : Only [.time] s (s.setTport p x) := fun q => by
  cases q <;> first | exact .inl (by decide) | exact .inr rfl
theorem State.emit_only (s : State) (o : Output) : Only [.out] s (s.emit o) := fun q => by
  cases q <;> first | exact .inl (by decide) | exact .inr rfl
theorem State.setNet_only (s : State) (n : Net) : Only [.net] s { s with net := n } := fun q => by
  cases q <;> first | exact .inl (by decide) | exact .inr rfl
theorem State.setTile_only (s : State) (t : Nat) (x : Tile) : Only [.tiles] s (s.setTile t x) := fun q => by
  cases q <;> first | exact .inl (by decide) | exact .inr rfl
theorem State.sendLctl_port (s : State) (p : Nat) (f : Lctl) : Port p [.links] s (s.sendLctl p f) := s.modLink_port p _
theorem State.enterPort_port (s : State) (p : Nat) (st : PortSt) : Port p [.links] s (s.enterPort p st) := s.modLink_port p _
theorem State.portInt_port (s : State) (p i : Nat) : Port p (.links :: reporting) s (s.portInt p i) :=
  (s.setLink_port p _).mono.trans ((State.notify_only _ _ _ _).port p).mono
theorem State.propose_port (s : State) (p : Nat) : Port p [.links] s (s.propose p) := by
  simp only [State.propose]; split
  · exact (s.setLink_port p _).trans (State.sendLctl_port _ p _)
  · exact Port.refl _ _ _
theorem State.setWant_port (s : State) (p : Nat) (w : Point) : Port p [.links] s (s.setWant p w) := by
  simp only [State.setWant]; split
  · exact Port.refl _ _ _
  · split
    · exact (s.setLink_port p _).trans ((State.sendLctl_port _ p _).trans (State.propose_port _ p))
    · exact s.setLink_port p _
theorem State.syncTc0_port (s : State) (p : Nat) : Port p [.scheds] s (s.syncTc0 p) := s.setSched_port p _
theorem State.boundFalls_port (s : State) (p : Nat) : Port p (.scheds :: reporting) s (s.boundFalls p) := by
  simp only [State.boundFalls]; split
  · exact (s.setSched_port p _).mono.trans ((State.notify_only _ _ _ _).port p).mono
  · exact Port.refl _ _ _
theorem State.checkRole_port (s : State) (p : Nat) : Port p (.route :: reporting) s (s.checkRole p) := by
  unfold State.checkRole
  extract_lets
  split
  · exact (s.setRport_port p _).mono.trans ((State.event_only _ _ _ _).port p).mono
  · exact (s.setRport_port p _).mono
theorem State.countDrop_port (s : State) (p vc : Nat) : Port p [.route, .perf] s (s.countDrop p vc) :=
  (s.setRport_port p _).mono.trans ((State.count_only _ _ _ _ _).port p).mono
theorem State.drop_port (s : State) (p vc reason : Nat) : Port p [.route, .perf] s (s.drop p vc reason) :=
  (s.setRport_port p _).mono.trans (State.countDrop_port _ p vc)
theorem State.dropDown_port (s : State) (p : Nat) (k : Packet) : Port p [.tiles, .links, .route, .perf] s (s.dropDown p k) := by
  simp only [State.dropDown]; split
  · exact (State.countDrop_port s p _).mono.trans
      (((State.setTile_only _ _ _).port p).mono.trans (State.modLink_port _ p _).mono)
  · exact (State.drop_port _ _ _ _).mono
theorem State.linkUp_port (s : State) (p : Nat) : Port p (.links :: .scheds :: .route :: reporting) s (s.linkUp p) := by
  unfold State.linkUp
  extract_lets s1 x s2 l s3 s4 s5
  have h : Port p (.links :: .scheds :: .route :: reporting) s s5 := by
    refine Port.trans (s.syncTc0_port p).mono ?_
    refine Port.trans (t := s2) (State.modLink_port s1 p _).mono ?_
    refine Port.trans (State.portInt_port s2 p 0).mono ?_
    refine Port.trans (t := s4) ((State.event_only s3 _ _ _).port p).mono ?_
    exact (State.checkRole_port s4 p).mono
  split
  · exact h.trans ((State.sendLctl_port _ p _).mono.trans (State.propose_port _ p).mono)
  · exact h

/-! ### Network time -/

theorem State.setTime_only (s : State) (t : TimeState) : Only [.time] s { s with time := t } := fun q => by
  cases q <;> first | exact .inl (by decide) | exact .inr rfl
theorem State.timeEvent_only (s : State) (e b : Nat) (d : List Byte) : Only (.time :: reporting) s (s.timeEvent e b d) := by
  unfold State.timeEvent
  extract_lets s1 old new
  exact (State.event_only _ _ _ _).mono.trans ((State.setTime_only _ _).mono.trans (State.notify_only _ _ _ _).mono)
theorem State.setStatus_only (s : State) (new : TStatus) : Only (.time :: reporting) s (s.setStatus new) := by
  unfold State.setStatus
  extract_lets old p held x s1 s2
  split
  · exact Only.refl _ _
  · have h : Only (.time :: reporting) s s2 := Only.trans (State.setTime_only s _).mono (State.timeEvent_only s1 _ _ _)
    split
    · exact h.trans (State.fault_only _ _ _ _ _ _).mono
    · exact h
theorem State.takeParent_only (s : State) (p : Nat) : Only (.time :: reporting) s (s.takeParent p) :=
  (State.setTime_only _ _).mono.trans ((State.setTime_only _ _).mono.trans (State.timeEvent_only _ _ _ _))
theorem State.loadNt_only (s : State) (nt : U64) : Only [.clk, .time] s (s.loadNt nt) := fun q => by
  cases q <;> first | exact .inl (by decide) | exact .inr rfl
theorem State.timeStep_only (s : State) : Only (.clk :: .time :: reporting) s s.timeStep := by
  have st (t : State) (n : TStatus) : Only (.clk :: .time :: reporting) t (t.setStatus n) := (State.setStatus_only _ _).mono
  have tp (t : State) (n : Nat) : Only (.clk :: .time :: reporting) t (t.takeParent n) := (State.takeParent_only _ _).mono
  unfold State.timeStep
  split
  · exact Only.refl _ _
  · split
    · split
      · exact Only.refl _ _
      · split
        · exact (State.loadNt_only _ _).mono.trans ((tp _ _).trans ((State.setTime_only _ _).mono.trans (st _ _)))
        · dsimp only
          split
          · exact (tp _ _).trans (st _ _)
          · exact (tp _ _).trans (st _ _)
    · dsimp only
      split <;> first | exact Only.refl _ _ | exact st _ _ | (split <;> first | exact Only.refl _ _ | exact st _ _)
theorem State.loseParent_only (s : State) : Only (.clk :: .time :: reporting) s s.loseParent := by
  unfold State.loseParent
  split
  · exact Only.refl _ _
  · extract_lets x s1 s2 s3
    have h : Only (.clk :: .time :: reporting) s s2 := Only.trans (State.setTime_only s _).mono (State.timeEvent_only s1 _ _ _).mono
    refine Only.trans ?_ (State.timeStep_only _)
    show Only _ s (if _ then _ else _)
    split
    · exact h.trans (State.setStatus_only _ _).mono
    · exact h
theorem State.linkTimeLost_only (s : State) (p : Nat) : Only (.clk :: .time :: reporting) s (s.linkTimeLost p) := by
  unfold State.linkTimeLost
  extract_lets t s1
  have h : Only (.clk :: .time :: reporting) s s1 := (State.setTport_only _ _ _).mono
  split
  · exact h.trans (State.loseParent_only _)
  · exact h
theorem State.failSample_only (s : State) (p : Nat) : Only (.clk :: .time :: reporting) s (s.failSample p) := by
  unfold State.failSample
  extract_lets t run s1 s2
  have h : Only (.clk :: .time :: reporting) s s2 := (State.setTport_only _ _ _).mono.trans (State.count_only _ _ _ _ _).mono
  split
  · exact h.trans (State.linkTimeLost_only _ _)
  · exact h
theorem State.hearMark_only (s : State) (p : Nat) (st : TStatus) (d : Nat) (e : U32) (r : Nat) :
    Only (.clk :: .time :: reporting) s (s.hearMark p st d e r) := by
  unfold State.hearMark
  extract_lets t s1 n b x s2 s3 s4 s5
  have h : Only (.clk :: .time :: reporting) s s1 := (State.setTport_only _ _ _).mono
  split
  · exact h
  · split
    · refine Only.trans ?_ (State.timeStep_only _)
      have k : Only (.clk :: .time :: reporting) s s3 :=
        h.trans (Only.trans (State.setTime_only s1 _).mono (State.setTime_only s2 _).mono)
      show Only _ s (if _ then _ else _)
      split
      · exact k.trans (State.timeEvent_only _ _ _ _).mono
      · exact k
    · refine Only.trans ?_ (State.timeStep_only _)
      show Only _ s (if _ then _ else _)
      split
      · refine h.trans ?_
        unfold State.refuseRoot
        extract_lets t' s1' due t2 s2' st'
        split
        · exact (State.setTport_only _ _ _).mono.trans ((State.setTport_only _ _ _).mono.trans (State.timeEvent_only _ _ _ _).mono)
        · exact (State.setTport_only _ _ _).mono
      · exact h
theorem State.validSample_only (s : State) (p : Nat) (a b : Int) (st : TStatus) : Only [.time] s (s.validSample p a b st) := by
  unfold State.validSample
  extract_lets
  split
  · exact (State.setTport_only _ _ _).trans (State.setTime_only _ _)
  · exact State.setTport_only _ _ _

/-- What a declaration that a link is down may change. -/
theorem State.declareDown_port (s : State) (p : Nat) (c : DownCause) :
    Port p (.clk :: .time :: .links :: .scheds :: .route :: .tiles :: .net :: reporting) s (s.declareDown p c) := by
  unfold State.declareDown
  extract_lets l s1 lost s2 x y s3 s4 s4' s5 s6 s7 s8 s9 z s10
  split
  · exact Port.refl _ _ _
  · have h : Port p (.clk :: .time :: .links :: .scheds :: .route :: .tiles :: .net :: reporting) s s10 := by
      refine Port.trans (s.syncTc0_port p).mono ?_
      refine Port.trans (t := s2) (Port.foldl (fun s k => State.dropDown_port s p k) lost s1).mono ?_
      refine Port.trans (t := s3) (State.modLink_port s2 p _).mono ?_
      refine Port.trans (t := s4) (State.setSched_port s3 p _).mono ?_
      refine Port.trans (t := s4') ((State.setNet_only s4 _).port p).mono ?_
      refine Port.trans (t := s5) ((State.emit_only s4' _).port p).mono ?_
      refine Port.trans (State.portInt_port s5 p 1).mono ?_
      refine Port.trans (t := s7) ((State.event_only s6 _ _ _).port p).mono ?_
      refine Port.trans ((State.linkTimeLost_only s7 p).port p).mono ?_
      refine Port.trans (State.boundFalls_port s8 p).mono ?_
      exact (State.setRport_port s9 p _).mono
    split
    · exact h.trans ((State.fault_only _ _ _ _ _ _).port p).mono
    · exact h
theorem State.startReplay_port (s : State) (p : Nat) (seq : U16) (c : Nat) :
    Port p (.clk :: .time :: .links :: .scheds :: .route :: .tiles :: .net :: reporting) s (s.startReplay p seq c) := by
  unfold State.startReplay
  extract_lets l run s1
  split
  · exact State.declareDown_port _ _ _
  · exact (State.setLink_port _ p _).mono.trans ((State.sendLctl_port _ p _).mono.trans (State.portInt_port _ p 3).mono)
theorem State.applyAck_port (s : State) (p : Nat) (seq : U16) :
    Port p (.clk :: .time :: .links :: .scheds :: .route :: .tiles :: .net :: reporting) s (s.applyAck p seq) := by
  unfold State.applyAck
  extract_lets
  split
  · exact State.declareDown_port _ _ _
  · split
    · exact Port.refl _ _ _
    · exact (State.setLink_port _ p _).mono

/-! ### Power and reset -/

theorem State.modPwr_only (s : State) (f : Power → Power) : Only [.pwr] s (s.modPwr f) := fun q => by
  cases q <;> first | exact .inl (by decide) | exact .inr rfl
theorem State.okChange_only (s : State) (p : PwrState) : Only [.pwr] s (s.okChange p) := s.modPwr_only _
theorem State.failChange_only (s : State) : Only [.pwr] s s.failChange := s.modPwr_only _
theorem State.modSup_only (s : State) (f : Supply → Supply) : Only [.sup] s (s.modSup f) := fun q => by
  cases q <;> first | exact .inl (by decide) | exact .inr rfl
theorem State.modBoot_only (s : State) (f : Boot → Boot) : Only [.boot] s (s.modBoot f) := fun q => by
  cases q <;> first | exact .inl (by decide) | exact .inr rfl
theorem State.modSec_only (s : State) (f : Sec → Sec) : Only [.sec] s (s.modSec f) := fun q => by
  cases q <;> first | exact .inl (by decide) | exact .inr rfl
theorem State.fresh_only (s : State) (n : Nat) : Only [.free] s (s.fresh n).2 := fun q => by
  cases q <;> first | exact .inl (by decide) | exact .inr rfl
theorem State.supInt_only (s : State) (b : Nat) : Only (.sup :: reporting) s (s.supInt b) := by
  unfold State.supInt
  exact Only.trans (State.modSup_only _ _).mono (State.notify_only _ _ _ _).mono
theorem State.secInt_only (s : State) (b : Nat) : Only (.sec :: reporting) s (s.secInt b) := by
  unfold State.secInt
  exact Only.trans (State.modSec_only _ _).mono (State.notify_only _ _ _ _).mono
theorem State.pwrEvent_only (s : State) (c : Nat) : Only reporting s (s.pwrEvent c) := State.powerEvent_only _ _ _
theorem State.setPwr_only (s : State) (p : PwrState) : Only (.pwr :: .sup :: reporting) s (s.setPwr p) := by
  unfold State.setPwr
  extract_lets old s1
  split
  · exact Only.refl _ _
  · refine Only.trans (t := s1) (State.modPwr_only _ _).mono ?_
    exact Only.trans (State.powerEvent_only _ _ _).mono (State.supInt_only _ _).mono
theorem State.gateOff_only (s : State) : Only [.pwr, .sup] s s.gateOff :=
  Only.trans (State.modPwr_only _ _).mono (State.modSup_only _ _).mono
theorem State.relSync_only (s : State) : Only [.boot] s s.relSync := by
  unfold State.relSync
  split
  · exact State.modBoot_only _ _
  · exact Only.refl _ _
theorem State.loadMcr_only (s : State) : Only (.boot :: reporting) s s.loadMcr := by
  unfold State.loadMcr
  extract_lets c f s1 x s2
  have h : Only (.boot :: reporting) s s2 := by
    refine Only.trans (t := s1) (State.modBoot_only s _).mono ?_
    exact Reports.only ((Reports.refl s1).setFaults _) |>.mono
  split
  · exact h.trans (State.fault_only _ _ _ _ _ _).mono
  · exact h
theorem State.dieReset_only (s : State) : Only resetting s s.dieReset := fun q => by
  cases q <;> first | exact .inl (by decide) | exact .inr rfl
theorem State.enterReset_only (s : State) : Only resetting s s.enterReset := by
  unfold State.enterReset
  split
  · exact Only.refl _ _
  · extract_lets s1 s2 s3 s4 s5
    have h1 : Only resetting s s1 := by
      show Only _ s (if _ then _ else _)
      split
      · exact (State.setPwr_only _ _).mono
      · exact Only.refl _ _
    have h3 : Only resetting s s3 := by
      refine h1.trans (Only.trans (t := s2) ?_ (State.failChange_only s2).mono)
      exact Only.trans (State.okChange_only s1 .a0).mono (State.modPwr_only (s1.okChange .a0) _).mono
    have h4 : Only resetting s s4 := h3.trans (State.dieReset_only _)
    refine Only.trans ?_ (State.loadMcr_only _).mono
    show Only _ s (if _ then _ else _)
    split
    · exact h4
    · exact h4.trans (State.modPwr_only _ _).mono
theorem State.trip_only (s : State) (c : TripCause) (k : Nat) : Only resetting s (s.trip c k) := by
  unfold State.trip
  extract_lets n latch s1 s2 s3 s4
  split
  · exact Only.refl _ _
  · have h2 : Only resetting s s2 :=
      Only.trans (State.modPwr_only s _).mono (Only.trans (State.gateOff_only _).mono (State.pwrEvent_only _ _).mono)
    have h3 : Only resetting s s3 := by
      show Only _ s (if _ then _ else _)
      split
      · exact h2.trans (State.pwrEvent_only _ _).mono
      · exact h2
    exact h3.trans (Only.trans (t := s4) (State.modPwr_only _ _).mono (Only.trans (State.setPwr_only _ _).mono (State.enterReset_only _)))
theorem State.seatLoss_only (s : State) : Only resetting s s.seatLoss := by
  unfold State.seatLoss
  extract_lets s1 s2 s3
  have h : Only resetting s s3 :=
    Only.trans (State.modPwr_only s _).mono <| Only.trans (State.gateOff_only _).mono <|
      Only.trans (State.pwrEvent_only s1 _).mono (State.modPwr_only s2 _).mono
  exact h.trans (Only.trans (State.setPwr_only _ _).mono (State.enterReset_only _))
theorem State.wake_only (s : State) : Only [.pwr] s s.wake := by
  unfold State.wake
  extract_lets
  split
  · exact fun q => by cases q <;> first | exact .inl (by decide) | exact .inr rfl
  · exact Only.refl _ _
theorem State.wantAll_only (s : State) (w : Point) : Only [.links] s (s.wantAll w) := Only.foldl (fun s p => (State.setWant_port s p w).only) _ _
theorem State.toA0_only (s : State) : Only (.pwr :: .sup :: .links :: reporting) s s.toA0 := by
  unfold State.toA0
  exact Only.trans (s.setPwr_only .a0).mono (Only.trans (State.wantAll_only (s.setPwr .a0) _).mono (State.okChange_only _ .a0).mono)
theorem State.toA1_only (s : State) : Only (.pwr :: .sup :: .links :: reporting) s s.toA1 := by
  unfold State.toA1
  exact Only.trans (s.setPwr_only .a1).mono (Only.trans (State.wantAll_only (s.setPwr .a1) _).mono (State.okChange_only _ .a1).mono)
theorem State.comparePair_only (s : State) (i : Nat) : Only (.sup :: reporting) s (s.comparePair i) := by
  unfold State.comparePair
  extract_lets pr dv dc is was s1
  split
  · exact Only.trans (State.modSup_only s _).mono (State.fault_only _ _ _ _ _ _).mono
  · exact (State.modSup_only s _).mono

end Sys2Proof.Machine
end

