-- ==== Sys2Proof/Tests/WitnessModule.lean ====
section
/-! SUPPORT. Small states that meet the hypotheses of the statements: power, host, registers, mailboxes and ports. -/
namespace Sys2Proof.Tests
open Sys2Proof.Machine
set_option maxRecDepth 100000
set_option Elab.async false

/-- The fabric die up: Balyn runs, NT is valid and locked, and the module is a root. -/
def running : State :=
  { State.reset with boot := { State.reset.boot with alive := .running, mintDone := true, balyn := true },
                     time := { State.reset.time with root := true, status := .locked, ntValid := true },
                     route := { State.reset.route with valid := true, idSet := false, systemGroups := 1, group := 0 } }

/-- A host at endpoint 0, which is the management PF, and a BMC. -/
def hosted : State :=
  { (running.modEp 0 fun x => { x with linkUp := true, dlUp := true, configured := true, speed := 5, width := 16 }) with
    pins := { State.reset.pins with perst := [false, false] },
    host := { State.reset.host with mgmt := some 0, eps := [(0, { Endpoint.reset with linkUp := true, dlUp := true, configured := true })],
                                    funcs := [(0, { Func.reset with bme := true })] },
    bmc := { dynAddr := some 8, eid := 9 } }

/-- The module in A3 with the die in reset. -/
def asleep : State :=
  { State.reset with pwr := { Power.reset with st := .a3, gate := .off, pwrGood := false, converters := false },
                     boot := { Boot.reset with inReset := true } }

/-- The state a command leaves. -/
def after (c : Instr) (s : State) : State := match exec c s with
  | .next t => t
  | _ => s

/-- A mailbox that has taken a request. -/
def asked (s : State) (m : Nat) (code : Nat) (p : List Byte) : State :=
  s.setBox m { s.box m with busy := true, taken := some { cmd := code, seq := 1, len := p.length, payload := p, dbSeq := 1 } }

/-- That request. -/
def theReq (code : Nat) (p : List Byte) : BciReq := { cmd := code, seq := 1, len := p.length, payload := p, dbSeq := 1 }
/-! ### The queue, power and start-up -/

/-- What the hypotheses of `Obligations.CommandsRunFirstInFirstOut` ask (IdleStepIsOneTick). -/
theorem witness_IdleStepIsOneTick : State.reset.pending = [] := by decide
/-- What the hypotheses of `Obligations.BoundInvariantKept` ask. -/
theorem witness_BoundInvariantKept : ∀ p, p < 64 → (State.reset.sched p).boundOk = true → State.reset.boundNow p = true := by decide
/-- What the hypotheses of `Obligations.EveryCommandHasItsEffect` ask (QuietStatesAreSettled). -/
theorem witness_QuietStatesAreSettled : State.reset.quiet := by
  refine ⟨rfl, rfl, rfl, rfl, rfl, rfl, (fun _ h => nomatch h), ?_⟩; decide
/-- What the hypotheses of `Obligations.PowerAndDeviceReset` ask (StandbyPower). -/
theorem witness_StandbyPower :
    ({ asleep with pwr := { asleep.pwr with st := .off } } : State).pwr.st = .off ∧ asleep.pwr.st ≠ .off := by decide
/-- What the hypotheses of `Obligations.PowerAndDeviceReset` ask (ModuleReset). -/
theorem witness_ModuleReset :
    (10 < 11 ∧ running.pins.modReset = false ∧ running.boot.inReset = false)
    ∧ (asleep.pins.modReset = false ∧ asleep.boot.inReset = true) ∧ 1 ≤ 1
    ∧ (let s : State := { State.reset with pins := { Pins.reset with modReset := true }, boot := { Boot.reset with inReset := true } }
       s.pins.modReset = true ∧ s.boot.inReset = true ∧ s.pwr.pwrGood = true ∧ s.sup.vinRst = false ∧ s.sup.vcRst.any id = false) := by decide
/-- What the hypotheses of `Obligations.PowerAndDeviceReset` ask (DeviceResetRelease). -/
theorem witness_DeviceResetRelease :
    let s : State := { State.reset with boot := { Boot.reset with inReset := true } }
    s.boot.inReset = true ∧ s.resetCause = false ∧ s.pwr.st ≠ .off ∧ s.pwr.st ≠ .a3 := by decide
/-- What the hypotheses of `Obligations.StartUpAndVaultEvents` ask (StartUp). -/
theorem witness_StartUp :
    (State.reset.dieRuns = true ∧ State.reset.boot.mintDone = false ∧ State.reset.fw.running.isSome = true ∧ State.reset.boot.alive = .booting)
    ∧ (let s : State := { State.reset with boot := { Boot.reset with mintDone := true, balyn := true } }
       s.dieRuns = true ∧ s.boot.balyn = true ∧ s.boot.alive = .booting ∧ (s.link 63).st = .disabled ∧ (s.link 63).cfg.en = true)
    ∧ (let s : State := { running with pins := hosted.pins }
       s.dieRuns = true ∧ s.formed 2 = true ∧ (s.ep 2).configured = false ∧ s.pins.perst.getD (2 / 2) true = false ∧ s.boot.mintDone = true)
    ∧ (running.dieRuns = true ∧ running.boot.balyn = true) := by decide
/-- What the hypotheses of `Obligations.StartUpAndVaultEvents` ask (VaultEvents). -/
theorem witness_VaultEvents :
    (let s := running.modSec fun x => { x with fuseBusy := true, burnSvn := 5 }
     s.dieRuns = true ∧ s.sec.fuseBusy = true)
    ∧ (running.dieRuns = true ∧ running.sec.rngOk = true ∧ (running.capture 3).valid = false)
    ∧ (let s := running.modSec fun x => { x with rngOk := false }
       s.dieRuns = true ∧ s.sec.rngOk = false) := by decide
/-- What the hypotheses of `Obligations.SeatingTripsAndRetries` ask (SeatingAndRamp). -/
theorem witness_SeatingAndRamp :
    (let s : State := { asleep with pwr := { asleep.pwr with qualified := false } }
     s.pwr.st ≠ .off ∧ s.pwr.qualified = false ∧ s.pwr.st = .a3 ∧ s.pwr.gate = .off ∧ s.pwr.holdA3 = false)
    ∧ (let s : State := { asleep with pwr := { asleep.pwr with qualified := false, holdA3 := true } }
       s.pwr.st ≠ .off ∧ s.pwr.qualified = false ∧ s.pwr.holdA3 = true)
    ∧ ((false && true) = false ∧ running.pwr.st ≠ .off ∧ running.pwr.qualified = true)
    ∧ (let s : State := { asleep with pwr := { asleep.pwr with qualified := false } }
       (false && false) = false ∧ s.pwr.st ≠ .off ∧ s.pwr.qualified = false)
    ∧ (asleep.modPwr fun x => { x with gate := .ramping }).pwr.gate = .ramping := by decide
/-- What the hypotheses of `Obligations.SeatingTripsAndRetries` ask (EfuseTrips). -/
theorem witness_EfuseTrips :
    (asleep.modPwr fun x => { x with gate := .ramping }).pwr.gate = .ramping
    ∧ running.pwr.gate ≠ .off
    ∧ (running.pwr.gate = .on ∧ 100 * (running.pwrCfg.curve.getD 7 (0, 0)).1 < 43001)
    ∧ (asleep.modPwr fun x => { x with gate := .on }).attempting = true
    ∧ (running.pwr.st ≠ .off ∧ running.pwr.gate ≠ .off ∧ 115 < 116) := by decide
/-- What the hypotheses of `Obligations.SeatingTripsAndRetries` ask (PowerGoodAndRetry). -/
theorem witness_PowerGoodAndRetry :
    (let s := asleep.modPwr fun x => { x with gate := .on, converters := true }
     s.pwr.gate = .on ∧ s.pwr.converters = true ∧ s.pwr.pwrGood = false ∧ s.sup.vinRst = false ∧ s.pwrCfg.ocTimer = false ∧ s.pwr.st = .a3
       ∧ s.clk.now ≤ s.pwr.attemptAt + 20 * msTicks)
    ∧ (let s := asleep.modPwr fun x => { x with lastCause := .thermal }
       s.mayAttempt = true ∧ (s.pwr.lastCause = .thermal → ∀ t ∈ [85, 84, 30, 20], t ≤ 85))
    ∧ running.pwr.pwrGood = true := by decide
/-- What the hypotheses of `Obligations.SupplySupervision` ask (InputSupervision). -/
theorem witness_InputSupervision :
    (running.pwr.st ≠ .off ∧ running.sup.sag = false ∧ 43999 < running.pwrCfg.vinWarn * 100)
    ∧ (running.sup.vinRst = false ∧ 37999 < running.pwrCfg.vinReset * 100 ∧ running.boot.inReset = false)
    ∧ (running.sup.ov = false ∧ 63000 < 63001) := by decide
/-- What the hypotheses of `Obligations.SupplySupervision` ask (RegionSupervision). -/
theorem witness_RegionSupervision :
    (running.pwr.st ≠ .off ∧ running.pwr.converters = true ∧ running.sup.vcLow.getD 3 false = false ∧ 689 < running.pwrCfg.vcWarn)
    ∧ (running.sup.vcRst.getD 0 false = false ∧ 639 < running.pwrCfg.vcReset ∧ running.boot.inReset = false)
    ∧ (running.sup.hot.getD 3 false = false ∧ 105 < 106)
    ∧ (running.sup.cool = false ∧ (45 < 45 ∨ 1199 < 1200))
    ∧ (running.dieRuns = true ∧ [750, 700, 700, 700].length = 4 ∧ [60, 60, 60, 90].length = 4 ∧ 3 < running.sup.skew.length) := by decide
/-- What the hypotheses of `Obligations.SupplySupervision` ask (ThresholdsClear). -/
theorem witness_ThresholdsClear :
    let x : Supply := { running.sup with sag := true, vinRst := true, ov := true, vcLow := [true, true, true, true],
                                         vcRst := [true, true, true, true], hot := [true, true, true, true], cool := true }
    let s : State := { running with sup := x }
    s.pwr.st ≠ .off ∧ (s.sup.sag = true ∧ s.pwrCfg.vinWarn * 100 + 1000 ≤ 45000) ∧ (s.sup.vinRst = true ∧ s.pwrCfg.vinReset * 100 + 2000 ≤ 40000)
    ∧ (s.sup.ov = true ∧ 61000 + 2000 ≤ 63000) ∧ (s.sup.vcLow.getD 0 false = true ∧ s.pwrCfg.vcWarn + 10 ≤ 700)
    ∧ (s.sup.vcRst.getD 3 false = true ∧ s.pwrCfg.vcReset + 20 ≤ 660) ∧ (s.sup.hot.getD 0 false = true ∧ 102 + 3 ≤ 105)
    ∧ (s.sup.cool = true ∧ 44 + 1 ≤ 45 ∧ 1300 ≤ 1300) := by decide
/-- A PUT packet of 16 bytes for QP `qpn` of this module. -/
def aPacket (op qpn psn : Nat) : Packet :=
  { hdr := { dst := 0, src := 0, via := 0, cls := 0, level := 0, cand := 0, hops := 0, rsvd0 := 0, stamp := 0, tc := 1, vn := 0, ordered := 0,
             cong := 0, copy := 0, rsvd1 := 0, len := 64, flowHash := 0 },
    body := ({ opcode := BitVec.ofNat 5 op, first := 1, last := 1, ackReq := 1, prot := 0, notify := 0, gen := 1, dstQpn := BitVec.ofNat 22 qpn,
               psn := BitVec.ofNat 24 psn, srcQpn := 5, ssn := 0, retry := 0, rsvd := 0, ledger := 0 } : TransHdr).bytes ++ zeros 32 }

/-- Context 5 of endpoint 0 on tile 5, and in job 1 with two ranks a QP of it. -/
def aCtx : Ctx := { Ctx.fresh 0 0 5 true false with enable := true, idle := false, sqLog2 := 6, cqLog2 := 6 }
def aChan : Chan := { Chan.reset with en := true, tc := 1 }
def aQp : Qp :=
  { st := .rts, errCode := 0, addrRank := false, prot := false, pin := true, spilled := false, fetchingCtx := false, tgtCqe := false,
    hostLost := false, gen := 1, owner := 5, job := 1, peer := 0, pset := 0, peerGen := 1, peerQpn := 69, peerRank := 0, mtuCode := 2,
    winLog2 := 8, peerWinLog2 := 8, retryMax := 7, lifeMax := 8, rtoBase := 16, ackDelay := 200, window := poolBase + 0x200000, handle := 0, tkey := none, keyErased := false, fetchFrom := 0, quarFrom := 0,
    freeing := false, chans := [aChan] }
def aJob : JobDesc := { base := 0, count := 2, policy := 0, prot := false }
def aRegion : Region :=
  { tag := 0, kind := .hbm, perm := 31, valid := true, prot := false, user := false, job := 1, owner := 5, base := poolBase, size := 2097152,
    asid := 0, agent := 0, hold := none, registering := false }
def jobbed : State :=
  let s : State := { hosted with route := { hosted.route with jobs := [(1, aJob)], ranks := [(0, { feid := 0, pset := 0, valid := true })] } }
  (s.setCtx 5 aCtx).setRegion 3 aRegion
def linked : State := jobbed.setQp 5 aQp

/-! ### Hosts, registers and mailboxes -/

/-- What the hypotheses of `Obligations.HostsArriveAndDepart` ask (HostsComeAndGo). -/
theorem witness_HostsComeAndGo :
    running.dieRuns = true ∧ asleep.dieRuns = false
    ∧ (let s : State := { running with pins := hosted.pins }
       (s.mayTrain 0 = true ∧ (s.ep 0).dlUp = false ∧ 1 ≤ 1 ∧ 6 ≤ 6 ∧ s.widthOk 0 16 = true ∧ s.host.mgmtNamed = none)
       ∧ (let t : State := { s with host := { s.host with mgmtNamed := some 2, eps := [(2, { Endpoint.reset with dlUp := true })] } }
          t.host.mgmtNamed = some 2 ∧ (t.ep 2).dlUp = true)
       ∧ (s.mayTrain 2 = true ∧ (s.ep 2).linkUp = false ∧ (s.ep 2).noFlit = false))
    ∧ (hosted.dieRuns = true ∧ (hosted.ep 0).dlUp = true)
    ∧ (let s := hosted.modEp 0 fun x => { x with linkUp := false, noFlit := true }
       s.mayTrain 0 = true ∧ (s.ep 0).linkUp = false ∧ (s.ep 0).noFlit = true) := by decide
/-- What the hypotheses of `Obligations.FunctionsAndTheirInterrupts` ask (FunctionsPauseAndResume). -/
theorem witness_FunctionsPauseAndResume :
    (let s := hosted.modEp 0 fun x => { x with vfs := 64 }
     s.hostReaches 0 = true ∧ (s.ep 0).vfs ≠ 0 ∧ s.fnExists 0 64 = true) ∧ hosted.fnExists 0 0 = true := by decide
/-- What the hypotheses of `Obligations.FunctionsAndTheirInterrupts` ask (MaskedMessagesWait). -/
theorem witness_MaskedMessagesWait :
    (hosted.modEp 0 fun x => { x with configured := false }).retries 0 = true ∧ (RegWrite.maxPayload 2).config = true ∧
    (let s := hosted.setFunc { ep := 0, fn := 0 } { hosted.func { ep := 0, fn := 0 } with vectors := [(2047, { Vector.reset with masked := false })] }
     (s.func { ep := 0, fn := 0 }).mayDma = true ∧ (s.func { ep := 0, fn := 0 }).fnMask = false
       ∧ (Tbl.getD (s.func { ep := 0, fn := 0 }).vectors 2047 Vector.reset).masked = false)
    ∧ (State.reset.func { ep := 3, fn := 64 }).mayDma = false
    ∧ (Tbl.getD (hosted.func { ep := 0, fn := 0 }).vectors 0 Vector.reset).masked = true := by decide
/-- What the hypotheses of `Obligations.HostMemoryAccess` ask (TagsAndCompletions). -/
theorem witness_TagsAndCompletions :
    let t : Tag := { tag := 4095, use := .xfer 0, addr := 0, len := 64, sent := 0 }
    let q : QTag := { tag := 1, sent := 0 }
    let s := hosted.modEp 0 fun x => { x with tags := [t], quar := [q] }
    s.dieRuns = true ∧ ((s.ep 0).tag? 4095 = some t ∧ (s.ep 0).dlUp = true ∧ s.clk.now < t.sent + (s.ep 0).ctoTicks)
    ∧ ((s.ep 0).dlUp = true ∧ ((s.ep 0).quar.any fun y => y.tag == 1) = true) ∧ (s.ep 0).tagFree 0 = true
    ∧ (s.ep 0).quar.find? (fun y => y.tag == 1) = some q := by decide
def windowed : State :=
  let s : State := { jobbed with boot := { jobbed.boot with mcr := { jobbed.boot.mcr with bar4Log2 := 30 } } }
  s.setRegion 3 { aRegion with perm := 63 }
/-- What the hypotheses of `Obligations.HostMemoryAccess` ask (HbmWindow). -/
theorem witness_HbmWindow :
    windowed.hostReaches 0 = true ∧ (windowed.wake.bar4Open 0 2097150 2 = true ∧ ∀ b ∈ bursts (poolBase + 2097150) 2, b ∉ windowed.mem.poison)
    ∧ (let s := windowed.modMem fun m => { m with poison := [poolBase / 32] }
       s.wake.bar4Open 0 0 1 = true ∧ ∃ b ∈ bursts (poolBase + 0) 1, b ∈ s.mem.poison)
    ∧ windowed.wake.bar4Open 0 2097150 3 = false ∧ windowed.wake.bar4Open 0 0 [(1 : Byte)].length = true
    ∧ windowed.wake.bar4Open 0 2097151 [(1 : Byte), 1].length = false := by decide
/-- A transfer from HBM. -/
def anXfer : Xfer :=
  { id := 0, use := .bar4 1, home := 4, express := false, ctx := 0, dead := false, space := .hbm poolBase, write := false, atomic := none, data := [],
    poisoned := false, len := 2, pos := 0, via := none, st := .asking }
/-- What the hypotheses of `Obligations.HostMemoryAccess` ask (HbmWindow, gateway). A read, of good and of poisoned bytes, and a write. -/
theorem witness_HbmWindow_gateway :
    (let s := windowed.modMem fun m => { m with xfers := [anXfer] }
     s.xfer? 0 = some anXfer ∧ (∀ b ∈ bursts poolBase 2, b ∉ s.mem.poison) ∧ anXfer.len ≤ anXfer.pos + anXfer.part)
    ∧ (let s := windowed.modMem fun m => { m with xfers := [anXfer], poison := [poolBase / 32] }
       s.xfer? 0 = some anXfer ∧ ∃ b ∈ bursts poolBase 2, b ∈ s.mem.poison)
    ∧ (let x := { anXfer with write := true, data := [1, 2] }
       let s := windowed.modMem fun m => { m with xfers := [x] }
       s.xfer? 0 = some x ∧ x.write = true ∧ x.len ≤ x.pos + x.part) := by decide
/-- What the hypotheses of `Obligations.HostAtomicopsUnsupported` ask. -/
theorem witness_HostAtomicopsUnsupported : hosted.hostReaches 0 = true := by decide
/-- What the hypotheses of `Obligations.HostMemoryAccess` ask (GatewaysAndFills). -/
theorem witness_GatewaysAndFills :
    (let x : Xfer := { anXfer with use := .sweep, ctx := 5, write := true, data := [1], len := 1, st := .ready poolBase }
     let s := jobbed.modMem fun m => { m with xfers := [x] }
     ∃ g, g < 64 ∧ s.mem.xfers.find? (s.takable g) = some x)
    ∧ (jobbed.works = true
       ∧ (let high := decide (1024 ≤ jobbed.mem.winTotal) && decide (jobbed.mem.ratio ≤ jobbed.mem.busiest.2 * 128 / jobbed.mem.winTotal)
          (high && jobbed.mem.imbalRun == 3) = false)
       ∧ (let s := jobbed.modMem fun m => { m with winReq := [(5, 1024)], imbalRun := 3 }
          let high := decide (1024 ≤ s.mem.winTotal) && decide (s.mem.ratio ≤ s.mem.busiest.2 * 128 / s.mem.winTotal)
          (high && s.mem.imbalRun == 3) = true))
    ∧ (jobbed.works = true ∧ 1 < 2) ∧ (jobbed.works = true ∧ 2 ≤ 18 ∧ jobbed.pwr.st ≠ .a2) := by decide
/-- What the hypotheses of `Obligations.HostMemoryAccess` ask (GatewaysAndFills, fill). A fill finds an entry that is not valid, a leaf with A clear, one in a device window, and one that it keeps. -/
theorem witness_GatewaysAndFills_fill :
    let x : Xfer := { anXfer with use := .fill, space := .host 0 0 7 false 0x1234, len := 1 }
    x.pos = 0 ∧ walkNext 0 0 = .fault 0 ∧ (walkNext 0 0x1003 = .leaf ∧ pteA 0x1003 = false)
    ∧ (walkNext 2 0x43 = .leaf ∧ jobbed.deviceSpace 0 0 (ptePpn 0x43 * 4096 + 0 % 2 ^ pageBits 2) 1 = true)
    ∧ (walkNext 0 0x1043 = .leaf ∧ pteA 0x1043 = true ∧ jobbed.deviceSpace 0 0 (ptePpn 0x1043 * 4096 + 0x1234 % 2 ^ pageBits 0) 1 = false) := by decide
/-- What the hypotheses of `Obligations.RegisterWrites` ask. -/
theorem witness_RegisterWrites :
    hosted.fnExists 0 0 = true
    ∧ (0x30034 % 4 = 0 ∧ hosted.wordFate { ep := 0, fn := 0 } 0x30034 = some (.timeStatus, false, .takes)) ∧ hosted.faults.stopped = false
    ∧ (let s : State := { hosted with host := { hosted.host with mgmt := some 2 } }
       s.wordFate { ep := 0, fn := 0 } 0x30034 = some (.timeStatus, false, .dropped))
    ∧ hosted.wordFate { ep := 0, fn := 0 } 0 = none
    ∧ ((zeros 4).length = 4 ∧ 2 % 4 ≠ 0) ∧ ((zeros 12).length ≠ 4 ∧ ((zeros 12).length % 8 ≠ 0 ∨ 0 % 8 ≠ 0))
    ∧ ((zeros 8).length ≠ 4 ∧ ((zeros 8).length % 8 ≠ 0 ∨ 4 % 8 ≠ 0)) := by decide
/-- What the hypotheses of `Obligations.RegisterWrites` ask (OneOwnerOfModuleRegisters). -/
theorem witness_OneOwnerOfModuleRegisters : hosted.boot.alive ≠ .recovery ∧ Reg.hbmEnable ∈ [Reg.timeStatus, .hbmEnable] := by decide
/-- What the hypotheses of `Obligations.RegisterSideEffects` ask (ReadsWithAnEffect). -/
theorem witness_ReadsWithAnEffect : hosted.fnExists 0 0 = true ∧ hosted.boot.alive ≠ .recovery ∧ hosted.faults.stopped = false := by decide
/-- What the hypotheses of `Obligations.RegisterWrites` ask (EnablesAndSettings). -/
theorem witness_EnablesAndSettings :
    let f : FnId := { ep := 0, fn := 0 }
    let s : State := { hosted with boot := { hosted.boot with mcr := { hosted.boot.mcr with vfCount := [64, 0, 0, 0] } } }
    (f.fn = 0 ∧ (s.ep f.ep.val).vfs = 0 ∧ 64 ≤ s.boot.mcr.vfCount.getD f.ep.val 0)
    ∧ (1 ≠ 0 ∧ s.boot.mcr.vfCount.getD f.ep.val 0 < 65 ∧ ((s.modEp 0 fun x => { x with vfs := 1 }).ep 0).vfs ≠ 0) := by decide
/-- What the hypotheses of `Obligations.RegisterSideEffects` ask (Invalidations). -/
theorem witness_Invalidations :
    hosted.hostReaches 0 = true ∧ hosted.faults.stopped = false ∧ hosted.boot.alive ≠ .recovery ∧ (hosted.invalSet 0 0).done = true
    ∧ (hosted.modMem fun m => { m with asids := [(4095, { ep := 0, root := none })] }).invalOwns (.pf 0) 4095 = true ∧ hosted.invalOwns (.pf 0) 0 = false
    ∧ (let s := hosted.setInval 0 0 { InvalSet.reset with done := false }
       (s.invalSet 0 0).done = false ∧ s.works = true ∧ s.translatedWaits (.pf 0) (s.invalSet 0 0) = false ∧ 0 < (s.agent 0).sets.length)
    ∧ (hosted.works = true ∧ (hosted.invalSet 18 0).va = 4096 * (0 : BitVec 36).toNat ∧ (hosted.agent 18).sets.length = 2 ∧ hosted.invalOwns (.balyn 16 0) 9 = true) := by decide
/-- What the hypotheses of `Obligations.RegisterSideEffects` ask (SourceClear). -/
theorem witness_SourceClear :
    (hosted.hostReaches 0 = true ∧ hosted.sourceOk 0x300 = true ∧ hosted.boot.alive ≠ .recovery ∧ hosted.host.mgmt = some 0)
    ∧ (let s : State := { hosted with host := { hosted.host with mgmt := none } }
       s.host.mgmt ≠ some 0 ∧ s.faults.stopped = false) ∧ hosted.persisting 0x300 = [] := by decide
/-- What the hypotheses of `Obligations.RegisterSideEffects` ask (Bar0Reads). -/
theorem witness_Bar0Reads :
    (hosted.boot.alive ≠ .recovery ∧ (hosted.modBoot fun b => { b with alive := .recovery }).boot.alive = .recovery)
    ∧ (({ ep := 0, fn := 0 } : FnId).fn = 0 ∧ ({ ep := 0, fn := 5 } : FnId).fn ≠ 0) ∧ (blockAt 0xB0000 = none ∧ 0xB0000 % 4 = 0)
    ∧ (¬ ((3 = 1 ∨ 3 = 2 ∨ 3 = 4 ∨ 3 = 8) ∧ 0 % 3 = 0) ∧ ¬ (8 < 3 ∧ 3 % 8 = 0 ∧ 0 % 8 = 0 ∧ 0 / 64 = (0 + 3 - 1) / 64))
    ∧ (¬ ((8 = 1 ∨ 8 = 2 ∨ 8 = 4 ∨ 8 = 8) ∧ 4 % 8 = 0) ∧ ¬ (8 < 8 ∧ 8 % 8 = 0 ∧ 4 % 8 = 0 ∧ 4 / 64 = (4 + 8 - 1) / 64))
    ∧ (¬ ((72 = 1 ∨ 72 = 2 ∨ 72 = 4 ∨ 72 = 8) ∧ 0 % 72 = 0) ∧ ¬ (8 < 72 ∧ 72 % 8 = 0 ∧ 0 % 8 = 0 ∧ 0 / 64 = (0 + 72 - 1) / 64)) := by decide
/-- What the hypotheses of `Obligations.RegisterSideEffects` ask (WriteOneToClear). The bit of a host endpoint that gave up training, and one that did not. -/
theorem witness_WriteOneToClear :
    (hosted.ep 0).noFlit = false ∧ ((hosted.modEp 0 fun x => { x with noFlit := true }).ep 0).noFlit = true := by decide
/-- Mailbox 0 with a request in its area: a header and nothing else. -/
def posted (code : Nat) : State :=
  hosted.setBox 0 { hosted.box 0 with req := Memory.write [] 0 (leBytes 2 code ++ zeros 2 ++ leBytes 4 7) }
/-- What the hypotheses of `Obligations.MailboxRequestsAndAnswers` ask (Doorbells). -/
theorem witness_Doorbells :
    (posted 0).hostReaches 0 = true
    ∧ (let r := parseReq (Memory.read ((posted 0).box 0).req 0 1024) 7
       ((posted 0).box 0).busy = false ∧ 7 = r.seq ∧ r.cmd ∈ bciCodes)
    ∧ (let r := parseReq (Memory.read ((posted 0).box 0).req 0 1024) 8
       8 ≠ r.seq)
    ∧ (let r := parseReq (Memory.read ((posted 0xFFFF).box 0).req 0 1024) 7
       ((posted 0xFFFF).box 0).busy = false ∧ 7 = r.seq ∧ r.cmd ∉ bciCodes)
    ∧ ((hosted.setBox 0 { hosted.box 0 with busy := true }).box 0).busy = true := by decide
/-- What the hypotheses of `Obligations.MailboxRequestsAndAnswers` ask (DoorbellsComplete). -/
theorem witness_DoorbellsComplete :
    State.reset.hostReaches 0 = false ∧ (posted 0).hostReaches 0 = true ∧ ((posted 0).box 0).busy = false := by decide
/-- What the hypotheses of `Obligations.MailboxRequestsAndAnswers` ask (Answers). -/
theorem witness_Answers : 4 = 4 ∧ (0 ≠ 4 ∧ (hosted.box 0).intEn.getLsbD 0 = false) := by decide
/-- What the hypotheses of `Obligations.MailboxEvents` ask (EventAreas). -/
theorem witness_EventAreas :
    (let s := hosted.setBox 0 { hosted.box 0 with evtHead := 1, evtTail := 255 }
     s.hostReaches 0 = true ∧ ((1 : Byte) - (s.box 0).evtTail).toNat ≤ ((s.box 0).evtHead - (s.box 0).evtTail).toNat
       ∧ ((s.box 0).evtHead - (s.box 0).evtTail).toNat < ((2 : Byte) - (s.box 0).evtTail).toNat)
    ∧ (let s := hosted.setBox 4 { hosted.box 4 with held := [(1, zeros 64)], evtHead := 15, evtTail := 0 }
       (s.box 4).held = (1, zeros 64) :: [] ∧ (s.box 4).full = false) := by decide
/-- What the hypotheses of `Obligations.MailboxEvents` ask (CompletionRecords). -/
theorem witness_CompletionRecords :
    let l : LongCmd := { token := 1, cmd := 0x0800, seq := 0, work := .regRegister 0, discard := false }
    let b : Mailbox := { Mailbox.reset with long := [l] }
    l.discard = false ∧ (b.full = false ∧ b.held = []) ∧ ({ b with evtHead := 16 } : Mailbox).full = true ∧ ({ b with held := [(0, [])] } : Mailbox).held ≠ [] := by
  decide
/-- What the hypotheses of `Obligations.BmcPath` ask (MctpControl). -/
theorem witness_MctpControl :
    hosted.pwr.st ≠ .off ∧ hosted.bmc.dynAddr.isSome = true ∧ (1 ≤ 1 ∧ 8 ≤ (8 : Byte).toNat ∧ (8 : Byte).toNat ≠ 255) ∧ (254 : Byte).toNat ≠ 255
    ∧ ((0 : Byte).toNat = 0 ∨ 6 < (0 : Byte).toNat) ∧ ((7 : Byte).toNat = 0 ∨ 6 < (7 : Byte).toNat) := by decide
/-- What the hypotheses of `Obligations.BmcPath` ask (BmcRequests). -/
theorem witness_BmcRequests :
    hosted.pwr.st ≠ .off ∧ hosted.bmc.dynAddr.isSome = true ∧ 16 ≤ (zeros 16).length ∧ (zeros 1024).length ≤ 1024
    ∧ ((hosted.box 4).busy = false ∧ (parseReq (zeros 16) 0).cmd ∈ bciCodes)
    ∧ ((hosted.setBox 4 { hosted.box 4 with busy := true }).box 4).busy = true := by decide
/-! ### BCI commands -/

/-- A command's request in a mailbox passes the checks every command shares. -/
def ServedIn (s : State) (m : Fin 5) (c : BciCmd) (len : List Byte → Nat) (fs : List Byte → List Fld) (p : List Byte) : Prop :=
  Served (asked s m c.code p) m c len fs (theReq c.code p)
/-- A long command outstanding in mailbox 0 under token 1. -/
def longs (s : State) (w : LongWork) : State :=
  s.setBox 0 { s.box 0 with long := [{ token := 1, cmd := 0, seq := 0, work := w, discard := false }], token := 2 }
def theLong (w : LongWork) : LongCmd := { token := 1, cmd := 0, seq := 0, work := w, discard := false }

/-- What the hypotheses of `Obligations.BciChecksInOrder` ask. -/
theorem witness_BciChecksInOrder :
    let s := asked hosted 1 cSetGroupRoute.code (zeros 135)
    let r := theReq cSetGroupRoute.code (zeros 135)
    s.request? 1 cSetGroupRoute.code = some (r, false)
    ∧ (r.len ≠ (len 136) r.payload ∧ r.len = (len 135) r.payload)
    ∧ (asked State.reset 0 0 []).unavailable 0 cNop = some (rNotAvailable, 0)
    ∧ (s.unavailable 1 cJobCreate = none ∧ s.mayIssue 1 cJobCreate.who = false)
    ∧ (let b : Mailbox := { Mailbox.reset with long := List.replicate 8 (theLong .pwrSetState) }
       cAttest.long = true ∧ 8 ≤ b.longOut ∧ ({ b with long := b.long.drop 1 } : Mailbox).longOut < 8)
    ∧ (hosted.mayIssue 0 cJobCreate.who = true ∧ badParam (fieldsGetMeasurements [2, 0, 0, 0, 0, 0, 0, 0]) [2, 0, 0, 0, 0, 0, 0, 0] = some 0) := by
  decide
/-- What the hypotheses of `Obligations.BciChecksInOrder` ask (BciChecksInOrder, served). -/
theorem witness_BciChecksInOrder_served :
    ServedIn hosted 0 cNop (len 0) noFields [] ∧ ServedIn hosted 0 cGetMeasurements (len 8) fieldsGetMeasurements ([1] ++ zeros 7) := by
  simp only [ServedIn, Served]; repeat' apply And.intro
  all_goals decide +kernel
/-- What the hypotheses of `Obligations.LongCommandsAtMostEight` ask. -/
theorem witness_LongCommandsAtMostEight :
    let b : Mailbox := { Mailbox.reset with long := List.replicate 8 (theLong .pwrSetState) }
    let s := asked (hosted.setBox 0 b) 0 cAttest.code (zeros 68)
    let r := theReq cAttest.code (zeros 68)
    cAttest.long = true ∧ s.request? 0 cAttest.code = some (r, false) ∧ r.len = (len 68) r.payload ∧ s.unavailable 0 cAttest = none
    ∧ s.mayIssue 0 cAttest.who = true ∧ 8 ≤ (s.box 0).longOut
    ∧ ((asked hosted 0 cAttest.code (zeros 68)).box 0).longOut < 8 ∧ badParam (fieldsAttest (zeros 68)) (zeros 68) = none := by decide
/-- What the hypotheses of `Obligations.BciChecksInOrder` ask (PayloadFields). -/
theorem witness_PayloadFields :
    badParam [fAny 0 1] [1] = none ∧ badParam [fAny 0 1] [1, 1] = some 1 ∧ badParam [fIf [9] 0 1 (· ≤ 8)] [9] = some 0 := by decide
/-- What the hypotheses of `Obligations.BciChecksInOrder` ask (BciAvailability). -/
theorem witness_BciAvailability :
    (asleep.dieRuns = false ∨ asleep.boot.alive = .booting)
    ∧ (running.dieRuns = true ∧ (running.modBoot fun b => { b with alive := .recovery }).boot.alive = .recovery)
    ∧ (running.modBoot fun b => { b with alive := .stopped }).boot.alive = .stopped ∧ running.boot.alive = .running
    ∧ State.reset.boot.alive = .booting := by decide
/-- What the hypotheses of `Obligations.BciChecksInOrder` ask (RequestsInOrder). Mailbox 0's request was taken before mailbox 1's; and one that waits alone. -/
theorem witness_RequestsInOrder :
    let r : BciReq := { cmd := 0, seq := 1, len := 0, payload := [], dbSeq := 1, order := 1 }
    let w : BciReq := { cmd := 0, seq := 1, len := 0, payload := [], dbSeq := 1 }
    let s := (hosted.setBox 0 { Mailbox.reset with taken := some w }).setBox 1 { Mailbox.reset with taken := some r }
    (w ∈ s.waitingReqs ∧ (s.box 1).taken = some r ∧ (s.box 1).gone = [] ∧ w.order < r.order ∧ w.standby = r.standby)
    ∧ (let s := hosted.setBox 1 { Mailbox.reset with taken := some r }
       s.waitingReqs = [r] ∧ (s.box 1).taken = some r ∧ (s.box 1).gone = [])
    ∧ (let s := running.setBox 4 { Mailbox.reset with taken := some { w with standby := true } }
       s.standbyTook 4 = true ∧ hosted.standbyTook 0 = false) := by decide
/-- What the hypotheses of `Obligations.BciMailboxAndModule` ask (BciMailboxAndIdentity). -/
theorem witness_BciMailboxAndIdentity :
    ServedIn hosted 0 cNop (len 0) noFields [] ∧ ServedIn hosted 0 cLongStatus (len 4) fieldsLongStatus (zeros 4)
    ∧ ServedIn hosted 4 cEvtRead (len 0) noFields [] ∧ ServedIn hosted 0 cGetVersion (len 0) noFields []
    ∧ ServedIn hosted 0 cGetIdentity (len 0) noFields [] := by
  simp only [ServedIn, Served]; repeat' apply And.intro
  all_goals decide +kernel
/-- What the hypotheses of `Obligations.BciMailboxAndModule` ask (BciModuleConfiguration). -/
theorem witness_BciModuleConfiguration :
    ServedIn hosted 0 cMcrRead (len 0) noFields []
    ∧ (ServedIn hosted 0 cMcrWrite (len 432) fMcrWrite (zeros 432) ∧ (asked hosted 0 cMcrWrite.code (zeros 432)).flashHeld = false)
    ∧ ((longs hosted (.mcrWrite (zeros 432))).long? 0 1 = some (theLong (.mcrWrite (zeros 432))))
    ∧ (ServedIn hosted 0 cSetMgmtPf (len 1) fieldsSetMgmtPf [0] ∧ hosted.formed 0 = true ∧ (hosted.ep 0).dlUp = true)
    ∧ ServedIn hosted 0 cSetTagPool (len 2) fieldsSetTagPool [2, 16] ∧ hosted.formed 2 = true
    ∧ (ServedIn hosted 0 cGetModuleState (len 0) noFields [] ∧ hosted.dieRuns = true)
    ∧ (ServedIn asleep 4 cGetModuleState (len 0) noFields [] ∧ asleep.dieRuns = false) := by
  simp only [ServedIn, Served]; repeat' apply And.intro
  all_goals decide +kernel
/-- What the hypotheses of `Obligations.BciMailboxAndModule` ask (McrCopyWritten). -/
theorem witness_McrCopyWritten :
    let c (n : Nat) : McrCopy := { McrCopy.shipped with sequence := n }
    let b (x y : Option McrCopy) : Boot := { Boot.reset with mcrCopies := [x, y] }
    ((b (some (c 1)) (some (c 2))).copySeq 0 = some 1 ∧ (b (some (c 1)) (some (c 2))).copySeq 1 = some 2)
    ∧ ((b none (some (c 2))).copySeq 0 = none ∧ (b none (some (c 2))).copySeq 1 = some 2)
    ∧ ((b (some (c 1)) none).copySeq 0 = some 1 ∧ (b (some (c 1)) none).copySeq 1 = none)
    ∧ ((b none none).copySeq 0 = none ∧ (b none none).copySeq 1 = none) := by decide
/-- A PORT_SET for port 63. -/
def portSet63 (en : Byte) (res : Nat) : List Byte := zeros 7 ++ [0x80, en, 0, 0xFF, 0xFF] ++ zeros 12 ++ leBytes 2 res ++ zeros 22
/-- What the hypotheses of `Obligations.BciPorts` ask. -/
theorem witness_BciPorts :
    (ServedIn hosted 0 cPortQuery (len 1) fieldsPortQuery [63] ∧ (asked hosted 0 cPortQuery.code [63]).portHeld 63 = false)
    ∧ (let s := asked hosted 0 cPortSet.code (portSet63 1 200)
       Served s 0 cPortSet (len 48) s.fPortSet (theReq cPortSet.code (portSet63 1 200)) ∧ (∀ i ∈ maskPorts (portSet63 1 200), s.portHeld i = false)
       ∧ (∀ i ∈ maskPorts (portSet63 1 200), ((s.link i).isolated && (s.capture (0x0200 + i)).valid) = false)
       ∧ (∀ i ∈ maskPorts (portSet63 1 200), (s.link i).cfg.changesRes (portSet63 1 200) = true → (s.link i).st = .disabled)
       ∧ maskPorts (portSet63 1 200) = [63])
    ∧ (let s := asked (hosted.modLink 0 fun l => { l with st := .active }) 0 cPortRetrain.code [0]
       Served s 0 cPortRetrain (len 1) fieldsPortRetrain (theReq cPortRetrain.code [0]) ∧ s.portHeld 0 = false ∧ (s.link 0).st.up = true)
    ∧ (let s := longs hosted (.portRetrain 63)
       s.long? 0 1 = some (theLong (.portRetrain 63)) ∧ (s.link 63).st.atRest = true) := by
  simp only [ServedIn, Served]; repeat' apply And.intro
  all_goals decide +kernel
/-- What the hypotheses of `Obligations.BciPorts` ask (PortSetRefusals). -/
theorem witness_PortSetRefusals :
    (let s := asked ((hosted.modLink 63 fun l => { l with isolated := true }).setCapture 0x23F { Capture.reset with valid := true }) 0 cPortSet.code
        (portSet63 1 0)
     Served s 0 cPortSet (len 48) s.fPortSet (theReq cPortSet.code (portSet63 1 0)) ∧ (∀ i ∈ maskPorts (portSet63 1 0), s.portHeld i = false)
     ∧ 63 ∈ maskPorts (portSet63 1 0) ∧ field (portSet63 1 0) 8 1 = 1 ∧ (s.link 63).isolated = true ∧ (s.capture (0x0200 + 63)).valid = true)
    ∧ (let s := asked (hosted.modLink 63 fun l => { l with st := .active }) 0 cPortSet.code (portSet63 0xFF 200)
       Served s 0 cPortSet (len 48) s.fPortSet (theReq cPortSet.code (portSet63 0xFF 200)) ∧ field (portSet63 0xFF 200) 8 1 ≠ 1
       ∧ (s.link 63).cfg.changesRes (portSet63 0xFF 200) = true ∧ (s.link 63).st ≠ .disabled) := by
  simp only [Served]; repeat' apply And.intro
  all_goals decide +kernel
/-- What the hypotheses of `Obligations.BciRoutes` ask. -/
theorem witness_BciRoutes :
    (ServedIn hosted 0 cSetIdentity (len 6) fieldsSetIdentity [0, 0, 1, 0, 63, 1] ∧ hosted.route.idSet = false)
    ∧ (let p := [63] ++ zeros 7 ++ leBytes 8 0
       let s := asked hosted 0 cSetPortRole.code p
       Served s 0 cSetPortRole (len 16) (fieldsSetPortRole s) (theReq cSetPortRole.code p) ∧ s.portHeld 63 = false
       ∧ ((s.rport 63).role.en = true → (s.rport 63).role.same (Role.ofWord (field p 8 8)) = true))
    ∧ ServedIn hosted 0 cSetExit (fun p => 8 + 8 * field p 2 2) fieldsSetExit (leBytes 2 4095 ++ leBytes 2 1 ++ zeros 4 ++ leBytes 8 (2 ^ 63))
    ∧ ServedIn hosted 0 cSetGroupRoute (len 136) fieldsSetGroupRoute (leBytes 2 4095 ++ zeros 134)
    ∧ ServedIn hosted 0 cSetPset (len 2) fieldsSetPset [15, 255] ∧ ServedIn hosted 0 cSetRouteCtrl (len 2) fieldsSetRouteCtrl [3, 63]
    ∧ (ServedIn hosted 0 cSetCongThresh (len 10) fieldsSetCongThresh (zeros 7 ++ [0x80] ++ leBytes 2 6144)
       ∧ ∀ i ∈ maskPorts (zeros 7 ++ [0x80] ++ leBytes 2 6144), (asked hosted 0 0 []).portHeld i = false)
    ∧ (ServedIn hosted 0 cRouteQuery (len 4) fieldsRouteQuery [0, 0, 63, 0]
       ∧ (asked hosted 0 cRouteQuery.code [0, 0, 63, 0]).portHeld 63 = false) := by
  simp only [ServedIn, Served]; repeat' apply And.intro
  all_goals decide +kernel
/-- What the hypotheses of `Obligations.EncodingsReadBack` ask (RouteEntriesRoundTrip). -/
theorem witness_RouteEntriesRoundTrip :
    (3 < 4 ∧ 7 < 8 ∧ 4095 < 4096) ∧ GroupRoute.reset.cands.length = 8
    ∧ (∀ c ∈ GroupRoute.reset.cands, c.cls < 4 ∧ c.via < 4096 ∧ c.exitPos < 64 ∧ c.weight < 256) ∧ GroupRoute.reset.pair < 256 := by decide
/-- CTX_CREATE of context `n`. -/
def ctxCreateP (n : Nat) : List Byte := leBytes 2 n ++ [0xFF, 0, 0xFF, 0] ++ zeros 16
/-- What the hypotheses of `Obligations.BciContexts` ask. -/
theorem witness_BciContexts :
    (let s := asked hosted 0 cCtxCreate.code (ctxCreateP 4095)
     Served s 0 cCtxCreate (len 22) (fieldsCtxCreate 0 s) (theReq cCtxCreate.code (ctxCreateP 4095)) ∧ s.newCtx 4095 = (some 4095, s)
     ∧ s.ctx? 4095 = none ∧ s.ctxHeld 4095 = false ∧ s.formed 0 = true ∧ s.mayAct 0 0 = true ∧ (s.ep 0).dlUp = true ∧ 0 ≤ (s.ep 0).vfs)
    ∧ 4095 ≠ 0xFFFF
    ∧ (let s := asked jobbed 0 cCtxDestroy.code [5, 0]
       Served s 0 cCtxDestroy (len 2) fieldsCtxDestroy (theReq cCtxDestroy.code [5, 0]) ∧ s.Owns 0 5 ∧ s.domainHeld 5 = false)
    ∧ (let s := longs hosted (.ctxDestroy 6)
       s.long? 0 1 = some (theLong (.ctxDestroy 6)) ∧ s.ctxQuiet 6 = true)
    ∧ (let s := longs linked (.ctxDestroy 5)
       s.long? 0 1 = some (theLong (.ctxDestroy 5)) ∧ ∃ q ∈ s.qps, q.2.owner = 5)
    ∧ (let s := asked jobbed 0 cCtxQuery.code [5, 0]
       Served s 0 cCtxQuery (len 2) fieldsCtxQuery (theReq cCtxQuery.code [5, 0]) ∧ s.Owns 0 5 ∧ s.ctx? 5 = some aCtx)
    ∧ (let p := [5, 0, 3] ++ zeros 19
       let s := asked jobbed 0 cCtxSet.code p
       Served s 0 cCtxSet (len 22) (fieldsCtxSet s) (theReq cCtxSet.code p) ∧ s.Owns 0 5 ∧ s.ctx? 5 = some aCtx
       ∧ ∀ q ∈ s.qps, q.2.owner = 5 → q.2.spilled = false) := by
  simp only [Served, State.Owns]; repeat' apply And.intro
  all_goals first | decide +kernel | rfl
/-- A choice is made from what is in order, by the free value or, where that is not, the first; and none when nothing is. -/
theorem choose_some (s : State) (w k : Nat) (ok : Nat → Bool) : ∃ a, s.choose w ok (some k) = (some a, { s with free := s.free + 1 }) := by
  refine ⟨if ok (s.fresh w).1 then (s.fresh w).1 else k, ?_⟩
  show ((if ok (s.fresh w).1 then some (s.fresh w).1 else some k), _) = _
  split <;> rfl
theorem choose_none (s : State) (w : Nat) (ok : Nat → Bool) (h : ∀ k, ok k = false) : s.choose w ok none = (none, { s with free := s.free + 1 }) := by
  show ((if ok (s.fresh w).1 then some (s.fresh w).1 else none), _) = _
  rw [h]; rfl
/-- What the hypotheses of `Obligations.BciContexts` ask (BciContexts, chosen). -/
theorem witness_BciContexts_chosen : (∃ c, hosted.newCtx 0xFFFF = (some c, { hosted with free := hosted.free + 1 }))
    ∧ (∀ s : State, (∀ k, k < 4096 → (s.ctx? k).isSome = true) → s.newCtx 0xFFFF = (none, { s with free := s.free + 1 }))
    ∧ ∀ k, k < 64 → (({ hosted with ctxs := (List.range 64).map fun k => (k, aCtx) } : State).ctx? k).isSome = true := by
  refine ⟨?_, fun s h => ?_, by decide +kernel⟩
  · have : (List.range 4096).find? (fun k => decide (k < 4096) && (hosted.ctx? k).isNone) = some 0 := by decide
    have e : hosted.newCtx 0xFFFF = hosted.choose 12 (fun k => decide (k < 4096) && (hosted.ctx? k).isNone) (some 0) := by
      unfold State.newCtx; rw [if_pos rfl, this]
    rw [e]; exact choose_some _ _ _ _
  · have hk : ∀ k, (decide (k < 4096) && (s.ctx? k).isNone) = false := fun k => by
      by_cases hk : k < 4096
      · have := h k hk; cases hh : s.ctx? k <;> simp_all
      · simp [hk]
    have : (List.range 4096).find? (fun k => decide (k < 4096) && (s.ctx? k).isNone) = none := by
      rw [List.find?_eq_none]; intro k _; simp [hk k]
    unfold State.newCtx; rw [if_pos rfl, this]; exact choose_none _ _ _ hk

end Sys2Proof.Tests
end

