-- ==== Sys2Proof/Tests/WitnessCommands.lean ====
section
/-! SUPPORT. Small states that meet the hypotheses of the statements: BCI commands, rings and packets. -/
namespace Sys2Proof.Tests
open Sys2Proof.Machine
set_option maxRecDepth 100000
set_option Elab.async false

theorem choose_of (s : State) (w : Nat) (ok : Nat → Bool) (f : Option Nat) (h : f.isSome = true) :
    ∃ a, s.choose w ok f = (some a, { s with free := s.free + 1 }) := by
  cases f with
  | none => simp at h
  | some k => exact choose_some s w k ok

theorem find_first (n : Nat) (ok : Nat → Bool) (h : ok 0 = true) : ((List.range (n + 1)).find? ok) = some 0 := by
  rw [List.range_succ_eq_map]; simp [h]

/-- Two ledgers of context 5. -/
def ledgered : State :=
  let g : Ledger := { count := 0, poison := false, owner := 5, remote := false, share := false }
  { jobbed with ledgers := [(1048574, g), (1048575, g)] }
def aDomain : Domain :=
  { job := 1, nbinsLog2 := 10, maxPosted := 65536, maxUnexp := 65536, poolGranules := 4096, base := poolBase, backoff := 20, key := 0, nextPseq := 0,
    nextAseq := 0, posted := [], msgs := [], nextMsg := 0, used := [], busy := [] }
def ledgerP : List Byte := [5, 0, 2, 0] ++ leBytes 4 1048574
def domainP : List Byte := [5, 0, 1, 0] ++ zeros 16
/-- What the hypotheses of `Obligations.BciLedgersAndDomains` ask. -/
theorem witness_BciLedgersAndDomains :
    (let p : List Byte := [5, 0, 0, 4, 0xFF]
     let s := asked ledgered 0 cLedgerAlloc.code p
     Served s 0 cLedgerAlloc (len 5) fieldsLedgerAlloc (theReq cLedgerAlloc.code p) ∧ s.Owns 0 5)
    ∧ (let s := asked ledgered 0 cLedgerFree.code ledgerP
       Served s 0 cLedgerFree (len 8) fLedgers (theReq cLedgerFree.code ledgerP) ∧ s.Owns 0 5 ∧ (s.ctx? 5).isSome = true
       ∧ ∀ i, i < 2 → (Tbl.get? s.ledgers (1048574 + i)).map (·.owner) = some 5)
    ∧ (let p := ledgerP ++ [1, 1]
       let s := asked ledgered 0 cLedgerAttr.code p
       Served s 0 cLedgerAttr (len 10) fieldsLedgerAttr (theReq cLedgerAttr.code p) ∧ s.Owns 0 5)
    ∧ (let s := asked jobbed 0 cDomainCreate.code domainP
       Served s 0 cDomainCreate (len 20) fieldsDomainCreate (theReq cDomainCreate.code domainP) ∧ s.Owns 0 5
       ∧ (Tbl.get? s.route.jobs 1).isSome = true ∧ s.domain? 5 = none ∧ ((s.ctx? 5).map (·.hostLost)) = some false)
    ∧ (let s := asked (jobbed.setDomain 5 aDomain) 0 cDomainDestroy.code [5, 0]
       Served s 0 cDomainDestroy (len 2) fieldsDomainDestroy (theReq cDomainDestroy.code [5, 0]) ∧ s.Owns 0 5 ∧ (s.domain? 5).isSome = true
       ∧ s.domainHeld 5 = false)
    ∧ (longs jobbed (.domainDestroy 5)).long? 0 1 = some (theLong (.domainDestroy 5)) := by
  simp only [Served, State.Owns]; repeat' apply And.intro
  all_goals decide +kernel
/-- What the hypotheses of `Obligations.BciLedgersAndDomains` ask (BciLedgersAndDomains, chosen). -/
theorem witness_BciLedgersAndDomains_chosen :
    (∃ a v, (asked ledgered 0 cLedgerAlloc.code [5, 0, 0, 4, 0xFF]).newLedgers 0xFF 1024 = (some a, v))
    ∧ ∃ a v, (asked jobbed 0 cDomainCreate.code domainP).findRun ((2 ^ 26 + 16 * 2 ^ 10 + 0x1FFFFF) / 0x200000) poolChunks = (some a, v) := by
  constructor
  · obtain ⟨a, h⟩ := choose_of (asked ledgered 0 cLedgerAlloc.code [5, 0, 0, 4, 0xFF]) 20 (ledgered.ledgersFree 0xFF 1024)
      ((0 :: ledgered.ledgers.map (·.1 + 1)).find? (ledgered.ledgersFree 0xFF 1024)) (by decide +kernel)
    exact ⟨a, _, h⟩
  · obtain ⟨a, h⟩ := choose_of (asked jobbed 0 cDomainCreate.code domainP) 16 (fun v => jobbed.runFree v 33 poolChunks)
      (((0 :: jobbed.chunkRuns.map fun r => r.1 + r.2).filter fun v => jobbed.runFree v 33 poolChunks).min?) (by decide +kernel)
    exact ⟨a, _, h⟩
/-- The word of a job. -/
def jobP (j base count : Nat) : List Byte := leBytes 8 j ++ leBytes 8 (base + count * 2 ^ 22 + 2 ^ 63)
/-- What the hypotheses of `Obligations.BciJobsAndNodes` ask (BciJobs). -/
theorem witness_BciJobs :
    (let p := jobP 2 4194303 1
     let s := asked jobbed 0 cJobCreate.code p
     Served s 0 cJobCreate (len 16) (fieldsJobCreate s) (theReq cJobCreate.code p) ∧ s.job? 2 = none
     ∧ (bit (field p 8 8) 47 = true → s.mem.exposed = false))
    ∧ (let s : State := asked { hosted with route := { hosted.route with jobs := [(1, aJob)] } } 0 cJobDestroy.code [1, 0]
       Served s 0 cJobDestroy (len 2) fieldsJobDestroy (theReq cJobDestroy.code [1, 0]) ∧ s.job? 1 = some aJob ∧ (∀ q ∈ s.qps, q.2.job ≠ 1)
       ∧ (∀ g ∈ s.mem.regions, g.2.valid = true ∨ g.2.registering = true → g.2.job ≠ 1) ∧ (∀ x ∈ s.nodes, x.2.job ≠ 1)
       ∧ (∀ x ∈ s.domains, x.2.job ≠ 1) ∧ (∀ h ∈ s.sec.handles, h.2.st ≠ .free → h.2.job ≠ 1))
    ∧ (let p := leBytes 2 1 ++ leBytes 2 1 ++ leBytes 4 1 ++ leBytes 8 (2 ^ 63)
       let s := asked jobbed 0 cRankWrite.code p
       Served s 0 cRankWrite (fun p => 8 + 8 * field p 2 2) (fieldsRankWrite s) (theReq cRankWrite.code p) ∧ s.job? 1 = some aJob)
    ∧ (let p := leBytes 2 1 ++ leBytes 2 2 ++ zeros 4
       let s := asked jobbed 0 cJobQuery.code p
       Served s 0 cJobQuery (len 8) (fieldsJobQuery s) (theReq cJobQuery.code p) ∧ s.job? 1 = some aJob) := by
  simp only [Served]; repeat' apply And.intro
  all_goals decide +kernel
/-- What the hypotheses of `Obligations.JobsKeepApart` ask. -/
theorem witness_JobsKeepApart :
    (let p := jobP 2 4194303 2
     let s := asked jobbed 0 0x0600 p
     s.request? 0 0x0600 = some (theReq 0x0600 p, false) ∧ (theReq 0x0600 p).len = 16 ∧ s.unavailable 0 cJobCreate = none ∧ s.mayIssue 0 .mb = true
     ∧ 4194304 < bits (field p 8 8) 21 0 + bits (field p 8 8) 44 22)
    ∧ (let p := jobP 2 1 1
       let s := asked jobbed 0 0x0600 p
       s.request? 0 0x0600 = some (theReq 0x0600 p, false) ∧ (theReq 0x0600 p).len = 16 ∧ s.unavailable 0 cJobCreate = none
       ∧ (1, aJob) ∈ s.route.jobs ∧ 1 ≠ field p 0 2 ∧ bits (field p 8 8) 21 0 < aJob.base + aJob.count
       ∧ aJob.base < bits (field p 8 8) 21 0 + bits (field p 8 8) 44 22) := by decide
/-- COLL_NODE_CREATE of a root with one child, and its node. -/
def nodeP : List Byte :=
  [0, 0, 1, 0, 5, 0, 5, 0] ++ zeros 4 ++ leBytes 4 2 ++ [0, 1, 0, 1, 4, 2] ++ zeros 10 ++ leBytes 4 5 ++ zeros 60 ++ zeros 64 ++ zeros 12
def aNode : Node := { nodeOf nodeP with windowRkey := 256 * 4, lead := 0 }
def linkP : List Byte := zeros 32 ++ leBytes 4 5 ++ zeros 124
/-- What the hypotheses of `Obligations.BciJobsAndNodes` ask (BciCollectiveNodes). -/
theorem witness_BciCollectiveNodes :
    (let p := zeros 2 ++ [1, 0, 5, 0, 5, 0] ++ zeros 4 ++ leBytes 4 2 ++ [0, 1, 0, 1, 4, 2] ++ zeros 150
     let s := asked jobbed 0 cCollNodeCreate.code p
     Served s 0 cCollNodeCreate (len 172) fieldsCollNodeCreate (theReq cCollNodeCreate.code p) ∧ (nodeOf p).stripe = 0
     ∧ s.job? (nodeOf p).job = some aJob ∧ aJob.prot = (nodeOf p).prot ∧ s.ownerExists (nodeOf p).owner = true ∧ s.OwnsFor 0 (nodeOf p).owner
     ∧ (∀ q ∈ (nodeOf p).edges, q = 0) ∧ s.ctxTile (nodeOf p).owner = (nodeOf p).tile ∧ s.cuReserved (nodeOf p).tile + (nodeOf p).sram ≤ 4194304)
    ∧ (let s := asked (linked.setNode 0 aNode) 0 cCollNodeLink.code linkP
       Served s 0 cCollNodeLink (len 160) (fieldsCollNodeLink s) (theReq cCollNodeLink.code linkP) ∧ s.node? 0 = some aNode
       ∧ s.OwnsFor 0 aNode.owner ∧ aNode.st = .linking ∧ s.edgeOk aNode 5 = true)
    ∧ (let s := asked (linked.setNode 0 aNode) 0 cCollNodeDestroy.code [0, 0]
       Served s 0 cCollNodeDestroy (len 2) fieldsCollNodeDestroy (theReq cCollNodeDestroy.code [0, 0]) ∧ s.node? 0 = some aNode
       ∧ s.OwnsFor 0 aNode.owner) := by
  simp only [Served, State.OwnsFor]; repeat' apply And.intro
  all_goals decide +kernel
/-- What the hypotheses of `Obligations.BciJobsAndNodes` ask (BciCollectiveNodes, chosen). -/
theorem witness_BciCollectiveNodes_chosen : ∃ n i, ∃ v w : State,
    jobbed.choose 14 (fun n => (jobbed.node? n).isNone) ((List.range 16384).find? fun n => (jobbed.node? n).isNone) = (some n, v)
    ∧ v.newIndex = (some i, w) := by
  obtain ⟨n, h⟩ := choose_of jobbed 14 (fun n => (jobbed.node? n).isNone) ((List.range 16384).find? fun n => (jobbed.node? n).isNone)
    (by rw [find_first 16383 _ (by decide)]; rfl)
  obtain ⟨i, g⟩ := choose_of { jobbed with free := jobbed.free + 1 } 20 _ _ (show (Option.isSome ((List.range (jobbed.mem.regions.length + 1)).find?
    ({ jobbed with free := jobbed.free + 1 } : State).indexFree)) = true by decide +kernel)
  exact ⟨n, i, _, _, h, g⟩
def qpP : List Byte := [5, 0, 1, 0, 2, 0, 3, 8, 0x87, 1] ++ leBytes 2 16 ++ leBytes 2 200 ++ zeros 6
/-- What the hypotheses of `Obligations.BciQps` ask. -/
theorem witness_BciQps :
    (let s := asked jobbed 0 cQpCreate.code qpP
     Served s 0 cQpCreate (len 20) fieldsQpCreate (theReq cQpCreate.code qpP) ∧ s.ctx? 5 = some aCtx ∧ aCtx.hostLost = false
     ∧ s.job? 1 = some aJob ∧ aJob.prot = false ∧ s.OwnsFor 0 5 ∧ field qpP 4 1 % 8 ≠ 0 ∧ bit (field qpP 5 1) 3 = false)
    ∧ (let q := { aQp with st := .reset }
       let p := leBytes 4 5 ++ zeros 4 ++ leBytes 4 4194303 ++ zeros 4 ++ [14] ++ zeros 35
       let s := asked (jobbed.setQp 5 q) 0 cQpConnect.code p
       Served s 0 cQpConnect (len 52) fieldsQpConnect (theReq cQpConnect.code p) ∧ s.qp? 5 = some q ∧ s.OwnsFor 0 q.owner ∧ q.st = .reset
       ∧ q.hostLost = false ∧ q.prot = false)
    ∧ (let s := asked linked 0 cQpReset.code [5, 0, 0, 0]
       Served s 0 cQpReset (len 4) fieldsQpReset (theReq cQpReset.code [5, 0, 0, 0]) ∧ s.qp? 5 = some aQp ∧ s.OwnsFor 0 aQp.owner
       ∧ (aQp.st = .rts ∨ aQp.st = .err))
    ∧ (let s := asked linked 0 cQpDestroy.code [5, 0, 0, 0]
       Served s 0 cQpDestroy (len 4) fieldsQpDestroy (theReq cQpDestroy.code [5, 0, 0, 0]) ∧ s.qp? 5 = some aQp ∧ aQp.st = .rts)
    ∧ ((asked (jobbed.setQp 5 { aQp with st := .quarantine }) 0 cQpDestroy.code [5, 0, 0, 0]).qp? 5 = some { aQp with st := .quarantine })
    ∧ ((asked (jobbed.setQp 5 { aQp with st := .err }) 0 cQpDestroy.code [5, 0, 0, 0]).qp? 5 = some { aQp with st := .err })
    ∧ (let s := asked linked 0 cQpQuery.code [5, 0, 0, 0]
       Served s 0 cQpQuery (len 4) fieldsQpQuery (theReq cQpQuery.code [5, 0, 0, 0]) ∧ s.qp? 5 = some aQp ∧ s.OwnsFor 0 aQp.owner) := by
  simp only [Served, State.OwnsFor]; repeat' apply And.intro
  all_goals decide +kernel
/-- What the hypotheses of `Obligations.BciQps` ask (BciQps, chosen). -/
theorem witness_BciQps_chosen : ∃ a v, (asked jobbed 0 cQpCreate.code qpP).newQpn aCtx.tile = (some a, v)
    ∧ ∃ b w, v.maySpill.findWindow (3 * 2 ^ field qpP 7 1) = (some b, w) := by
  obtain ⟨a, h⟩ := choose_of (asked jobbed 0 cQpCreate.code qpP) 16
    (fun i => decide (i < 65536) && ((asked jobbed 0 cQpCreate.code qpP).qp? (64 * i + 5)).isNone) ((List.range 1).find? fun i =>
      decide (i < 65536) && ((asked jobbed 0 cQpCreate.code qpP).qp? (64 * i + 5)).isNone) (by decide +kernel)
  refine ⟨64 * a + 5, _, congrArg (fun r : Option Nat × State => (r.1.map fun i => 64 * i + 5, r.2)) h, ?_⟩
  obtain ⟨b, g⟩ := choose_of ({ asked jobbed 0 cQpCreate.code qpP with free := (asked jobbed 0 cQpCreate.code qpP).free + 1 } : State).maySpill 16
    (fun v => jobbed.runFree v 1 poolChunks)
    (((0 :: jobbed.chunkRuns.map fun r => r.1 + r.2).filter fun v => jobbed.runFree v 1 poolChunks).min?) (by decide +kernel)
  exact ⟨poolBase + chunkBytes * b, _, congrArg (fun r : Option Nat × State => (match r.1 with
    | none => (none, r.2)
    | some c => (some (poolBase + chunkBytes * c), r.2.hbmZero (poolBase + chunkBytes * c) chunkBytes) : Option Nat × State)) g⟩
def hbmP : List Byte := [0, 31, 0, 0, 1, 0, 5, 0] ++ zeros 8 ++ leBytes 8 4194304 ++ zeros 2
def hostP : List Byte := [1, 31, 0, 0, 1, 0, 5, 0] ++ leBytes 8 0x1000 ++ leBytes 8 1 ++ leBytes 2 7
def rooted : State := jobbed.modMem fun m => { m with asids := [(7, { ep := 0, root := some 16 })] }
def keyed : List Byte := leBytes 4 (256 * 3)
/-- What the hypotheses of `Obligations.BciRegionsAndAsids` ask (BciRegions). -/
theorem witness_BciRegions :
    (let s := asked rooted 0 cRegRegister.code hostP
     Served s 0 cRegRegister (len 26) s.fRegister (theReq cRegRegister.code hostP) ∧ s.job? 1 = some aJob ∧ s.ctx? 5 = some aCtx ∧ s.Owns 0 5
     ∧ aCtx.hostLost = false ∧ (bit (field hostP 2 1) 1 = true → aJob.prot = true) ∧ field hostP 0 1 = 1)
    ∧ (let s := asked rooted 0 cRegRegister.code hbmP
       Served s 0 cRegRegister (len 26) s.fRegister (theReq cRegRegister.code hbmP) ∧ field hbmP 0 1 = 0)
    ∧ (let s := longs (jobbed.setRegion 3 { aRegion with registering := true, valid := false }) (.regRegister 3)
       s.long? 0 1 = some (theLong (.regRegister 3)) ∧ s.region? 3 = some { aRegion with registering := true, valid := false })
    ∧ (let s := asked jobbed 0 cRegDeregister.code keyed
       Served s 0 cRegDeregister (len 4) fieldsRegDeregister (theReq cRegDeregister.code keyed) ∧ s.namedRegion 768 = some aRegion
       ∧ s.mayActOn 0 aRegion.owner = true ∧ s.regionHeld 3 = false)
    ∧ (let s := asked jobbed 0 cRegQuery.code keyed
       Served s 0 cRegQuery (len 4) fieldsRegQuery (theReq cRegQuery.code keyed)) := by
  simp only [Served, State.Owns]; repeat' apply And.intro
  all_goals decide +kernel
/-- What the hypotheses of `Obligations.BciRegionsAndAsids` ask (BciRegions, chosen). -/
theorem witness_BciRegions_chosen : ∃ i chunk, ∃ v w : State, (asked rooted 0 cRegRegister.code hbmP).newIndex = (some i, v)
    ∧ v.findRun (chunksOf 4194304) (v.runLimit false) = (some chunk, w) := by
  obtain ⟨i, h⟩ := choose_of (asked rooted 0 cRegRegister.code hbmP) 20 rooted.indexFree ((List.range 2).find? rooted.indexFree) (by decide +kernel)
  obtain ⟨k, g⟩ := choose_of { asked rooted 0 cRegRegister.code hbmP with free := rooted.free + 1 } 16 (fun v => rooted.runFree v 2 poolChunks)
      (((0 :: rooted.chunkRuns.map fun r => r.1 + r.2).filter fun v => rooted.runFree v 2 poolChunks).min?) (by decide +kernel)
  exact ⟨i, k, _, _, h, g⟩
/-- What the hypotheses of `Obligations.BciRegionsAndAsids` ask (BciAsids). -/
theorem witness_BciAsids :
    (let p := [0xFF] ++ zeros 7 ++ leBytes 8 0x1000
     let s := asked jobbed 0 cAsidAlloc.code p
     Served s 0 cAsidAlloc (len 16) fieldsAsidAlloc (theReq cAsidAlloc.code p) ∧ s.formed 0 = true ∧ s.mayAct 0 0 = true)
    ∧ (let p := [0, 0, 7, 0] ++ zeros 4 ++ leBytes 8 0x2000
       let s := asked rooted 0 cAsidSetRoot.code p
       Served s 0 cAsidSetRoot (len 16) fieldsAsidSetRoot (theReq cAsidSetRoot.code p)
       ∧ Tbl.get? s.mem.asids 7 = some { ep := 0, root := some 16 } ∧ s.mayAct 0 0 = true)
    ∧ (let s := asked rooted 0 cAsidFree.code [0, 0, 7, 0]
       Served s 0 cAsidFree (len 4) fAsid (theReq cAsidFree.code [0, 0, 7, 0]) ∧ Tbl.get? s.mem.asids 7 = some { ep := 0, root := some 16 }
       ∧ ∀ g ∈ s.mem.regions, g.2.valid = true ∨ g.2.registering = true → g.2.kind = .host → g.2.agent = 0 → g.2.asid ≠ 7)
    ∧ (ServedIn hosted 0 cHbmExposeKey (len 0) noFields [] ∧ ∀ j ∈ jobbed.route.jobs, j.2.prot = false)
    ∧ (let s : State := asked { hosted with route := { hosted.route with jobs := [(1, { aJob with prot := true })] } } 0 cHbmExposeKey.code []
       Served s 0 cHbmExposeKey (len 0) noFields (theReq cHbmExposeKey.code []) ∧ ∃ j ∈ s.route.jobs, j.2.prot = true) := by
  simp only [ServedIn, Served]; repeat' apply And.intro
  all_goals decide +kernel
/-- What the hypotheses of `Obligations.BciRegionsAndAsids` ask (BciAsids, chosen). -/
theorem witness_BciAsids_chosen : ∃ a v, jobbed.newAsid 0 = (some a, v) := by
  obtain ⟨a, h⟩ := choose_of jobbed 12 (fun a => decide (a < 4096) && (jobbed.asidEp 0 a).isNone)
    ((List.range 4096).find? fun a => decide (a < 4096) && (jobbed.asidEp 0 a).isNone) (by rw [find_first 4095 _ (by decide)]; rfl)
  exact ⟨a, _, h⟩
/-- What the hypotheses of `Obligations.AttestationAndMeasurements` ask (Measurements). -/
theorem witness_Measurements : running.sec.log.length < 1024 ∧ 1024 ≤ (List.replicate 1024 (0 : Nat)).length := by decide
/-- What the hypotheses of `Obligations.AttestationAndMeasurements` ask (BciAttestation). -/
theorem witness_BciAttestation :
    ServedIn hosted 0 cGetCertChain (len 4) fieldsGetCertChain (zeros 4) ∧ ServedIn hosted 0 cGetMeasurements (len 8) fieldsGetMeasurements (zeros 8)
    ∧ (let s := asked (hosted.modSec fun v => { v with reports := [(0, [1])] }) 0 cGetMeasurements.code ([1] ++ zeros 7)
       Served s 0 cGetMeasurements (len 8) fieldsGetMeasurements (theReq cGetMeasurements.code ([1] ++ zeros 7))
       ∧ Tbl.get? s.sec.reports 0 = some [1])
    ∧ (ServedIn hosted 0 cGetMeasurements (len 8) fieldsGetMeasurements ([1] ++ zeros 7) ∧ Tbl.get? hosted.sec.reports 0 = none)
    ∧ (ServedIn hosted 0 cAttest (len 68) fieldsAttest (zeros 64 ++ leBytes 4 0xFFFFFFFF) ∧ field (zeros 64 ++ leBytes 4 0xFFFFFFFF) 64 4 = 0xFFFFFFFF)
    ∧ (longs hosted (.attest (zeros 64 ++ leBytes 4 0xFFFFFFFF))).long? 0 1 = some (theLong (.attest (zeros 64 ++ leBytes 4 0xFFFFFFFF))) := by
  simp only [ServedIn, Served]; repeat' apply And.intro
  all_goals decide +kernel
def protectedJob : State := { hosted with route := { hosted.route with jobs := [(1, { aJob with prot := true })] } }
def aHandle : KeyHandle := { KeyHandle.reset with st := .open_, job := 1, reuse := 1, blob := zeros 1616 }
def handled : State := protectedJob.setHandle 1023 aHandle
def handleP : List Byte := leBytes 4 (1023 + 65536)
/-- What the hypotheses of `Obligations.BciJobKeys` ask. -/
theorem witness_BciJobKeys :
    (let s := asked protectedJob 0 cKeyKemOpen.code [1, 0]
     Served s 0 cKeyKemOpen (len 2) fieldsKeyKemOpen (theReq cKeyKemOpen.code [1, 0]) ∧ s.job? 1 = some { aJob with prot := true })
    ∧ (let s := asked handled 0 cKeyKemPublic.code (handleP ++ zeros 4)
       Served s 0 cKeyKemPublic (len 8) fieldsKeyKemPublic (theReq cKeyKemPublic.code (handleP ++ zeros 4)) ∧ s.handle? (1023 + 65536) = some aHandle
       ∧ aHandle.held = false ∧ aHandle.st = .open_)
    ∧ (let p := handleP ++ leBytes 2 1615 ++ leBytes 2 1 ++ zeros 8 ++ [7]
       let s := asked handled 0 cKeyCtWrite.code p
       Served s 0 cKeyCtWrite (fun p => 16 + field p 6 2) fieldsKeyCtWrite (theReq cKeyCtWrite.code p) ∧ aHandle.blob.length = 1616)
    ∧ (let s := asked handled 0 cKeyInstall.code handleP
       Served s 0 cKeyInstall (len 4) fieldsKeyInstall (theReq cKeyInstall.code handleP) ∧ s.jobKeyed 1 = false)
    ∧ (let s := longs handled (.keyInstall 1023)
       s.long? 0 1 = some (theLong (.keyInstall 1023)) ∧ aHandle = Tbl.getD s.sec.handles 1023 KeyHandle.reset ∧ s.jobKeyed 1 = false
       ∧ aHandle.fails < 15)
    ∧ (let h := { aHandle with fails := 15 }
       let s := longs (protectedJob.setHandle 1023 h) (.keyInstall 1023)
       s.long? 0 1 = some (theLong (.keyInstall 1023)) ∧ h = Tbl.getD s.sec.handles 1023 KeyHandle.reset ∧ s.jobKeyed 1 = false ∧ 15 ≤ h.fails)
    ∧ (let s := asked handled 0 cKeyWithdraw.code [1, 0]
       Served s 0 cKeyWithdraw (len 2) fieldsKeyWithdraw (theReq cKeyWithdraw.code [1, 0])
       ∧ ∀ x ∈ s.sec.handles, x.2.job = 1 → x.2.held = false)
    ∧ (let s := asked handled 0 cKeyQuery.code handleP
       Served s 0 cKeyQuery (len 4) fieldsKeyQuery (theReq cKeyQuery.code handleP) ∧ s.handle? (1023 + 65536) = some aHandle) := by
  simp only [Served]; repeat' apply And.intro
  all_goals decide +kernel
/-- What the hypotheses of `Obligations.BciJobKeys` ask (BciJobKeys, ends). An install ends one way or the other: both ends have their clause, and the free value of the unwrapping decides. -/
theorem witness_BciJobKeys_ends : (∃ k, aHandle.unwrap 1023 = some k) ∨ aHandle.unwrap 1023 = none := by
  cases aHandle.unwrap 1023 with
  | none => exact Or.inr rfl
  | some k => exact Or.inl ⟨k, rfl⟩
/-- What the hypotheses of `Obligations.BciJobKeys` ask (BciJobKeys, chosen). -/
theorem witness_BciJobKeys_chosen : ∃ i v, protectedJob.newHandle = (some i, v) := by
  obtain ⟨a, h⟩ := choose_of protectedJob 10 (fun i => decide (i < 1024) && (Tbl.getD protectedJob.sec.handles i KeyHandle.reset).st == .free)
    ((List.range 1024).find? fun i => decide (i < 1024) && (Tbl.getD protectedJob.sec.handles i KeyHandle.reset).st == .free)
    (by rw [find_first 1023 _ (by decide)]; rfl)
  exact ⟨a, _, h⟩
/-- The module as a member of network time. -/
def member : State := { hosted with time := { hosted.time with root := false } }
/-- What the hypotheses of `Obligations.BciTimeGroup` ask. -/
theorem witness_BciTimeGroup :
    (ServedIn hosted 0 cTimeSetRoot (len 24) fieldsTimeSetRoot ([2] ++ zeros 23) ∧ hosted.time.root = true)
    ∧ (ServedIn member 0 cTimeSetRoot (len 24) fieldsTimeSetRoot (zeros 24) ∧ member.time.root = false)
    ∧ (let p : List Byte := [14, 0, 0, 0, 0xFF, 0xFF, 0xFF, 0xFF, 0, 0, 0, 0, 1]
       ServedIn member 0 cTimeSetMember (len 13) fieldsTimeSetMember p ∧ bit (field p 8 4) 31 = false
       ∧ ServedIn hosted 0 cTimeSetMember (len 13) fieldsTimeSetMember p ∧ bit (field p 12 1) 0 = true)
    ∧ (let p : List Byte := zeros 11 ++ [0x80, 2]
       ServedIn member 0 cTimeSetMember (len 13) fieldsTimeSetMember p ∧ member.time.root = false ∧ bit (field p 8 4) 31 = true)
    ∧ (ServedIn hosted 0 cTimeSetAsym (len 8) fieldsTimeSetAsym ([63, 0, 0, 0] ++ leBytes 4 65536)
       ∧ (asked hosted 0 cTimeSetAsym.code ([63, 0, 0, 0] ++ leBytes 4 65536)).portHeld 63 = false)
    ∧ (ServedIn hosted 0 cTimeSetLt (len 2) fieldsTimeSetLt (leBytes 2 157) ∧ hosted.qps = [])
    ∧ (ServedIn linked 0 cTimeSetLt (len 2) fieldsTimeSetLt (leBytes 2 62500) ∧ linked.qps ≠ [])
    ∧ ServedIn hosted 0 cTimeSetLaunch (len 4) fieldsTimeSetLaunch [1, 0, 1, 0] ∧ ServedIn hosted 0 cTimeQuery (len 0) noFields [] := by
  simp only [ServedIn, Served]; repeat' apply And.intro
  all_goals decide +kernel
def port63 : List Byte := zeros 7 ++ [0x80]
/-- TC0 disabled, and a gate list at port 0 that closes it. -/
def closing : State :=
  { hosted with scheds := [(0, { SchedPort.reset with tc0En := false, banks := [{ GclBank.reset with entries := [(0, (0xFE, 1000))] }, GclBank.reset] })] }
/-- What the hypotheses of `Obligations.BciSchedulingGroup` ask (BciScheduling). -/
theorem witness_BciScheduling :
    (ServedIn closing 0 cSchedTc0 (len 4) fieldsSchedTc0 ([1, 0] ++ leBytes 2 4096) ∧ (closing.sched 0).tc0En = false ∧ (closing.sched 0).closesTc0 = true)
    ∧ ServedIn closing 0 cSchedTc0 (len 4) fieldsSchedTc0 ([0, 0] ++ leBytes 2 512)
    ∧ (ServedIn hosted 0 cSchedTc0 (len 4) fieldsSchedTc0 ([1, 0] ++ leBytes 2 4096) ∧ (hosted.sched 0).tc0En = true)
    ∧ (ServedIn hosted 0 cSchedShaper (len 20) fieldsSchedShaper (port63 ++ [7, 1, 0, 0] ++ leBytes 4 1 ++ leBytes 4 64)
       ∧ ∀ i ∈ maskPorts port63, (asked hosted 0 0 []).portHeld i = false)
    ∧ ServedIn hosted 0 cSchedDrr (len 16) fieldsSchedDrr (port63 ++ [7, 0, 0, 0] ++ leBytes 4 64)
    ∧ ServedIn hosted 0 cSchedOverhead (len 9) fieldsSchedOverhead (port63 ++ [24])
    ∧ (let p := port63 ++ [1, 0] ++ leBytes 2 255 ++ leBytes 2 1 ++ leBytes 2 256 ++ zeros 8 ++ leBytes 4 64 ++ zeros 4 ++ [255] ++ leBytes 3 32
       let p := (p.take 10) ++ leBytes 2 255 ++ leBytes 2 1 ++ leBytes 2 256 ++ zeros 8 ++ leBytes 4 64 ++ zeros 4 ++ [255] ++ leBytes 3 32
       let s := asked hosted 0 cSchedGclWrite.code p
       Served s 0 cSchedGclWrite (fun p => 32 + 4 * field p 12 2) (fieldsSchedGclWrite s) (theReq cSchedGclWrite.code p)
       ∧ ∀ i ∈ maskPorts p, (s.sched i).active ≠ field p 8 1 ∧ (s.sched i).pend = false)
    ∧ (ServedIn hosted 0 cSchedGclSwitch (len 16) fieldsSchedGclSwitch (port63 ++ zeros 8) ∧ ∀ i ∈ maskPorts port63, (hosted.sched i).pend = false)
    ∧ ServedIn hosted 0 cSchedGate (len 12) fieldsSchedGate (port63 ++ [1, 0, 0, 0])
    ∧ (let p := [5, 0, 255, 1] ++ leBytes 4 1600000 ++ leBytes 4 64
       let s := asked jobbed 0 cSchedCtxBucket.code p
       Served s 0 cSchedCtxBucket (len 12) fieldsSchedCtxBucket (theReq cSchedCtxBucket.code p) ∧ s.Owns 0 5 ∧ s.ctx? 5 = some aCtx) := by
  simp only [ServedIn, Served, State.Owns]; repeat' apply And.intro
  all_goals decide +kernel
def faultP (src : Nat) : List Byte := leBytes 2 src
/-- What the hypotheses of `Obligations.BciFaultsAndCounters` ask (BciFaultGroup). -/
theorem witness_BciFaultGroup :
    (ServedIn hosted 0 cFaultQuery (len 2) fieldsFaultQuery (faultP 0x23F) ∧ hosted.sourceOk 0x23F = true ∧ hosted.persisting 0x23F = [])
    ∧ ServedIn hosted 0 cFaultClear (len 2) fieldsFaultClear (faultP 0x23F)
    ∧ (let s := (hosted.modSec fun x => { x with rngOk := false }).fault 3 .vaultRng none 0 0
       ServedIn s 0 cFaultClear (len 2) fieldsFaultClear (faultP 3) ∧ s.sourceOk 3 = true ∧ s.persisting 3 ≠ [])
    ∧ ServedIn hosted 0 cFaultReaction (len 2) fieldsFaultReaction [0x0A, 3]
    ∧ (ServedIn hosted 0 cLogRead (len 8) fieldsLogRead ([1] ++ zeros 7) ∧ (asked hosted 0 cLogRead.code ([1] ++ zeros 7)).standbyServes = false)
    ∧ ServedIn hosted 0 cLogRead (len 8) fieldsLogRead (zeros 8) := by
  simp only [ServedIn, Served]; repeat' apply And.intro
  all_goals decide +kernel
/-- FAULT_INJECT at pseudo-channel 127, which belongs to the HBM gateway 3. -/
def injectP : List Byte := faultP 0x13 ++ [0x81, 1] ++ leBytes 4 127 ++ leBytes 8 1 ++ [255]
def injecting : State := asked hosted 0 cFaultInject.code injectP
/-- What the hypotheses of `Obligations.BciFaultsAndCounters` ask (BciFaultGroup, injected). -/
theorem witness_BciFaultGroup_injected :
    Served injecting 0 cFaultInject (len 17) (fieldsFaultInject injecting) (theReq cFaultInject.code injectP) ∧ injecting.sourceOk 0x13 = true := by
  refine ⟨⟨by decide +kernel, by decide +kernel, by decide +kernel, by decide +kernel, by decide +kernel, ?_⟩, by decide +kernel⟩
  have h : injecting.checkerOk (field injectP 0 2) (field injectP 2 1) = true := by
    rw [show field injectP 0 2 = 0x13 from by decide, show field injectP 2 1 = 0x81 from by decide]
    simp [State.checkerOk]
  show badParam (fieldsFaultInject injecting injectP) injectP = none
  unfold fieldsFaultInject fIf
  rw [h]; decide +kernel
/-- What the hypotheses of `Obligations.BciFaultsAndCounters` ask (BciFaultGroup, dumped). -/
theorem witness_BciFaultGroup_dumped : ServedIn linked 0 cMemDump (len 12) fieldsMemDump ([0, 0, 0, 0, 5] ++ zeros 7)
    ∧ ∃ b, (asked linked 0 cMemDump.code ([0, 0, 0, 0, 5] ++ zeros 7)).structure 0 5
        ((asked linked 0 cMemDump.code ([0, 0, 0, 0, 5] ++ zeros 7)).fresh 1024).1 = some (false, b) := by
  constructor
  · simp only [ServedIn, Served]; repeat' apply And.intro
    all_goals decide +kernel
  · exact ⟨_, rfl⟩
def perfP : List Byte := leBytes 2 2047 ++ zeros 2 ++ leBytes 2 0xFFFF ++ zeros 2
/-- The tally sweep configured into region 3. -/
def swept : State := { jobbed with perf := { jobbed.perf with n := 1, lkey := 768, period := 1000 } }
/-- What the hypotheses of `Obligations.BciFaultsAndCounters` ask (BciCounters). -/
theorem witness_BciCounters :
    (∃ ev, ev < 0x0E00 ∧ (eventInstance ev).isSome = true)
    ∧ ServedIn hosted 0 cPerfSelect (len 8) fieldsPerfSelect (leBytes 2 2047 ++ leBytes 2 0x0202 ++ leBytes 2 0xFFFF ++ zeros 2)
    ∧ (let p := [5, 0] ++ leBytes 2 2047 ++ leBytes 2 1 ++ [1]
       let s := asked jobbed 0 cPerfGrant.code p
       Served s 0 cPerfGrant (len 7) fieldsPerfGrant (theReq cPerfGrant.code p) ∧ s.Owns 0 5)
    ∧ (let p := zeros 2 ++ leBytes 2 1 ++ leBytes 4 1000 ++ [1, 0, 0, 0] ++ leBytes 4 768 ++ zeros 8
       let s := asked jobbed 0 cSweepConfig.code p
       Served s 0 cSweepConfig (len 24) (fieldsSweepConfig s) (theReq cSweepConfig.code p) ∧ (s.namedRegion 768).isSome = true
       ∧ s.perf.running = false ∧ s.regionHeld 3 = false)
    ∧ ServedIn swept 0 cSweepCtrl (len 1) fieldsSweepCtrl [0]
    ∧ (ServedIn swept 0 cSweepCtrl (len 1) fieldsSweepCtrl [1] ∧ swept.perf.running = false ∧ swept.perf.n ≠ 0
       ∧ (swept.keyRegion swept.perf.lkey.toNat).isSome = true)
    ∧ (ServedIn jobbed 0 cSweepCtrl (len 1) fieldsSweepCtrl [1] ∧ jobbed.perf.n = 0) := by
  simp only [ServedIn, Served, State.Owns]; repeat' apply And.intro
  · exact ⟨0x0202, by decide, by decide⟩
  all_goals decide +kernel
def curveP : List Byte := ((List.range 8).map fun k => leBytes 2 (200 + k) ++ zeros 2 ++ leBytes 4 (100 - k)).flatten
/-- A change of power state under way. -/
def changing (c : PwrChange) : State := { (longs hosted .pwrSetState) with pwr := { hosted.pwr with change := some c } }
/-- What the hypotheses of `Obligations.BciPowerGroup` ask. -/
theorem witness_BciPowerGroup :
    ServedIn hosted 0 cPwrQuery (len 0) noFields []
    ∧ (ServedIn hosted 0 cPwrSetState (len 3) fieldsPwrSetState [0, 8, 2] ∧ (asked hosted 0 cPwrSetState.code [0, 8, 2]).powerHeld = false
       ∧ hosted.pwr.st ≠ .a3)
    ∧ ServedIn hosted 0 cPwrSetState (len 3) fieldsPwrSetState [1, 1, 0] ∧ ServedIn hosted 0 cPwrSetState (len 3) fieldsPwrSetState [2, 1, 0]
    ∧ ServedIn hosted 4 cPwrSetState (len 3) fieldsPwrSetState [3, 1, 0] ∧ ServedIn hosted 0 cPwrSetState (len 3) fieldsPwrSetState [3, 1, 0]
    ∧ (let c : PwrChange := { target := .a1, since := 0, attempted := true, ok := true, failed := false }
       (changing c).long? 0 1 = some (theLong .pwrSetState) ∧ (changing c).pwr.change = some c)
    ∧ (let p := leBytes 2 410 ++ leBytes 2 360 ++ leBytes 2 690 ++ leBytes 2 600
       let s : State := asked { hosted with sup := { hosted.sup with vinMv := 36000, vcoreMv := [600, 600, 600, 600] } } 0 cPwrSetThresh.code p
       Served s 0 cPwrSetThresh (len 8) (fieldsPwrSetThresh s) (theReq cPwrSetThresh.code p) ∧ 100 * field p 2 2 ≤ s.sup.vinMv
       ∧ ∀ v ∈ s.sup.vcoreMv, field p 6 2 ≤ v)
    ∧ (ServedIn hosted 0 cPwrSetCurve (len 64) fieldsPwrSetCurve curveP ∧ hosted.pwr.gate = .on
       ∧ ({ hosted.pwrCfg with timers := [800, 0, 0, 0, 0, 0, 0, 0], curve := List.replicate 8 (200, 100) } : PwrCfg).tripPoint = some 0
       ∧ hosted.pwrCfg.tripPoint = none)
    ∧ ServedIn hosted 0 cPwrSetRetry (len 4) fieldsPwrSetRetry [255, 4, 100, 1] := by
  simp only [ServedIn, Served]; repeat' apply And.intro
  all_goals decide +kernel
/-- What the hypotheses of `Obligations.BciPowerGroup` ask (BciPowerGroup, ends). -/
theorem witness_BciPowerGroup_ends :
    let c (t : PwrState) (failed : Bool) : PwrChange := { target := t, since := 0, attempted := true, ok := false, failed := failed }
    ((changing (c .a0 true)).pwr.change = some (c .a0 true) ∧ (c .a0 true).failed = true)
    ∧ ((changing (c .a2 true)).pwr.change = some (c .a2 true) ∧ (c .a2 true).target ≠ .a0)
    ∧ ((changing (c .a2 false)).pwr.change = some (c .a2 false) ∧ (c .a2 false).failed = false) := by decide
/-- What the hypotheses of `Obligations.BciPowerGroup` ask (PowerStateA2). -/
theorem witness_PowerStateA2 :
    (let c : PwrChange := { target := .a2, since := 0, attempted := false, ok := false, failed := false }
     let s : State := { hosted with pwr := { hosted.pwr with change := some c } }
     s.works = true ∧ s.pwr.enteringA2 = true ∧ s.pwr.wakeFrom = none ∧ s.clk.now ≤ c.since + 10 * msTicks ∧ s.a2Ready = true)
    ∧ (let s : State := { hosted with pwr := { hosted.pwr with st := .a2, wakeFrom := some 0 } }
       s.pwr.wakeFrom.isSome = true ∧ s.pwr.change = none)
    ∧ (let k : Packet := { aPacket 0 5 0 with hdr := { (aPacket 0 5 0).hdr with src := 0x01000 } }
       let s : State := { ((hosted.modLink 63 fun l => { l with st := .doze }).modSched 63 fun x => { x with queues := put x.queues 7 [k] }) with
                          pwr := { hosted.pwr with st := .a2 } }
       s.pwr.st = .a2 ∧ (s.link 63).st = .doze ∧ ((s.sched 63).queues.drop 1).any (fun q => q.any fun k => feidModule k.hdr.src != s.moduleId) = true) := by
  decide +kernel
def anImage : ImageHdr :=
  { magicOk := true, svn := 1, ownerSigned := false, ownerProvision := false, version := 0, bodyDigest := [], ownerPk := [], provisionHash := [],
    haldoldOk := true, ownerSigOk := true, digestOk := true, raw := [] }
/-- Slot 1 in a session of mailbox 0, and slot 0 running an image of SVN 1. -/
def burning (committing : Bool) : State :=
  { hosted with fw := { hosted.fw with session := some { box := 0, slot := 1, size := 70000, cells := [], committing := committing },
                                       slots := [{ hdr := some anImage, valid := true }, { hdr := none, valid := false }] } }
def aSession (committing : Bool) : FwSession := { box := 0, slot := 1, size := 70000, cells := [], committing := committing }
/-- What the hypotheses of `Obligations.BciFirmwareGroup` ask. -/
theorem witness_BciFirmwareGroup :
    ServedIn hosted 0 cFwQuery (len 0) noFields []
    ∧ (let p := [1, 0, 0, 0] ++ leBytes 4 65536
       let s := asked hosted 0 cFwBegin.code p
       Served s 0 cFwBegin (len 8) fieldsFwBegin (theReq cFwBegin.code p) ∧ s.flashHeld = false ∧ s.fw.session = none ∧ s.fw.running ≠ some 1)
    ∧ (let p := leBytes 4 69999 ++ zeros 4 ++ [7]
       let s := asked (burning false) 0 cFwWrite.code p
       Served s 0 cFwWrite (fun p => max 9 (min 1000 p.length)) (fieldsFwWrite 0 s) (theReq cFwWrite.code p) ∧ s.fw.session = some (aSession false)
       ∧ s.flashHeld = false)
    ∧ (let s := asked (burning false) 0 cFwCommit.code []
       Served s 0 cFwCommit (len 0) noFields (theReq cFwCommit.code []) ∧ s.fw.session = some (aSession false) ∧ s.flashHeld = false)
    ∧ (let s := longs (burning true) (.fwCommit 1)
       s.long? 0 1 = some (theLong (.fwCommit 1)) ∧ s.fw.session = some (aSession true) ∧ (aSession true).committing = true
       ∧ (parseImage (aSession true).cells (aSession true).size).magicOk = false)
    ∧ (let s := asked (burning false) 0 cFwActivate.code [0, 1]
       Served s 0 cFwActivate (len 2) fieldsFwActivate (theReq cFwActivate.code [0, 1]) ∧ s.fw.openElse 0 = false ∧ s.flashHeld = false
       ∧ (s.fw.slot 0).valid = true)
    ∧ (let s := asked (burning false) 0 cFwConfirm.code []
       Served s 0 cFwConfirm (len 0) noFields (theReq cFwConfirm.code []) ∧ s.flashHeld = false ∧ s.fw.running = some 0 ∧ s.fw.image = some anImage
       ∧ s.sec.fusedSvn < anImage.svn ∧ anImage.provision s.sec = none)
    ∧ (let s := asked (burning false) 0 cFwAbort.code []
       Served s 0 cFwAbort (len 0) noFields (theReq cFwAbort.code []) ∧ (aSession false).box = 0 ∧ s.commitOf = none)
    ∧ (let s := asked (longs (burning true) (.fwCommit 1)) 0 cFwAbort.code []
       Served s 0 cFwAbort (len 0) noFields (theReq cFwAbort.code []) ∧ s.commitOf = some (0, theLong (.fwCommit 1))) := by
  simp only [ServedIn, Served]; repeat' apply And.intro
  all_goals decide +kernel
/-- What the hypotheses of `Obligations.BciFirmwareGroup` ask (BciFirmwareGroup, images). An image that is sound, of any SVN: whether a written one is depends on signatures (log 26), so this names the header alone. -/
theorem witness_BciFirmwareGroup_images : anImage.svn = 1 ∧ hosted.sec.fusedSvn ≤ anImage.svn
    ∧ anImage.svn < (hosted.modSec fun v => { v with fusedSvn := 2 }).sec.fusedSvn := by decide
/-! ### Rings and packets -/

/-- A chain of one entry of an opcode, and context 5 with some chains. -/
def aChain (op : Nat) (st : ChainSt) (timing : Option (List Byte)) : Chain :=
  { serial := 0, timing := timing, work := leBytes 1 op ++ [7, 1, 0, 5, 0, 0, 0] ++ zeros 56, st := st, ready := false, held := false, passed := false, payload := none, segs := [],
    code := 0, value := 0, countA := 0, countB := 0, ident := 0, flags := 0 }
def aRing (f : Ctx → Ctx) : State := linked.setCtx 5 (f aCtx)
def chained (h : Chain) : State := aRing fun x => { x with chains := [h], owed := 1 }
/-- A TIMING entry with LAUNCH_AT `at_`, WAIT_LEDGER 7 and THRESHOLD 1. -/
def timing (bits at_ : Nat) : List Byte :=
  [13, 1, 1, BitVec.ofNat 8 bits, 5, 0, 0, 0] ++ zeros 8 ++ leBytes 8 at_ ++ leBytes 4 7 ++ zeros 4 ++ leBytes 8 1 ++ zeros 24

/-- What the hypotheses of `Obligations.RingsAndTheirDoorbells` ask (RingsEnabledAndDisabled). -/
theorem witness_RingsEnabledAndDisabled :
    (let x : Ctx := { aCtx with enable := false, idle := true, sqLog2 := 16, cqLog2 := 16, sqBase := 4194304, cqBase := 2097152 }
     x.cfgOk = true ∧ x.enable = false ∧ x.idle = true ∧ x.hostLost = false ∧ x.fenced = false ∧ (aRing fun _ => x).ctx? 5 = some x
     ∧ (aRing fun _ => x).works = true ∧ (aRing fun _ => x).fnExists 0 0 = true ∧ (aRing fun _ => x).ownsCtx { ep := 0, fn := 0 } 5 = true)
    ∧ linked.ownsCtx { ep := 0, fn := 1 } 5 = false ∧ linked.ownsCtx { ep := 0, fn := 0 } 6 = false
    ∧ (let x : Ctx := { aCtx with enable := false, idle := true, sqLog2 := 17 }
       x.cfgOk = false ∧ x.enable = false ∧ x.idle = true ∧ x.hostLost = false ∧ (aRing fun _ => x).ctx? 5 = some x)
    ∧ ({ aCtx with sqBase := 2048 } : Ctx).cfgOk = false ∧ aCtx.enable = true
    ∧ ((chained (aChain 12 .waiting none)).ctx? 5).map (·.owed) = some 1 ∧ aCtx.owed = 0 := by decide +kernel
/-- What the hypotheses of `Obligations.RingsAndTheirDoorbells` ask (RingDoorbells). -/
theorem witness_RingDoorbells :
    (let x := { aCtx with sqTail := 0xFFFFFFF0, sqHead := 0xFFFFFFF0, cqHead := 0xFFFFFFFF, cqTail := 0 }
     (aRing fun _ => x).ctx? 5 = some x ∧ x.hostLost = false ∧ (aRing fun _ => x).works = true ∧ (aRing fun _ => x).fnExists 0 0 = true
     ∧ (aRing fun _ => x).ownsCtx { ep := 0, fn := 0 } 5 = true
     ∧ ((0x30 - x.sqTail).toNat ≤ 2 ^ x.sqLog2 ∧ (0x30 - x.sqHead).toNat ≤ 2 ^ x.sqLog2)
     ∧ ¬ ((0x31 - x.sqTail).toNat ≤ 2 ^ x.sqLog2 ∧ (0x31 - x.sqHead).toNat ≤ 2 ^ x.sqLog2)
     ∧ (0 - x.cqHead).toNat ≤ (x.cqTail - x.cqHead).toNat ∧ ¬ (1 - x.cqHead).toNat ≤ (x.cqTail - x.cqHead).toNat
     ∧ x.cqTail ≠ x.cqHead ∧ ({ x with intEn := true } : Ctx).intEn = true ∧ aCtx.cqTail = aCtx.cqHead)
    ∧ (let x := { aCtx with armedAt := some 0, intEn := true, armed := true, coalUs := 1 }
       (aRing fun _ => x).ctx? 5 = some x ∧ x.armedAt = some 0 ∧ x.intEn = true ∧ x.armed = true ∧ x.coalUs ≠ 0)
    ∧ (let x := { aCtx with intEn := true, cqHead := 0xFFFFFFFF, cqTail := 0 }
       (aRing fun _ => x).ctx? 5 = some x ∧ (aRing fun _ => x).works = true ∧ x.intEn = true ∧ x.cqTail ≠ x.cqHead) := by decide +kernel
/-- What the hypotheses of `Obligations.EntriesFormChains` ask (EntryReads). -/
theorem witness_EntryReads :
    (let x := { aCtx with sqTail := 70, sqHead := 63 }
     let s := aRing fun _ => x
     s.ctx? 5 = some x ∧ x.enable = true ∧ x.reading = false ∧ s.works = true ∧ s.pwr.st ≠ .a2 ∧ s.mayDma 5 = true
     ∧ 1 ≤ min 8 (min (x.sqTail - x.sqHead).toNat (2 ^ x.sqLog2 - x.sqHead.toNat % 2 ^ x.sqLog2)))
    ∧ min 8 (aCtx.sqTail - aCtx.sqHead).toNat = 0 := by decide +kernel
/-- What the hypotheses of `Obligations.EntriesFormChains` ask. -/
theorem witness_EntriesFormChains :
    (let e := leBytes 1 12 ++ [7] ++ zeros 62
     aCtx.openTiming = none ∧ bit (field e 1 1) 0 = true ∧ bit (field e 1 1) 1 = true ∧ field e 0 1 ≠ opTiming ∧ linked.entryOk 5 e = true
     ∧ linked.ctx? 5 = some aCtx)
    ∧ (let e := leBytes 1 14 ++ [7] ++ zeros 62
       linked.entryOk 5 e = false)
    ∧ bit (field (leBytes 1 12 ++ [6] ++ zeros 62) 1 1) 0 = false
    ∧ (bit (field (timing 1 0) 1 1) 0 = true ∧ bit (field (timing 1 0) 1 1) 1 = false ∧ field (timing 1 0) 0 1 = opTiming)
    ∧ (let x := { aCtx with openTiming := some (timing 1 0) }
       let s := aRing fun _ => x
       let e := (aChain 1 .waiting none).work.take 1 ++ [6] ++ (aChain 1 .waiting none).work.drop 2
       s.ctx? 5 = some x ∧ bit (field e 1 1) 0 = false ∧ bit (field e 1 1) 1 = true ∧ field e 0 1 ≠ opTiming ∧ timingOk (timing 1 0) e = true
       ∧ s.entryOk 5 e = true ∧ s.beyondHorizon (some (timing 1 0)) = false ∧ s.beyondHorizon (some (timing 1 (2 ^ 62))) = true
       ∧ timingOk (zeros 64) e = false
       ∧ (let y := { aCtx with openTiming := some (timing 1 (2 ^ 62)) }
          let v := aRing fun _ => y
          v.ctx? 5 = some y ∧ timingOk (timing 1 (2 ^ 62)) e = true ∧ v.entryOk 5 e = true ∧ v.beyondHorizon (some (timing 1 (2 ^ 62))) = true))
    ∧ (let x := { aCtx with openTiming := some (timing 1 0) }
       (aRing fun _ => x).ctx? 5 = some x ∧ bit (field (leBytes 1 12 ++ [7] ++ zeros 62) 1 1) 0 = true) := by decide +kernel
/-- What the hypotheses of `Obligations.WalkStartsWhatMayStart` ask. -/
theorem witness_WalkStartsWhatMayStart :
    ((chained (aChain 12 .waiting none)).walk 5).2 = some (aChain 12 .waiting none)
    ∧ (let h : Chain := { aChain 12 .waiting none with work := [12, 15, 1, 0, 5, 0, 0, 0] ++ zeros 56 }
       ((chained h).walk 5).2 = some h ∧ h.fence = true) := by decide +kernel
/-- What the hypotheses of `Obligations.BciPowerGroup` ask (PowerStateA2, launch). The other commands that wake A2, or move it on. -/
theorem witness_PowerStateA2_launch :
    (let h := aChain 1 .queued (some (timing 1 (2 ^ 40)))
     let s : State := { chained h with pwr := { hosted.pwr with st := .a2 } }
     s.pwr.st = .a2 ∧ s.launchTargets ≠ []) := by decide +kernel
/-- What the hypotheses of `Obligations.EntriesStart` ask. -/
theorem witness_EntriesStart :
    ((chained (aChain 12 .waiting none)).walk 5).2 = some (aChain 12 .waiting none) ∧ (aChain 12 .waiting none).op = 12
    ∧ ((chained (aChain 1 .waiting none)).walk 5).2 = some (aChain 1 .waiting none) ∧ (aChain 1 .waiting none).op = 1
    ∧ (let s := chained (aChain 12 .waiting none)
       s.nextServed (s.ctxTile 5) = some 5 ∧ (s.ctxs.map (·.1)).Pairwise (· < ·) ∧ s.nextServed aCtx.tile = some 5 ∧ (s.ctx? 5).isSome = true)
    ∧ (((chained (aChain 2 .waiting none)).walk 5).2 = some (aChain 2 .waiting none) ∧ (aChain 2 .waiting none).op = 2
       ∧ (chained (aChain 2 .waiting none)).nextServed ((chained (aChain 2 .waiting none)).ctxTile 5) = some 5)
    ∧ (((chained (aChain 3 .waiting none)).walk 5).2 = some (aChain 3 .waiting none) ∧ (aChain 3 .waiting none).op = 3
       ∧ (chained (aChain 3 .waiting none)).nextServed ((chained (aChain 3 .waiting none)).ctxTile 5) = some 5)
    ∧ (((chained (aChain 4 .waiting none)).walk 5).2 = some (aChain 4 .waiting none) ∧ (aChain 4 .waiting none).op = 4
       ∧ (chained (aChain 4 .waiting none)).nextServed ((chained (aChain 4 .waiting none)).ctxTile 5) = some 5)
    ∧ (((chained (aChain 5 .waiting none)).walk 5).2 = some (aChain 5 .waiting none) ∧ (aChain 5 .waiting none).op = 5
       ∧ (chained (aChain 5 .waiting none)).nextServed ((chained (aChain 5 .waiting none)).ctxTile 5) = some 5)
    ∧ (((chained (aChain 6 .waiting none)).walk 5).2 = some (aChain 6 .waiting none) ∧ (aChain 6 .waiting none).op = 6
       ∧ (chained (aChain 6 .waiting none)).nextServed ((chained (aChain 6 .waiting none)).ctxTile 5) = some 5)
    ∧ (((chained (aChain 7 .waiting none)).walk 5).2 = some (aChain 7 .waiting none) ∧ (aChain 7 .waiting none).op = 7
       ∧ (chained (aChain 7 .waiting none)).nextServed ((chained (aChain 7 .waiting none)).ctxTile 5) = some 5)
    ∧ (((chained (aChain 8 .waiting none)).walk 5).2 = some (aChain 8 .waiting none) ∧ (aChain 8 .waiting none).op = 8
       ∧ (chained (aChain 8 .waiting none)).nextServed ((chained (aChain 8 .waiting none)).ctxTile 5) = some 5)
    ∧ (((chained (aChain 9 .waiting none)).walk 5).2 = some (aChain 9 .waiting none) ∧ (aChain 9 .waiting none).op = 9
       ∧ (chained (aChain 9 .waiting none)).nextServed ((chained (aChain 9 .waiting none)).ctxTile 5) = some 5)
    ∧ (((chained (aChain 10 .waiting none)).walk 5).2 = some (aChain 10 .waiting none) ∧ (aChain 10 .waiting none).op = 10
       ∧ (chained (aChain 10 .waiting none)).nextServed ((chained (aChain 10 .waiting none)).ctxTile 5) = some 5)
    ∧ (((chained (aChain 11 .waiting none)).walk 5).2 = some (aChain 11 .waiting none) ∧ (aChain 11 .waiting none).op = 11
       ∧ (chained (aChain 11 .waiting none)).nextServed ((chained (aChain 11 .waiting none)).ctxTile 5) = some 5) := by
  decide +kernel
/-- What the hypotheses of `Obligations.EntriesStart` ask (EntriesStart, turns). Two contexts of a tile: 5 has a chain of TC0, 69 one of TC1. -/
theorem witness_EntriesStart_turns :
    let q : Qp := { aQp with chans := [{ aChan with tc := 0 }] }
    let h := { aChain 1 .waiting none with work := [1, 7, 0, 0, 5, 0, 0, 0] ++ zeros 56 }
    let g := aChain 1 .waiting none
    let x : Ctx := { aCtx with chains := [h], owed := 1 }
    let y : Ctx := { aCtx with chains := [g], owed := 1 }
    let s := (((linked.setQp 5 q).setCtx 5 x).setCtx 69 y).modTile 5 fun t => { t with turn := 6 }
    s.nextServed 5 = some 5 ∧ s.ctx? 5 = some x ∧ s.ctx? 69 = some y ∧ y.hostLost = false ∧ (s.ctxs.map (·.1)).Pairwise (· < ·)
    ∧ (let v := ((linked.setCtx 5 y).setCtx 69 y).modTile 5 fun t => { t with turn := 6 }
       v.nextServed 5 = some 69 ∧ v.ctx? 5 = some y ∧ (v.ctxs.map (·.1)).Pairwise (· < ·)) := by decide +kernel
/-- A chain whose LKEY, at the offset its opcode has it, is region 3's. -/
def keyedChain (op inl off : Nat) : Chain :=
  { aChain op .waiting none with work := leBytes 1 op ++ [BitVec.ofNat 8 (7 + 16 * inl), 1, 8] ++ zeros (off - 4) ++ leBytes 4 768 ++ zeros (60 - off) }
/-- What the hypotheses of `Obligations.EntriesStart` ask (EntryEffects). -/
theorem witness_EntryEffects :
    let s := (aRing fun x => { x with chains := [keyedChain 1 0 32] }).setDomain 5 aDomain
    let ok (h : Chain) (off o n : Nat) (perm : List Nat) : Bool := !((s.count 0x0B00 5 (qMask h.tc) 1).badKey 5 (h.f off 4) (h.f o 6) (h.f n 4) perm)
    (aChain 1 .waiting none).launchEn = false
    ∧ s.badKey 5 0 0 1 [pLocalRead] = true
    ∧ ((keyedChain 1 0 32).op = 1 ∧ (keyedChain 1 0 32).inl = false ∧ ok (keyedChain 1 0 32) 32 40 36 [pLocalRead] = true)
    ∧ ((keyedChain 1 1 32).op = 1 ∧ (keyedChain 1 1 32).inl = true) ∧ ok (keyedChain 2 0 32) 32 40 36 [pLocalWrite] = true
    ∧ ((keyedChain 3 0 40).op = 3 ∧ (keyedChain 3 0 40).inl = false ∧ ok (keyedChain 3 0 40) 40 48 36 [pLocalRead] = true)
    ∧ ((keyedChain 4 0 40).op = 4 ∧ ok (keyedChain 4 0 40) 40 48 44 [pLocalWrite] = true ∧ (s.domain? 5).isSome = true ∧ linked.domain? 5 = none)
    ∧ ((keyedChain 5 0 32).op = 5 ∧ (keyedChain 5 0 32).localAtomic = false)
    ∧ ({ aChain 5 .waiting none with work := [5, 7, 1, 1] ++ zeros 60 } : Chain).localAtomic = true
    ∧ (keyedChain 7 0 40).op = 7 ∧ (keyedChain 8 0 40).op = 8
    ∧ (let l : State := { s with ledgers := [(0, { count := 0, poison := false, owner := 5, remote := false, share := false })] }
       (keyedChain 9 0 40).op = 9 ∧ l.ledgerOk 5 (keyedChain 9 0 40).ledger = true ∧ (keyedChain 10 0 40).op = 10 ∧ (keyedChain 11 0 40).op = 11)
    ∧ (keyedChain 12 0 40).op = 12 := by decide +kernel
/-- What the hypotheses of `Obligations.EntriesStart` ask (EntryEffects, coll). A collective of context 5 on node 0, with no element to move. -/
theorem witness_EntryEffects_coll :
    let s := ((aRing fun x => x).setNode 0 { aNode with st := .ready, owner := 5, lead := 0 })
    ∃ w : List Byte, w = [6, 7, 1, 0, 0, 0, 0, 0] ++ zeros 56 ∧ (aChain 6 .waiting none).op = 6
      ∧ s.collRefused 5 { aChain 6 .waiting none with work := w } = none := ⟨_, rfl, by decide +kernel, by decide +kernel⟩
/-- What the hypotheses of `Obligations.LedgersAndPasses` ask (LedgerUpdates). -/
theorem witness_LedgerUpdates : Tbl.get? ledgered.ledgers 1048575 = some { count := 0, poison := false, owner := 5, remote := false, share := false } := by
  decide +kernel
/-- What the hypotheses of `Obligations.LaunchAndRetirement` ask (TimedLaunches). -/
theorem witness_TimedLaunches :
    (let h := aChain 12 .queued (some (timing 1 (2 ^ 40)))
     (chained h).ctx? 5 = some { aCtx with chains := [h], owed := 1 } ∧ (chained h).works = true
     ∧ ({ aCtx with chains := [h], owed := 1 } : Ctx).firstLaunch (fun h => h.st == .queued) = some h)
    ∧ (let h := { aChain 12 .prepared (some (timing 1 (2 ^ 40))) with payload := some [] }
       (chained h).nextLaunch { aCtx with chains := [h] } = some h ∧ (chained h).pwr.st ≠ .a2)
    ∧ (let s : State := { chained (aChain 1 .prepared none) with time := { linked.time with status := .lost } }
       s.timeHeld = true ∧ s.ctx? 5 = some { aCtx with chains := [aChain 1 .prepared none], owed := 1 }
       ∧ ∀ g ∈ [aChain 1 .prepared none], g.st = .prepared → g.endpoint = true)
    ∧ (let h := { aChain 12 .prepared (some (timing 1 (2 ^ 40))) with payload := some [] }
       let s : State := { chained h with time := { linked.time with status := .lost } }
       s.timeHeld = true ∧ s.ctx? 5 = some { aCtx with chains := [h], owed := 1 } ∧ s.nextLaunch { aCtx with chains := [h], owed := 1 } = some h)
    ∧ (let h := aChain 12 .waiting (some (timing 1 5))
       let s : State := { chained h with clk := { now := 6, nt := 6, frac := 0 }, time := { linked.time with latePolicy := true } }
       s.lateLaunch h = true ∧ s.time.latePolicy = true) := by decide +kernel
/-- What the hypotheses of `Obligations.LedgersAndPasses` ask (LedgerWakes). -/
theorem witness_LedgerWakes :
    let h := { aChain 12 .waiting (some (timing 2 0)) with held := true }
    let g (n : Nat) (p : Bool) : Ledger := { count := n, poison := p, owner := 5, remote := false, share := false }
    let s (n : Nat) (p : Bool) : State := { chained h with ledgers := [(7, g n p)] }
    let x : Ctx := { aCtx with chains := [h], owed := 1 }
    (s 0 false).ctx? 5 = some x ∧ ((s 0 false).ctxs.map (·.1)).Nodup ∧ (x.chains.map (·.serial)).Nodup
    ∧ x.chains.find? (fun h => h.st == .waiting && h.held && h.waitLedger == 7) = some h
    ∧ x.chains.find? (fun h => h.st == .waiting && (h.held || h.passed)) = some h ∧ h.passed = false
    ∧ ([{ h with passed := true }] : List Chain).find? (fun h => h.st == .waiting && (h.held || h.passed)) = some { h with passed := true }
    ∧ Tbl.get? (s 1 false).ledgers h.waitLedger = some (g 1 false) ∧ h.threshold ≤ (g 1 false).count ∧ (g 1 true).poison = true
    ∧ (g 0 false).count < h.threshold
    ∧ aCtx.chains.find? (fun h => h.st == .waiting && (h.held || h.passed)) = none := by decide +kernel
/-- What the hypotheses of `Obligations.LaunchAndRetirement` ask (ChainsRetire). -/
theorem witness_ChainsRetire :
    (let h := aChain 12 .done none
     (chained h).ctx? 5 = some { aCtx with chains := [h], owed := 1 }
     ∧ ({ aCtx with chains := [h], owed := 1 } : Ctx).chains.find? (fun h => h.st == .done) = some h ∧ (chained h).works = true ∧ h.doneEn = false
     ∧ h.cqe = true ∧ (h.op ≠ opRecv ∨ h.code ≠ ccOk))
    ∧ ({ aChain 12 .done none with work := [12, 3] ++ zeros 62 } : Chain).cqe = false
    ∧ (let x := { aCtx with backlog := [zeros 32] }
       (aRing fun _ => x).ctx? 5 = some x ∧ x.backlog = zeros 32 :: [] ∧ x.idle = false ∧ x.hostLost = false ∧ x.owed + x.cqOcc < 2 ^ x.cqLog2)
    ∧ (let x := { aCtx with deferred := [zeros 32, zeros 31 ++ [3]] }
       (aRing fun _ => x).ctx? 5 = some x ∧ x.deferred = zeros 32 :: [zeros 31 ++ [3]] ∧ x.armed = false ∧ forRequest (zeros 32) = true ∧ forRequest (zeros 31 ++ [3]) = false)
    ∧ aCtx.backlog = [] ∧ 2 ^ aCtx.cqLog2 ≤ ({ aCtx with owed := 64 } : Ctx).owed + aCtx.cqOcc := by decide +kernel
/-- What the hypotheses of `Obligations.LedgersAndPasses` ask (PhaseOfPass). -/
theorem witness_PhaseOfPass : 2 ^ 6 - 1 < 2 ^ 6 := by decide
/-- What the hypotheses of `Obligations.PacketsRoundTrip` ask. -/
theorem witness_PacketsRoundTrip : (aPacket 0 5 0).hdr.len.toNat = 16 + (aPacket 0 5 0).body.length := by decide +kernel
def goodHdr : RouteHdr := (aPacket 0 5 0).hdr
/-- Port 63 is a ROW port with a partner, toward column 7, and port 0 a GLOBAL one. -/
def routed : State :=
  let l := { LinkPort.reset with st := .active, cap := { LinkPort.reset.cap with partner := [0, 0, 2] ++ zeros 61 } }
  let r (role index : Nat) : RPort := { RPort.reset with role := { role := role, index := index, group := 0, en := true } }
  (((linked.setLink 63 l).setRport 63 (r 1 7)).setLink 0 l).setRport 0 (r 3 0)
/-- What the hypotheses of `Obligations.ArrivalChecks` ask. -/
theorem witness_ArrivalChecks :
    (¬ (({ goodHdr with len := 15 } : RouteHdr).level.toNat ≤ 2 ∧ 16 ≤ ({ goodHdr with len := 15 } : RouteHdr).len.toNat
        ∧ (goodHdr.vn = 3 → goodHdr.tc = 0)))
    ∧ (goodHdr.level.toNat ≤ 2 ∧ 16 ≤ ({ goodHdr with len := 16 } : RouteHdr).len.toNat ∧ (goodHdr.vn = 3 → goodHdr.tc = 0))
    ∧ 10 ≤ ({ goodHdr with hops := 10 } : RouteHdr).hops.toNat ∧ ({ goodHdr with hops := 9 } : RouteHdr).hops.toNat < 10
    ∧ 2 < ({ goodHdr with level := 2 } : RouteHdr).level.toNat + (if (routed.rport 0).role.role = 3 then 1 else 0)
    ∧ routed.time.lt < ({ routed with clk := { now := 0, nt := BitVec.ofNat 64 (16384 * 15626), frac := 0 } } : State).age 0
    ∧ routed.age 17 < -16 ∧ (routed.age 0 ≤ routed.time.lt ∧ -16 ≤ routed.age 16)
    ∧ ¬ (feidGroup 0xFFFFF < routed.route.systemGroups)
    ∧ (feidGroup goodHdr.dst < routed.route.systemGroups ∧ (routed.rport 63).role.role ≠ 0 ∧ (routed.rport 63).role.en = true
       ∧ (routed.rport 63).mismatch = false ∧ routed.route.valid = true ∧ (routed.link 63).partnerId = true)
    ∧ 4 < (routed.rport 63).drops.length := by decide +kernel
/-- A packet in the till of port 63. -/
def tilled (h : RouteHdr) (blocked : Bool) : State :=
  routed.modLink 63 fun l => { l with rx := { l.rx with till := [{ pkt := { aPacket 0 5 0 with hdr := h }, flits := 1, vc := 4, old := false, blocked := blocked }] } }
/-- What the hypotheses of `Obligations.ArrivalChecks` ask (PacketArrivals). -/
theorem witness_PacketArrivals :
    ((tilled goodHdr false).link 63).rx.till.length = 1
    ∧ (tilled goodHdr false).checkArrival 63 { goodHdr with len := 15 } = .drop 0
    ∧ (let h := { goodHdr with hops := 1 }
       (tilled goodHdr false).checkArrival 63 goodHdr = .pass h ∧ (tilled goodHdr false).turnHere h = false
       ∧ (tilled goodHdr false).nextPorts h ((tilled goodHdr false).arrivalPermit 63 h false) = .eject)
    ∧ (let d := { goodHdr with dst := 28 }
       let h := { d with hops := 1 }
       let s := tilled d false
       s.checkArrival 0 d = .pass { h with level := 1 } ∧ s.checkArrival 63 d = .pass h
       ∧ s.nextPorts h (s.arrivalPermit 63 h false) = .ports [] ∧ s.choosePort h [] = none
       ∧ s.nextPorts h Permit.all = .ports [63] ∧ s.choosePort h [63] = some 63 ∧ s.egressRoom 63 h = true
       ∧ s.tc0Room 63 { h with tc := 0 } = true
       ∧ (let f := s.modSched 63 fun x => { x with queues := put (put x.queues 1 (List.replicate 2048 { aPacket 0 5 0 with hdr := d })) 0 (List.replicate 64 { aPacket 0 5 0 with hdr := d }) }
          f.egressRoom 63 h = false ∧ f.tc0Room 63 { h with tc := 0 } = false)) := by decide +kernel
/-- A packet in the till of port 0, which goes on over port 63. -/
def passing (h : RouteHdr) (blocked : Bool) (s : State) : State :=
  s.modLink 0 fun l => { l with rx := { l.rx with till := [{ pkt := { aPacket 0 5 0 with hdr := h }, flits := 1, vc := 4, old := false, blocked := blocked }] } }
/-- Port 63's queues are full. -/
def filled : State :=
  let k : Packet := { aPacket 0 5 0 with hdr := { goodHdr with dst := 28 } }
  routed.modSched 63 fun x => { x with queues := put (put x.queues 1 (List.replicate 2048 k)) 0 (List.replicate 64 k) }
/-- What the hypotheses of `Obligations.ArrivalChecks` ask (PacketArrivals, passing). -/
theorem witness_PacketArrivals_passing :
    let d (tc : BitVec 3) : RouteHdr := { goodHdr with dst := 28, tc := tc }
    let h (tc : BitVec 3) : RouteHdr := { goodHdr with dst := 28, tc := tc, level := 1, hops := 1 }
    (let b : RouteHdr := { goodHdr with len := 15 }
     (passing b false routed).checkArrival 0 b = .drop 0 ∧ ((passing b false routed).link 0).rx.till.find? (fun k => k.vc == 4) ≠ none)
    ∧ (let s := passing (d 1) false routed
       s.checkArrival 0 (d 1) = .pass (h 1) ∧ s.turnHere (h 1) = false ∧ s.nextPorts (h 1) (s.arrivalPermit 0 (h 1) false) = .ports [63]
       ∧ s.choosePort (h 1) [63] = some 63 ∧ s.egressRoom 63 (h 1) = true)
    ∧ (let s := passing (d 1) false filled
       s.checkArrival 0 (d 1) = .pass (h 1) ∧ s.choosePort (h 1) [63] = some 63 ∧ s.egressRoom 63 (h 1) = false)
    ∧ (let s := passing (d 0) false routed
       s.checkArrival 0 (d 0) = .pass (h 0) ∧ s.nextPorts (h 0) (s.arrivalPermit 0 (h 0) false) = .ports [63] ∧ s.tc0Room 63 (h 0) = true)
    ∧ ((passing (d 0) false filled).tc0Room 63 (h 0) = false ∧ (passing (d 0) false filled).choosePort (h 0) [63] = some 63)
    ∧ ((passing (d 0) true filled).tc0Room 63 (h 0) = false ∧ (passing (d 0) true filled).choosePort (h 0) [63] = some 63) := by decide +kernel
/-- What the hypotheses of `Obligations.ArrivalChecks` ask (ArrivalChecks, torus). A beat of EXP and one of REQ in router T06 that both go out at X+, and one on its way there. -/
theorem witness_ArrivalChecks_torus :
    let b : Beat := { load := 0, last := true, legs := [(0, 2), (3, 1)], cls := 0 }
    let n : Net := { Net.reset with queues := [(queueKey 0 6 4 0, [b]), (queueKey 0 6 4 6, [b])] }
    n.picks (fun _ => false) = [queueKey 0 6 4 6] ∧ queueKey 0 6 4 6 < 5120 ∧ b.legs = (0, 1 + 1) :: [(3, 1)] ∧ (b.hop (queueKey 0 6 4 6)).2.legs = (0, 0 + 1) :: [(3, 1)]
    ∧ { Net.reset with queues := [(queueKey 0 6 4 0, [b])] }.picks (fun _ => false) = [queueKey 0 6 4 0] := by decide

end Sys2Proof.Tests
end

