-- ==== Sys2Proof/Tests/WitnessTraffic.lean ====
section
/-! SUPPORT. Small states that meet the hypotheses of the statements: transport, time, links and faults. -/
namespace Sys2Proof.Tests
open Sys2Proof.Machine
set_option maxRecDepth 100000
set_option Elab.async false

/-! ### Packets at their tiles, transport -/

/-- A CTL notice that reached tile 63. -/
def noticed (kind : Nat) : State :=
  let k := aPacket 0 5 0
  linked.modTile 63 fun x => { x with inQ := [{ k with hdr := { k.hdr with vn := 2 }, body := beBytes 2 kind ++ zeros 6 }] }
/-- What the hypotheses of `Obligations.WaitingWorkGoesOn` ask (NoticesScoresAndSalts). -/
theorem witness_NoticesScoresAndSalts :
    (∃ r, (noticed 1).takeCtl 63 = some r ∧ beNat (r.1.body.take 2) = 1) ∧ (∃ r, (noticed 2).takeCtl 63 = some r ∧ beNat (r.1.body.take 2) ≠ 1)
    ∧ (let s : State := { linked with clk := { linked.clk with now := 100 * usTicks }, sec := { linked.sec with rngOk := true } }
       s.route.decayAt + s.route.decayUs * usTicks ≤ s.clk.now ∧ s.works = true ∧ s.sec.rngOk = true ∧ s.sec.saltAt + 100 * usTicks ≤ s.clk.now)
    ∧ (∀ i, ((linked.tile i).cong.map (·.1)).Nodup)
    ∧ ({ linked with sec := { linked.sec with rngOk := false } } : State).sec.rngOk = false := by
  refine ⟨⟨_, rfl, by decide +kernel⟩, ⟨_, rfl, by decide +kernel⟩, by decide +kernel, fun i => ?_, rfl⟩
  have : linked.tile i = Tile.reset := rfl
  simp [this, Tile.reset]
/-- Tile 5 holds one packet for QP `qpn`. -/
def arrived (op qpn : Nat) (s : State) : State := s.modTile 5 fun x => { x with expQ := [aPacket op qpn 0] }
def unpinned : State := linked.setQp 5 { aQp with pin := false }
def crowded : State := unpinned.modTile 5 fun x => { x with missQ := List.replicate 32 (aPacket 0 5 0) }
/-- What the hypotheses of `Obligations.PacketRowsAndAnswers` ask (PacketRows). -/
theorem witness_PacketRows :
    ((arrived 13 5 linked).works = true ∧ (arrived 13 5 linked).faults.stopped = false)
    ∧ ((arrived 13 5 linked).nextPacket 5 = some (aPacket 13 5 0, (arrived 13 5 linked).modTile 5 fun x => { x with expQ := [] }))
    ∧ (aPacket 13 5 0).trans.opcode.toNat = 13 ∧ (aPacket 0 5 0).trans.opcode.toNat = 0
    ∧ (arrived 0 69 linked).nextPacket 5 = some (aPacket 0 69 0, (arrived 0 69 linked).modTile 5 fun x => { x with expQ := [] })
    ∧ (arrived 0 5 unpinned).nextPacket 5 = some (aPacket 0 5 0, (arrived 0 5 unpinned).modTile 5 fun x => { x with expQ := [] })
    ∧ (arrived 0 5 crowded).nextPacket 5 = some (aPacket 0 5 0, (arrived 0 5 crowded).modTile 5 fun x => { x with expQ := [] })
    ∧ (∀ op ∈ [0, 1, 2, 3, 8, 9, 12, 13], ((arrived op 5 crowded).modTile 5 fun x => { x with expQ := [] }).takePacket 5 (aPacket op 5 0) = none)
    ∧ (arrived 0 5 linked).nextPacket 5 = some (aPacket 0 5 0, (arrived 0 5 linked).modTile 5 fun x => { x with expQ := [] })
    ∧ (arrived 1 5 linked).nextPacket 5 = some (aPacket 1 5 0, (arrived 1 5 linked).modTile 5 fun x => { x with expQ := [] })
    ∧ (arrived 2 5 linked).nextPacket 5 = some (aPacket 2 5 0, (arrived 2 5 linked).modTile 5 fun x => { x with expQ := [] })
    ∧ (arrived 3 5 linked).nextPacket 5 = some (aPacket 3 5 0, (arrived 3 5 linked).modTile 5 fun x => { x with expQ := [] })
    ∧ (arrived 8 5 linked).nextPacket 5 = some (aPacket 8 5 0, (arrived 8 5 linked).modTile 5 fun x => { x with expQ := [] })
    ∧ (arrived 9 5 linked).nextPacket 5 = some (aPacket 9 5 0, (arrived 9 5 linked).modTile 5 fun x => { x with expQ := [] })
    ∧ (arrived 12 5 linked).nextPacket 5 = some (aPacket 12 5 0, (arrived 12 5 linked).modTile 5 fun x => { x with expQ := [] })
    ∧ linked.wake.qp? 69 = none ∧ (linked.wake.qp? 5 = some aQp ∧ aQp.pin = true)
    ∧ (unpinned.wake.qp? 5 = some { aQp with pin := false } ∧ (unpinned.wake.tile 5).cached.contains 5 = false ∧ (unpinned.wake.tile 5).missQ.length < 32)
    ∧ 32 ≤ (crowded.wake.tile 5).missQ.length := by
  refine ⟨by decide +kernel, rfl, by decide +kernel, by decide +kernel, rfl, rfl, rfl, by decide +kernel, rfl, rfl, rfl, rfl, rfl, rfl, rfl, ?_⟩
  decide +kernel
/-- What the hypotheses of `Obligations.RequestsAtTheTarget` ask (SequenceClasses). -/
theorem witness_SequenceClasses : 1 ≤ 1 ∧ 2 ^ 14 ≤ 2 ^ 14 ∧ seqClass 0xFFFFFF 0 2 = .inWindow ∧ seqClass 0 0xFFFFFF 1 = .recent := by decide
/-- A request at QP 5. -/
def aReq (op psn retry : Nat) (ext payload : List Byte) : Req :=
  let k := aPacket op 5 psn
  { k := k, th := { k.trans with retry := BitVec.ofNat 3 retry }, qpn := 5, slot := 0, psn := psn, ext := ext, payload := payload }
/-- KEY of region 3 with an offset. -/
def aimed (off : Nat) : List Byte := beBytes 4 (3 * 256) ++ zeros 4 ++ beBytes 8 off
def slotAt (placed : Bool) : ReqSlot :=
  { placed := placed, end_ := true, retry := 1, busy := false, again := false, notify := false, ledger := 0, opcode := 0, ssn := 0, bytes := 0, payload := [],
    hdr := (aPacket 0 5 0).hdr, th := (aPacket 0 5 0).trans, ext := [] }
def qpWith (f : Chan → Chan) : Qp := { aQp with chans := [f aChan] }
/-- What the hypotheses of `Obligations.RequestsAtTheTarget` ask. -/
theorem witness_RequestsAtTheTarget :
    seqClass (aQp.chan 0).rcvBase (aReq 0 1000 0 [] []).psn (2 ^ aQp.winLog2) = .stale
    ∧ (let q := qpWith fun c => { c with rcvBase := 5 }
       seqClass (q.chan 0).rcvBase 4 (2 ^ q.winLog2) = .recent ∧ Tbl.get? (q.chan 0).slots 4 = none)
    ∧ (let q := qpWith fun c => { c with slots := [(3, slotAt true)] }
       seqClass (q.chan 0).rcvBase 3 (2 ^ q.winLog2) ≠ .stale ∧ Tbl.get? (q.chan 0).slots 3 = some (slotAt true) ∧ (q.chan 0).tc ≠ 0
         ∧ (aReq 0 3 0 [] []).th.opcode.toNat ≤ 1 ∧ (aReq 3 3 0 [] []).th.opcode.toNat = 3)
    ∧ (let q := qpWith fun c => { c with slots := [(3, slotAt true)], tc := 0 }
       (q.chan 0).tc = 0 ∧ (aReq 0 3 1 [] []).th.retry.toNat = (slotAt true).retry
         ∧ (let x := { slotAt true with hdr := { (slotAt true).hdr with copy := 1 } }
            let q := qpWith fun c => { c with slots := [(3, x)], tc := 0 }
            Tbl.get? (q.chan 0).slots 3 = some x ∧ (q.chan 0).tc = 0 ∧ (aReq 0 3 1 [] []).th.retry.toNat = x.retry
              ∧ x.hdr.copy ≠ (aReq 0 3 1 [] []).k.hdr.copy))
    ∧ (let q := qpWith fun c => { c with ordered := true }
       seqClass (q.chan 0).rcvBase 1 (2 ^ q.winLog2) = .inWindow ∧ Tbl.get? (q.chan 0).slots 1 = none ∧ (q.chan 0).rcvBase = 0 ∧ (q.chan 0).nakBase = none)
    ∧ (let r := aReq 0 255 0 (aimed 0) [1]
       seqClass (aQp.chan 0).rcvBase r.psn (2 ^ aQp.winLog2) = .inWindow ∧ Tbl.get? (aQp.chan 0).slots r.psn = none ∧ (aQp.chan 0).ordered = false
         ∧ aQp.prot = false ∧ r.th.prot = 0 ∧ r.th.opcode.toNat = 0 ∧ linked.accessOf aQp r = .ok aRegion ∧ aRegion.kind = .hbm
         ∧ jobbed.accessOf aQp { r with ext := aimed 2097152 } = .error cBounds) := by decide +kernel
/-- What the hypotheses of `Obligations.RequestsAtTheTarget` ask (AccessChecks). -/
theorem witness_AccessChecks :
    let r := aReq 0 0 0 (aimed 2097151) [1]
    linked.keyRegion 0 = none ∧ (linked.keyRegion (r.w 0 / 2 ^ 32) = some aRegion ∧ aRegion.job = aQp.job)
    ∧ aRegion.job ≠ ({ aQp with job := 2 } : Qp).job ∧ aRegion.size < 2097151 + 2 ∧ 2097151 + 1 ≤ aRegion.size
    ∧ (let g := { aRegion with perm := 0 }
       (linked.setRegion 3 g).keyRegion (r.w 0 / 2 ^ 32) = some g ∧ ∀ b, b < 5 → bit g.perm b = false)
    ∧ (bit aRegion.perm pRemoteAtomic = true ∧ aRegion.prot = aQp.prot ∧ (aReq 3 0 0 (aimed 7) []).th.notify = 0
       ∧ (aReq 3 0 0 (aimed 7) []).th.opcode.toNat = 3 ∧ (aReq 3 0 0 (aimed 7) []).w 1 % 2 ^ 48 % 8 ≠ 0)
    ∧ linked.accessOf aQp r = .ok aRegion := by decide +kernel
def aTrack : Track :=
  { psn := 0, msg := 0, th := (aPacket 0 5 0).trans, ext := [], payload := [], dst := 0, pset := 0, policy := 0, retry := 0, firstSent := 0,
    lastSent := 0, acked := false, ctxRetry := false, backoffAt := some 9 }
def tracked (f : Chan → Chan) : State := linked.setQp 5 (qpWith fun c => f { c with sndNext := 1, tracks := [aTrack] })
/-- What the hypotheses of `Obligations.PacketRowsAndAnswers` ask (AcksAndNaks). -/
theorem witness_AcksAndNaks :
    let a (reason : Nat) : Ans := { k := aPacket 13 5 0, th := (aPacket 13 5 0).trans, qpn := 5, slot := 0, ext := words [at_ reason 32], payload := [] }
    linked.qp? (a 1).qpn = some aQp ∧ (a 1).slot < aQp.chans.length
    ∧ (∀ n ∈ [nSeq, nCtxRetry, nResource, nAccess, nHostGone], bits ((a n).w 0) 39 32 = n)
    ∧ (bits ((a nCtxRetry).w 0) 39 32 = nCtxRetry ∧ bits ((a nResource).w 0) 39 32 = nResource ∧ bits ((a nAccess).w 0) 39 32 = nAccess
       ∧ bits ((a nHostGone).w 0) 39 32 = nHostGone)
    ∧ (let s := tracked fun c => { c with ordered := true }
       let v := (s.count 0x0505 5 qAny 1).modChan 5 0 fun c => { c with asnRx := max c.asnRx (nearest 24 c.asnRx 0) }
       nearest 24 (v.chan 5 0).sndCum (bits ((a 1).w 0) 63 40) = (v.chan 5 0).sndCum ∧ (v.chan 5 0).ordered = true)
    ∧ (let v := (linked.count 0x0505 5 qAny 1).modChan 5 0 fun c => { c with asnRx := max c.asnRx (nearest 24 c.asnRx 0) }
       (v.chan 5 0).ordered = false) := by decide +kernel
/-- What the hypotheses of `Obligations.TransportTimers` ask (ChannelTimers). -/
theorem witness_ChannelTimers :
    (let q := qpWith fun c => { c with ackFrom := some 0 }
     let s := linked.setQp 5 q
     s.qp? 5 = some q ∧ (q.chan 0).ackFrom = some 0 ∧ q.st = .rts ∧ s.works = true)
    ∧ (let s := tracked id
       s.tracker 5 0 0 = some aTrack ∧ s.mayInject = true ∧ aTrack.backoffAt = some 9)
    ∧ (let s := (tracked id).modTile 5 fun x => { x with lost := [aPacket 0 5 0] }
       let lost := (s.modTile 5 fun x => { x with lost := [] }).tpCount 5 9
       (s.tile 5).lost = aPacket 0 5 0 :: [] ∧ (aPacket 0 5 0).trans.srcQpn.toNat = 5 ∧ aQp.slotOf (aPacket 0 5 0).tc = some 0
         ∧ lost.tracker 5 0 (aPacket 0 5 0).trans.psn.toNat = some aTrack ∧ (aPacket 0 5 0).tc ≠ 0 ∧ (aPacket 0 5 0).trans.gen.toNat = aQp.gen
         ∧ aTrack.acked = false ∧ lost.mayInject = true ∧ (lost.qp? 5).isSome = true)
    ∧ (let p : Packet := { aPacket 0 5 0 with hdr := { (aPacket 0 5 0).hdr with tc := 0 } }
       let q := qpWith fun c => { c with tc := 0, sndNext := 1, tracks := [aTrack] }
       let s := (linked.setQp 5 q).modTile 5 fun x => { x with lost := [p] }
       let lost := (s.modTile 5 fun x => { x with lost := [] }).tpCount 5 9
       p.tc = 0 ∧ q.slotOf p.tc = some 0 ∧ lost.qp? 5 = some q ∧ (lost.tracker 5 0 p.trans.psn.toNat).isSome = true) := by decide +kernel
/-- What the hypotheses of `Obligations.TransportTimers` ask (QuarantineAndHolds). -/
theorem witness_QuarantineAndHolds :
    ((linked.setQp 5 { aQp with st := .quarantine, freeing := true }).qp? 5 = some { aQp with st := .quarantine, freeing := true })
    ∧ ((linked.setQp 5 { aQp with st := .quarantine, freeing := false }).qp? 5 = some { aQp with st := .quarantine, freeing := false })
    ∧ (linked.qp? 5 = some aQp ∧ aQp.st ≠ .quarantine)
    ∧ (let s := linked.setRegion 3 { aRegion with hold := some 0 }
       s.region? 3 = some { aRegion with hold := some 0 }) := by decide +kernel
def anInst (started : Bool) : Inst :=
  { num := 0, started := started, ctx := 5, serial := 0, kind := ckBarrier, op := 0, type := 0, exact := false, sat := false, count := 0, slkey := 0,
    sloff := 0, dlkey := 0, dloff := 0, segs := [], arrived := [], arrivalSent := false, release := some 9, late := false, nextOwn := 0, reading := false,
    downs := 0, placing := 0, placed := 0, placedBy := [], lastAt := 0, early := [] }
/-- What the hypotheses of `Obligations.WaitingWorkGoesOn` ask. -/
theorem witness_WaitingWorkGoesOn :
    linked.works = true ∧ linked.pwr.st ≠ .a2
    ∧ (let s := linked.modTile 5 fun x => { x with missQ := [aPacket 0 5 0] }
       s.works = true ∧ (s.tile 5).missQ = aPacket 0 5 0 :: [])
    ∧ (linked.qp? 5 = some aQp ∧ aQp.spilled = false ∧ aQp.fetchingCtx = false)
    ∧ (let x : Node := { aNode with insts := [anInst true], timeoutMs := 1 }
       let s := linked.setNode 0 x
       s.works = true ∧ s.node? 0 = some x ∧ x.insts.find? (fun i => i.started && i.kind == ckBarrier && i.release.isSome) = some (anInst true)
         ∧ (anInst true).release = some 9 ∧ x.insts = [anInst true] ∧ (anInst true).started = true ∧ x.timeoutMs ≠ 0) := by decide +kernel

/-! ### Time, gates and what a port sends -/

/-- Port 63 in a state. -/
def onP63 (f : LinkPort → LinkPort) (s : State) : State := s.setLink 63 (f LinkPort.reset)
def at63 (st : PortSt) : State := onP63 (fun l => { l with st := st }) linked
def timed (t : TimePort) (s : State) : State := s.setTport 63 t
/-- What the hypotheses of `Obligations.TimeSynchronisation` ask (MarkExchange). -/
theorem witness_MarkExchange :
    let s := at63 .active
    let o : OutMark := { seq := 3, t1 := 9, t1now := 9 }
    let reply (seq t1 : Nat) : List Byte := [2, 4] ++ beBytes 2 seq ++ beBytes 8 t1 ++ beBytes 8 9 ++ beBytes 8 9 ++ zeros 36
    ((s.link 63).st.up = true ∧ (s.tport 63).out = none ∧ (s.tport 63).markWait = false ∧ (s.tport 63).markAt = none)
    ∧ ((timed { TimePort.reset with markAt := some 0 } s).tport 63).markAt = some 0
    ∧ (let t := (timed { TimePort.reset with markAt := some 0, out := some o } s).tport 63
       t.out.isSome = true ∧ t.markAt = some 0)
    ∧ (field ([1, 4] ++ zeros 62) 0 1 = 1 ∧ flagStatus (field ([1, 4] ++ zeros 62) 1 1) = some .locked)
    ∧ (let s := timed { TimePort.reset with out := some o } s
       let s : State := { s with clk := { s.clk with nt := 9 + 512000 } }
       (s.tport 63).out = some o ∧ field (reply 3 9) 0 1 = 2 ∧ flagStatus (field (reply 3 9) 1 1) = some .locked
         ∧ (beNat (((reply 3 9).drop 2).take 2) = o.seq.toNat ∧ BitVec.ofNat 64 (beNat (((reply 3 9).drop 4).take 8)) = o.t1
            ∧ ntDiff s.clk.nt o.t1now ≤ 512000 ∧ 0 ≤ (toSigned 64 ((s.clk.nt - o.t1now) - ((9 : U64) - 9)).toNat).tdiv 2
            ∧ (toSigned 64 ((s.clk.nt - o.t1now) - ((9 : U64) - 9)).toNat).tdiv 2 ≤ 256000 ∧ (s.tport 63).link ≠ .locked)
         ∧ beNat (((reply 4 9).drop 2).take 2) ≠ o.seq.toNat)
    ∧ (15 ≤ ({ TimePort.reset with failRun := 15, link := .locked } : TimePort).failRun ∧ LinkTime.locked ≠ LinkTime.lost) ∧ (s.tport 63).failRun < 15 := by
  decide +kernel
/-- What the hypotheses of `Obligations.TimeSynchronisation` ask (ValidSamples). -/
theorem witness_ValidSamples :
    (linked.tport 63).link = .lost
    ∧ (let t : TimePort := { TimePort.reset with link := .acquire, run := List.replicate 7 256 }
       let s := timed t linked
       (s.tport 63).link = .acquire ∧ (((s.validSample 63 0 256 .locked)).tport 63).link = .locked)
    ∧ (timed { TimePort.reset with link := .locked } linked).tport 63 ≠ TimePort.reset
    ∧ (let s : State := { linked with time := { linked.time with parent := some 63, root := false } }
       s.time.parent = some 63 ∧ s.time.root = false) ∧ linked.time.parent ≠ some 63 := by decide +kernel
/-- What the hypotheses of `Obligations.TimeStatusAndGates` ask (TimeStatus). -/
theorem witness_TimeStatus :
    (let s : State := { linked with time := { linked.time with parent := some 5, root := false, status := .holdover, cands := [63, 0xFF, 0xFF, 0xFF] } }
     let s := timed { TimePort.reset with link := .locked, partner := .locked, partnerDepth := 0, fresh := true } s
     (s.tport 5).partner ≠ .locked ∧ s.time.status ≠ .locked
       ∧ s.ranked.find? (fun p => decide (p ≠ 5) && s.takeable p && (s.tport p).partner == .locked) = some 63
       ∧ s.time.status = .holdover ∧ s.time.root = false)
    ∧ linked.time.status ≠ .holdover
    ∧ (let s (nt : U64) : State := { linked with time := { linked.time with root := true, rootRef := 2 }, clk := { linked.clk with nt := nt } }
       (s 0).ppsRoot = true ∧ (s 0).ppsError = 0 ∧ 0 < (s 512).ppsError ∧ (s 512).ppsError.natAbs ≤ 512 ∧ (s (256000000000 - 1)).ppsError < 0
         ∧ (512 < (s 12800).ppsError.natAbs ∧ (s 12800).ppsError.natAbs ≤ 12800) ∧ 12800 < (s 12801).ppsError.natAbs ∧ (s 0).time.refLock = false
         ∧ ({ s 0 with time := { (s 0).time with refLock := true } } : State).ppsRoot = true)
    ∧ (linked.time.ntValid = true ∧ linked.dieRuns = true)
    ∧ ({ linked with pins := { linked.pins with ppsOut := true } } : State).pins.ppsOut = true := by decide +kernel
/-- Port 63's scheduler gates with a first interval that closes class 0. -/
def gated (run : Bool) : State :=
  linked.setSched 63 { SchedPort.reset with gateEn := true, running := run, openMask := if run then 0xFE else 0xFF,
                                            banks := [{ GclBank.reset with entries := [(0, (0xFE, 1000000))] }, GclBank.reset] }
/-- What the hypotheses of `Obligations.TimeStatusAndGates` ask (GatesChange). -/
theorem witness_GatesChange :
    (let x := (gated false).sched 63
     let y := ((gated false).gateSync 63).sched 63
     ¬ (x.active = y.active ∧ x.index = y.index ∧ x.openMask = y.openMask ∧ x.running = y.running))
    ∧ (let x := (gated true).sched 63
       let y := ((gated true).gateSync 63).sched 63
       (x.active = y.active ∧ x.index = y.index ∧ x.openMask = y.openMask ∧ x.running = y.running) ∧ x.gateEn = true
         ∧ (gated true).time.ntValid = true ∧ (x.bank x.active).base.toNat ≤ (gated true).clk.nt.toNat ∧ x.pend = false)
    ∧ (linked.sched 63).boundBadAt = none ∧ (linked.sched 63).gateEn = false
    ∧ ((linked.setSched 63 { SchedPort.reset with boundBadAt := some 0 }).sched 63).boundBadAt = some 0 := by decide +kernel
/-- What the hypotheses of `Obligations.SchedulingAtAPort` ask (FlitBoundaries). -/
theorem witness_FlitBoundaries :
    ((at63 .down).link 63).st = .down ∧ ((at63 .align).gateSync 63).paced 63 = .align
    ∧ (let s := (at63 .active).setLink 63 { LinkPort.reset with st := .active, tx := { LinkTx.reset with slot := 1 } }
       (s.gateSync 63).paced 63 = .none
       ∧ (let s := timed { TimePort.reset with markWait := true, markAt := some 0 } s
          (s.gateSync 63).paced 63 = .mark))
    ∧ (let s := onP63 (fun l => { l with st := .capx, tx := { l.tx with slot := 1 } }) linked
       (s.gateSync 63).paced 63 = .none)
    ∧ (let s := onP63 (fun l => { l with st := .active, tx := { l.tx with slot := 1, lctl := [.ack 0 []] } }) linked
       (s.gateSync 63).paced 63 = .flit (.ack 0 []) []) := by decide +kernel
def aProg (tc : BitVec 3) : TxProg := { pkt := { aPacket 0 5 0 with hdr := { (aPacket 0 5 0).hdr with tc := tc } }, vc := 0, next := 0 }
def sending (p0 p1 : Option TxProg) : State :=
  onP63 (fun l => { l with st := .active, width := 8, tx := { l.tx with prog := [p0, p1], partnerRes := List.replicate 12 130, partnerTotal := 4096 } }) linked
def queued (c : Nat) (s : State) : State :=
  s.modSched 63 fun x => { x with queues := put x.queues c [(aProg (BitVec.ofNat 3 c)).pkt] }
/-- What the hypotheses of `Obligations.SchedulingAtAPort` ask (ExpressGoesFirst). -/
theorem witness_ExpressGoesFirst :
    (let s := sending none (some (aProg 0))
     (s.link 63).tx.replay = none ∧ (s.link 63).tx.escrow.length < 6144 ∧ (s.link 63).tx.prog.getD 1 none = some (aProg 0))
    ∧ (let s := queued 0 (sending none none)
       (s.link 63).tx.prog.getD 1 none = none ∧ ((s.sched 63).queues.getD 0 []).head? = some (aProg 0).pkt
         ∧ 0 ≤ (tc0Bucket (s.link 63) (s.sched 63)).tokensAt s.clk.now ∧ coinsFor (s.link 63) (aProg 0).pkt = true)
    ∧ (let s := sending (some (aProg 1)) none
       (s.link 63).tx.prog.getD 1 none = none ∧ (s.sched 63).queues.getD 0 [] = [] ∧ (s.link 63).tx.prog.getD 0 none = some (aProg 1))
    ∧ (let s := queued 7 (sending none none)
       (s.link 63).tx.prog.getD 0 none = none ∧ (drrChoose (s.sched 63) (s.eligibleClass 63) 300 (s.sched 63)).1 = some 7)
    ∧ (let s := sending none none
       (drrChoose (s.sched 63) (s.eligibleClass 63) 300 (s.sched 63)).1 = none) := by decide +kernel
/-- What the hypotheses of `Obligations.SchedulingAtAPort` ask (DeficitRoundRobin). -/
theorem witness_DeficitRoundRobin :
    let x := (queued 7 (sending none none)).sched 63
    let d : Drr := { deficit := List.replicate 8 0, fresh := List.replicate 8 false, ptr := 0 }
    d.deficit.length = 8 ∧ d.fresh.length = 8 ∧ (drrScan x (fun _ => true) 7 0 d).1 = some 7 := by decide +kernel
/-- What the hypotheses of `Obligations.SchedulingAtAPort` ask (SlotsAndCodewords). -/
theorem witness_SlotsAndCodewords :
    (State.reset.link 63).tx.line.slots.length < 9
    ∧ (((at63 .active).modLink 63 fun l => { l with tx := { l.tx with line := { l.tx.line with slots := List.replicate 9 (2, 0) } } }).link 63).tx.line.slots.length = 9
    ∧ (∀ cw, Lctl.idle ≠ .align cw) := ⟨by decide, by decide, by intro cw h; cases h⟩
/-- What the hypotheses of `Obligations.SchedulingAtAPort` ask (TheCode). -/
theorem witness_TheCode : 513 < 514 ∧ 56 < 57 ∧ (8 = 8 ∧ 7 < 8) ∧ (1 = 1 ∧ 0 < 1) := by decide

/-! ### Cables and bring-up -/

def conned (c : Connector) : State := linked.setConn 15 c
def powered : Connector := { Connector.reset with present := true, vcc := true }
/-- What the hypotheses of `Obligations.CablesAndBringUp` ask (Cables). -/
theorem witness_Cables :
    ((linked.conn 15).present = false) ∧ ((conned powered).conn 15).present = true ∧ ((conned powered).conn 15).vcc = true
    ∧ ((conned powered).conn 15).pg = false
    ∧ (let c := { powered with pg := true }
       ((conned c).conn 15).pg = true ∧ ((conned c).conn 15).accepted = false ∧ ((conned c).conn 15).rejected = false)
    ∧ ((field [2, 0, 0, 15] 0 1 = 1 ∨ field [2, 0, 0, 15] 0 1 = 2) ∧ field [2, 0, 0, 15] 3 1 ≤ 15)
    ∧ ¬ (field [2, 0, 0, 16] 3 1 ≤ 15) := by decide +kernel
def blockOf (w : BitVec 128) : BitVec 128 := w ||| (blockCrc w).setWidth 128
/-- A block of GO with ACK, rates 0 to 3 and width 8. -/
def goBlock : BitVec 128 := blockOf ((0x4B65D31E#32).setWidth 128 <<< 96 ||| 0x2800000#128 <<< 64 ||| 0x780000#128 <<< 64)
def slow (f : LinkTrain → LinkTrain) : State :=
  onP63 (fun l => { l with st := .slow, train := f { l.train with goodRun := List.replicate 8 8, partnerAck := 0xFF } }) linked
/-- What the hypotheses of `Obligations.CablesAndBringUp` ask (BringUpToEqualize). -/
theorem witness_BringUpToEqualize :
    (let s := (onP63 (fun l => { l with st := .detect }) linked).setConn 15 { powered with powerOk := true }
     (s.link 63).st = .detect ∧ s.cableReady 63 = true)
    ∧ ((at63 .clock).link 63).st = .clock ∧ ((at63 .slow).link 63).st = .slow ∧ ((at63 .clock).link 63).st ≠ .slow
    ∧ (goBlock.extractLsb' 96 32 = syncWord ∧ blockGood goBlock = true ∧ (goBlock.extractLsb' 88 4).toNat = 2 ∧ goBlock.getLsbD 87 = true)
    ∧ ((~~~goBlock).extractLsb' 96 32 = ~~~syncWord ∧ blockGood (~~~ ~~~goBlock) = true) ∧ blockGood (goBlock ^^^ 1) = false
    ∧ (let m := (slow fun t => { t with goGot := 16, goSent := 16, partnerRates := 15, partnerMaxWidth := 8 }).link 63
       16 ≤ m.train.goGot ∧ 16 ≤ m.train.goSent ∧ m.targetW ≠ 0 ∧ m.targetR = some 0)
    ∧ ((slow id).link 63).train.goGot < 16 := by decide +kernel
def aCap (seen total : Nat) : List Byte := [6, 1, BitVec.ofNat 8 seen] ++ zeros 17 ++ beBytes 2 total ++ (List.replicate 12 [0, 130]).flatten ++ zeros 18
/-- What the hypotheses of `Obligations.CablesAndBringUp` ask (BringUpToActive). -/
theorem witness_BringUpToActive :
    let tr (st : PortSt) (f : LinkTrain → LinkTrain) : State := onP63 (fun l => { l with st := st, train := f l.train }) linked
    ((at63 .equalize).link 63).st = .equalize ∧ blockGood (blockOf (1 <<< 69)) = true
    ∧ (let t := ((tr .equalize fun t => { t with targetWidth := 8, eqRate := 1 }).link 63).train
       let width := if t.trained = 8 then widthWithin 0x0F t.targetWidth else t.targetWidth
       width ≠ 0 ∧ (∀ i, i < width → (0x0F : BitVec 8).getLsbD i = true) ∧ t.eqRate < 2)
    ∧ (let t := ((tr .equalize fun t => { t with targetWidth := 8, eqRate := 2, trained := 10 }).link 63).train
       let width := if t.trained = 8 then widthWithin 0xFF t.targetWidth else t.targetWidth
       width ≠ 0 ∧ (∀ i, i < width → (0xFF : BitVec 8).getLsbD i = true) ∧ 2 ≤ t.eqRate)
    ∧ ((at63 .align).link 63).st = .align
    ∧ (((at63 .capx).link 63).st = .capx ∧ ((at63 .capx).link 63).train.incompatible = false ∧ ((at63 .capx).link 63).train.capGot = false
       ∧ ((at63 .capx).link 63).train.capSent = false)
    ∧ (((tr .capx fun t => { t with capGot := true, capSeen := true }).link 63).train.capSeen = true)
    ∧ (field (aCap 1 1560) 0 1 = 6 ∧ capCompatible (aCap 1 1560) = true ∧ bit (field (aCap 1 1560) 2 1) 0 = true)
    ∧ ((tr .capx fun t => { t with capSent := true }).link 63).train.capSent = true
    ∧ (field (aCap 1 1559) 0 1 = 6 ∧ capCompatible (aCap 1 1559) = false)
    ∧ ((tr .capx fun t => { t with incompatible := true }).link 63).train.incompatible = true
    ∧ (let d (c : DownCause) : LinkPort := (onP63 (fun l => { l with st := .down, cause := c }) linked).link 63
       (d .disabled).cause = .disabled ∧ (d .isolated).cause = .isolated ∧ (d .power).cause = .power ∧ (d .retrain).cause = .retrain
         ∧ (d .lockLost).cause = .lockLost ∧ (d .lockLost).cfg.autoRetrain = true ∧ (d .lockLost).downs = [] ∧ (d .disabled).st = .down)
    ∧ (let s := onP63 (fun l => { l with st := .down, cause := .disabled }) linked
       (s.link 63).st = .down ∧ (s.link 63).cause = .disabled)
    ∧ (let s := onP63 (fun l => { l with st := .down, cause := .lockLost, downs := List.replicate 8 0, cfg := { l.cfg with autoRetrain := true } }) linked
       (s.link 63).st = .down ∧ 8 ≤ (s.link 63).downs.length)
    ∧ (let s := onP63 (fun l => { l with st := .active, cap := { l.cap with repeats := 1 } }) linked
       (s.link 63).st = .active ∧ (s.link 63).cap.repeats ≠ 0)
    ∧ (let d (auto : Bool) : State := onP63 (fun l => { l with st := .down, cause := .lockLost, downs := List.replicate 8 0,
                                                                cfg := { l.cfg with autoRetrain := auto } }) linked
       let l := (d true).link 63
       ((d false).link 63).cfg.autoRetrain = false ∧ l.cause ≠ .retrain
         ∧ 8 ≤ l.downs.length)
    ∧ (let l := (onP63 (fun l => { l with st := .active, cap := { l.cap with repeats := 1 } }) linked).link 63
       l.st = .active ∧ l.cap.repeats ≠ 0)
    ∧ ((at63 .holdoff).link 63).st = .holdoff := by decide +kernel
/-- What the hypotheses of `Obligations.LinksAndOperatingPoints` ask (LinksUpAndDown). -/
theorem witness_LinksUpAndDown :
    ((at63 .capx).link 63).want = Point.full ∧ ((at63 .capx).link 63).pwant = Point.full ∧ ((at63 .capx).link 63).st.up = false
    ∧ ((at63 .active).link 63).st.up = true := by decide +kernel
/-! ### Link flow, faults, memories -/

def flowing (f : LinkPort → LinkPort) : State := onP63 (fun l => f { l with st := .active }) linked
def anEFlit (n : U16) : EFlit := { seq := n, vc := 0, pkt := aPacket 0 5 0, idx := 0 }
def kept : State := flowing fun l => { l with tx := { l.tx with next := 2, escrow := [anEFlit 0, anEFlit 1] } }
/-- What the hypotheses of `Obligations.FlitsReceived` ask (DataFlits). -/
theorem witness_DataFlits :
    ((flowing id).link 63).st.up = true ∧ ((flowing id).link 63).rx.waiting = false ∧ ((flowing id).link 63).rx.drop = 0
    ∧ ((flowing id).link 63).rx.firstAfter = false ∧ ((flowing id).link 63).rx.ackSince + 1 < 32
    ∧ ((flowing fun l => { l with rx := { l.rx with waiting := true } }).link 63).rx.waiting = true
    ∧ ((flowing fun l => { l with rx := { l.rx with drop := 1 } }).link 63).rx.drop ≠ 0
    ∧ ((flowing fun l => { l with rx := { l.rx with firstAfter := true } }).link 63).rx.firstAfter = true
    ∧ 32 ≤ ((flowing fun l => { l with rx := { l.rx with ackSince := 31 } }).link 63).rx.ackSince + 1 := by decide +kernel
/-- What the hypotheses of `Obligations.FlitsReceived` ask (UncorrectableCodewords). -/
theorem witness_UncorrectableCodewords :
    ((at63 .align).link 63).st = .align ∧ ((at63 .capx).link 63).st = .capx
    ∧ (((flowing id).link 63).st.up = true ∧ ((flowing id).link 63).rx.waiting = false
       ∧ ((flowing fun l => { l with rx := { l.rx with badRun := 62 } }).link 63).rx.badRun < 63)
    ∧ ((flowing fun l => { l with rx := { l.rx with waiting := true } }).link 63).rx.waiting = true
    ∧ 63 ≤ ((flowing fun l => { l with rx := { l.rx with badRun := 63 } }).link 63).rx.badRun := by decide +kernel
/-- What the hypotheses of `Obligations.FlitsReceived` ask (SpoiledCodewords). -/
theorem witness_SpoiledCodewords :
    let i : Injection := { checker := 0x82, arg := 0, mask := 3, left := 1, full := true }
    let s := (flowing id).setCapture 0x23F { (flowing id).capture 0x23F with inject := some i }
    (s.link 63).st.up = true ∧ (s.capture 0x23F).inject = some i ∧ i.checker = 0x82
    ∧ [(0 : Nat), 1, 0, 0, 0, 0, 0, 0].sum + ((List.range 30).filter fun k => i.mask.getLsbD k).length ≤ 13
    ∧ 13 < [(12 : Nat), 0, 0, 0, 0, 0, 0, 0].sum + ((List.range 30).filter fun k => i.mask.getLsbD k).length := by decide +kernel
/-- What the hypotheses of `Obligations.SchedulingAtAPort` ask (FlitBoundaries, step). -/
theorem witness_FlitBoundaries_step :
    let l := (onP63 (fun l => { l with st := .step, tx := { l.tx with slot := 160, switched := some 16 } }) linked).link 63
    let m := (onP63 (fun l => { l with st := .step, tx := { l.tx with slot := 161, switched := some 16 } }) linked).link 63
    l.st = .step ∧ l.tx.slot % 10 = 0 ∧ l.alignDue (l.tx.slot / 10) = true ∧ m.st = .step ∧ m.tx.slot % 10 ≠ 0 := by decide +kernel
/-- What the hypotheses of `Obligations.AcknowledgementAndReplay` ask (AckAndReplayFlits). -/
theorem witness_AckAndReplayFlits :
    let v := kept.modLink 63 fun l => { l with rx := { l.rx with badRun := 0 } }
    let n := v.modLink 63 fun l => { l with ctr := { l.ctr with rreqRx := l.ctr.rreqRx + 1 } }
    (kept.link 63).st.up = true ∧ ((v.applyAck 63 1).link 63).st.up = true ∧ ((v.applyAck 63 3).link 63).st.up = false
    ∧ ((n.applyAck 63 1).link 63).st.up = true ∧ seqGe (kept.link 63).rx.expect 0 = true ∧ seqGe (kept.link 63).rx.expect 1 = false
    ∧ ((at63 .align).link 63).st = .align := by decide +kernel
/-- What the hypotheses of `Obligations.AcknowledgementAndReplay` ask (AcksFreeFlits). -/
theorem witness_AcksFreeFlits :
    seqGe (kept.link 63).tx.next 3 = false ∧ seqGe (kept.link 63).tx.next 2 = true ∧ (kept.link 63).tx.escrow = anEFlit 0 :: [anEFlit 1]
    ∧ (2 ≠ (anEFlit 0).seq ∧ seqGe 2 (anEFlit 0).seq = true) ∧ ((0 : U16) = (anEFlit 0).seq)
    ∧ (seqGe (kept.link 63).tx.next 0xFFFF = true ∧ seqGe 0xFFFF (anEFlit 0).seq = false) := by decide +kernel
/-- What the hypotheses of `Obligations.AcknowledgementAndReplay` ask (ReplaysStart). -/
theorem witness_ReplaysStart :
    (let l := (flowing fun l => { l with tx := { l.tx with replayRun := 8 } }).link 63
     l.cfg.replayLimit ≤ (if l.tx.replayFrom = 0 then l.tx.replayRun else 0) ∧ (if l.tx.replayFrom = 1 then l.tx.replayRun else 0) < l.cfg.replayLimit) := by
  decide +kernel
/-- What the hypotheses of `Obligations.AcknowledgementAndReplay` ask (CoinsReturn). -/
theorem witness_CoinsReturn : 11 < 12 ∧ ((flowing id).link 63).rx.freed.length = 12 := by decide +kernel
/-- What the hypotheses of `Obligations.LinksAndOperatingPoints` ask (LinkTimers). -/
theorem witness_LinkTimers :
    (kept.link 63).st.up = true ∧ (kept.link 63).st ≠ .step ∧ (kept.link 63).tx.escrow = anEFlit 0 :: [anEFlit 1]
    ∧ (let l := (flowing fun l => { l with rx := { l.rx with waiting := true }, tx := { l.tx with creditFrom := some 0 } }).link 63
       l.st.up = true ∧ l.st ≠ .step ∧ l.rx.waiting = true ∧ l.tx.creditFrom = some 0) ∧ ((at63 .step).link 63).st = .step := by decide +kernel
/-- What the hypotheses of `Obligations.LinksAndOperatingPoints` ask (OperatingPoints). -/
theorem witness_OperatingPoints :
    let sw (st : PortSt) (pt : Point) (r : Option U16) : LinkPort :=
      (onP63 (fun l => { l with st := st, tx := { l.tx with switchTo := some (pt, 3), replay := r } }) linked).link 63
    let narrow : Point := { doze := false, width := 4, rate := 0 }
    let slower : Point := { doze := false, width := 8, rate := 1 }
    (sw .active narrow none).st.up = true ∧ (sw .active narrow none).tx.switchTo = some (narrow, 3)
    ∧ (narrow.doze = false ∧ (sw .active narrow none).st = .active ∧ narrow.rate = (sw .active narrow none).rate)
    ∧ (slower.rate ≠ (sw .active slower none).rate ∧ (sw .active slower none).tx.replay = none ∧ (sw .active slower (some 0)).tx.replay ≠ none)
    ∧ (let t := (timed { TimePort.reset with out := some { seq := 3, t1 := 9, t1now := 9 } } linked).tport 63
       t.out ≠ none ∧ (linked.tport 63).out = none)
    ∧ (let m := (onP63 (fun l => { l with st := .active, width := 8, want := narrow }) linked).link 63
       m.st = .active ∧ m.point ≠ m.current ∧ m.tx.switchTo = none ∧ (m.st ≠ .active ∧ m.st ≠ .doze ∨ m.current = m.current))
    ∧ ((at63 .slow).link 63).st ≠ .active ∧ ((at63 .slow).link 63).st ≠ .doze
    ∧ (let s := (timed { TimePort.reset with out := some { seq := 3, t1 := 9, t1now := 9 } } linked).setLink 63 (sw .active slower none)
       (s.tport 63).out ≠ none ∧ (s.link 63).tx.switchTo = some (slower, 3) ∧ (s.link 63).tx.replay = none ∧ (s.link 63).st = .active)
    ∧ (sw .doze narrow none).st = .doze ∧ ((sw .step slower none).st = .step ∧ (sw .step slower none).tx.switchTo = some (slower, 3)) := by decide +kernel
/-- What the hypotheses of `Obligations.EncodingsReadBack` ask (LinkControlFlits). -/
theorem witness_LinkControlFlits : 11 < 12 ∧ (List.replicate 12 (1 : U16)).length = 12 := by decide
def dumping (f : Perf → Perf) : State :=
  { linked with perf := f { linked.perf with running := true, period := 10000, lkey := 3 * 256, n := 1 } }
def aDump : Dump := { seq := 1, nt := 0, lkey := 0, slotOff := 0, bytes := [], accepted := 0 }
/-- What the hypotheses of `Obligations.DetectionsAndSweep` ask. -/
theorem witness_DetectionsAndSweep :
    (linked.dieRuns = true ∧ linked.sourceOk 0x23F = true ∧ linked.faults.scheme = 0 ∧ (linked.capture 0x23F).unwatched = false ∧ linked.pwr.st ≠ .a2)
    ∧ ((linked.setCapture 0 { Capture.reset with unwatched := true }).capture 0).unwatched = true
    ∧ ((dumping id).works = true ∧ (dumping id).perf.running = true)
    ∧ (let n := (dumping id).reachNt (dumping id).nextDump
       n.keyRegion n.perf.lkey.toNat = some aRegion ∧ n.perf.dump = none ∧ n.pwr.st ≠ .a2)
    ∧ (let s := dumping fun f => { f with dump := some aDump }
       let n := s.reachNt s.nextDump
       n.keyRegion n.perf.lkey.toNat = some aRegion ∧ n.perf.dump ≠ none)
    ∧ (let s := dumping fun f => { f with lkey := 0 }
       let n := s.reachNt s.nextDump
       n.keyRegion n.perf.lkey.toNat = none) := by decide +kernel
def aDetection (kind : FaultKind) : Detection := { kind := kind, fatal := false, context := none, infoA := 0, infoB := 0 }
def recorded (n : U32) : State := linked.setCapture 4 { Capture.reset with valid := true, count := n }
/-- What the hypotheses of `Obligations.SourcesCaptureFaults` ask (CapturesKeepTheFirst). -/
theorem witness_CapturesKeepTheFirst :
    (linked.capture 4).valid = false ∧ ((recorded (BitVec.allOnes 32)).capture 4).valid = true ∧ ((recorded 0).capture 4).count ≠ BitVec.allOnes 32
    ∧ sevValue ((recorded 0).capture 4).highestSev < sevValue (Sev.of .stateLost false) := by decide +kernel
/-- What the hypotheses of `Obligations.SourcesCaptureFaults` ask (SevereFirst). -/
theorem witness_SevereFirst : linked.dieRuns = true ∧ linked.sourceOk 4 = true := by decide +kernel
/-- What the hypotheses of `Obligations.SourcesCaptureFaults` ask (FaultsAreCaptured). -/
theorem witness_FaultsAreCaptured :
    (3 ≠ 4 ∧ linked.allClear = true ∧ linked.faults.scheme = 0) ∧ (recorded 0).allClear = false := by decide +kernel
/-- What the hypotheses of `Obligations.MemoriesReadBack` ask. -/
theorem witness_MemoriesReadBack : Memory.wf [] ∧ Memory.wf (Memory.write [] 3 [1, 2]) := by decide +kernel
def aReceive (mask : U64) (any : Bool) : Posted :=
  { entry := 0, pseq := 0, cookie := 0, tagv := 7, mask := mask, rank := 1, any := any, comm := 2, cqe := true, ledger := none, lkey := 0, length := 0, loff := 0 }
def aMessage : InMsg :=
  { id := 0, qpn := 5, slot := 0, ssn := 0, comm := 2, rank := 3, tagv := 7, msgLen := 0, rndv := false, rkey := 0, offset := 0, haveFirst := true,
    queued := false, presented := true, aseq := 0, entry := 0, pool := none, complete := true, pair := none, parts := [], staging := 0, copies := 0, gets := 0, code := 0,
    conn := 0, ended := false }
/-- What the hypotheses of `Obligations.MatchRule` ask. -/
theorem witness_MatchRule :
    (aReceive 0 true).matches aMessage = true ∧ (aReceive (BitVec.allOnes 64) true).matches aMessage = true ∧ (aReceive 0 false).matches aMessage = false := by
  decide +kernel

end Sys2Proof.Tests
end

