-- ==== Sys2Proof/WellFormed.lean ====
section
/-! DEFINITION. Which commands are well formed: operands within the ranges the spec gives the things they name. An ill-formed command names
nothing of the module. -/
namespace Sys2Proof

/-- A QPN (R163). -/
def qpnOk (q : Nat) : Bool := decide (q < 4194304)
/-- A PSN (R178). -/
def psnOk (n : Nat) : Bool := decide (n < 16777216)
/-- A VIN reading in mV, in the 17 bits of its register (R501). -/
def vinOk (n : Nat) : Bool := decide (n < 131072)
/-- A VCORE reading in mV, in the 10 bits of its register (R501). -/
def vcoreOk (n : Nat) : Bool := decide (n < 1024)
/-- A temperature in the 8 bits of its register (R501). -/
def celsiusOk (n : Nat) : Bool := decide (n < 256)
/-- A current in mA, in the 16 bits of its register (R501). -/
def maOk (n : Nat) : Bool := decide (n < 65536)
/-- A fault source's number (R502). -/
def srcOk (n : Nat) : Bool :=
  n ≤ 5 || (0x10 ≤ n && n < 0x14) || (0x20 ≤ n && n < 0x33) || (0x80 ≤ n && n < 0x150) || (0x200 ≤ n && n < 0x240) || (0x300 ≤ n && n < 0x304)
/-- One reading per supply region. -/
def fourOk (ok : Nat → Bool) (l : List Nat) : Bool := l.length == 4 && l.all ok
/-- A flit's 64 bytes (R72). -/
def flitOk (b : List (BitVec 8)) : Bool := b.length == 64
/-- The symbols corrected on each lane of a codeword that was decoded: at most 13 in all (R431). -/
def correctedOk : Option (List Nat) → Bool
  | none => true
  | some l => l.length == 8 && decide (l.sum ≤ 13)
/-- A PCI Express link's speed 1 to 6 and width 1 to 16 (R322, R323). -/
def linkOk (speed width : Nat) : Bool := 1 ≤ speed && speed ≤ 6 && [1, 2, 4, 8, 16].contains width
/-- A request of at most 4,096 bytes within a BAR (R544). -/
def barOk (off n : Nat) : Bool := decide (off < 2 ^ 37) && decide (1 ≤ n) && decide (n ≤ 4096)

/-- A command is well formed. -/
def Instr.wf : Instr → Bool
  | .vaultRngFail test => decide (test < 2 ^ 32)
  | .efuseRampDone ma | .curveTrip _ ma => maOk ma
  | .pwrGoodAssert vin ma vcore => vinOk vin && maOk ma && fourOk vcoreOk vcore
  | .efuseRetry tj => fourOk celsiusOk tj
  | .vinSag mv | .vinReset mv | .vinOvervoltage mv => vinOk mv
  | .vcoreLow _ mv | .vcoreReset _ mv => vcoreOk mv
  | .tempHigh _ c | .tempShutdown _ c => celsiusOk c
  | .coolantWarn inlet flow => celsiusOk inlet && decide (flow < 65536)
  | .regionSkew vcore tj => fourOk vcoreOk vcore && fourOk celsiusOk tj
  | .hostArrived _ speed width => linkOk speed width
  | .dmaReadCompletion _ _ _ data => decide (data.length ≤ 4096)
  | .bar4Read _ off n => barOk off n
  | .bar4Write _ off data => barOk off data.length
  | .audSrcClear _ n => srcOk n
  | .bmcBciRequest msg => decide (20 ≤ msg.length) && decide (msg.length ≤ 1028)
  | .packetArrival _ vc => decide (vc < 12)
  | .ackDelayTimer qpn _ | .messagePresent qpn _ | .quarantineExpiry qpn | .spilledContextFetchDone qpn => qpnOk qpn
  | .rtoExpiry qpn _ psn | .lifeLimitExpiry qpn _ psn | .nakBackoffExpiry qpn _ psn => qpnOk qpn && psnOk psn
  | .regionHoldExpiry index => decide (index < 1048576)
  | .tellerEscalationDone c => decide (c < 4096)
  | .barrierRelease n | .collTimeout n => decide (n < 16384)
  | .markFlit _ b | .replyFlit _ b => flitOk b
  | .capFlit _ c => flitOk c
  | .dataFlit _ _ cw flit => flitOk flit && correctedOk cw
  | .pstateRequest _ _ width rate | .pstateSwitch _ _ width rate _ => [1, 2, 4, 8].contains width && decide (rate < 4)
  | .downFlit _ cause | .replayReqFlit _ _ cause | .replayStartFlit _ _ cause => decide (cause < 256)
  | .cableIdReadDone _ mem => decide (mem.length ≤ 256)
  | .faultDetect src given ds => srcOk src && decide (given < 256) && !ds.isEmpty
  | .wireFault src _ | .unwatchedPoll src | .handshakeStall src _ | .wirePairRestored src => srcOk src
  | _ => true

end Sys2Proof
end

