-- ==== Sys2Proof/Tests/Slice0.lean ====
section
/-! SUPPORT. Tests: an ill-formed command for each check of WellFormed, and single commands whose results the spec gives. -/
namespace Sys2Proof.Tests
open Sys2Proof.Machine
set_option maxRecDepth 100000
set_option Elab.async false

/-! ### Contacts -/

/-- 38 contacts are long, 1,112 standard and 2 short (R470); 66 signals and 6 reserved contacts a host port (R471); 248 a front connector (R476). -/
theorem test_contacts :
    [ContactLen.long, .standard, .short].map (fun l => (contacts.filter fun e => contactLen e.1 e.2 == l).length) = [38, 1112, 2]
    ∧ ((contacts.filter fun e => 19 ≤ e.1 && contactAt e.1 e.2 == .gnd).length, (contacts.filter fun e => contactAt e.1 e.2 == .reserved).length) = (791, 22)
    ∧ (frontContacts 3).length = 248 ∧ (contactAt 96 12, contactAt 43 1, contactAt 58 2) = (.seatB, .hpRefclk 0 false, .hpTx 1 0 true) := by decide

/-! ### Ill-formed commands -/

theorem wf_refuses_power_readings :
    [Instr.vaultRngFail (2 ^ 32), .efuseRampDone 65536, .curveTrip 0 65536, .pwrGoodAssert 131072 0 [0, 0, 0, 0], .pwrGoodAssert 0 65536 [0, 0, 0, 0],
     .pwrGoodAssert 0 0 [0, 0, 0], .pwrGoodAssert 0 0 [0, 0, 0, 1024], .efuseRetry [0, 0, 0, 256], .vinSag 131072, .vinReset 131072,
     .vinOvervoltage 131072, .vcoreLow 0 1024, .vcoreReset 0 1024, .tempHigh 0 256, .tempShutdown 0 256, .coolantWarn 256 0, .coolantWarn 0 65536,
     .regionSkew [0, 0, 0] [0, 0, 0, 0], .regionSkew [0, 0, 0, 0] [0]].all (fun i => !i.wf) = true := by decide
theorem wf_refuses_host_accesses :
    [Instr.hostArrived 0 7 16, .hostArrived 0 6 3, .dmaReadCompletion 0 0 true (List.replicate 4097 0), .bar4Read 0 (2 ^ 37) 4, .bar4Read 0 0 4097,
     .bar4Read 0 0 0, .bar4Write 0 0 [], .audSrcClear 0 0x150, .bmcBciRequest (List.replicate 19 0), .bmcBciRequest (List.replicate 1029 0)].all
      (fun i => !i.wf) = true := by decide
theorem wf_refuses_transport_numbers :
    [Instr.packetArrival 0 12, .ackDelayTimer 4194304 0, .rtoExpiry 4194304 0 0, .rtoExpiry 0 0 16777216, .lifeLimitExpiry 0 0 16777216,
     .nakBackoffExpiry 0 0 16777216, .messagePresent 4194304 0, .quarantineExpiry 4194304, .spilledContextFetchDone 4194304, .regionHoldExpiry 1048576,
     .tellerEscalationDone 4096, .barrierRelease 16384, .collTimeout 16384].all (fun i => !i.wf) = true := by decide
theorem wf_refuses_link_operands :
    [Instr.markFlit 0 [], .replyFlit 0 (zeros 65), .capFlit 0 (zeros 63), .dataFlit 0 0 none [],
     .dataFlit 0 0 (some [14, 0, 0, 0, 0, 0, 0, 0]) (zeros 64), .dataFlit 0 0 (some []) (zeros 64), .pstateRequest 0 false 3 0, .pstateRequest 0 false 8 4,
     .pstateSwitch 0 false 16 0 0, .downFlit 0 256, .replayReqFlit 0 0 256, .replayStartFlit 0 0 256, .cableIdReadDone 0 (zeros 257)].all
      (fun i => !i.wf) = true := by decide
theorem wf_refuses_fault_sources :
    [Instr.faultDetect 6 0 [{ kind := .torusCorrected, fatal := false, context := none, infoA := 0, infoB := 0 }], .faultDetect 4 0 [],
     .faultDetect 4 256 [{ kind := .torusCorrected, fatal := false, context := none, infoA := 0, infoB := 0 }], .wireFault 0x1F 0, .unwatchedPoll 0x304,
     .handshakeStall 0x240 0, .wirePairRestored 0x33].all (fun i => !i.wf) = true := by decide

/-! ### The queue -/

/-- With nothing waiting a step is one tick (log 57). -/
theorem test_idle_step : step State.reset = .next (State.reset.passTime 1) ∧ (State.reset.passTime 1).clk.now = 1 :=
  ⟨rfl, by decide +kernel⟩
/-- The first of two commands runs, and the second stays. -/
theorem test_front_of_queue : ∃ t, step { asleep with pending := [.modResetAssert 11, .heartbeat] } = .next t ∧ t.pending = [.heartbeat]
    ∧ t.pins.modReset = true := ⟨_, rfl, by decide +kernel⟩

/-! ### Power (R480 to R501) -/

/-- A pulse shorter than T_RST_GL is ignored. -/
theorem test_reset_glitch : (after (.modResetAssert 0) running).boot.inReset = false := by decide +kernel
theorem test_reset_pulse : (after (.modResetAssert 11) running).boot.inReset = true ∧ (after (.modResetAssert 11) running).pwr.gate = .on := by
  decide +kernel
/-- The shorted converter: the ninth attempt trips with USED equal to COUNT, and the eFuse latches off. -/
theorem test_shorted_converter :
    let s := asleep.modPwr fun x => { x with gate := .ramping, tripped := true, used := 7 }
    (after .rampTimeout s).pwr.latched = true ∧ (after .rampTimeout s).pwr.lastCause = .rampTimeout ∧ (after .rampTimeout s).pwr.faultN = true := by
  decide +kernel
/-- Its first trip leaves USED at 0. -/
theorem test_first_trip :
    let s := asleep.modPwr fun x => { x with gate := .ramping }
    (after .rampTimeout s).pwr.used = 0 ∧ (after .rampTimeout s).pwr.latched = false := by decide +kernel
/-- VIN below 44.0 V warns; 43.9 V sets bit 0. -/
theorem test_vin_sag : (after (.vinSag 43999) running).sup.intStatus = 1 ∧ (after (.vinSag 43999) running).sup.vinMv = 43999 := by decide +kernel
/-- Below 38.0 V the die is in device reset; the eFuse is not touched (R493). -/
theorem test_vin_reset : (after (.vinReset 37999) running).boot.inReset = true ∧ (after (.vinReset 37999) running).pwr.gate = .on := by decide +kernel

/-! ### Host, registers and mailboxes -/

/-- A host arrives: ARRIVED is bit 3, its mailbox is the reset one. -/
theorem test_host_arrives :
    let s := { running with pins := hosted.pins }
    (after (.hostArrived 2 5 16) (after (.configSpaceReady 2) s)).ep 2 = { Endpoint.reset with configured := true, linkUp := true, dlUp := true, speed := 5, width := 16, intStatus := 8 } := by
  decide +kernel
/-- The host's AtomicOp ends as Unsupported Request (R340). -/
theorem test_host_atomicop : (after (.hostAtomicop 0 0 true) hosted).out = [.unsupported ⟨0, 0⟩] := by decide +kernel
/-- NT_NOW_LO latches the upper half of NT for its reader alone (R57). -/
theorem test_nt_latch :
    let s : State := { hosted with clk := { hosted.clk with nt := 0x123456789 } }
    ((after (.ntNowLoRead 0 0) s).func ⟨0, 0⟩).ntLatch = 1 ∧ ((after (.ntNowLoRead 0 0) s).func ⟨0, 1⟩).ntLatch = 0 := by decide +kernel
/-- A doorbell with BUSY set sets OVERRUN and changes nothing else (R349). -/
theorem test_doorbell_busy :
    ((after (.mbxDoorbell 0 7) (asked hosted 0 0 [])).box 0) = { (asked hosted 0 0 []).box 0 with overrun := true } := by decide +kernel
/-- A NOP is answered OK: result 0, the request's SEQ, no payload (R350 to R355). -/
theorem test_nop : let b := (after (.nop 0) (asked hosted 0 0 [])).box 0
    b.busy = false ∧ b.done = true ∧ b.rspSeq = 1 ∧ Memory.read b.rsp 0 16 = [0, 0, 0, 0, 1, 0, 0, 0, 0, 0, 0, 0, 0, 0, 0, 0] := by decide +kernel
/-- A LENGTH that the layout does not require is answered BAD_LENGTH, code 4 (R353). -/
theorem test_bad_length : Memory.read ((after (.nop 0) (asked hosted 0 0 [1])).box 0).rsp 8 2 = [4, 0] := by decide +kernel
/-! ### The spec's worked examples -/

/-- Network time, one exchange: C runs 180 ticks ahead, and the cable delay is 2,560 ticks. -/
theorem test_time_exchange :
    let o : OutMark := { seq := 0x0412, t1 := 4096000, t1now := 4096000 }
    let s := timed { TimePort.reset with out := some o } (at63 .active)
    let s : State := { s with clk := { s.clk with nt := 4177920 } }
    let b : List Byte := [2, 4] ++ beBytes 2 0x0412 ++ beBytes 8 4096000 ++ beBytes 8 4098380 ++ beBytes 8 4175180 ++ zeros 36
    ((after (.replyFlit 63 b) s).tport 63).theta = 180 ∧ ((after (.replyFlit 63 b) s).tport 63).delay = 2560 := by decide +kernel
/-- Network time, parent change: the sixteenth failed sample makes the port LOST and the module HOLDOVER. -/
theorem test_parent_lost :
    let s : State := timed { TimePort.reset with failRun := 15, link := .locked, out := some { seq := 3, t1 := 9, t1now := 9 } } (at63 .active)
    let s : State := { s with time := { s.time with root := false, parent := some 63, status := .locked } }
    ((after (.replyDeadline 63) s).tport 63).link = .lost ∧ (after (.replyDeadline 63) s).time.status = .holdover
      ∧ (after (.replyDeadline 63) s).time.parent = none := by decide +kernel
/-- Where the beats of a packet of network VN arrive over each hop: tile and on-chip VC. -/
def travel (vn plane src dst : Nat) : List (Nat × Nat) :=
  let rec go : Nat → Nat → Beat → List (Nat × Nat)
    | 0, _, _ => []
    | n + 1, key, b => if b.out = 4 then [] else (keyTile (b.hop key).1, (b.hop key).1 % 8) :: go n (b.hop key).1 (b.hop key).2
  go 9 (queueKey plane src 4 (2 * vn)) { load := 0, last := true, legs := srtLegs plane src dst, cls := 0 }
/-- The torus, two copies of a TC0 packet from T06 to T41: the tiles they reach and their VCs, as the spec's worked example has them. -/
theorem test_torus_copies :
    travel 3 0 6 41 = [(7, 6), (0, 7), (1, 7), (57, 7), (49, 7), (41, 7)]
    ∧ travel 3 1 6 41 = [(62, 7), (54, 7), (46, 7), (47, 6), (40, 7), (41, 7)] := by decide
/-- The host reads through BAR4: the request crosses the torus to HBM gateway, and the data comes back to the host. -/
theorem test_bar4_read :
    let s := windowed.modMem fun m => { m with cells := [(poolBase + 255, 7), (poolBase + 256, 8)] }
    (after (.bar4Read 0 255 2) s).out = s.out ++ [.readData (pf 0) [7, 8]] ∧ (after (.bar4Read 0 255 2) s).net.loads = [] := by decide +kernel
/-- HBM, a 1 GiB stride under key 0x803F: i = 1, 2, 3 and 127. -/
theorem test_hbm_stride : [1, 2, 3, 127].map (fun i => pcOf 0x803F (i * 2 ^ 30)) = [0x06, 0x0C, 0x0A, 0x00] := by decide +kernel
/-- Candidate weights 32, 32, 32, 0, 32: the share of each of the 128 values drawn. -/
theorem test_candidate_weights : (List.range 5).map (fun i => ((List.range 128).filter fun x => pickWeight [32, 32, 32, 0, 32] 0 x = i).length) = [32, 32, 32, 0, 32] := by
  decide +kernel
/-- A minimal path: module (2, 6) of group 5 may send to columns 0 and 3 of its row, which lead toward positions (2, 0) and (4, 3). -/
theorem test_minimal_path :
    let l := { LinkPort.reset with st := .active, cap := { LinkPort.reset.cap with partner := [0, 0, 2] ++ zeros 61 } }
    let row (p : Nat) (s : State) : State := (s.setLink p l).setRport p { RPort.reset with role := { role := 1, index := p, group := 0, en := true } }
    let s := row 0 (row 1 (row 3 running))
    let s : State := { s with route := { s.route with group := 5, position := 22, systemGroups := 2048, exits := [(300, 2 ^ 16 + 2 ^ 35)] } }
    let h : RouteHdr := { goodHdr with dst := 0x12CE6, cls := 1, level := 0, tc := 2 }
    s.nextPorts h Permit.all = .ports [0, 3] := by decide +kernel
/-- A late original: PSN 1,001 with base 1,180 and WIN 256 is RECENT, and with a base beyond 1,257 STALE. -/
theorem test_late_original : seqClass 1180 1001 256 = .recent ∧ seqClass 1257 1001 256 = .recent ∧ seqClass 1258 1001 256 = .stale := by decide
/-- Matching, steps 4 and 5 of the trace: M1 pairs with A (PSEQ 41), and then M2 with B (PSEQ 42), which was posted before C. -/
def aTrace (posted : List Posted) : Domain := { aDomain with posted := posted }
def tracePost (pseq : Nat) (any : Bool) : Posted :=
  { aReceive (BitVec.allOnes 64) any with pseq := pseq, tagv := 100, rank := 3, comm := 7 }
def traceMsg : InMsg := { aMessage with comm := 7, rank := 3, tagv := 100 }
theorem test_match_trace :
    (aTrace [tracePost 41 false, tracePost 42 true, tracePost 43 false]).findPosted traceMsg = some (tracePost 41 false)
    ∧ (aTrace [tracePost 42 true, tracePost 43 false]).findPosted traceMsg = some (tracePost 42 true)
    ∧ (aTrace [tracePost 43 false]).findPosted traceMsg = some (tracePost 43 false) := by
  simp [Domain.findPosted, Domain.binPosted, Domain.wild, Posted.exact, Posted.matches, aTrace, tracePost, traceMsg, aReceive]
/-- A timed inline PUT: the bytes of slot 254, and PHASE of index 300 in a ring of 256. -/
theorem test_timing_entry :
    let e := leBytes 8 0x000005140503010D ++ zeros 56
    field e 0 1 = opTiming ∧ bit (field e 1 1) 0 = true ∧ bit (field e 1 1) 1 = false ∧ phaseOf 8 300 = 0 ∧ phaseOf 8 255 = 1 := by decide
/-- Escalation on one tile: PLANE_DOWN after a captured TORUS_CORRECTED makes HIGHEST_SEV UC, keeps the record, and takes plane A out. -/
theorem test_escalation :
    let d (kind : FaultKind) : Detection := { kind := kind, fatal := false, context := none, infoA := 0, infoB := 0 }
    let s := after (.faultDetect 0x10C 0 [d .torusCorrected]) running
    let t := after (.faultDetect 0x10C 0 [d .planeDown]) s
    (s.capture 0x10C).firstSev = .ce ∧ s.planes = [true, true] ∧ (t.capture 0x10C).count = 1 ∧ (t.capture 0x10C).highestSev = .uc
      ∧ (t.capture 0x10C).second = true ∧ ((t.capture 0x10C).record.map (·.kind)) = some .torusCorrected ∧ t.planes = [false, true] := by decide +kernel
/-- A replay across the wrap: REPLAY_REQ for 0 acknowledges 0xFFF8 to 0xFFFF, and the replay starts from 0. -/
theorem test_replay_wrap :
    let s := flowing fun l => { l with tx := { l.tx with next := 2, escrow := [anEFlit 0xFFFE, anEFlit 0xFFFF, anEFlit 0, anEFlit 1] } }
    let t := after (.replayReqFlit 63 0 1) s
    (t.link 63).tx.escrow = [anEFlit 0, anEFlit 1] ∧ (t.link 63).tx.replay = some 0 ∧ (t.link 63).ctr.replays = 1 := by decide +kernel
/-! ### BCI commands -/

/-- The result code and DETAIL of the answer in mailbox `m`. -/
def answer (s : State) (m : Nat) : List Byte := Memory.read (s.box m).rsp 8 4
/-- In recovery a command outside the firmware group is answered RECOVERY_ONLY, code 13 (R365). -/
theorem test_recovery_only :
    answer (after (.nop 0) (asked { hosted with boot := { hosted.boot with alive := .recovery } } 0 0 [])) 0 = [13, 0, 0, 0] := by decide +kernel
/-- PF 1 is not the management PF, so its TIME_SET_LT is DENIED, code 6. -/
theorem test_denied : answer (after (.timeSetLt 1) (asked hosted 1 cTimeSetLt.code (leBytes 2 3125))) 1 = [6, 0, 0, 0] := by decide +kernel
/-- TIME_SET_LT takes UNITS. -/
theorem test_time_set_lt :
    (after (.timeSetLt 0) (asked hosted 0 cTimeSetLt.code (leBytes 2 4000))).time.lt = 4000 := by decide +kernel
/-- A job whose range overlaps a valid job's is refused, and one beside it is not (R67). -/
theorem test_job_ranges :
    let p (base : Nat) := leBytes 8 2 ++ leBytes 8 (base + 4 * 2 ^ 22 + 2 ^ 63)
    ((after (.jobCreate 0) (asked jobbed 0 cJobCreate.code (p 1))).job? 2).isSome = false
    ∧ ((after (.jobCreate 0) (asked jobbed 0 cJobCreate.code (p 2))).job? 2).isSome = true
    ∧ ((after (.jobCreate 0) (asked jobbed 0 cJobCreate.code (p 4194300))).job? 2).isSome = true
    ∧ ((after (.jobCreate 0) (asked jobbed 0 cJobCreate.code (p 4194301))).job? 2).isSome = false := by decide +kernel
/-- FAULT_REACTION without LOG is BAD_PARAM, code 5 (R514). -/
theorem test_reaction_without_log :
    (answer (after (.faultReaction 0) (asked hosted 0 cFaultReaction.code [0x0A, 2])) 0).take 2 = [5, 0]
    ∧ (answer (after (.faultReaction 0) (asked hosted 0 cFaultReaction.code [0x0A, 3])) 0).take 2 = [0, 0] := by decide +kernel
/-- A PERF_SELECT zeroes the counter it selects anew (R526). -/
theorem test_perf_select :
    let s := hosted.setCtr 2047 { hosted.ctr 2047 with count := 9 }
    let p := leBytes 2 2047 ++ leBytes 2 0x0202 ++ leBytes 2 0xFFFF ++ zeros 2
    ((after (.perfSelect 0) (asked s 0 cPerfSelect.code p)).ctr 2047).event = 0x0202
    ∧ ((after (.perfSelect 0) (asked s 0 cPerfSelect.code p)).ctr 2047).count = 0 := by decide +kernel

/-! ### Rings, ledgers and atomics -/

/-- SQ_TAIL may lead SQ_HEAD by the ring's size and no more (R378). -/
theorem test_sq_tail :
    ((after (.sqTailDoorbell 0 0 5 64) linked).ctx? 5).map (·.sqTail) = some 64
    ∧ ((after (.sqTailDoorbell 0 0 5 65) linked).ctx? 5).map (·.sqTail) = some 0 := by decide +kernel
/-- A configuration with SQ_LOG2 17 sets CFG_ERR and leaves the ring off (R375). -/
theorem test_ring_configuration :
    let off : Ctx := { aCtx with enable := false, idle := true }
    (((after (.ringEnable 0 0 5) (aRing fun _ => { off with sqLog2 := 17 })).ctx? 5).map (·.enable)) = some false
    ∧ (((after (.ringEnable 0 0 5) (aRing fun _ => off)).ctx? 5).map (·.enable)) = some true := by decide +kernel

/-! ### Links -/

/-- Eight declarations within 10 s take the port to HOLDOFF (R443). -/
theorem test_holdoff :
    let s (n : Nat) : State := flowing fun l => { l with downs := List.replicate n 0 }
    ((after (.downTimer 63) (after (.downFlit 63 9) (s 7))).link 63).st = .holdoff
    ∧ ((after (.downTimer 63) (after (.downFlit 63 9) (s 6))).link 63).st = .detect := by decide +kernel
/-- A DOWN flit brings the link down with cause PARTNER_DOWN, 9 (R457). -/
theorem test_partner_down : ((after (.downFlit 63 4) (flowing id)).link 63).cause = .partnerDown := by decide +kernel
/-- A clock lost gives CLOCK_LOST and a DE record LINK_BROKEN of the port's source (R457). -/
theorem test_clock_lost :
    ((after (.clockLost 63) (flowing id)).link 63).cause = .clockLost
    ∧ (((after (.clockLost 63) (flowing id)).capture 0x23F).record.map fun r => (r.kind, r.sev)) = some (.linkBroken, .de) := by decide +kernel
/-- An ACK frees the escrow up to it (R446). -/
theorem test_ack : ((after (.ackFlit 63 1 (List.replicate 12 0)) kept).link 63).tx.escrow = [anEFlit 1] := by decide +kernel
/-- The 64th consecutive uncorrectable codeword loses the lock (R457). -/
theorem test_uncorrectable :
    ((after (.uncorrectableCodeword 63 0) (flowing fun l => { l with rx := { l.rx with badRun := 63 } })).link 63).cause = .lockLost
    ∧ ((after (.uncorrectableCodeword 63 0) (flowing id)).link 63).rx.waiting = true := by decide +kernel
/-- A cable that holds its power-good is powered; one over its current is not, and its ports hear of it (R477). -/
theorem test_cable :
    ((after (.cableInserted 15) linked).conn 15).present = true ∧ ((after (.cableInserted 15) linked).conn 15).vcc = true
    ∧ ((after (.cableOvercurrent 15) (conned powered)).conn 15).vcc = false := by decide +kernel

/-! ### Words and numbers -/

/-- Rounding to E4M3 of an FP32 carrier: 1.0625 lies between 1 and 1.125 and goes to the even 1; 480 overflows to NaN, or to 448. -/
theorem test_fp8_rounding :
    fromCarrier 8 false 0x3F880000 = 0x38 ∧ fromCarrier 8 false 0x43F00000 = 0x7F ∧ fromCarrier 8 true 0x43F00000 = 0x7E := by decide +kernel
/-- The sum of 1 and 2 as FP32, and 2^24 + 1, which rounds to even. -/
theorem test_fp32_sum : fmtFP32.add 0x3F800000 0x40000000 = 0x40400000 ∧ fmtFP32.add 0x4B800000 0x3F800000 = 0x4B800000 := by decide +kernel

end Sys2Proof.Tests
end

section
/-! PROOFS. BCI requests refused for a field of their payload (R353, R368, R555), and the ranges of jobs (R67). -/
namespace Sys2Proof.Machine

/-- A field that is not in order makes the payload's checks fail. -/
theorem badParam_of_bad_field {fs : List Fld} {p : List Byte} {f : Fld} (hf : f ∈ fs) (hbad : f.ok = false) :
    ∃ off, badParam fs p = some off := by
  have hmem : f.off ∈ (fs.filter fun g => !g.ok).map (·.off) := List.mem_map_of_mem (List.mem_filter.mpr ⟨hf, by simp [hbad]⟩)
  exact Option.isSome_iff_exists.mp (List.isSome_min?_of_mem (List.mem_append_left _ hmem))

/-- An answer leaves the routes and the jobs as they were. -/
@[simp] theorem State.reply_route (s : State) (m : Nat) (r : BciReq) (result detail : Nat) (token : U32) (p : List Byte) :
    (s.reply m r result detail token p).route = s.route := by
  unfold State.reply
  extract_lets
  split
  · rfl
  · split
    · exact State.raise_route _ _ _
    · rfl

/-- A short command that reaches its payload's checks with a field out of order is answered BAD_PARAM. -/
theorem State.bci_bad_field {s : State} {m : Fin 5} {c : BciCmd} {len : List Byte → Nat} {fs : List Byte → List Fld} {r : BciReq} {f : Fld}
    (work : List Byte → Res) (hreq : s.request? m c.code = some (r, false)) (hlen : r.len = len r.payload) (havail : s.unavailable m c = none)
    (hwho : s.mayIssue m c.who = true) (hshort : c.long = false) (hf : f ∈ fs r.payload) (hbad : f.ok = false) :
    ∃ off, s.bci m c len fs work = s.reply m r rBadParam off 0 [] := by
  obtain ⟨off, hoff⟩ := badParam_of_bad_field (p := r.payload) hf hbad
  exact ⟨off, by simp [State.bci, hreq, hlen, havail, hwho, hshort, hoff, State.refuseBci, detailOf]⟩

/-- A range that reaches past the last index puts the bytes of BASE and COUNT out of order. -/
theorem fieldsJobCreate_past_end {s : State} {p : List Byte}
    (h : rankEntries < (JobDesc.ofWord (field p 8 8)).base + (JobDesc.ofWord (field p 8 8)).count) :
    ∃ f ∈ fieldsJobCreate s p, f.ok = false := by
  refine ⟨fIf p 10 4 fun _ => decide (1 ≤ (JobDesc.ofWord (field p 8 8)).count
    ∧ (JobDesc.ofWord (field p 8 8)).base + (JobDesc.ofWord (field p 8 8)).count ≤ rankEntries), by simp [fieldsJobCreate], ?_⟩
  simp only [fIf, decide_eq_false_iff_not]
  omega

/-- A range that overlaps another job's puts the bytes of BASE out of order. -/
theorem fieldsJobCreate_overlap {s : State} {p : List Byte} {e : Nat × JobDesc} (hjob : e ∈ s.route.jobs) (hother : e.1 ≠ field p 0 2)
    (h : e.2.overlaps (JobDesc.ofWord (field p 8 8)) = true) : ∃ f ∈ fieldsJobCreate s p, f.ok = false := by
  have hclash : (s.route.jobs.any fun e => e.1 != field p 0 2 && e.2.overlaps (JobDesc.ofWord (field p 8 8))) = true :=
    List.any_eq_true.mpr ⟨e, hjob, by simp [hother, h]⟩
  exact ⟨{ off := 8, size := 2, ok := false }, by simp [fieldsJobCreate, hclash], rfl⟩

/-- Settles O28: either fault of the range is a field out of order, for which the frame of BCI commands answers BAD_PARAM before the work runs. -/
theorem jobsKeepApart : Obligations.JobsKeepApart := by
  unfold Obligations.JobsKeepApart
  intro m r e s base count refused hreq hlen havail hwho
  have refuse : (∃ f ∈ fieldsJobCreate s r.payload, f.ok = false) → refused := by
    rintro ⟨f, hf, hbad⟩
    obtain ⟨off, hoff⟩ := State.bci_bad_field (c := cJobCreate) (len := len 16) (workJobCreate s) hreq hlen havail hwho rfl hf hbad
    exact ⟨off, congrArg State.done hoff, State.reply_route ..⟩
  refine ⟨fun hend => refuse (fieldsJobCreate_past_end hend), fun hjob hother hlow hhigh => ?_⟩
  have hover : e.2.overlaps (JobDesc.ofWord (field r.payload 8 8)) = true := by
    simp only [JobDesc.overlaps, Bool.and_eq_true, decide_eq_true_eq]
    exact ⟨hhigh, hlow⟩
  exact refuse (fieldsJobCreate_overlap hjob hother hover)

end Sys2Proof.Machine
end

section
/-! PROOFS. Arrival checks, packets in a till, source routes, beats on their way and what an output sends (R76 to R80, R121 to R128, R139). -/
namespace Sys2Proof.Machine

/-! ### Arrival checks -/

/-- The route header is in order: its LEVEL, LEN, and the class of an EXP packet. -/
abbrev RouteHdr.InOrder (h : RouteHdr) : Prop := h.level.toNat ≤ 2 ∧ 16 ≤ h.len.toNat ∧ (h.vn = 3 → h.tc = 0)

/-- LEVEL once a packet has come in over port `p`. -/
def State.levelOver (s : State) (p : Nat) (h : RouteHdr) : Nat := h.level.toNat + (if (s.rport p).role.role = 3 then 1 else 0)

/-- The destination's group exists, and the port that a packet came in over may carry its virtual network. -/
abbrev State.Routable (s : State) (p : Nat) (h : RouteHdr) : Prop :=
  feidGroup h.dst < s.route.systemGroups
    ∧ (h.vn = 2 ∨ ((s.rport p).role.role ≠ 0 ∧ (s.rport p).role.en = true ∧ (s.rport p).mismatch = false ∧ s.route.valid = true
      ∧ (s.link p).partnerId = true))

/-- The checks of R76 in their order. -/
theorem State.checkArrival_eq (s : State) (p : Nat) (h : RouteHdr) :
    s.checkArrival p h =
      if ¬ h.InOrder then .drop 0
      else if 10 ≤ h.hops.toNat then .drop 1
      else if 2 < s.levelOver p h then .drop 0
      else if s.time.lt < s.age h.stamp then .drop 2
      else if s.age h.stamp < -16 then .drop 3
      else if ¬ s.Routable p h then .drop 4
      else .pass { h with hops := h.hops + 1, level := BitVec.ofNat 2 (s.levelOver p h) } := by
  have hform : (h.level.toNat > 2 ∨ h.len.toNat < 16 ∨ (h.vn = 3 ∧ h.tc ≠ 0)) ↔ ¬ h.InOrder := by
    unfold RouteHdr.InOrder
    simp only [not_and_or, not_le, gt_iff_lt, Classical.not_imp, ne_eq]
  have hhops : h.hops.toNat + 1 > 10 ↔ 10 ≤ h.hops.toNat := Nat.succ_lt_succ_iff
  have hroute : ¬ s.Routable p h ↔ (feidGroup h.dst ≥ s.route.systemGroups ∨ (h.vn ≠ 2 ∧ ((s.rport p).role.role = 0 ∨ (s.rport p).role.en = false
      ∨ (s.rport p).mismatch = true ∨ s.route.valid = false ∨ (s.link p).partnerId = false))) := by
    unfold State.Routable
    simp only [not_and_or, not_or, not_lt, ge_iff_le, ne_eq, not_not, Bool.not_eq_true, Bool.not_eq_false]
  simp only [State.checkArrival, hform, hhops, hroute, ite_or, State.levelOver, gt_iff_lt]

section
variable {p : Nat} {h : RouteHdr} {s : State}

theorem checkArrival_malformed (hform : ¬ h.InOrder) : s.checkArrival p h = .drop 0 := by
  rw [State.checkArrival_eq, if_pos hform]

variable (hform : h.InOrder)
include hform

theorem checkArrival_loop (hhops : 10 ≤ h.hops.toNat) : s.checkArrival p h = .drop 1 := by
  rw [State.checkArrival_eq, if_neg (not_not_intro hform), if_pos hhops]

variable (hhops : h.hops.toNat < 10)
include hhops

theorem checkArrival_levelPast (hlevel : 2 < s.levelOver p h) : s.checkArrival p h = .drop 0 := by
  rw [State.checkArrival_eq, if_neg (not_not_intro hform), if_neg hhops.not_ge, if_pos hlevel]

variable (hlevel : s.levelOver p h ≤ 2)
include hlevel

theorem checkArrival_expired (hold : s.time.lt < s.age h.stamp) : s.checkArrival p h = .drop 2 := by
  rw [State.checkArrival_eq, if_neg (not_not_intro hform), if_neg hhops.not_ge, if_neg hlevel.not_gt, if_pos hold]

variable (hlife : s.age h.stamp ≤ s.time.lt)
include hlife

theorem checkArrival_future (hahead : s.age h.stamp < -16) : s.checkArrival p h = .drop 3 := by
  rw [State.checkArrival_eq, if_neg (not_not_intro hform), if_neg hhops.not_ge, if_neg hlevel.not_gt, if_neg hlife.not_gt, if_pos hahead]

variable (hsent : -16 ≤ s.age h.stamp)
include hsent

theorem checkArrival_unroutable (hroute : ¬ s.Routable p h) : s.checkArrival p h = .drop 4 := by
  rw [State.checkArrival_eq, if_neg (not_not_intro hform), if_neg hhops.not_ge, if_neg hlevel.not_gt, if_neg hlife.not_gt, if_neg hsent.not_gt,
    if_pos hroute]

theorem checkArrival_passed (hroute : s.Routable p h) :
    s.checkArrival p h = .pass { h with hops := h.hops + 1, level := BitVec.ofNat 2 (s.levelOver p h) } := by
  rw [State.checkArrival_eq, if_neg (not_not_intro hform), if_neg hhops.not_ge, if_neg hlevel.not_gt, if_neg hlife.not_gt, if_neg hsent.not_gt,
    if_neg (not_not_intro hroute)]
end

/-- A drop counts under its reason, of all drop counters of the port. -/
theorem State.drop_drops (s : State) (p vc reason : Nat) :
    ((s.drop p vc reason).rport p).drops = put (s.rport p).drops reason ((s.rport p).drops.getD reason 0 + 1) := by
  simp [State.drop, State.countDrop, State.rport, State.setRport]

theorem getD_put_self {α : Type} {l : List α} {i : Nat} (v d : α) (h : i < l.length) : (put l i v).getD i d = v := by
  simp [put, List.getD_eq_getElem?_getD, h]

theorem getD_put_ne {α : Type} (l : List α) {i k : Nat} (v d : α) (h : k ≠ i) : (put l i v).getD k d = l.getD k d := by
  simp [put, List.getD_eq_getElem?_getD, Ne.symm h]

/-! ### Packets in a till -/

section
variable {p : Fin 64} {vc q reason : Nat} {set : List Nat} {k : TillPkt} {h0 : RouteHdr} {s : State}

/-- The header a packet goes on with: one LEVEL higher at the turn of a DETOUR. -/
def State.onward (s : State) (h0 : RouteHdr) : RouteHdr := if s.turnHere h0 then { h0 with level := h0.level + 1 } else h0

/-- Where a packet that passed its arrival checks at port `p` goes. -/
def State.wayOn (s : State) (p : Nat) (h0 : RouteHdr) : Next := s.nextPorts (s.onward h0) (s.arrivalPermit p (s.onward h0) (s.turnHere h0))

variable (hfirst : (s.link p).rx.till.find? (fun k => k.vc == vc) = some k)
include hfirst

theorem packetArrival_dropped (hcheck : s.checkArrival p k.pkt.hdr = .drop reason) :
    Gives (.packetArrival p vc) s ((s.leaveTill p k).drop p vc reason) := by
  show execPacketArrival p vc s = _
  simp only [execPacketArrival, hfirst, hcheck, State.done]

variable (hcheck : s.checkArrival p k.pkt.hdr = .pass h0)
include hcheck

/-- A packet that passes its checks is ejected, lost for want of a port, sent toward a port with room, or stays. -/
theorem packetArrival_passed :
    exec (.packetArrival p vc) s =
      match s.wayOn p h0 with
      | .eject => ((s.leaveTill p k).eject { k.pkt with hdr := s.onward h0 } p).done
      | .ports set =>
        match s.choosePort (s.onward h0) set with
        | none => (((s.leaveTill p k).drop p vc 5).noticeFor p { k.pkt with hdr := s.onward h0 }).done
        | some q =>
          if s.roomFor q (s.onward h0) then
            ((s.leaveTill p k).torus (s.onward h0) p q (.port q { k.pkt with hdr := s.onward h0 })).done
          else if (s.onward h0).tc ≠ 0 ∨ k.blocked = true then .next s
          else ((s.modLink p fun l =>
            { l with rx := { l.rx with till := l.rx.till.map fun j => if j = k then { j with blocked := true } else j } }).tc0Blocked q).done := by
  show execPacketArrival p vc s = _
  simp only [execPacketArrival, hfirst, hcheck]
  rfl

theorem packetArrival_ejected (hway : s.wayOn p h0 = .eject) :
    Gives (.packetArrival p vc) s ((s.leaveTill p k).eject { k.pkt with hdr := s.onward h0 } p) := by
  simp only [Gives, packetArrival_passed hfirst hcheck, hway, State.done]

variable (hway : s.wayOn p h0 = .ports set)
include hway

theorem packetArrival_noPort (hport : s.choosePort (s.onward h0) set = none) :
    Gives (.packetArrival p vc) s (((s.leaveTill p k).drop p vc 5).noticeFor p { k.pkt with hdr := s.onward h0 }) := by
  simp only [Gives, packetArrival_passed hfirst hcheck, hway, hport, State.done]

variable (hport : s.choosePort (s.onward h0) set = some q)
include hport

theorem packetArrival_sent (hroom : s.roomFor q (s.onward h0) = true) :
    Gives (.packetArrival p vc) s ((s.leaveTill p k).torus (s.onward h0) p q (.port q { k.pkt with hdr := s.onward h0 })) := by
  simp only [Gives, packetArrival_passed hfirst hcheck, hway, hport, hroom, if_true, State.done]

theorem packetArrival_waits (hroom : s.roomFor q (s.onward h0) = false) (hold : (s.onward h0).tc ≠ 0 ∨ k.blocked = true) :
    exec (.packetArrival p vc) s = .next s := by
  simp only [packetArrival_passed hfirst hcheck, hway, hport, hroom, Bool.false_eq_true, if_false, if_pos hold]

/-- A TC0 packet without room stays in the till, marked, and is counted as blocked. -/
theorem packetArrival_blocked (hroom : s.roomFor q (s.onward h0) = false) (htc : (s.onward h0).tc = 0) (hnew : k.blocked = false) :
    Gives (.packetArrival p vc) s ((s.modLink p fun l =>
      { l with rx := { l.rx with till := l.rx.till.map fun j => if j = k then { j with blocked := true } else j } }).tc0Blocked q) := by
  simp [Gives, packetArrival_passed hfirst hcheck, hway, hport, hroom, htc, hnew, State.done]

end

/-! ### Source routes -/

/-- What one hop adds to a place in a ring of 8, modulo 8: 1 in the + direction and 7 in the − direction. -/
def ringStep (neg : Bool) : Nat := if neg then 7 else 1

/-- The hops of a ring lead from `a` to `b`; there are at most 4. -/
theorem ringHops_leads {a b : Nat} (tie : Bool) (ha : a < 8) (hb : b < 8) :
    (a + (ringHops a b tie).1 * ringStep (ringHops a b tie).2) % 8 = b ∧ (ringHops a b tie).1 ≤ 4 ∧ ((ringHops a b tie).1 = 0 → a = b) := by
  simp only [ringHops]
  split_ifs with hfar hnear
  · cases tie <;> simp [ringStep] <;> omega
  · simp [ringStep]; omega
  · simp [ringStep]; omega

/-- Hops along the row ring keep the row. -/
theorem neighbour_iterate_row (neg : Bool) (n t : Nat) :
    (neighbour · (b2n neg))^[n] t = t / 8 * 8 + (t % 8 + n * ringStep neg) % 8 := by
  induction n with
  | zero => simp; omega
  | succ n ih =>
    rw [Function.iterate_succ_apply', ih]
    cases neg <;> simp [neighbour, b2n, ringStep] <;> omega

/-- Hops along the column ring keep the column. -/
theorem neighbour_iterate_col (neg : Bool) (n : Nat) {t : Nat} (ht : t < 64) :
    (neighbour · (2 + b2n neg))^[n] t = (t / 8 + n * ringStep neg) % 8 * 8 + t % 8 := by
  induction n with
  | zero => simp; omega
  | succ n ih =>
    rw [Function.iterate_succ_apply', ih]
    cases neg <;> simp [neighbour, b2n, ringStep] <;> omega

/-- Where the legs of a route lead from tile `t`. -/
def follow (legs : List (Nat × Nat)) (t : Nat) : Nat := legs.foldl (fun t l => (neighbour · l.1)^[l.2] t) t

/-- A leg without a hop leads nowhere. -/
theorem follow_filter_hops (legs : List (Nat × Nat)) (t : Nat) : follow (legs.filter fun l => l.2 ≠ 0) t = follow legs t := by
  induction legs generalizing t with
  | nil => rfl
  | cons l legs ih =>
    by_cases hl : l.2 = 0
    · simpa [follow, hl] using ih t
    · simpa [follow, hl] using ih ((neighbour · l.1)^[l.2] t)

section
variable {plane src dst : Nat}

/-- The hops of a route in its row ring. -/
theorem rowHops_leads (src dst : Nat) (tie : Bool) :
    (src % 8 + (ringHops (src % 8) (dst % 8) tie).1 * ringStep (ringHops (src % 8) (dst % 8) tie).2) % 8 = dst % 8
      ∧ (ringHops (src % 8) (dst % 8) tie).1 ≤ 4 ∧ ((ringHops (src % 8) (dst % 8) tie).1 = 0 → src % 8 = dst % 8) :=
  ringHops_leads tie (by omega) (by omega)

variable (hsrc : src < 64) (hdst : dst < 64)
include hsrc hdst

/-- The hops of a route in its column ring. -/
theorem colHops_leads (tie : Bool) :
    (src / 8 + (ringHops (src / 8) (dst / 8) tie).1 * ringStep (ringHops (src / 8) (dst / 8) tie).2) % 8 = dst / 8
      ∧ (ringHops (src / 8) (dst / 8) tie).1 ≤ 4 ∧ ((ringHops (src / 8) (dst / 8) tie).1 = 0 → src / 8 = dst / 8) :=
  ringHops_leads tie (by omega) (by omega)

/-- Each leg of a source route takes the shorter way round its ring. -/
theorem srtLegs_hops : ∀ l ∈ srtLegs plane src dst, 1 ≤ l.2 ∧ l.2 ≤ 4 := by
  obtain ⟨-, hrow, -⟩ := rowHops_leads src dst (plane == 1)
  obtain ⟨-, hcol, -⟩ := colHops_leads hsrc hdst (plane == 1)
  intro l hl
  obtain ⟨hl, hsome⟩ := List.mem_filter.mp hl
  refine ⟨by simpa [Nat.one_le_iff_ne_zero] using hsome, ?_⟩
  split_ifs at hl
  · rcases List.mem_pair.mp hl with rfl | rfl
    exacts [hrow, hcol]
  · rcases List.mem_pair.mp hl with rfl | rfl
    exacts [hcol, hrow]

/-- A source route leads to its tile. -/
theorem srtLegs_leads : follow (srtLegs plane src dst) src = dst := by
  obtain ⟨hrow, -⟩ := rowHops_leads src dst (plane == 1)
  obtain ⟨hcol, -⟩ := colHops_leads hsrc hdst (plane == 1)
  have hcorner : src / 8 * 8 + dst % 8 < 64 := by omega
  unfold srtLegs
  rw [follow_filter_hops]
  split_ifs
  · simp only [follow, List.foldl_cons, List.foldl_nil, neighbour_iterate_row, hrow, neighbour_iterate_col _ _ hcorner]
    rw [show (src / 8 * 8 + dst % 8) / 8 = src / 8 by omega, hcol]
    omega
  · simp only [follow, List.foldl_cons, List.foldl_nil, neighbour_iterate_col _ _ hsrc, hcol, neighbour_iterate_row]
    rw [show (dst / 8 * 8 + src % 8) % 8 = src % 8 by omega, hrow]
    omega

/-- With hops in both rings, plane A takes the row ring first and plane B the column ring. -/
theorem srtLegs_first (hplane : plane < 2) (hrow : src % 8 ≠ dst % 8) (hcol : src / 8 ≠ dst / 8) :
    ((srtLegs plane src dst).headD (0, 0)).1 / 2 = plane := by
  have hrow' : (ringHops (src % 8) (dst % 8) (plane == 1)).1 ≠ 0 := mt (rowHops_leads src dst _).2.2 hrow
  have hcol' : (ringHops (src / 8) (dst / 8) (plane == 1)).1 ≠ 0 := mt (colHops_leads hsrc hdst _).2.2 hcol
  have hbit (b : Bool) : b2n b < 2 := by cases b <;> decide
  have hdir := hbit (ringHops (src % 8) (dst % 8) (plane == 1)).2
  have hdir' := hbit (ringHops (src / 8) (dst / 8) (plane == 1)).2
  unfold srtLegs
  split_ifs with hA
  · simp [hrow', hcol']; omega
  · simp [hrow', hcol']; omega
end

theorem srtLegs_length (plane src dst : Nat) : (srtLegs plane src dst).length ≤ 2 := by
  unfold srtLegs
  refine (List.length_filter_le ..).trans ?_
  split <;> rfl

/-! ### Beats on their way (R122, R124, R127) -/

theorem neighbour_lt (t d : Nat) (ht : t < 64) : neighbour t d < 64 := by
  unfold neighbour
  split <;> omega

section
variable {plane tile input vc : Nat} (htile : tile < 64) (hinput : input < 5) (hvc : vc < 8)
include htile hinput hvc

/-- The key of a queue names its plane, its tile, its virtual network and its class. -/
theorem queueKey_reads : keyPlane (queueKey plane tile input vc) = plane ∧ keyTile (queueKey plane tile input vc) = tile
    ∧ keyVn (queueKey plane tile input vc) = vc / 2 ∧ queueKey plane tile input vc % 2 = vc % 2 := by
  simp only [keyPlane, keyTile, keyVn, queueKey]
  omega
end

/-- The class of a beat on the link that it takes next. -/
def Beat.linkClass (key : Nat) (b : Beat) : Nat := if wraps (keyTile key) b.out = true then 1 else b.cls

/-- A beat goes to the neighbour on its way, in its plane and its virtual network, in the class of the link. -/
theorem Beat.hop_queue {key : Nat} {b : Beat} (hcls : b.cls < 2) (hout : b.out < 5) :
    keyPlane (b.hop key).1 = keyPlane key ∧ keyTile (b.hop key).1 = neighbour (keyTile key) b.out ∧ keyVn (b.hop key).1 = keyVn key
      ∧ (b.hop key).1 % 2 = b.linkClass key := by
  have htile : neighbour (keyTile key) b.out < 64 := neighbour_lt _ _ (Nat.mod_lt _ (by decide))
  have hclass : b.linkClass key < 2 := by
    unfold Beat.linkClass
    split <;> omega
  have hvn : keyVn key < 4 := by
    unfold keyVn
    omega
  have hvc : 2 * keyVn key + b.linkClass key < 8 := by omega
  obtain ⟨hplane, htile, hvn, hpar⟩ := queueKey_reads (plane := keyPlane key) htile hout hvc
  refine ⟨hplane, htile, hvn.trans ?_, hpar.trans ?_⟩ <;> omega

/-- A hop that ends its leg takes class 0 into the next ring. -/
theorem Beat.hop_last {key d : Nat} {b : Beat} {rest : List (Nat × Nat)} (hlegs : b.legs = (d, 1) :: rest) :
    (b.hop key).2 = { b with legs := rest, cls := 0 } := by
  simp [Beat.hop, hlegs]

/-- A hop within its leg keeps the class of the link. -/
theorem Beat.hop_within {key d n : Nat} {b : Beat} {rest : List (Nat × Nat)} (hlegs : b.legs = (d, n + 2) :: rest) :
    (b.hop key).2 = { b with legs := (d, n + 1) :: rest, cls := b.linkClass key } := by
  simp [Beat.hop, hlegs, Beat.linkClass]

/-! ### Room at the port (R128, R139) -/

section
variable {s : State} (t : Nat) {p : Nat} {k : Packet} (hwaits : s.net.waits = [])
include hwaits

theorem State.toPort_room (hroom : s.roomFor p k.hdr = true) : s.toPort t p k = s.torus k.hdr t p (.port p k) := by
  simp [State.toPort, hwaits, hroom]

/-- Without room at its port the packet waits at its source; one of TC0 is counted as blocked. -/
theorem State.toPort_noRoom (hroom : s.roomFor p k.hdr = false) :
    s.toPort t p k = if k.tc = 0 then
        ({ s with net := { s.net with waits := [{ tile := t, port := p, pkt := k }] } } : State).tc0Blocked p
      else { s with net := { s.net with waits := [{ tile := t, port := p, pkt := k }] } } := by
  simp [State.toPort, hwaits, hroom]
end

/-! ### What an output sends (R123) -/

/-- What R123 asks of the queues that a net picks: the head of each is ready, and is of EXP while an EXP beat is ready at its output. -/
def Net.PicksSound (full : Nat → Bool) (n : Net) : Prop :=
  ∀ key, key ∈ n.picks full → ∃ b rest, n.queue key = b :: rest ∧ n.ready full key b = true
    ∧ (keyVn key ≠ 3 → ∀ k c l, (k, c :: l) ∈ n.queues → outId k c = outId key b → n.ready full k c = true → keyVn k ≠ 3)

theorem Tbl.get?_of_mem {α : Type} {t : Tbl α} {k : Nat} {v : α} (hkeys : (t.map (·.1)).Nodup) (h : (k, v) ∈ t) : Tbl.get? t k = some v := by
  induction t with
  | nil => exact nomatch h
  | cons e t ih =>
    obtain ⟨j, w⟩ := e
    obtain ⟨hnew, hrest⟩ := List.nodup_cons.mp hkeys
    rcases List.mem_cons.mp h with heq | htail
    · cases heq
      simp [Tbl.get?]
    · have hne : j ≠ k := fun hjk => hnew (List.mem_map.mpr ⟨_, htail, hjk.symm⟩)
      simp [Tbl.get?, hne, ih hrest htail]

/-- The heads that may go, each with the output it wants. -/
def Net.candidates (full : Nat → Bool) (n : Net) : List (Nat × Nat) :=
  n.queues.filterMap fun e => match e.2 with
    | b :: _ => if n.ready full e.1 b then some (outId e.1 b, e.1) else none
    | [] => none

theorem Net.mem_candidates {full : Nat → Bool} {n : Net} {o key : Nat} :
    (o, key) ∈ n.candidates full ↔ ∃ b rest, (key, b :: rest) ∈ n.queues ∧ n.ready full key b = true ∧ outId key b = o := by
  constructor
  · intro h
    obtain ⟨⟨k, q⟩, hmem, hq⟩ := List.mem_filterMap.mp h
    cases q with
    | nil => exact nomatch hq
    | cons b rest =>
      simp only [Option.ite_none_right_eq_some, Option.some.injEq, Prod.mk.injEq] at hq
      obtain ⟨hready, hout, rfl⟩ := hq
      exact ⟨b, rest, hmem, hready, hout⟩
  · rintro ⟨b, rest, hmem, hready, rfl⟩
    exact List.mem_filterMap.mpr ⟨_, hmem, by simp [hready]⟩

theorem mem_of_rrPick {turn key : Nat} {l : List Nat} (h : rrPick turn l = some key) : key ∈ l := by
  unfold rrPick at h
  cases hfind : l.find? fun key => decide (turn ≤ key % 40) with
  | some x =>
    simp only [hfind, Option.orElse_some, Option.some.injEq] at h
    exact h ▸ List.mem_of_find?_eq_some hfind
  | none =>
    simp only [hfind, Option.orElse_none] at h
    exact List.mem_of_mem_head? h

/-- An output sends a candidate of its own, and one of EXP when it has one. -/
theorem Net.mem_picks {full : Nat → Bool} {n : Net} {key : Nat} (h : key ∈ n.picks full) :
    ∃ o, (o, key) ∈ n.candidates full ∧ (keyVn key ≠ 3 → ∀ k, (o, k) ∈ n.candidates full → keyVn k ≠ 3) := by
  obtain ⟨o, -, ho⟩ := List.mem_filterMap.mp h
  have hmine (k : Nat) : k ∈ ((n.candidates full).filter fun c => c.1 == o).map (·.2) ↔ (o, k) ∈ n.candidates full := by simp
  refine ⟨o, ?_⟩
  dsimp only at ho
  split at ho
  case h_1 hnone =>
    refine ⟨(hmine key).mp (mem_of_rrPick ho), fun _ k hk => ?_⟩
    simpa using List.filter_eq_nil_iff.mp hnone k ((hmine k).mpr hk)
  case h_2 =>
    obtain ⟨hkey, hexp⟩ := List.mem_filter.mp (mem_of_rrPick ho)
    exact ⟨(hmine key).mp hkey, fun hvn => absurd (by simpa using hexp) hvn⟩

/-- A net that lists each queue once sends only what is ready, and EXP before all else. -/
theorem Net.picksSound_of_nodup {full : Nat → Bool} {n : Net} (hkeys : (n.queues.map (·.1)).Nodup) : n.PicksSound full := by
  intro key hkey
  obtain ⟨o, hcand, hexp⟩ := Net.mem_picks hkey
  obtain ⟨b, rest, hmem, hready, rfl⟩ := Net.mem_candidates.mp hcand
  refine ⟨b, rest, by simp [Net.queue, Tbl.getD, Tbl.get?_of_mem hkeys hmem], hready, fun hvn k c l hk hout hgo => ?_⟩
  exact hexp hvn k (Net.mem_candidates.mpr ⟨c, l, hk, hgo, hout⟩)

/-- Every clause of O45 but the one on what an output sends holds of every state and every route. -/
theorem arrivalChecks_iff_picksSound : Obligations.ArrivalChecks ↔ ∀ full n, Net.PicksSound full n := by
  unfold Obligations.ArrivalChecks
  constructor
  · rintro ⟨-, -, -, hpicks, -⟩
    exact hpicks
  intro hpicks
  refine ⟨fun p h s => ?_, fun p vc reason q set k h0 s hfirst => ?_, fun plane src dst hplane hsrc hdst => ?_, hpicks,
    fun key b d k rest _ hd hcls hlegs => ?_, fun t p k s hwaits => ?_⟩
  · intro r level wellFormed fresh known
    refine ⟨checkArrival_malformed, checkArrival_loop, checkArrival_levelPast, checkArrival_expired, checkArrival_future,
      fun hform hhops hlevel hfresh => checkArrival_unroutable hform hhops hlevel hfresh.1 hfresh.2,
      fun hform hhops hlevel hfresh => checkArrival_passed hform hhops hlevel hfresh.1 hfresh.2, fun vc reason hreason => ?_⟩
    rw [State.drop_drops]
    exact ⟨getD_put_self _ _ hreason, fun k hk => getD_put_ne _ _ _ hk⟩
  · intro turned h pkt out
    refine ⟨packetArrival_dropped hfirst, packetArrival_ejected hfirst, fun hcheck hway => ⟨packetArrival_noPort hfirst hcheck hway,
      packetArrival_sent hfirst hcheck hway, fun hport htc hroom => ?_, fun hport htc hroom hold => ?_, fun hport htc hroom hnew => ?_⟩⟩
    · exact packetArrival_waits hfirst hcheck hway hport ((if_neg htc).trans hroom) (.inl htc)
    · exact packetArrival_waits hfirst hcheck hway hport ((if_pos htc).trans hroom) (.inr hold)
    · exact ⟨_, packetArrival_blocked hfirst hcheck hway hport ((if_pos htc).trans hroom) htc hnew, rfl⟩
  · exact ⟨srtLegs_hops hsrc hdst, srtLegs_length .., srtLegs_leads hsrc hdst, srtLegs_first hsrc hdst hplane⟩
  · have hout : b.out = d := by simp only [Beat.out, hlegs]
    obtain ⟨hplane, htile, hvn, hclass⟩ := Beat.hop_queue (key := key) hcls (by omega : b.out < 5)
    refine ⟨hvn, hplane, hout ▸ htile, hout ▸ hclass, fun hk => ?_, fun hk => ?_⟩
    · subst hk
      rw [Beat.hop_last hlegs]
      exact ⟨rfl, rfl⟩
    · obtain ⟨n, rfl⟩ := Nat.exists_eq_succ_of_ne_zero hk
      rw [hclass, Beat.hop_within hlegs]
      exact ⟨rfl, rfl⟩
  · exact ⟨State.toPort_room t hwaits, fun hroom => ⟨_, rfl, State.toPort_noRoom t hwaits hroom⟩⟩

/-- A beat at its tile, and one that goes on over X+. -/
def beatForTile : Beat := { load := 0, last := true, legs := [], cls := 0 }
def beatForLink : Beat := { load := 0, last := true, legs := [(0, 1)], cls := 0 }

/-- A net that lists a REQ queue of router T00 twice, with an EXP beat ready at the output of the first listing's head. -/
def Net.listedTwice : Net :=
  { Net.reset with queues := [(queueKey 0 0 4 0, [beatForTile]), (queueKey 0 0 4 0, [beatForLink]), (queueKey 0 0 4 6, [beatForTile])] }

/-- Output X+ picks the queue for its second listing, whose head is the first's: a REQ beat, while the EXP beat is ready. -/
theorem Net.listedTwice_not_picksSound : ¬ Net.PicksSound (fun _ => false) Net.listedTwice := by
  intro hsound
  have hpick : queueKey 0 0 4 0 ∈ Net.listedTwice.picks fun _ => false := by decide
  obtain ⟨b, rest, hqueue, -, hexp⟩ := hsound _ hpick
  obtain ⟨rfl, rfl⟩ : beatForTile = b ∧ [] = rest := List.cons.inj hqueue
  exact hexp (by decide) (queueKey 0 0 4 6) beatForTile [] (by decide) (by decide) (by decide) (by decide)

/-- Refutes O45: its clause on what an output sends is about every net, one that lists a queue twice included, and there an output sends a REQ
beat's queue while an EXP beat is ready. It holds where each queue is listed once (`Net.picksSound_of_nodup`), and so do the other clauses. -/
theorem not_arrivalChecks : ¬ Obligations.ArrivalChecks := fun h =>
  Net.listedTwice_not_picksSound (arrivalChecks_iff_picksSound.mp h _ _)

end Sys2Proof.Machine
end

section
/-! PROOFS. The match rule (R220). -/
namespace Sys2Proof.Machine

/-- Words with no difference under a mask are words that agree in each bit the mask sets. -/
theorem xor_and_eq_zero_iff {w : Nat} {x y mask : BitVec w} :
    (x ^^^ y) &&& mask = 0 ↔ ∀ i, i < w → mask.getLsbD i = true → x.getLsbD i = y.getLsbD i := by
  have hbit (i : Nat) : ((x ^^^ y) &&& mask).getLsbD i = (0 : BitVec w).getLsbD i ↔
      (mask.getLsbD i = true → x.getLsbD i = y.getLsbD i) := by
    cases hmask : mask.getLsbD i <;> simp [hmask]
  simp only [BitVec.eq_of_getLsbD_eq_iff, hbit]

theorem Posted.matches_iff {r : Posted} {m : InMsg} :
    r.matches m = true ↔ r.comm = m.comm ∧ (r.any = true ∨ r.rank = m.rank) ∧ (r.tagv ^^^ m.tagv) &&& r.mask = 0 := by
  simp [Posted.matches, and_assoc]

/-- A mask of all ones asks for the exact tag. -/
theorem Posted.tagv_eq_of_matches {r : Posted} {m : InMsg} (hmask : r.mask = BitVec.allOnes 64) (h : r.matches m = true) : r.tagv = m.tagv := by
  obtain ⟨-, -, htag⟩ := Posted.matches_iff.mp h
  rwa [hmask, BitVec.and_allOnes, BitVec.ofNat_eq_ofNat, BitVec.xor_eq_zero_iff] at htag

/-- A mask of 0 accepts any tag. -/
theorem Posted.matches_iff_of_mask_zero {r : Posted} {m : InMsg} (hmask : r.mask = 0) :
    r.matches m = true ↔ r.comm = m.comm ∧ (r.any = true ∨ r.rank = m.rank) := by
  simp [Posted.matches_iff, hmask]

/-- Settles O50: the rule's test of the tag, read bit by bit, and its two extreme masks. -/
theorem matchRule : Obligations.MatchRule := by
  unfold Obligations.MatchRule
  intro r k
  refine ⟨Posted.matches_iff, fun h => (Posted.matches_iff.mp h).1, Posted.tagv_eq_of_matches, Posted.matches_iff_of_mask_zero, ?_⟩
  rw [Posted.matches_iff, xor_and_eq_zero_iff]

end Sys2Proof.Machine
end

section
/-! PROOFS. AtomicOps of the host (R302, R340, R496). -/
namespace Sys2Proof.Machine

/-- An AtomicOp of the host that the endpoint receives is answered Unsupported Request and has no other effect, except that one to BAR4 is a wake
event, as every access to BAR4 is (R496). -/
theorem hostAtomicop_reaches {e : Fin 4} {s : State} (fn : Fin 65) (bar4 : Bool) (hreach : s.hostReaches e = true) :
    Gives (.hostAtomicop e fn bar4) s ((if bar4 then s.wake else s).emit (.unsupported { ep := e, fn := fn.val })) := by
  show execHostAtomicop e fn bar4 s = _
  simp only [execHostAtomicop, hreach, if_true, State.done]

/-- Settles O13: an answer writes only what leaves the module, and the wake that an AtomicOp to BAR4 may begin writes only the power state. -/
theorem hostAtomicopsUnsupported : Obligations.HostAtomicopsUnsupported := by
  unfold Obligations.HostAtomicopsUnsupported
  intro e fn b s hreach
  refine ⟨_, hostAtomicop_reaches fn b hreach, ?_⟩
  cases b with
  | false => exact ⟨State.emit_out _ _, (State.emit_only s _).mono, State.emit_pwr _ _⟩
  | true =>
    have hframe : Only [.pwr, .out] s (s.wake.emit (.unsupported { ep := e, fn := fn.val })) :=
      Only.trans s.wake_only.mono (State.emit_only s.wake _).mono
    exact ⟨by simp, hframe, State.emit_pwr _ _⟩

end Sys2Proof.Machine
end

section
/-! PROOFS. The bound on a mailbox's long commands (R358). -/
namespace Sys2Proof.Machine

/-- A long command that reaches LONG_MAX's check with 8 outstanding is answered BUSY; its payload's fields are not looked at (R555). -/
theorem State.bci_long_busy {s : State} {m : Fin 5} {c : BciCmd} {len : List Byte → Nat} {r : BciReq} (fs : List Byte → List Fld)
    (work : List Byte → Res) (hreq : s.request? m c.code = some (r, false)) (hlen : r.len = len r.payload) (havail : s.unavailable m c = none)
    (hwho : s.mayIssue m c.who = true) (hlong : c.long = true) (hfull : 8 ≤ (s.box m).longOut) :
    s.bci m c len fs work = s.reply m r rBusy 0 0 [] := by
  have hcheck : (c.long && decide (8 ≤ (s.box m).longOut)) = true := by simp [hlong, hfull]
  have hrefuse : s.bci m c len fs work = s.refuseBci m r false rBusy 0 := by
    simp [State.bci, hreq, hlen, havail, hwho, hcheck]
  exact hrefuse

/-- Settles O20: with 8 outstanding the check of LONG_MAX refuses; with fewer it passes, and the premises are what else `Served` asks. -/
theorem longCommandsAtMostEight : Obligations.LongCommandsAtMostEight := by
  unfold Obligations.LongCommandsAtMostEight
  intro m c len fs work r s hlong hreq hlen havail hwho
  exact ⟨State.bci_long_busy fs work hreq hlen havail hwho hlong, fun hroom hfields => ⟨hreq, hlen, havail, hwho, fun _ => hroom, hfields⟩⟩

end Sys2Proof.Machine
end

section
/-! PROOFS. Fault capture and escalation, and the order of one sample's faults (R505, R510 to R512). -/
namespace Sys2Proof.Machine

/-! ### What reporting keeps of the captures -/

/-- The capture sets and FIRST_SOURCE are the same in both states. -/
def KeepsCaptures (s t : State) : Prop := t.faults.captures = s.faults.captures ∧ t.faults.firstSource = s.faults.firstSource

theorem KeepsCaptures.refl (s : State) : KeepsCaptures s s := ⟨rfl, rfl⟩

theorem KeepsCaptures.trans {s t u : State} (h : KeepsCaptures s t) (k : KeepsCaptures t u) : KeepsCaptures s u :=
  ⟨k.1.trans h.1, k.2.trans h.2⟩

theorem KeepsCaptures.of_faults {s t : State} (h : t.faults = s.faults) : KeepsCaptures s t := by
  simp only [KeepsCaptures, h, and_self]

theorem KeepsCaptures.ite {c : Prop} [Decidable c] {s t u : State} (h : KeepsCaptures s t) (k : KeepsCaptures s u) :
    KeepsCaptures s (if c then t else u) := by
  split
  · exact h
  · exact k

@[simp] theorem State.count_faults (s : State) (ev i n : Nat) (q : Nat → Bool) : (s.count ev i q n).faults = s.faults := rfl

@[simp] theorem State.raise_faults (s : State) (f : FnId) (v : Nat) : (s.raise f v).faults = s.faults := by
  simp only [State.raise]
  split <;> rfl

@[simp] theorem State.raiseMgmt_faults (s : State) : s.raiseMgmt.faults = s.faults := by
  simp only [State.raiseMgmt]
  split
  · exact State.raise_faults ..
  · rfl

@[simp] theorem State.notify_faults {w : Nat} (s : State) (old new enable : BitVec w) : (s.notify old new enable).faults = s.faults := by
  simp only [State.notify]
  split
  · rfl
  · exact State.raiseMgmt_faults s

theorem State.persist_keepsCaptures (s : State) (r : LogRec) : KeepsCaptures s (s.persist r) := .ite ⟨rfl, rfl⟩ ⟨rfl, rfl⟩

theorem State.logRecordAt_keepsCaptures (s : State) (nt : U64) (i : Bool) (e n : Nat) (b keep : Bool) (d : List Byte) :
    KeepsCaptures s (s.logRecordAt nt i e n b keep d) := by
  unfold State.logRecordAt
  extract_lets rec old regs written kept
  have hwritten : KeepsCaptures s written := ⟨rfl, rfl⟩
  have hkept : KeepsCaptures written kept := .ite (State.persist_keepsCaptures written rec) (.refl written)
  exact (hwritten.trans hkept).trans (.of_faults (State.notify_faults ..))

/-- The reaction to a fault (R512) leaves what the sources captured. -/
theorem State.react_keepsCaptures (s : State) (src : Nat) (x : Deferred) : KeepsCaptures s (s.react src x) := by
  unfold State.react
  extract_lets r intOn logged st regs noted told due
  have hlogged : KeepsCaptures s logged := State.logRecordAt_keepsCaptures ..
  have hnoted : KeepsCaptures logged noted := ⟨rfl, rfl⟩
  have htold : KeepsCaptures noted (if noted.faults.scheme = 1 then (if (noted.capture src).intEn then noted.raiseMgmt else noted)
      else noted.notify st (st ||| sevBit r.sev) noted.faults.intEnable) :=
    .ite (.ite (.of_faults noted.raiseMgmt_faults) (.refl noted)) (.of_faults (State.notify_faults ..))
  have hreacted : KeepsCaptures s told := hlogged.trans (.ite (hnoted.trans htold) (.refl logged))
  exact .ite (hreacted.trans ⟨rfl, rfl⟩) hreacted

/-! ### What a source captures (R511) -/

/-- The record of a fault that source `src` reports now, before a reaction is applied (R518). -/
def State.faultRec (s : State) (src : Nat) (r : Report) : FaultRec :=
  { seq := (s.capture src).seq, kind := r.d.kind, sev := Sev.of r.d.kind r.d.fatal, ntInvalid := !s.time.ntValid, injected := r.injected,
    persist := r.persist, source := src, nt := s.clk.nt, reactions := 0, context := r.d.context, infoA := r.d.infoA, infoB := r.d.infoB }

/-- The fault's severity takes over: the source is clear, or it is higher than HIGHEST_SEV (R511). -/
def Capture.outranked (c : Capture) (sev : Sev) : Bool := !c.valid || decide (sevValue c.highestSev < sevValue sev)

theorem Capture.outranked_of_valid {c : Capture} (sev : Sev) (h : c.valid = true) :
    c.outranked sev = decide (sevValue c.highestSev < sevValue sev) := by
  simp only [Capture.outranked, h, Bool.not_true, Bool.false_or]

theorem Capture.take_of_clear {c : Capture} (r : FaultRec) (higher : Bool) (h : c.valid = false) :
    c.take r higher = { c with valid := true, firstSev := r.sev, highestSev := r.sev, record := some r, seq := c.seq + 1 } := by
  simp only [Capture.take, h, Bool.false_eq_true, if_false]

theorem Capture.take_of_valid {c : Capture} (r : FaultRec) (higher : Bool) (h : c.valid = true) :
    c.take r higher = { c with second := true, count := if c.count = BitVec.allOnes 32 then c.count else c.count + 1,
                               highestSev := if higher then r.sev else c.highestSev, seq := c.seq + 1 } := by
  simp only [Capture.take, h, if_true]

theorem Capture.take_valid (c : Capture) (r : FaultRec) (higher : Bool) : (c.take r higher).valid = true := by
  cases h : c.valid with
  | false => rw [Capture.take_of_clear r higher h]
  | true => rw [Capture.take_of_valid r higher h, h]

/-- The capture set of source `src` once it has taken a fault, with the reactions stamped on the record and the faults left for the auditor's
poll (R509, R511). -/
def State.taken (s : State) (src : Nat) (r : Report) (reactions : BitVec 5) (found : List Deferred) : Capture :=
  { (s.capture src).take { s.faultRec src r with reactions := reactions } ((s.capture src).outranked (Sev.of r.d.kind r.d.fatal))
    with found := found }

/-- What recording a fault writes of the captures: the source takes it, and is remembered as the first under COLLECTOR while no
source is VALID (R510). -/
theorem State.record_captures (s : State) (src : Nat) (r : Report) :
    (∃ reactions found, (s.record src r).faults.captures = Tbl.set s.faults.captures src (s.taken src r reactions found))
    ∧ (s.record src r).faults.firstSource = if s.allClear && s.faults.scheme == 0 then src else s.faults.firstSource := by
  unfold State.record
  extract_lets c sev react0 frec x first later c' s1 f1 s2 f2 s3 s4
  have htaken : (if later then { c' with found := c'.found ++ [x] } else c')
      = { c' with found := if later then c'.found ++ [x] else c'.found } := by
    split <;> rfl
  have hcaptures : s4.faults.captures = s1.faults.captures := by
    simp only [s4, s3, State.count_faults]
    split <;> rfl
  have hfirst : s4.faults.firstSource = if first then src else s.faults.firstSource := by
    simp only [s4, s3, State.count_faults]
    split <;> rfl
  have hkept : KeepsCaptures s4 (if later then s4 else s4.react src x) := .ite (.refl s4) (State.react_keepsCaptures s4 src x)
  exact ⟨⟨(s.stampedRec x).reactions, _, hkept.1.trans (hcaptures.trans (congrArg (Tbl.set s.faults.captures src) htaken))⟩,
    hkept.2.trans hfirst⟩

theorem State.record_capture_self (s : State) (src : Nat) (r : Report) :
    ∃ reactions found, (s.record src r).capture src = s.taken src r reactions found := by
  obtain ⟨⟨reactions, found, h⟩, -⟩ := s.record_captures src r
  exact ⟨reactions, found, by rw [State.capture, h, Tbl.getD_set_self]⟩

theorem State.record_capture_ne (s : State) {src k : Nat} (r : Report) (hk : k ≠ src) : (s.record src r).capture k = s.capture k := by
  obtain ⟨⟨_, _, h⟩, -⟩ := s.record_captures src r
  rw [State.capture, h, Tbl.getD_set_ne _ _ _ hk, State.capture]

theorem State.record_firstSource (s : State) (src : Nat) (r : Report) :
    (s.record src r).faults.firstSource = if s.allClear && s.faults.scheme == 0 then src else s.faults.firstSource :=
  (s.record_captures src r).2

/-! ### The faults of one sample (R511) -/

/-- A list taken class by class, every class once and none left out, is a permutation of it. -/
theorem flatten_map_filter_perm {α : Type} (f : α → Nat) {ks : List Nat} (hks : ks.Nodup) {l : List α} (hl : ∀ a ∈ l, f a ∈ ks) :
    List.Perm (ks.map fun k => l.filter fun a => f a == k).flatten l := by
  induction ks generalizing l with
  | nil =>
    have hnil : l = [] := List.eq_nil_iff_forall_not_mem.mpr fun a ha => List.not_mem_nil (hl a ha)
    subst hnil
    exact .refl _
  | cons k ks ih =>
    obtain ⟨hk, hks⟩ := List.nodup_cons.mp hks
    have hrest : ∀ a ∈ l.filter fun a => !(f a == k), f a ∈ ks := fun a ha => by
      obtain ⟨ha, hne⟩ := List.mem_filter.mp ha
      exact (List.mem_cons.mp (hl a ha)).resolve_left (by simpa using hne)
    have hclass : ∀ j ∈ ks, (l.filter fun a => f a == j) = (l.filter fun a => !(f a == k)).filter fun a => f a == j := fun j hj => by
      have hjk : j ≠ k := fun h => hk (h ▸ hj)
      rw [List.filter_filter]
      refine List.filter_congr fun a _ => ?_
      by_cases ha : f a = j <;> simp [ha, hjk]
    rw [List.map_cons, List.flatten_cons, List.map_congr_left hclass]
    exact ((ih hks hrest).append_left _).trans (List.filter_append_perm _ l)

/-- A list taken class by class, the higher classes first, falls by class. -/
theorem flatten_map_filter_falls {α : Type} (f : α → Nat) {ks : List Nat} (hks : ks.Pairwise (· > ·)) (l : List α) :
    (ks.map fun k => l.filter fun a => f a == k).flatten.Pairwise fun a b => f b ≤ f a := by
  have hclass {k : Nat} {a : α} (h : a ∈ l.filter fun a => f a == k) : f a = k := by simpa using (List.mem_filter.mp h).2
  refine List.pairwise_flatten.mpr ⟨fun m hm => ?_, List.pairwise_map.mpr (hks.imp fun hkj a ha b hb => ?_)⟩
  · obtain ⟨k, -, rfl⟩ := List.mem_map.mp hm
    exact List.pairwise_of_forall_mem_list fun a ha b hb => by rw [hclass ha, hclass hb]
  · rw [hclass ha, hclass hb]
    exact hkj.le

theorem sevValue_mem (v : Sev) : sevValue v ∈ [3, 2, 1, 0] := by
  cases v <;> decide

theorem bySeverity_perm (ds : List Detection) : List.Perm (bySeverity ds) ds :=
  flatten_map_filter_perm (fun d : Detection => sevValue (Sev.of d.kind d.fatal)) (by decide) fun _ _ => sevValue_mem _

theorem bySeverity_falls (ds : List Detection) :
    (bySeverity ds).Pairwise fun a b => sevValue (Sev.of b.kind b.fatal) ≤ sevValue (Sev.of a.kind a.fatal) :=
  flatten_map_filter_falls (fun d : Detection => sevValue (Sev.of d.kind d.fatal)) (by decide) ds

/-- FAULT_DETECT at a source of a running die reports what its checkers may find, in the order of the sample. -/
theorem faultDetect_reports {s : State} {src : Nat} (given : Nat) (ds : List Detection) (hruns : s.dieRuns = true)
    (hsource : s.sourceOk src = true) :
    Gives (.faultDetect src given ds) s ((bySeverity (ds.filter (s.detectable src))).foldl (fun s d => s.detect src given d) s) := by
  show execFaultDetect src given ds s = _
  simp only [execFaultDetect, hruns, hsource, Bool.and_self, if_true, State.done]

/-- Settles O58: a recorded fault goes through `Capture.take`, and nothing else that recording does reaches a capture set. -/
theorem sourcesCaptureFaults : Obligations.SourcesCaptureFaults := by
  unfold Obligations.SourcesCaptureFaults
  refine ⟨fun src r s => ?_, fun src given ds s => ⟨faultDetect_reports given ds, bySeverity_perm ds, bySeverity_falls ds⟩,
    fun src r s => ⟨fun k hk => s.record_capture_ne r hk, fun hclear hscheme => ?_, fun hvalid => ?_⟩⟩
  · intro c d sev
    obtain ⟨reactions, found, hd⟩ : ∃ reactions found, d = s.taken src r reactions found := s.record_capture_self src r
    refine ⟨hd ▸ Capture.take_valid .., fun hclear => ?_, fun hvalid => ?_⟩
    · rw [hd, State.taken, Capture.take_of_clear _ _ hclear]
      exact ⟨rfl, rfl, rfl, rfl, _, rfl, rfl, rfl, rfl, rfl, rfl, rfl, rfl, rfl, rfl, rfl, rfl⟩
    · rw [hd, State.taken, Capture.take_of_valid _ _ hvalid, Capture.outranked_of_valid _ hvalid]
      exact ⟨rfl, rfl, rfl, rfl, by simp only [decide_eq_true_eq]; rfl⟩
  · rw [State.record_firstSource, hclear, hscheme]
    rfl
  · rw [State.record_firstSource, hvalid]
    rfl

end Sys2Proof.Machine
end

section
/-! PROOFS. Steps and commands: a step runs one command, every command ends, and what follows a command keeps BOUND_OK within its conditions
(R22, R161). -/
namespace Sys2Proof.Machine

/-! ### Every command ends -/

/-- A command is over: its own effect is followed by everything that it sets off, or it had none. -/
inductive Ended (s : State) : Out → Prop where
  | done (u : State) : Ended s u.done
  | skip : Ended s (.next s)

theorem Ended.ite {c : Prop} [Decidable c] {s : State} {a b : Out} (h : Ended s a) (k : Ended s b) : Ended s (if c then a else b) := by
  split
  · exact h
  · exact k

theorem Ended.next_or_done {s : State} {o : Out} (h : Ended s o) : o = .next s ∨ ∃ u : State, o = .next u.settle := by
  cases h with
  | done u => exact .inr ⟨u, rfl⟩
  | skip => exact .inl rfl

theorem State.readClear_ended (s : State) (e : Fin 4) (fn : Fin 65) (v : State → Nat) (clear : State → State) : Ended s (s.readClear e fn v clear) :=
  .ite .skip (.ite (.done _) (.done _))

theorem State.invalRow_ended (s : State) (w : InvalBy) (scope asid size : Nat) : Ended s (s.invalRow w scope asid size) := by
  cases w with
  | pf e => exact .ite (.done _) .skip
  | balyn agent page => exact .ite (.done _) .skip

theorem State.configRequest_ended (s : State) (f : FnId) (go : State → State) : Ended s (s.configRequest f go) :=
  .ite (.done _) (.ite (.done _) .skip)

theorem execRegisterWrite_ended (s : State) (e : Fin 4) (fn : Fin 65) (w : RegWrite) : Ended s (execRegisterWrite e fn w s) :=
  .ite (s.configRequest_ended ..) (.ite (.done _) .skip)

theorem execModResetAssert_ended (s : State) (us : Nat) : Ended s (execModResetAssert us s) := by
  unfold execModResetAssert
  dsimp only
  (repeat' split) <;> with_reducible constructor

theorem execCurveTrip_ended (s : State) (k : Fin 8) (ma : Nat) : Ended s (execCurveTrip k ma s) := by
  unfold execCurveTrip
  dsimp only
  (repeat' split) <;> with_reducible constructor

theorem execThresholdClear_ended (s : State) (w : Clearing) : Ended s (execThresholdClear w s) := by
  unfold execThresholdClear
  dsimp only
  (repeat' split) <;> with_reducible constructor

theorem execA2EntryTimeout_ended (s : State)  : Ended s (execA2EntryTimeout  s) := by
  unfold execA2EntryTimeout
  (repeat' split) <;> with_reducible constructor

theorem execA2Wake_ended (s : State)  : Ended s (execA2Wake  s) := by
  unfold execA2Wake
  (repeat' split) <;> with_reducible constructor

theorem execLaunchWake_ended (s : State)  : Ended s (execLaunchWake  s) := by
  unfold execLaunchWake
  dsimp only
  (repeat' split) <;> with_reducible constructor

theorem execDmaReadCompletion_ended (s : State) (e : Fin 4) (tag : Fin 4096) (ok : Bool) (data : List Byte) : Ended s (execDmaReadCompletion e tag ok data s) := by
  unfold execDmaReadCompletion
  (repeat' split) <;> with_reducible constructor

theorem execCompletionTimeout_ended (s : State) (e : Fin 4) (tag : Fin 4096) : Ended s (execCompletionTimeout e tag s) := by
  unfold execCompletionTimeout
  (repeat' split) <;> with_reducible constructor

theorem execTagQuarantineRelease_ended (s : State) (e : Fin 4) (tag : Fin 4096) : Ended s (execTagQuarantineRelease e tag s) := by
  unfold execTagQuarantineRelease
  (repeat' split) <;> with_reducible constructor

theorem execBar4Read_ended (s : State) (e : Fin 4) (off n : Nat) : Ended s (execBar4Read e off n s) := by
  unfold execBar4Read
  dsimp only
  (repeat' split) <;> with_reducible constructor

theorem execBar4Write_ended (s : State) (e : Fin 4) (off : Nat) (data : List Byte) : Ended s (execBar4Write e off data s) := by
  unfold execBar4Write
  dsimp only
  (repeat' split) <;> with_reducible constructor

theorem execNtNowLoRead_ended (s : State) (e : Fin 4) (fn : Fin 65) : Ended s (execNtNowLoRead e fn s) := by
  unfold execNtNowLoRead
  (repeat' split) <;> with_reducible constructor

theorem execLaunchLateCntRead_ended (s : State) (e : Fin 4) (fn : Fin 65) : Ended s (execLaunchLateCntRead e fn s) := s.readClear_ended ..

theorem execLaunchLateMaxRead_ended (s : State) (e : Fin 4) (fn : Fin 65) : Ended s (execLaunchLateMaxRead e fn s) := s.readClear_ended ..

theorem execWmarkRead_ended (s : State) (e : Fin 4) (fn : Fin 65) (p : Fin 64) (v : Fin 12) : Ended s (execWmarkRead e fn p v s) := s.readClear_ended ..

theorem execTc0QdepthMaxRead_ended (s : State) (e : Fin 4) (fn : Fin 65) (p : Fin 64) : Ended s (execTc0QdepthMaxRead e fn p s) := s.readClear_ended ..

theorem execTpSuspWmarkRead_ended (s : State) (e : Fin 4) (fn : Fin 65) (t : Fin 64) : Ended s (execTpSuspWmarkRead e fn t s) := s.readClear_ended ..

theorem execClLateMaxRead_ended (s : State) (e : Fin 4) (fn : Fin 65) (t : Fin 64) : Ended s (execClLateMaxRead e fn t s) := s.readClear_ended ..

theorem execFaultCountRead_ended (s : State) (e : Fin 4) (fn : Fin 65) (a : Fin 19) : Ended s (execFaultCountRead e fn a s) := s.readClear_ended ..

theorem execAudSrcClear_ended (s : State) (e : Fin 4) (n : Nat) : Ended s (execAudSrcClear e n s) := by
  unfold execAudSrcClear
  (repeat' split) <;> with_reducible constructor

theorem execEvtHeldWrite_ended (s : State) (m : Fin 5) : Ended s (execEvtHeldWrite m s) := by
  unfold execEvtHeldWrite
  dsimp only
  (repeat' split) <;> with_reducible constructor

theorem execSetEndpointId_ended (s : State) (inst : Fin 32) (op : Fin 4) (eid : Byte) : Ended s (execSetEndpointId inst op eid s) := by
  unfold execSetEndpointId
  (repeat' split) <;> with_reducible constructor

theorem execGetVendorMessageSupport_ended (s : State) (inst : Fin 32) (selector : Byte) : Ended s (execGetVendorMessageSupport inst selector s) := by
  unfold execGetVendorMessageSupport
  (repeat' split) <;> with_reducible constructor

theorem execBmcBciRequest_ended (s : State) (msg : List Byte) : Ended s (execBmcBciRequest msg s) := by
  unfold execBmcBciRequest
  (repeat' split) <;> with_reducible constructor

theorem execAttestDone_ended (s : State) (m : Fin 5) (token : U32) : Ended s (execAttestDone m token s) := by
  unfold execAttestDone
  (repeat' split) <;> with_reducible constructor

theorem execMcrWriteDone_ended (s : State) (m : Fin 5) (token : U32) : Ended s (execMcrWriteDone m token s) := by
  unfold execMcrWriteDone
  (repeat' split) <;> with_reducible constructor

theorem execPortRetrainDone_ended (s : State) (m : Fin 5) (token : U32) : Ended s (execPortRetrainDone m token s) := by
  unfold execPortRetrainDone
  dsimp only
  (repeat' split) <;> with_reducible constructor

theorem execCtxDestroyDone_ended (s : State) (m : Fin 5) (token : U32) : Ended s (execCtxDestroyDone m token s) := by
  unfold execCtxDestroyDone
  (repeat' split) <;> with_reducible constructor

theorem execDomainDestroyDone_ended (s : State) (m : Fin 5) (token : U32) : Ended s (execDomainDestroyDone m token s) := by
  unfold execDomainDestroyDone
  (repeat' split) <;> with_reducible constructor

theorem execRegRegisterDone_ended (s : State) (m : Fin 5) (token : U32) : Ended s (execRegRegisterDone m token s) := by
  unfold execRegRegisterDone
  (repeat' split) <;> with_reducible constructor

theorem execKeyInstallDone_ended (s : State) (m : Fin 5) (token : U32) : Ended s (execKeyInstallDone m token s) := by
  unfold execKeyInstallDone
  dsimp only
  (repeat' split) <;> with_reducible constructor

theorem execPwrSetStateDone_ended (s : State) (m : Fin 5) (token : U32) : Ended s (execPwrSetStateDone m token s) := by
  unfold execPwrSetStateDone
  (repeat' split) <;> with_reducible constructor

theorem execFwCommitDone_ended (s : State) (m : Fin 5) (token : U32) (flashError : Bool) : Ended s (execFwCommitDone m token flashError s) := by
  unfold execFwCommitDone
  dsimp only
  (repeat' split) <;> with_reducible constructor

theorem execEntryRead_ended (s : State) (c : Fin 4096) : Ended s (execEntryRead c s) := by
  unfold execEntryRead
  (repeat' split) <;> with_reducible constructor

theorem execChainStart_ended (s : State) (c : Fin 4096) : Ended s (execChainStart c s) := by
  unfold execChainStart
  (repeat' split) <;> with_reducible constructor

theorem execLaunchPrepare_ended (s : State) (c : Fin 4096) : Ended s (execLaunchPrepare c s) := by
  unfold execLaunchPrepare
  (repeat' split) <;> with_reducible constructor

theorem execTimedLaunch_ended (s : State) (c : Fin 4096) : Ended s (execTimedLaunch c s) := by
  unfold execTimedLaunch
  (repeat' split) <;> with_reducible constructor

theorem execLedgerWake_ended (s : State) (c : Fin 4096) : Ended s (execLedgerWake c s) := by
  unfold execLedgerWake
  (repeat' split) <;> with_reducible constructor

theorem execChainRetire_ended (s : State) (c : Fin 4096) : Ended s (execChainRetire c s) := by
  unfold execChainRetire
  (repeat' split) <;> with_reducible constructor

theorem execCqIntTimer_ended (s : State) (c : Fin 4096) : Ended s (execCqIntTimer c s) := by
  unfold execCqIntTimer
  (repeat' split) <;> with_reducible constructor

theorem execPacketArrival_ended (s : State) (p : Fin 64) (vc : Nat) : Ended s (execPacketArrival p vc s) := by
  unfold execPacketArrival
  dsimp only
  (repeat' split) <;> with_reducible constructor

theorem execPathFaultReceive_ended (s : State) (t : Fin 64) : Ended s (execPathFaultReceive t s) := by
  unfold execPathFaultReceive
  (repeat' split) <;> with_reducible constructor

theorem execAckDelayTimer_ended (s : State) (qpn : Nat) (slot : Fin 2) : Ended s (execAckDelayTimer qpn slot s) := by
  unfold execAckDelayTimer
  (repeat' split) <;> with_reducible constructor

theorem execRtoExpiry_ended (s : State) (qpn : Nat) (slot : Fin 2) (psn : Nat) : Ended s (execRtoExpiry qpn slot psn s) := by
  unfold execRtoExpiry
  (repeat' split) <;> with_reducible constructor

theorem execLifeLimitExpiry_ended (s : State) (qpn : Nat) (slot : Fin 2) (psn : Nat) : Ended s (execLifeLimitExpiry qpn slot psn s) := by
  unfold execLifeLimitExpiry
  (repeat' split) <;> with_reducible constructor

theorem execNakBackoffExpiry_ended (s : State) (qpn : Nat) (slot : Fin 2) (psn : Nat) : Ended s (execNakBackoffExpiry qpn slot psn s) := by
  unfold execNakBackoffExpiry
  (repeat' split) <;> with_reducible constructor

theorem execLinkLost_ended (s : State) (t : Fin 64) : Ended s (execLinkLost t s) := by
  unfold execLinkLost
  dsimp only
  (repeat' split) <;> with_reducible constructor

theorem execQuarantineExpiry_ended (s : State) (qpn : Nat) : Ended s (execQuarantineExpiry qpn s) := by
  unfold execQuarantineExpiry
  (repeat' split) <;> with_reducible constructor

theorem execRegionHoldExpiry_ended (s : State) (index : Nat) : Ended s (execRegionHoldExpiry index s) := by
  unfold execRegionHoldExpiry
  (repeat' split) <;> with_reducible constructor

theorem execContextFetchDone_ended (s : State) (t : Fin 64) : Ended s (execContextFetchDone t s) := by
  unfold execContextFetchDone
  (repeat' split) <;> with_reducible constructor

theorem execSpilledContextFetchDone_ended (s : State) (qpn : Nat) : Ended s (execSpilledContextFetchDone qpn s) := by
  unfold execSpilledContextFetchDone
  (repeat' split) <;> with_reducible constructor

theorem execBarrierRelease_ended (s : State) (n : Nat) : Ended s (execBarrierRelease n s) := by
  unfold execBarrierRelease
  (repeat' split) <;> with_reducible constructor

theorem execCollTimeout_ended (s : State) (n : Nat) : Ended s (execCollTimeout n s) := by
  unfold execCollTimeout
  (repeat' split) <;> with_reducible constructor

theorem execMarkFlit_ended (s : State) (p : Fin 64) (b : List Byte) : Ended s (execMarkFlit p b s) := by
  unfold execMarkFlit
  (repeat' split) <;> with_reducible constructor

theorem execReplyFlit_ended (s : State) (p : Fin 64) (b : List Byte) : Ended s (execReplyFlit p b s) := by
  unfold execReplyFlit
  (repeat' split) <;> with_reducible constructor

theorem execReplyDeadline_ended (s : State) (p : Fin 64) : Ended s (execReplyDeadline p s) := by
  unfold execReplyDeadline
  dsimp only
  (repeat' split) <;> with_reducible constructor

theorem execParentStatusWait_ended (s : State)  : Ended s (execParentStatusWait  s) := by
  unfold execParentStatusWait
  (repeat' split) <;> with_reducible constructor

theorem execBoundOkRestore_ended (s : State) (p : Fin 64) : Ended s (execBoundOkRestore p s) := by
  unfold execBoundOkRestore
  (repeat' split) <;> with_reducible constructor

theorem execCableIdReadDone_ended (s : State) (k : Fin 16) (mem : List Byte) : Ended s (execCableIdReadDone k mem s) := by
  unfold execCableIdReadDone
  dsimp only
  (repeat' split) <;> with_reducible constructor

theorem execTsNrzBlock_ended (s : State) (p : Fin 64) (lane : Fin 8) (w : BitVec 128) : Ended s (execTsNrzBlock p lane w s) := by
  unfold execTsNrzBlock
  extract_lets l
  refine .ite .skip ?_
  extract_lets
  split
  · exact .ite (.done _) (.done _)
  · exact .done _

theorem execEqualizePass_ended (s : State) (p : Fin 64) (lanes : BitVec 8) : Ended s (execEqualizePass p lanes s) := by
  unfold execEqualizePass
  dsimp only
  (repeat' split) <;> with_reducible constructor

theorem execEqualizeTimeout_ended (s : State) (p : Fin 64) : Ended s (execEqualizeTimeout p s) := by
  unfold execEqualizeTimeout
  dsimp only
  (repeat' split) <;> with_reducible constructor

theorem execCapFlit_ended (s : State) (p : Fin 64) (c : List Byte) : Ended s (execCapFlit p c s) := by
  unfold execCapFlit
  dsimp only
  (repeat' split) <;> with_reducible constructor

theorem execDataFlit_ended (s : State) (p : Fin 64) (stream : Fin 2) (cw : Option (List Nat)) (flit : List Byte) : Ended s (execDataFlit p stream cw flit s) := by
  unfold execDataFlit
  dsimp only
  (repeat' split) <;> with_reducible constructor

theorem execUncorrectableCodeword_ended (s : State) (p : Fin 64) (kind : Fin 2) : Ended s (execUncorrectableCodeword p kind s) := by
  unfold execUncorrectableCodeword
  (repeat' split) <;> with_reducible constructor

theorem execReplayReqFlit_ended (s : State) (p : Fin 64) (seq : U16) (cause : Nat) : Ended s (execReplayReqFlit p seq cause s) := by
  unfold execReplayReqFlit
  dsimp only
  (repeat' split) <;> with_reducible constructor

theorem execReplayStartFlit_ended (s : State) (p : Fin 64) (seq : U16) (cause : Nat) : Ended s (execReplayStartFlit p seq cause s) := by
  unfold execReplayStartFlit
  dsimp only
  (repeat' split) <;> with_reducible constructor

theorem execCreditTimeout_ended (s : State) (p : Fin 64) : Ended s (execCreditTimeout p s) := by
  unfold execCreditTimeout
  dsimp only
  (repeat' split) <;> with_reducible constructor

theorem execOperatingPointSwitch_ended (s : State) (p : Fin 64) : Ended s (execOperatingPointSwitch p s) := by
  unfold execOperatingPointSwitch
  dsimp only
  (repeat' split) <;> with_reducible constructor

theorem execDownTimer_ended (s : State) (p : Fin 64) : Ended s (execDownTimer p s) := by
  unfold execDownTimer
  dsimp only
  (repeat' split) <;> with_reducible constructor

theorem execSweepDump_ended (s : State)  : Ended s (execSweepDump  s) := by
  unfold execSweepDump
  dsimp only
  (repeat' split) <;> with_reducible constructor

theorem execFlitBoundary_ended (s : State) (p : Fin 64) : Ended s (execFlitBoundary p s) := by
  unfold execFlitBoundary
  dsimp only
  (repeat' split) <;> with_reducible constructor

theorem execHbmGatewayAccept_ended (s : State) (t : Fin 64) : Ended s (execHbmGatewayAccept t s) := by
  unfold execHbmGatewayAccept
  (repeat' split) <;> with_reducible constructor

/-- Every command ends, along whichever branch of its meaning. -/
theorem exec_ended (c : Instr) (s : State) : Ended s (exec c s) := by
  cases c with
  | perstDeassert | nop | longStatus | evtRead | getVersion | getIdentity | getCertChain | getMeasurements | attest | mcrRead | mcrWrite |
    setMgmtPf | setTagPool | getModuleState | portQuery | portSet | portRetrain | setIdentity | setPortRole | setExit | setGroupRoute |
    setPset | setRouteCtrl | setCongThresh | routeQuery | ctxCreate | ctxDestroy | ctxQuery | ctxSet | domainCreate | domainDestroy |
    ledgerAlloc | ledgerFree | ledgerAttr | jobCreate | jobDestroy | rankWrite | jobQuery | collNodeCreate | collNodeLink | collNodeDestroy
    | qpCreate | qpConnect | qpReset | qpDestroy | qpQuery | regRegister | regDeregister | regQuery | asidAlloc | asidSetRoot | asidFree |
    hbmExposeKey | keyKemOpen | keyKemPublic | keyCtWrite | keyInstall | keyWithdraw | keyQuery | timeSetRoot | timeSetMember | timeSetAsym
    | timeSetLt | timeSetLaunch | timeQuery | schedTc0 | schedShaper | schedDrr | schedOverhead | schedGclWrite | schedGclSwitch | schedGate
    | schedCtxBucket | faultQuery | faultClear | faultReaction | faultInject | logRead | memDump | perfSelect | perfGrant | sweepConfig |
    sweepCtrl | pwrQuery | pwrSetState | pwrSetThresh | pwrSetCurve | pwrSetRetry | fwQuery | fwBegin | fwWrite | fwCommit | fwActivate |
    fwConfirm | fwAbort | putEntry | getEntry | sendEntry | recvEntry | atomicEntry | collEntry | probeEntry | cancelEntry | ledgerAddEntry
    | ledgerSetEntry | ledgerReadEntry | nopEntry | timingEntry | backlogWrite | congDecay | putPacket | sendPacket | getPacket |
    atomicPacket | getRspPacket | atomicRspPacket | ackPacket | nakPacket | downFlit | lockLost => exact .done _
  | standbyPowerUp | standbyPowerLoss | modResetDeassert | deviceResetRelease | balynStart | aliveRunning | configSpaceReady | vaultRngFail
    | seatQualified | seatLoss | efuseRampDone | rampTimeout | fastTrip | pwrGoodAssert | pgTimeout | efuseRetry | retryCountReset | vinSag
    | vinReset | vinOvervoltage | vcoreLow | vcoreReset | tempHigh | tempShutdown | coolantWarn | regionSkew | invalDone | markSend |
    holdoverLimit | ppsInEdge | cableInserted | cableRemoved | cablePgAssert | cablePowerTimeout | cableOvercurrent | tsPamBlock | alignLock
    | capSend | ackFlit | pstateRequest | pstateSwitch | ackSendTimer | ackTimer | replayWaitTimer | clockLost | stepAligned | stepTimeout |
    speculativeFill => exact .ite .skip (.done _)
  | heartbeat | fuseBurnDone | a2Entry | transitDozeWait | hostArrived | hostDeparted | noFlitRetry | lateCompletion | unexpectedCompletion
    | hostAtomicop | mbxDoorbell | evtTailWrite | i3cEntdaa | getEndpointId | getEndpointUuid | getMctpVersionSupport |
    getMessageTypeSupport | mctpUnsupportedCmd | ringEnable | ringDisable | sqTailDoorbell | cqHeadDoorbell | cqArm | saltRedraw |
    messagePresent | tellerEscalationDone | timeRefLost | ppsOutStart | ppsOutEnd | hbmImbalWindow | detectClock | clockLocked |
    clockTimeout | slowTimeout | alignTimeout | capxTimeout | incompatibleHold | alignFlit | holdoffExpiry | faultDetect | wireFault |
    unwatchedPoll | handshakeStall | msixUnmask | rngSourcePass | wirePairRestored => exact .ite (.done _) .skip
  | vfDisable | bmeClear | bmeSet | d3hotEntry | gateChange | d3hotExit => exact .ite (.done _) (.ite (.done _) .skip)
  | perstAssert => exact .ite (.done _) (.done _)
  | invalAll | invalAsid | invalRange | invalGlobal => exact State.invalRow_ended ..
  | modResetAssert => exact execModResetAssert_ended ..
  | curveTrip => exact execCurveTrip_ended ..
  | thresholdClear => exact execThresholdClear_ended ..
  | a2EntryTimeout => exact execA2EntryTimeout_ended ..
  | a2Wake => exact execA2Wake_ended ..
  | launchWake => exact execLaunchWake_ended ..
  | dmaReadCompletion => exact execDmaReadCompletion_ended ..
  | completionTimeout => exact execCompletionTimeout_ended ..
  | tagQuarantineRelease => exact execTagQuarantineRelease_ended ..
  | bar4Read => exact execBar4Read_ended ..
  | bar4Write => exact execBar4Write_ended ..
  | registerWrite => exact execRegisterWrite_ended ..
  | ntNowLoRead => exact execNtNowLoRead_ended ..
  | launchLateCntRead => exact execLaunchLateCntRead_ended ..
  | launchLateMaxRead => exact execLaunchLateMaxRead_ended ..
  | wmarkRead => exact execWmarkRead_ended ..
  | tc0QdepthMaxRead => exact execTc0QdepthMaxRead_ended ..
  | tpSuspWmarkRead => exact execTpSuspWmarkRead_ended ..
  | clLateMaxRead => exact execClLateMaxRead_ended ..
  | faultCountRead => exact execFaultCountRead_ended ..
  | audSrcClear => exact execAudSrcClear_ended ..
  | evtHeldWrite => exact execEvtHeldWrite_ended ..
  | setEndpointId => exact execSetEndpointId_ended ..
  | getVendorMessageSupport => exact execGetVendorMessageSupport_ended ..
  | bmcBciRequest => exact execBmcBciRequest_ended ..
  | attestDone => exact execAttestDone_ended ..
  | mcrWriteDone => exact execMcrWriteDone_ended ..
  | portRetrainDone => exact execPortRetrainDone_ended ..
  | ctxDestroyDone => exact execCtxDestroyDone_ended ..
  | domainDestroyDone => exact execDomainDestroyDone_ended ..
  | regRegisterDone => exact execRegRegisterDone_ended ..
  | keyInstallDone => exact execKeyInstallDone_ended ..
  | pwrSetStateDone => exact execPwrSetStateDone_ended ..
  | fwCommitDone => exact execFwCommitDone_ended ..
  | entryRead => exact execEntryRead_ended ..
  | chainStart => exact execChainStart_ended ..
  | launchPrepare => exact execLaunchPrepare_ended ..
  | timedLaunch => exact execTimedLaunch_ended ..
  | ledgerWake => exact execLedgerWake_ended ..
  | chainRetire => exact execChainRetire_ended ..
  | cqIntTimer => exact execCqIntTimer_ended ..
  | packetArrival => exact execPacketArrival_ended ..
  | pathFaultReceive => exact execPathFaultReceive_ended ..
  | ackDelayTimer => exact execAckDelayTimer_ended ..
  | rtoExpiry => exact execRtoExpiry_ended ..
  | lifeLimitExpiry => exact execLifeLimitExpiry_ended ..
  | nakBackoffExpiry => exact execNakBackoffExpiry_ended ..
  | linkLost => exact execLinkLost_ended ..
  | quarantineExpiry => exact execQuarantineExpiry_ended ..
  | regionHoldExpiry => exact execRegionHoldExpiry_ended ..
  | contextFetchDone => exact execContextFetchDone_ended ..
  | spilledContextFetchDone => exact execSpilledContextFetchDone_ended ..
  | barrierRelease => exact execBarrierRelease_ended ..
  | collTimeout => exact execCollTimeout_ended ..
  | markFlit => exact execMarkFlit_ended ..
  | replyFlit => exact execReplyFlit_ended ..
  | replyDeadline => exact execReplyDeadline_ended ..
  | parentStatusWait => exact execParentStatusWait_ended ..
  | boundOkRestore => exact execBoundOkRestore_ended ..
  | cableIdReadDone => exact execCableIdReadDone_ended ..
  | tsNrzBlock => exact execTsNrzBlock_ended ..
  | equalizePass => exact execEqualizePass_ended ..
  | equalizeTimeout => exact execEqualizeTimeout_ended ..
  | capFlit => exact execCapFlit_ended ..
  | dataFlit => exact execDataFlit_ended ..
  | uncorrectableCodeword => exact execUncorrectableCodeword_ended ..
  | replayReqFlit p seq cause => exact execReplayReqFlit_ended s p seq cause
  | replayStartFlit p seq cause => exact execReplayStartFlit_ended s p seq cause
  | creditTimeout => exact execCreditTimeout_ended ..
  | operatingPointSwitch => exact execOperatingPointSwitch_ended ..
  | downTimer => exact execDownTimer_ended ..
  | sweepDump => exact execSweepDump_ended ..
  | flitBoundary => exact execFlitBoundary_ended ..
  | hbmGatewayAccept => exact execHbmGatewayAccept_ended ..

/-- A step is an idle tick, a command without an effect, or a command's effect with everything that follows. -/
theorem step_ended (s : State) :
    step s = .next (s.passTime 1) ∨ ∃ rest, step s = .next { s with pending := rest } ∨ ∃ u : State, step s = .next u.settle := by
  unfold step
  split
  · exact .inl rfl
  · next c rest _ => exact .inr ⟨rest, (exec_ended c _).next_or_done⟩

/-! ### Where nothing is left to follow -/

theorem State.netStep_of_empty {s : State} (hloads : s.net.loads = []) (hwaits : s.net.waits = []) : s.netStep = none := by
  simp [State.netStep, State.waitRound, State.netRound, State.nextHeld, hloads, hwaits]

theorem State.holdBacks_of_empty {s : State} (hloads : s.net.loads = []) : s.holdBacks = s := by
  simp [State.holdBacks, hloads]

theorem State.qpSync_of_empty {s : State} (hqps : s.qps = []) : s.qpSync = s := by
  simp [State.qpSync, hqps]

theorem State.collSync_of_empty {s : State} (hnodes : s.nodes = []) : s.collSync = s := by
  simp [State.collSync, hnodes]

theorem State.suspSync_of_empty {s : State} (htiles : ∀ e ∈ s.tiles, e.2.susp = []) : s.suspSync = s := by
  have hnone : (s.tiles.filter fun e => !e.2.susp.isEmpty) = [] := List.filter_eq_nil_iff.mpr fun e he => by simp [htiles e he]
  simp [State.suspSync, hnone]

theorem State.settleN_of_quiet {s : State} (h : s.quiet) (n : Nat) : s.settleN n = s := by
  obtain ⟨hended, hdue, hloads, hwaits, hqps, hnodes, htiles, -⟩ := h
  cases n with
  | zero => rfl
  | succ n =>
    simp [State.settleN, hended, hdue, State.netStep_of_empty hloads hwaits, State.holdBacks_of_empty hloads, State.qpSync_of_empty hqps,
      State.collSync_of_empty hnodes, State.suspSync_of_empty htiles]

/-- What settling does last at a port: its gates, then its bound. -/
def State.portSync (s : State) (p : Nat) : State := (if (s.sched p).gateEn then s.gateSync p else s).boundSync p

theorem State.settle_eq (s : State) : s.settle = (s.settleN settleFuel).livePorts.foldl State.portSync (s.settleN settleFuel) := rfl

theorem State.portSync_of_still {s : State} {p : Nat} (hgate : (s.sched p).gateEn = false) (hok : (s.sched p).boundOk = false)
    (hnow : s.boundNow p = false) : s.portSync p = s := by
  simp [State.portSync, State.boundSync, State.boundFalls, hgate, hok, hnow]

theorem foldl_of_fixed {α β : Type} {f : β → α → β} {b : β} {l : List α} (h : ∀ a ∈ l, f b a = b) : l.foldl f b = b := by
  induction l with
  | nil => rfl
  | cons a l ih =>
    rw [List.foldl_cons, h a List.mem_cons_self]
    exact ih fun c hc => h c (List.mem_cons_of_mem _ hc)

theorem State.settle_of_quiet {s : State} (h : s.quiet) : s.settle = s := by
  rw [State.settle_eq, State.settleN_of_quiet h]
  obtain ⟨-, -, -, -, -, -, -, hports⟩ := h
  exact foldl_of_fixed fun p hp => State.portSync_of_still (hports p hp).1 (hports p hp).2.1 (hports p hp).2.2

/-! ### The express bound -/

/-- BOUND_OK of port `p` is set only while its conditions hold: the invariant at one port. -/
def State.BoundAt (s : State) (p : Nat) : Prop := (s.sched p).boundOk = true → s.boundNow p = true

/-- The bound of a port reads the port's link and scheduler, the clock, the power state and the supplies. -/
theorem State.boundNow_congr {s u : State} {p : Nat} (hlink : u.link p = s.link p) (hsched : u.sched p = s.sched p) (hclk : u.clk = s.clk)
    (hpwr : u.pwr = s.pwr) (hsup : u.sup = s.sup) : u.boundNow p = s.boundNow p := by
  simp only [State.boundNow, hlink, hsched, hclk, hpwr, hsup]

theorem State.gateSync_port (s : State) (p : Nat) : Port p (.scheds :: reporting) s (s.gateSync p) :=
  (s.setSched_port p _).mono.trans ((State.notify_only _ _ _ _).port p).mono

theorem State.boundSync_port (s : State) (p : Nat) : Port p (.scheds :: reporting) s (s.boundSync p) := by
  unfold State.boundSync
  extract_lets
  split
  · exact (s.setSched_port p _).mono
  · exact s.boundFalls_port p

theorem State.portSync_port (s : State) (p : Nat) : Port p (.scheds :: reporting) s (s.portSync p) := by
  unfold State.portSync
  split
  · exact (s.gateSync_port p).trans (State.boundSync_port _ p)
  · exact s.boundSync_port p

@[simp] theorem State.sched_setSched_self (s : State) (p : Nat) (x : SchedPort) : (s.setSched p x).sched p = x := by
  simp [State.sched]

theorem State.boundFalls_boundOk (s : State) (p : Nat) : ((s.boundFalls p).sched p).boundOk = false := by
  unfold State.boundFalls
  extract_lets x s1
  split
  · have hsched : (s1.notify x.intStatus (x.intStatus ||| 4) x.intEnable).sched p = s1.sched p := by simp [State.sched]
    rw [hsched, State.sched_setSched_self]
  · next h => exact Bool.eq_false_iff.mpr h

/-- Bringing BOUND_OK up to date leaves it within its conditions. -/
theorem State.boundSync_boundAt (s : State) (p : Nat) : (s.boundSync p).BoundAt p := by
  unfold State.boundSync
  extract_lets now
  split
  · next h =>
    intro _
    have hkept : (s.modSched p fun x => { x with boundOk := true }).boundNow p = s.boundNow p := by
      simp only [State.boundNow, State.modSched, State.sched_setSched_self, expReserved]
      rfl
    exact hkept.trans h
  · intro hok
    rw [State.boundFalls_boundOk] at hok
    exact absurd hok (by decide)

theorem State.portSync_boundAt (s : State) (p : Nat) : (s.portSync p).BoundAt p := State.boundSync_boundAt _ p

theorem Port.boundAt {p q : Nat} {l : List Part} {s u : State} (h : Port p l s u) (hq : q ≠ p) (hs : s.BoundAt q) (hclk : .clk ∉ l := by decide)
    (hpwr : .pwr ∉ l := by decide) (hsup : .sup ∉ l := by decide) : u.BoundAt q := by
  obtain ⟨hlink, hsched, -⟩ := h.elsewhere q hq
  have hnow : u.boundNow q = s.boundNow q :=
    State.boundNow_congr hlink hsched ((h.only .clk).resolve_left hclk) ((h.only .pwr).resolve_left hpwr) ((h.only .sup).resolve_left hsup)
  unfold State.BoundAt at hs ⊢
  rwa [hnow, hsched]

/-- Whatever a port was, its bound is within its conditions once it has been brought up to date, and stays so while others are. -/
theorem State.foldl_portSync_boundAt {q : Nat} (l : List Nat) (s : State) (h : s.BoundAt q ∨ q ∈ l) : (l.foldl State.portSync s).BoundAt q := by
  induction l generalizing s with
  | nil => exact h.resolve_right List.not_mem_nil
  | cons p l ih =>
    refine ih _ ?_
    by_cases hq : q = p
    · subst hq
      exact .inl (s.portSync_boundAt q)
    · exact h.imp (fun hs => (s.portSync_port p).boundAt hq hs) fun hmem => (List.mem_cons.mp hmem).resolve_left hq

/-- A port that nothing was written for has BOUND_OK clear. -/
theorem State.boundAt_of_not_live {s : State} {p : Nat} (hp : p < 64) (h : p ∉ s.livePorts) : s.BoundAt p := by
  have hnone : Tbl.get? s.scheds p = none := by
    simp only [State.livePorts, List.mem_filter, List.mem_range, hp, true_and, Bool.or_eq_true, not_or, Bool.not_eq_true,
      Option.isSome_eq_false_iff, Option.isNone_iff_eq_none] at h
    exact h.2
  intro hok
  simp [State.sched, Tbl.getD, hnone, SchedPort.reset] at hok

/-- Settling leaves every port's BOUND_OK within its conditions, whatever the state before. -/
theorem State.settle_inv (s : State) : s.settle.Inv := fun p hp => by
  rw [State.settle_eq]
  refine State.foldl_portSync_boundAt _ _ ?_
  by_cases hlive : p ∈ (s.settleN settleFuel).livePorts
  · exact .inr hlive
  · exact .inl (State.boundAt_of_not_live hp hlive)

theorem Clock.le_advance_now (c : Clock) (rateAdj : Int) (d : Nat) : c.now ≤ (c.advance rateAdj d).now := Nat.le_add_right _ _

/-- The clock never runs backwards. -/
theorem State.le_passTime_now (s : State) (d : Nat) : s.clk.now ≤ (s.passTime d).clk.now := by
  by_cases hd : d = 0
  · rw [hd, State.passTime_zero]
  · rw [State.passTime_clk s d hd]
    split
    · exact Clock.le_advance_now _ _ _
    · exact Nat.le_add_right _ _

/-- The conditions of the bound outlast time that passes by itself. -/
theorem Later.boundNow {s t : State} (h : Later s t) (hnow : s.clk.now ≤ t.clk.now) {p : Nat} (hs : s.boundNow p = true) : t.boundNow p = true := by
  obtain ⟨c, hlink⟩ := h.link p
  have hsched : t.sched p = s.sched p := by simp only [State.sched, h.scheds]
  revert hs
  simp only [State.boundNow, hlink, hsched, h.pwr, h.sup, expReserved, tc0Rate, LinkPort.net, Bool.and_eq_true]
  refine And.imp_right fun hrecent => ?_
  cases hbad : (s.sched p).boundBadAt with
  | none => rfl
  | some t0 =>
    simp only [hbad, Bool.not_eq_true', decide_eq_false_iff_not, not_lt] at hrecent ⊢
    omega

theorem State.passTime_inv {s : State} (h : s.Inv) (d : Nat) : (s.passTime d).Inv := fun p hp hok => by
  refine (s.passTime_later d).boundNow (s.le_passTime_now d) (h p hp ?_)
  simpa [State.sched] using hok

/-! ### The statements -/

/-- Settles O1: a step is the command at the front, and an empty queue lets one tick pass. -/
theorem commandsRunFirstInFirstOut : Obligations.CommandsRunFirstInFirstOut := by
  unfold Obligations.CommandsRunFirstInFirstOut
  refine ⟨fun c q s => rfl, fun s hidle => ⟨s.passTime 1, by simp [step, hidle], ?_⟩⟩
  simp [hidle, State.passTime_clk]

/-- Settles O2: every meaning ends in one of two ways, and where nothing is left to follow every part of settling leaves the state alone. -/
theorem everyCommandHasItsEffect : Obligations.EveryCommandHasItsEffect := by
  unfold Obligations.EveryCommandHasItsEffect
  refine ⟨fun s => ?_, fun c s => (exec_ended c s).next_or_done, fun u => State.settle_of_quiet⟩
  obtain h | ⟨rest, h | ⟨u, h⟩⟩ := step_ended s
  · exact ⟨_, h⟩
  · exact ⟨_, h⟩
  · exact ⟨_, h⟩

/-- Settles O3: settling restores the invariant in every state, so only an idle tick and a command without an effect have to keep it. -/
theorem boundInvariantKept : Obligations.BoundInvariantKept := by
  unfold Obligations.BoundInvariantKept
  intro s t hinv hstep
  obtain h | ⟨rest, h | ⟨u, h⟩⟩ := step_ended s
  · obtain rfl : s.passTime 1 = t := Host.Outcome.next.inj (h.symm.trans hstep)
    exact State.passTime_inv hinv 1
  · obtain rfl : { s with pending := rest } = t := Host.Outcome.next.inj (h.symm.trans hstep)
    exact hinv
  · obtain rfl : u.settle = t := Host.Outcome.next.inj (h.symm.trans hstep)
    exact u.settle_inv

/-- Settles O4: after reset no port has BOUND_OK. -/
theorem resetMeetsInvariant : Obligations.ResetMeetsInvariant := by
  unfold Obligations.ResetMeetsInvariant
  exact fun p hp => State.boundAt_of_not_live hp (by simp [State.livePorts, State.reset])

/-- Settles O5: each value is the one that the reset state is built from. -/
theorem resetValues : Obligations.ResetValues := by
  unfold Obligations.ResetValues
  exact ⟨rfl, rfl, rfl, rfl, rfl, rfl, rfl, rfl, rfl, rfl, rfl, rfl, rfl, fun _ => ⟨rfl, rfl, rfl, rfl, rfl⟩, fun _ => ⟨rfl, rfl⟩,
    fun _ => ⟨rfl, rfl⟩, fun _ => rfl⟩

end Sys2Proof.Machine
end

section
/-! PROOFS. Bytes and memories: numbers and the bytes that spell them, the packet formats, and what memories and HBM read after a write
(R74, R75, R173, R174, R287, R300). -/
namespace Sys2Proof.Machine

/-! ### Numbers and their bytes -/

@[simp] theorem leBytes_length (n v : Nat) : (leBytes n v).length = n := by
  induction n generalizing v with
  | zero => rfl
  | succ n ih => simp [leBytes, ih]

@[simp] theorem beBytes_length (n v : Nat) : (beBytes n v).length = n := by simp [beBytes]

theorem leNat_leBytes (n v : Nat) : leNat (leBytes n v) = v % 256 ^ n := by
  induction n generalizing v with
  | zero => simp [leBytes, leNat, Nat.mod_one]
  | succ n ih =>
    have hlow : (BitVec.ofNat 8 v).toNat = v % 256 := BitVec.toNat_ofNat v 8
    rw [leBytes, leNat, ih, hlow, pow_succ', Nat.mod_mul]

theorem beNat_beBytes (n v : Nat) : beNat (beBytes n v) = v % 256 ^ n := by
  simp [beNat, beBytes, leNat_leBytes]

/-- A number spelt by its own bytes: a list of bytes is the only one of its length that spells its number. -/
theorem leBytes_leNat (l : List Byte) : leBytes l.length (leNat l) = l := by
  induction l with
  | nil => rfl
  | cons b t ih =>
    have hlow : BitVec.ofNat 8 (b.toNat + 256 * leNat t) = b := by
      apply BitVec.eq_of_toNat_eq
      simp only [BitVec.toNat_ofNat]
      omega
    have hrest : (b.toNat + 256 * leNat t) / 256 = leNat t := by omega
    simp only [leNat, List.length_cons, leBytes, hlow, hrest, ih]

theorem leNat_lt (l : List Byte) : leNat l < 256 ^ l.length := by
  induction l with
  | nil => simp [leNat]
  | cons b t ih =>
    have hb : b.toNat < 256 := b.isLt
    simp only [leNat, List.length_cons, pow_succ']
    omega

/-- A word read back from its 8 bytes. -/
theorem ofNat_beNat_beBytes (w : BitVec 64) : BitVec.ofNat 64 (beNat (beBytes 8 w.toNat)) = w := by
  rw [beNat_beBytes, show (256 : Nat) ^ 8 = 2 ^ 64 by norm_num, Nat.mod_eq_of_lt w.isLt, BitVec.ofNat_toNat, BitVec.setWidth_eq]

theorem fit_of_length {n : Nat} {l : List Byte} (h : l.length = n) : fit n l = l := by
  simp [fit, h]

/-! ### Packets -/

theorem RouteHdr.ofWords_words (h : RouteHdr) : RouteHdr.ofWords h.word0 h.word1 = h := by
  unfold RouteHdr.ofWords RouteHdr.word0 RouteHdr.word1
  simp (disch := decide) only [BitVec.extractLsb'_append_eq_of_le, BitVec.extractLsb'_append_eq_of_add_le, BitVec.extractLsb'_eq_self,
    Nat.reduceSub]

theorem TransHdr.ofWords_words (t : TransHdr) : TransHdr.ofWords t.word2 t.word3 = t := by
  unfold TransHdr.ofWords TransHdr.word2 TransHdr.word3
  simp (disch := decide) only [BitVec.extractLsb'_append_eq_of_le, BitVec.extractLsb'_append_eq_of_add_le, BitVec.extractLsb'_eq_self,
    Nat.reduceSub]

@[simp] theorem RouteHdr.bytes_length (h : RouteHdr) : h.bytes.length = 16 := by simp [RouteHdr.bytes]

@[simp] theorem TransHdr.bytes_length (t : TransHdr) : t.bytes.length = 16 := by simp [TransHdr.bytes]

theorem RouteHdr.decode_bytes (h : RouteHdr) (rest : List Byte) : RouteHdr.decode (h.bytes ++ rest) = some h := by
  have hlen : ¬ (h.bytes ++ rest).length < 16 := by simp
  have hfirst : (h.bytes ++ rest).take 8 = beBytes 8 h.word0.toNat := by simp [RouteHdr.bytes]
  have hsecond : ((h.bytes ++ rest).drop 8).take 8 = beBytes 8 h.word1.toNat := by simp [RouteHdr.bytes]
  rw [RouteHdr.decode, if_neg hlen, hfirst, hsecond, ofNat_beNat_beBytes, ofNat_beNat_beBytes, RouteHdr.ofWords_words]

theorem Packet.trans_bytes (h : RouteHdr) (t : TransHdr) (rest : List Byte) : ({ hdr := h, body := t.bytes ++ rest } : Packet).trans = t := by
  have hfirst : (t.bytes ++ rest).take 8 = beBytes 8 t.word2.toNat := by simp [TransHdr.bytes]
  have hsecond : ((t.bytes ++ rest).drop 8).take 8 = beBytes 8 t.word3.toNat := by simp [TransHdr.bytes]
  simp only [Packet.trans, Packet.word, Nat.sub_self, Nat.mul_zero, List.drop_zero, Nat.reduceSub, Nat.mul_one, hfirst, hsecond,
    fit_of_length (beBytes_length _ _), ofNat_beNat_beBytes, TransHdr.ofWords_words]

theorem Packet.bytes_of_len {k : Packet} (h : k.hdr.len.toNat = 16 + k.body.length) : k.bytes = k.hdr.bytes ++ k.body :=
  fit_of_length (by simp [h])

theorem Packet.decode_bytes {k : Packet} (h : k.hdr.len.toNat = 16 + k.body.length) : Packet.decode k.bytes = some k := by
  have hbody : ((k.hdr.bytes ++ k.body).drop 16).take (k.hdr.len.toNat - 16) = k.body := by simp [h]
  rw [Packet.bytes_of_len h, Packet.decode, RouteHdr.decode_bytes]
  simp only [hbody]

/-- Settles O44: each header is laid out in two words, and each word read back from its 8 bytes is the concatenation that its fields are cut from. -/
theorem packetsRoundTrip : Obligations.PacketsRoundTrip := by
  unfold Obligations.PacketsRoundTrip
  exact ⟨fun h rest => ⟨h.bytes_length, h.decode_bytes rest⟩, fun h t rest => ⟨t.bytes_length, Packet.trans_bytes h t rest⟩,
    fun k hlen => ⟨Packet.decode_bytes hlen, by simp [Packet.bytes_of_len hlen, hlen]⟩⟩

/-! ### Byte memories -/

theorem Memory.byte_of_lt {m : List Host.Cell} {a : Nat} (h : ∀ c ∈ m, a < c.1) : Memory.byte m a = 0 := by
  induction m with
  | nil => rfl
  | cons e t ih =>
    have hne : e.1 ≠ a := (h e List.mem_cons_self).ne'
    simp only [Memory.byte, hne, if_false]
    exact ih fun c hc => h c (List.mem_cons_of_mem _ hc)

theorem Memory.wf_tail {e : Host.Cell} {t : List Host.Cell} (h : Memory.wf (e :: t)) : Memory.wf t :=
  ⟨(List.pairwise_cons.mp h.1).2, fun c hc => h.2 c (List.mem_cons_of_mem _ hc)⟩

theorem Memory.byte_cons (b i : Nat) (w : Byte) (t : List Host.Cell) :
    Memory.byte ((b, w) :: t) i = if b = i then w else Memory.byte t i := rfl

/-- A one-byte write is read at its address and nowhere else. -/
theorem Memory.byte_write1 {m : List Host.Cell} (h : Memory.wf m) (a i : Nat) (v : Byte) :
    Memory.byte (Memory.write1 m a v) i = if i = a then v else Memory.byte m i := by
  induction m with
  | nil =>
    simp only [Memory.write1]
    split
    · next hv => simp [hv, Memory.byte]
    · simp only [Memory.byte, eq_comm]
  | cons e t ih =>
    obtain ⟨b, w⟩ := e
    have hrise : ∀ c ∈ t, b < c.1 := (List.pairwise_cons.mp h.1).1
    have hpast (j : Nat) (hj : j ≤ b) : Memory.byte t j = 0 := Memory.byte_of_lt fun c hc => hj.trans_lt (hrise c hc)
    simp only [Memory.write1]
    split
    · split <;> grind [Memory.byte_cons]
    · split
      · split <;> grind [Memory.byte_cons]
      · grind [Memory.byte_cons, ih (Memory.wf_tail h)]

theorem Memory.byte_write {m : List Host.Cell} (h : Memory.wf m) (a i : Nat) (l : List Byte) :
    Memory.byte (Memory.write m a l) i = if a ≤ i ∧ i < a + l.length then l.getD (i - a) 0 else Memory.byte m i := by
  induction l generalizing m a with
  | nil => simp [Memory.write]
  | cons v l ih =>
    rw [Memory.write, ih (Memory.wf_write1 a v h), Memory.byte_write1 h]
    by_cases hi : i = a
    · subst hi; simp
    · by_cases hr : a + 1 ≤ i ∧ i < a + 1 + l.length
      · have hin : a ≤ i ∧ i < a + (v :: l).length := by simp only [List.length_cons]; omega
        have hsucc : i - a = i - (a + 1) + 1 := by omega
        rw [if_pos hr, if_pos hin, hsucc, List.getD_cons_succ]
      · have hout : ¬ (a ≤ i ∧ i < a + (v :: l).length) := by simp only [List.length_cons]; omega
        rw [if_neg hr, if_neg hout, if_neg hi]

theorem Memory.byte_zero (m : List Host.Cell) (a n i : Nat) :
    Memory.byte (Memory.zero m a n) i = if a ≤ i ∧ i < a + n then 0 else Memory.byte m i := by
  induction m with
  | nil => simp [Memory.zero, Memory.byte]
  | cons e t ih =>
    obtain ⟨b, w⟩ := e
    by_cases hb : a ≤ b ∧ b < a + n
    · have hdrop : Memory.zero ((b, w) :: t) a n = Memory.zero t a n := by simp [Memory.zero, hb]
      rw [hdrop, ih]
      grind [Memory.byte_cons]
    · have hkeep : Memory.zero ((b, w) :: t) a n = (b, w) :: Memory.zero t a n := by
        simp only [Memory.zero, List.filter_cons, hb, not_false_eq_true, decide_true, if_true]
      rw [hkeep, Memory.byte_cons, ih]
      grind [Memory.byte_cons]

@[simp] theorem Memory.read_length (m : List Host.Cell) (a n : Nat) : (Memory.read m a n).length = n := by
  induction n generalizing a with
  | zero => rfl
  | succ n ih => simp [Memory.read, ih]

theorem Memory.getElem_read {m : List Host.Cell} {a n k : Nat} (h : k < (Memory.read m a n).length) :
    (Memory.read m a n)[k] = Memory.byte m (a + k) := by
  induction n generalizing a k with
  | zero => exact absurd h (Nat.not_lt_zero k)
  | succ n ih =>
    cases k with
    | zero => rfl
    | succ k =>
      simp only [Memory.read, List.getElem_cons_succ]
      rw [ih, Nat.add_assoc, Nat.add_comm 1 k]

theorem Memory.read_write {m : List Host.Cell} (h : Memory.wf m) (a : Nat) (l : List Byte) : Memory.read (Memory.write m a l) a l.length = l := by
  refine List.ext_getElem (Memory.read_length _ _ _) fun k hk hl => ?_
  rw [Memory.getElem_read hk, Memory.byte_write h, if_pos ⟨Nat.le_add_right a k, Nat.add_lt_add_left hl a⟩, Nat.add_sub_cancel_left,
    List.getD_eq_getElem _ _ hl]

/-- What a canonical memory lists is what it reads. -/
theorem Memory.mem_iff_byte {m : List Host.Cell} (h : Memory.wf m) (c : Host.Cell) : c ∈ m ↔ c.2 ≠ 0 ∧ Memory.byte m c.1 = c.2 := by
  induction m with
  | nil => exact ⟨fun hc => absurd hc List.not_mem_nil, fun hc => absurd hc.2.symm hc.1⟩
  | cons e t ih =>
    obtain ⟨b, w⟩ := e
    have hrise : ∀ c ∈ t, b < c.1 := (List.pairwise_cons.mp h.1).1
    have hw : w ≠ 0 := h.2 (b, w) List.mem_cons_self
    rw [List.mem_cons, ih (Memory.wf_tail h), Memory.byte_cons]
    obtain ⟨a, v⟩ := c
    by_cases hab : b = a
    · subst hab
      have hpast : Memory.byte t b = 0 := Memory.byte_of_lt hrise
      grind
    · grind

/-- Canonical memories that read alike are the same list. -/
theorem Memory.ext {m m' : List Host.Cell} (h : Memory.wf m) (h' : Memory.wf m') (hread : ∀ j, Memory.byte m j = Memory.byte m' j) : m = m' := by
  have : Std.Irrefl fun a b : Host.Cell => a.1 < b.1 := ⟨fun a => lt_irrefl a.1⟩
  have : Std.Asymm fun a b : Host.Cell => a.1 < b.1 := ⟨fun a b hab => lt_asymm hab⟩
  refine h.1.eq_of_mem_iff h'.1 fun {c} => ?_
  rw [Memory.mem_iff_byte h, Memory.mem_iff_byte h', hread]

/-! ### HBM, protected blocks included -/

/-- Element `k` of equal-length lists laid end to end. -/
theorem getElem?_flatten_map_range {α : Type} {f : Nat → List α} {c m k : Nat} (hlen : ∀ i, (f i).length = c) (hk : k < c * m) :
    (((List.range m).map f).flatten)[k]? = (f (k / c))[k % c]? := by
  have hc : 0 < c := Nat.pos_of_ne_zero fun h => by simp [h] at hk
  have hsum (n : Nat) : (((List.range n).map f).flatten).length = c * n := by
    simp [List.length_flatten, Function.comp_def, hlen, Nat.mul_comm]
  induction m with
  | zero => exact absurd hk (Nat.not_lt_zero k)
  | succ m ih =>
    rw [List.range_succ, List.map_append, List.flatten_append, List.map_singleton, List.flatten_singleton]
    by_cases hm : k < c * m
    · rw [List.getElem?_append_left (by rwa [hsum]), ih hm]
    · have hlast : k < c * m + c := by rwa [Nat.mul_succ] at hk
      obtain ⟨j, rfl⟩ := Nat.exists_eq_add_of_le (not_lt.mp hm)
      have hj : j < c := Nat.lt_of_add_lt_add_left hlast
      rw [List.getElem?_append_right (by rw [hsum]; exact Nat.le_add_right _ _), hsum, Nat.add_sub_cancel_left, Nat.mul_add_div hc,
        Nat.div_eq_of_lt hj, Nat.mul_add_mod, Nat.mod_eq_of_lt hj, Nat.add_zero]

theorem mem_blocks {da n b : Nat} : b ∈ blocks da n ↔ n ≠ 0 ∧ da / 64 ≤ b ∧ b ≤ (da + n - 1) / 64 := by
  unfold blocks
  split
  · next h => simp [h]
  · next h =>
    simp only [List.mem_map, List.mem_range]
    constructor
    · rintro ⟨i, hi, rfl⟩
      have : da / 64 ≤ (da + n - 1) / 64 := Nat.div_le_div_right (by omega)
      omega
    · rintro ⟨-, hlow, hhigh⟩
      exact ⟨b - da / 64, by omega, by omega⟩

theorem blocks_nodup (da n : Nat) : (blocks da n).Nodup := by
  unfold blocks
  split
  · exact List.nodup_nil
  · exact List.nodup_range.map fun i j h => Nat.add_left_cancel h

/-- Each byte of an access lies in a block of the access. -/
theorem block_mem_blocks {da n a : Nat} (ha : da ≤ a ∧ a < da + n) : a / 64 ∈ blocks da n :=
  mem_blocks.mpr ⟨by omega, Nat.div_le_div_right ha.1, Nat.div_le_div_right (by omega)⟩

theorem State.blockBytes_length (s : State) (b : Nat) : (s.blockBytes b).length = 64 := by
  unfold State.blockBytes
  extract_lets
  split
  · exact Memory.read_length _ _ _
  · exact leBytes_length _ _

/-- The byte at a device address as its readers see it. -/
def State.seen (s : State) (a : Nat) : Byte := (s.blockBytes (a / 64)).getD (a % 64) 0

theorem State.seen_unprotected {s : State} {a : Nat} (h : s.protectedJob (64 * (a / 64)) = none) : s.seen a = Memory.byte s.mem.cells a := by
  have hk : a % 64 < (Memory.read s.mem.cells (64 * (a / 64)) 64).length := by rw [Memory.read_length]; omega
  simp only [State.seen, State.blockBytes, h]
  rw [List.getD_eq_getElem _ _ hk, Memory.getElem_read hk, Nat.div_add_mod]

/-- Whether or not a protected block is touched, a read returns the bytes seen at its addresses. -/
theorem State.hbmBytes_eq (s : State) (da n : Nat) : s.hbmBytes da n = (List.range n).map fun k => s.seen (da + k) := by
  unfold State.hbmBytes
  split
  · next h =>
    refine List.ext_getElem (by simp) fun k hk hk' => ?_
    have hkn : k < n := by simpa using hk
    have hplain := List.all_eq_true.mp h _ (block_mem_blocks ⟨Nat.le_add_right da k, Nat.add_lt_add_left hkn da⟩)
    rw [Memory.getElem_read hk, List.getElem_map, List.getElem_range, State.seen_unprotected (Option.isNone_iff_eq_none.mp hplain)]
  · next h =>
    have hn : n ≠ 0 := fun h0 => h (by simp [Machine.blocks, h0])
    refine List.ext_getElem? fun k => ?_
    by_cases hk : k < n
    · have hin : da % 64 + k < 64 * ((da + n - 1) / 64 - da / 64 + 1) := by omega
      have hblock : da / 64 + (da % 64 + k) / 64 = (da + k) / 64 := by omega
      have hplace : (da % 64 + k) % 64 = (da + k) % 64 := by omega
      have hlt : (da + k) % 64 < (s.blockBytes ((da + k) / 64)).length := by rw [State.blockBytes_length]; omega
      rw [List.getElem?_take_of_lt hk, List.getElem?_drop, Machine.blocks, if_neg hn, List.map_map,
        getElem?_flatten_map_range (f := s.blockBytes ∘ fun i => da / 64 + i) (fun i => s.blockBytes_length _) hin, Function.comp_apply, hblock, hplace, List.getElem?_map,
        List.getElem?_range hk, Option.map_some, State.seen, List.getD_eq_getElem _ _ hlt, List.getElem?_eq_getElem hlt]
    · rw [List.getElem?_take_eq_none (not_lt.mp hk), List.getElem?_eq_none (by simpa using hk)]

/-- Where in block `b` a write at `da` begins. -/
def putFrom (da b : Nat) : Nat := max da (64 * b)

/-- The part of a write at `da` that lies in block `b`. -/
def putPart (da : Nat) (l : List Byte) (b : Nat) : List Byte := (l.drop (putFrom da b - da)).take (64 * b + 64 - putFrom da b)

/-- Block `b` as its readers see it after a write of `l` at `da`. -/
def State.merged (s : State) (da : Nat) (l : List Byte) (b : Nat) : List Byte :=
  (s.blockBytes b).take (putFrom da b - 64 * b) ++ putPart da l b ++ (s.blockBytes b).drop (putFrom da b - 64 * b + (putPart da l b).length)

/-- What a protected block holds after a write. -/
def State.sealed (s : State) (da : Nat) (l : List Byte) (b j : Nat) : List Byte :=
  leBytes 64 ((Config.xts (s.xtsKey j) (64 * b)) (BitVec.ofNat 512 (leNat (s.merged da l b)))).toNat

theorem State.putBlock_unprotected {s : State} {b : Nat} (da : Nat) (l : List Byte) (m : List Host.Cell) (h : s.protectedJob (64 * b) = none) :
    s.putBlock da l m b = Memory.write m (putFrom da b) (putPart da l b) := by
  simp only [State.putBlock, h]
  rfl

theorem State.putBlock_protected {s : State} {b j : Nat} (da : Nat) (l : List Byte) (m : List Host.Cell) (h : s.protectedJob (64 * b) = some j) :
    s.putBlock da l m b = Memory.write m (64 * b) (s.sealed da l b j) := by
  simp only [State.putBlock, h]
  rfl

theorem putPart_length (da : Nat) (l : List Byte) (b : Nat) :
    (putPart da l b).length = min (64 * b + 64 - putFrom da b) (l.length - (putFrom da b - da)) := by
  simp [putPart]

theorem State.wf_putBlock (s : State) (da : Nat) (l : List Byte) {m : List Host.Cell} (b : Nat) (h : Memory.wf m) :
    Memory.wf (s.putBlock da l m b) := by
  cases hjob : s.protectedJob (64 * b) with
  | none => exact State.putBlock_unprotected da l m hjob ▸ Memory.wf_write _ _ h
  | some j => exact State.putBlock_protected da l m hjob ▸ Memory.wf_write _ _ h

/-- A write to one block changes no byte of another. -/
theorem State.byte_putBlock_ne (s : State) (da : Nat) (l : List Byte) {m : List Host.Cell} {b a : Nat} (h : Memory.wf m) (ha : a / 64 ≠ b) :
    Memory.byte (s.putBlock da l m b) a = Memory.byte m a := by
  cases hjob : s.protectedJob (64 * b) with
  | none =>
    rw [State.putBlock_unprotected da l m hjob, Memory.byte_write h, if_neg]
    rw [putPart_length, putFrom]
    omega
  | some j =>
    rw [State.putBlock_protected da l m hjob, Memory.byte_write h, if_neg]
    rw [State.sealed, leBytes_length]
    omega

/-- What a write to a block leaves at an address depends on what was there alone. -/
theorem State.byte_putBlock_congr (s : State) (da : Nat) (l : List Byte) {m m' : List Host.Cell} (b : Nat) {a : Nat} (h : Memory.wf m)
    (h' : Memory.wf m') (ha : Memory.byte m a = Memory.byte m' a) :
    Memory.byte (s.putBlock da l m b) a = Memory.byte (s.putBlock da l m' b) a := by
  cases hjob : s.protectedJob (64 * b) with
  | none => simp only [State.putBlock_unprotected da l _ hjob, Memory.byte_write h, Memory.byte_write h', ha]
  | some j => simp only [State.putBlock_protected da l _ hjob, Memory.byte_write h, Memory.byte_write h', ha]

/-- A write block by block leaves in each block what the write to it alone leaves. -/
theorem State.byte_foldl_putBlock (s : State) (da : Nat) (l : List Byte) {bs : List Nat} (hbs : bs.Nodup) {m : List Host.Cell} (h : Memory.wf m)
    (a : Nat) : Memory.byte (bs.foldl (s.putBlock da l) m) a
      = if a / 64 ∈ bs then Memory.byte (s.putBlock da l m (a / 64)) a else Memory.byte m a := by
  induction bs generalizing m with
  | nil => simp
  | cons b bs ih =>
    obtain ⟨hb, hbs⟩ := List.nodup_cons.mp hbs
    rw [List.foldl_cons, ih hbs (s.wf_putBlock da l b h)]
    by_cases hab : a / 64 = b
    · subst hab
      simp [hb]
    · have hkeep := s.byte_putBlock_ne da l h hab
      simp only [List.mem_cons, hab, false_or, hkeep, s.byte_putBlock_congr da l (a / 64) (s.wf_putBlock da l b h) h hkeep]

theorem State.merged_length (s : State) (da : Nat) (l : List Byte) (b : Nat) : (s.merged da l b).length = 64 := by
  simp only [State.merged, List.length_append, List.length_take, List.length_drop, State.blockBytes_length, putPart_length]
  unfold putFrom
  omega

/-- A list with its middle replaced. -/
theorem getD_take_append_drop {α : Type} {old part : List α} {x j : Nat} (d : α) (hx : x + part.length ≤ old.length) :
    (old.take x ++ part ++ old.drop (x + part.length)).getD j d
      = if x ≤ j ∧ j < x + part.length then part.getD (j - x) d else old.getD j d := by
  simp only [List.getD_eq_getElem?_getD, List.getElem?_append, List.length_append, List.length_take, List.getElem?_take, List.getElem?_drop]
  grind

/-- A merged block holds the write where it reaches and the old bytes elsewhere. -/
theorem State.merged_getD (s : State) {da : Nat} {l : List Byte} {a : Nat} (hblock : a / 64 ∈ Machine.blocks da l.length) :
    (s.merged da l (a / 64)).getD (a % 64) 0 = if da ≤ a ∧ a < da + l.length then l.getD (a - da) 0 else s.seen a := by
  obtain ⟨-, hfirst, hlast⟩ := mem_blocks.mp hblock
  have hpart := putPart_length da l (a / 64)
  have hfrom : putFrom da (a / 64) = max da (64 * (a / 64)) := rfl
  rw [State.merged, getD_take_append_drop 0 (by rw [State.blockBytes_length]; omega)]
  by_cases hin : da ≤ a ∧ a < da + l.length
  · rw [if_pos hin, if_pos (by omega), putPart]
    have hat : putFrom da (a / 64) - da + (a % 64 - (putFrom da (a / 64) - 64 * (a / 64))) = a - da := by omega
    have hcut : a % 64 - (putFrom da (a / 64) - 64 * (a / 64)) < 64 * (a / 64) + 64 - putFrom da (a / 64) := by omega
    rw [List.getD_eq_getElem?_getD, List.getElem?_take_of_lt hcut, List.getElem?_drop, hat, List.getD_eq_getElem?_getD]
  · rw [if_neg hin, if_neg (by omega), State.seen]

/-- A block read through its key is the block that was written through it. -/
theorem unsealed (key : List Byte) (tweak : Nat) {l : List Byte} (h : l.length = 64) :
    leBytes 64 ((Config.xts key tweak).symm (BitVec.ofNat 512
      (leNat (leBytes 64 ((Config.xts key tweak) (BitVec.ofNat 512 (leNat l))).toNat)))).toNat = l := by
  have hfits : (256 : Nat) ^ 64 = 2 ^ 512 := (pow_mul 2 8 64).symm
  rw [leNat_leBytes, hfits, Nat.mod_eq_of_lt (BitVec.isLt _), BitVec.ofNat_toNat, BitVec.setWidth_eq, Equiv.symm_apply_apply,
    BitVec.toNat_ofNat, Nat.mod_eq_of_lt (by rw [← hfits, ← h]; exact leNat_lt l)]
  exact h ▸ leBytes_leNat l

/-- The write to an unprotected block leaves at its addresses what the whole write says there. -/
theorem State.byte_putBlock_unprotected {s : State} {m : List Host.Cell} (da : Nat) (l : List Byte) {a : Nat} (h : Memory.wf m)
    (hblock : a / 64 ∈ Machine.blocks da l.length) (hjob : s.protectedJob (64 * (a / 64)) = none) :
    Memory.byte (s.putBlock da l m (a / 64)) a = if da ≤ a ∧ a < da + l.length then l.getD (a - da) 0 else Memory.byte m a := by
  obtain ⟨-, hfirst, hlast⟩ := mem_blocks.mp hblock
  have hpart := putPart_length da l (a / 64)
  have hfrom : putFrom da (a / 64) = max da (64 * (a / 64)) := rfl
  rw [State.putBlock_unprotected da l m hjob, Memory.byte_write h]
  by_cases hin : da ≤ a ∧ a < da + l.length
  · have hat : putFrom da (a / 64) - da + (a - putFrom da (a / 64)) = a - da := by omega
    have hcut : a - putFrom da (a / 64) < 64 * (a / 64) + 64 - putFrom da (a / 64) := by omega
    rw [if_pos hin, if_pos (by omega), putPart, List.getD_eq_getElem?_getD, List.getElem?_take_of_lt hcut, List.getElem?_drop, hat,
      List.getD_eq_getElem?_getD]
  · rw [if_neg hin, if_neg (by omega)]

/-- A write leaves in each of its blocks what the write to that block leaves, protected blocks or not. -/
theorem State.byte_hbmPut {s : State} (da : Nat) (l : List Byte) (h : Memory.wf s.mem.cells) (a : Nat) :
    Memory.byte (s.hbmPut da l) a = if a / 64 ∈ Machine.blocks da l.length then Memory.byte (s.putBlock da l s.mem.cells (a / 64)) a
      else Memory.byte s.mem.cells a := by
  unfold State.hbmPut
  split
  · next hplain =>
    rw [Memory.byte_write h]
    by_cases hblock : a / 64 ∈ Machine.blocks da l.length
    · have hjob := Option.isNone_iff_eq_none.mp (List.all_eq_true.mp hplain _ hblock)
      rw [if_pos hblock, State.byte_putBlock_unprotected da l h hblock hjob]
    · rw [if_neg hblock, if_neg (mt block_mem_blocks hblock)]
  · exact s.byte_foldl_putBlock da l (blocks_nodup da _) h a

/-- Memories that read alike in a block give the same block. -/
theorem Memory.read_congr {m m' : List Host.Cell} {a n : Nat} (h : ∀ k, k < n → Memory.byte m (a + k) = Memory.byte m' (a + k)) :
    Memory.read m a n = Memory.read m' a n := by
  refine List.ext_getElem (by simp) fun k hk hk' => ?_
  rw [Memory.getElem_read hk, Memory.getElem_read hk', h k (by simpa using hk)]

/-- A block of HBM reads through its key as it was merged, and a block that the write does not touch as before. -/
theorem State.blockBytes_hbmPut {s u : State} {da : Nat} {l : List Byte} (hwf : Memory.wf s.mem.cells)
    (hu : u = { s with mem := { s.mem with cells := s.hbmPut da l } }) {b j : Nat} (hjob : s.protectedJob (64 * b) = some j) :
    u.blockBytes b = if b ∈ Machine.blocks da l.length then s.merged da l b else s.blockBytes b := by
  have hjob' : u.protectedJob (64 * b) = some j := by rw [hu]; exact hjob
  have hkey : u.xtsKey j = s.xtsKey j := by rw [hu]; rfl
  have hblock (k : Nat) (hk : k < 64) : (64 * b + k) / 64 = b := by omega
  have hcells : u.mem.cells = s.hbmPut da l := by rw [hu]
  split
  · next hmem =>
    have hraw : Memory.read u.mem.cells (64 * b) 64 = s.sealed da l b j := by
      have hlen : (s.sealed da l b j).length = 64 := leBytes_length _ _
      have hread : Memory.read (Memory.write s.mem.cells (64 * b) (s.sealed da l b j)) (64 * b) 64 = s.sealed da l b j := by
        have h := Memory.read_write hwf (64 * b) (s.sealed da l b j)
        rwa [hlen] at h
      rw [← hread, ← State.putBlock_protected da l _ hjob, hcells]
      exact Memory.read_congr fun k hk => by rw [State.byte_hbmPut da l hwf, hblock k hk, if_pos hmem]
    simp only [State.blockBytes, hjob', hraw, hkey]
    exact unsealed _ _ (s.merged_length da l b)
  · next hmem =>
    have hraw : Memory.read u.mem.cells (64 * b) 64 = Memory.read s.mem.cells (64 * b) 64 := by
      rw [hcells]
      exact Memory.read_congr fun k hk => by rw [State.byte_hbmPut da l hwf, hblock k hk, if_neg hmem]
    simp only [State.blockBytes, hjob', hjob, hraw, hkey]

/-- After a write HBM reads as written, and every other byte as before. -/
theorem State.seen_hbmPut {s u : State} {da : Nat} {l : List Byte} (hwf : Memory.wf s.mem.cells)
    (hu : u = { s with mem := { s.mem with cells := s.hbmPut da l } }) (a : Nat) :
    u.seen a = if da ≤ a ∧ a < da + l.length then l.getD (a - da) 0 else s.seen a := by
  cases hjob : s.protectedJob (64 * (a / 64)) with
  | none =>
    have hjob' : u.protectedJob (64 * (a / 64)) = none := by rw [hu]; exact hjob
    have hcells : u.mem.cells = s.hbmPut da l := by rw [hu]
    rw [State.seen_unprotected hjob', State.seen_unprotected hjob, hcells, State.byte_hbmPut da l hwf]
    by_cases hblock : a / 64 ∈ Machine.blocks da l.length
    · rw [if_pos hblock, State.byte_putBlock_unprotected da l hwf hblock hjob]
    · rw [if_neg hblock, if_neg (mt block_mem_blocks hblock)]
  | some j =>
    rw [State.seen, State.blockBytes_hbmPut hwf hu hjob]
    by_cases hblock : a / 64 ∈ Machine.blocks da l.length
    · rw [if_pos hblock, s.merged_getD hblock]
    · rw [if_neg hblock, if_neg (mt block_mem_blocks hblock), State.seen]

/-- Settles O60: HBM block by block, each block as its readers see it; canonical memories by what they list. -/
theorem memoriesReadBack : Obligations.MemoriesReadBack := by
  unfold Obligations.MemoriesReadBack
  refine ⟨fun s u da i l hwf hu => ⟨?_, ?_⟩, fun m m' a n i l hm hm' => ⟨Memory.byte_write hm a i l, Memory.byte_zero m a n i,
    Memory.read_write hm a l, Memory.ext hm hm'⟩⟩
  · refine List.ext_getElem (by simp [State.hbmBytes_eq]) fun k hk hl => ?_
    simp [State.hbmBytes_eq, State.seen_hbmPut hwf hu, hl]
  · rw [State.hbmBytes_eq, State.hbmBytes_eq]
    simp only [List.range_one, List.map_singleton, Nat.add_zero, State.seen_hbmPut hwf hu]
    split <;> rfl

end Sys2Proof.Machine
end

section
/-! PROOFS. The start walk: what it leaves of a ring's chains, and what it starts (R386). -/
namespace Sys2Proof.Machine

/-! ### What the operations on a ring's chains leave -/

@[simp] theorem State.ctx?_modCtx_self (s : State) (c : Nat) (f : Ctx → Ctx) : (s.modCtx c f).ctx? c = (s.ctx? c).map f := by
  unfold State.modCtx
  cases h : s.ctx? c with
  | none => simp [h]
  | some x => simp [State.ctx?]

@[simp] theorem State.modNode_ctxs (s : State) (n : Nat) (f : Node → Node) : (s.modNode n f).ctxs = s.ctxs := by
  unfold State.modNode
  split <;> rfl

@[simp] theorem State.passEntry_ctxs (s : State) (c serial : Nat) : (s.passEntry c serial).ctxs = s.ctxs := by
  unfold State.passEntry
  split
  · split
    · exact foldl_keeps (fun t : State => t.ctxs = s.ctxs) _ (fun t e ht => (State.modNode_ctxs t _ _).trans ht) _ s rfl
    · rfl
  · rfl

@[simp] theorem State.clCount_ctxs (s : State) (t i : Nat) : (s.clCount t i).ctxs = s.ctxs := rfl

/-- The serial numbers of a context's chains, oldest first. -/
def State.serials (s : State) (c : Nat) : Option (List Nat) := (s.ctx? c).map fun x => x.chains.map (·.serial)

theorem State.serials_congr {s u : State} (c : Nat) (h : u.ctxs = s.ctxs) : u.serials c = s.serials c := by
  simp only [State.serials, State.ctx?, h]

/-- Changing a chain in place keeps every chain's place. -/
theorem State.serials_modChain (s : State) (c n : Nat) {f : Chain → Chain} (hf : ∀ h, (f h).serial = h.serial) :
    (s.modChain c n f).serials c = s.serials c := by
  have hchain (h : Chain) : (if h.serial = n then f h else h).serial = h.serial := by
    split
    · exact hf h
    · rfl
  simp only [State.serials, State.modChain, State.ctx?_modCtx_self, Option.map_map, Function.comp_def, List.map_map, hchain]

theorem State.serials_wakeHeld (s : State) (c : Nat) (h : Chain) : (s.wakeHeld c h).serials c = s.serials c := by
  have hpassed : (if h.passed then s.modChain c h.serial fun h => { h with passed := false } else s).serials c = s.serials c := by
    split
    · exact s.serials_modChain c _ fun _ => rfl
    · rfl
  unfold State.wakeHeld
  extract_lets s1 t
  split
  · have hcounted : ((s1.clCount t 4).count 0x0702 t qAny 1).serials c = s1.serials c := State.serials_congr c (by simp)
    exact (State.serials_modChain _ c h.serial (f := fun h => { h with held := false }) fun _ => rfl).trans (hcounted.trans hpassed)
  · exact hpassed

theorem State.serials_chainDone (s : State) (c n code : Nat) : (s.chainDone c n code).serials c = s.serials c := by
  refine (State.serials_modChain _ c n fun h => ?_).trans (State.serials_congr c (s.passEntry_ctxs c n))
  split <;> rfl

/-! ### What the walk starts -/

/-- A chain that R386 lets start has no blocked channel, and with FENCE it is the ring's oldest. -/
theorem State.walkStep_start {s : State} {c : Nat} {x : Ctx} {h : Chain} {blocked : List ChainKey} (hstep : s.walkStep c x h blocked = .start) :
    h.key ∉ blocked ∧ (h.fence = true → x.chains.head?.map (·.serial) = some h.serial) := by
  unfold State.walkStep at hstep
  extract_lets ledger at hstep
  cases hledger : ledger with
  | some w =>
    have hw : w = .start := by simpa [hledger] using hstep
    simp only [ledger] at hledger
    split_ifs at hledger <;> (try split at hledger) <;> (try split_ifs at hledger) <;> simp_all
  | none =>
    simp only [hledger] at hstep
    split_ifs at hstep with hnode hblocked hlaunch hqueue hdead hfence hqp
    refine ⟨fun hmem => hblocked (List.contains_iff_mem.mpr hmem), fun hf => ?_⟩
    simpa [hf] using hfence

/-- What a walk over chains starts is a waiting one of them, whose channel is not blocked; with FENCE it is the ring's oldest, whatever the walk
did to the chains before it. -/
theorem State.walkFrom_started {c : Nat} {h : Chain} {v : State} {l : List Chain} {blocked : List ChainKey} {s : State}
    (hwalk : s.walkFrom c l blocked = (v, some h)) :
    h ∈ l ∧ h.st = .waiting ∧ h.key ∉ blocked ∧ (h.fence = true → (s.serials c).bind List.head? = some h.serial) := by
  induction l generalizing s blocked with
  | nil => simp [State.walkFrom] at hwalk
  | cons k t ih =>
    unfold State.walkFrom at hwalk
    have later {u : State} {bs : List ChainKey} (hu : u.serials c = s.serials c) (hbs : ∀ b ∈ blocked, b ∈ bs)
        (hrest : u.walkFrom c t bs = (v, some h)) :
        h ∈ k :: t ∧ h.st = .waiting ∧ h.key ∉ blocked ∧ (h.fence = true → (s.serials c).bind List.head? = some h.serial) := by
      obtain ⟨hmem, hst, hkey, hfence⟩ := ih hrest
      exact ⟨List.mem_cons_of_mem _ hmem, hst, fun hb => hkey (hbs _ hb), hu ▸ hfence⟩
    split at hwalk
    · exact later rfl (fun _ => id) hwalk
    · next hst =>
      split at hwalk
      · simp at hwalk
      · next x hx =>
        split at hwalk
        · simp at hwalk
        · exact later (s.serials_wakeHeld c k) (fun _ => id) hwalk
        · exact later (s.serials_wakeHeld c k) (fun _ => List.mem_cons_of_mem _) hwalk
        · exact later ((State.serials_chainDone _ c _ _).trans (s.serials_wakeHeld c k)) (fun _ => id) hwalk
        · refine later ?_ (fun _ => List.mem_cons_of_mem _) hwalk
          exact (State.serials_modChain _ c k.serial (f := fun h => { h with st := .queued }) fun _ => rfl).trans (s.serials_wakeHeld c k)
        · next hstart =>
          obtain ⟨-, rfl⟩ : s.wakeHeld c k = v ∧ k = h := by simpa using hwalk
          obtain ⟨hkey, hfence⟩ := State.walkStep_start hstart
          refine ⟨List.mem_cons_self, not_not.mp hst, hkey, fun hf => ?_⟩
          simpa [State.serials, hx, List.head?_map] using hfence hf

/-- Settles O40: the walk starts a chain only where R386's last case lets it, and nothing it does on the way moves a chain in its ring. -/
theorem walkStartsWhatMayStart : Obligations.WalkStartsWhatMayStart := by
  unfold Obligations.WalkStartsWhatMayStart
  intro c x h s v hx hwalk
  simp only [State.walk, hx] at hwalk
  split at hwalk
  · simp at hwalk
  · next hruns =>
    obtain ⟨hmem, hst, hkey, hfence⟩ := State.walkFrom_started hwalk
    simp only [Bool.not_eq_true, Bool.or_eq_false_iff, Bool.not_eq_false', beq_eq_false_iff_ne] at hruns
    obtain ⟨⟨⟨hworks, -⟩, hlost⟩, ha2⟩ := hruns
    refine ⟨hmem, hst, hkey, fun hf => ?_, hworks, hlost, ha2⟩
    simpa [State.serials, hx, List.head?_map] using hfence hf

end Sys2Proof.Machine
end

section
/-! PROOFS. Mailboxes and the BMC's path: what an answer and a completion record write, and who may write them (R349, R357, R371 to R373). -/
namespace Sys2Proof.Machine

/-! ### Mailbox pages -/

@[simp] theorem State.box_setBox_self (s : State) (m : Nat) (b : Mailbox) : (s.setBox m b).box m = b := by
  simp [State.box]

theorem State.box_setBox_ne (s : State) {m k : Nat} (b : Mailbox) (h : k ≠ m) : (s.setBox m b).box k = s.box k := by
  simp [State.box, Tbl.getD_set_ne _ _ _ h]

theorem State.box_congr {s u : State} (h : u.mbx = s.mbx) (k : Nat) : u.box k = s.box k := by
  simp only [State.box, h]

theorem State.setBox_only (s : State) (m : Nat) (b : Mailbox) : Only [.mbx] s (s.setBox m b) := fun q => by
  cases q <;> first | exact .inl (by decide) | exact .inr rfl

/-- What an operation of mailbox `m` may change: its page, and what reporting writes. -/
structure AtBox (m : Nat) (b : Mailbox) (s u : State) : Prop where
  own : u.box m = b
  others : ∀ k, k ≠ m → u.box k = s.box k
  only : Only (.mbx :: reporting) s u

theorem State.setBox_atBox (s : State) (m : Nat) (b : Mailbox) : AtBox m b s (s.setBox m b) :=
  ⟨s.box_setBox_self m b, fun _ => s.box_setBox_ne b, (s.setBox_only m b).mono⟩

/-- What reporting does afterwards leaves the page as it was written. -/
theorem AtBox.reported {m : Nat} {b : Mailbox} {s t u : State} (h : AtBox m b s t) (k : Only reporting t u) : AtBox m b s u := by
  have hmbx : u.mbx = t.mbx := (k .mbx).resolve_left (by decide)
  exact ⟨(State.box_congr hmbx m).trans h.own, fun i hi => (State.box_congr hmbx i).trans (h.others i hi), h.only.trans k.mono⟩

/-- A page written twice is as it was written last. -/
theorem AtBox.trans {m : Nat} {b c : Mailbox} {s t u : State} (h : AtBox m b s t) (k : AtBox m c t u) : AtBox m c s u :=
  ⟨k.own, fun i hi => (k.others i hi).trans (h.others i hi), h.only.trans k.only⟩

/-! ### Event areas (R349, R357) -/

/-- The page of a mailbox with a record in its next slot. -/
def Mailbox.withRecord (b : Mailbox) (rcd : List Byte) : Mailbox :=
  { b with evt := Memory.write b.evt (64 * (b.evtHead.toNat % 16)) rcd, evtHead := b.evtHead + 1 }

theorem State.putRecord_atBox (s : State) (m : Nat) (rcd : List Byte) : AtBox m ((s.box m).withRecord rcd) s (s.putRecord m rcd) := by
  have hwritten := s.setBox_atBox m ((s.box m).withRecord rcd)
  unfold State.putRecord
  extract_lets b s1
  split
  · split
    · exact hwritten.reported (State.emit_only _ _).mono
    · exact hwritten
  · split
    · exact hwritten.reported (State.raise_only _ _ _)
    · exact hwritten

/-- The BMC is told when its event area becomes non-empty (R371). -/
theorem State.putRecord_out_bmc (s : State) (rcd : List Byte) :
    (s.putRecord 4 rcd).out = if (s.box 4).evtHead = (s.box 4).evtTail then s.out ++ [.ibi 0xB1] else s.out := by
  unfold State.putRecord
  extract_lets b s1
  rw [if_pos rfl]
  split <;> rfl

theorem evtTailWrite_reaches {e : Fin 4} {s : State} (v : Byte) (h : s.hostReaches e = true) :
    Gives (.evtTailWrite e v) s (s.setBox e.val ((s.box e.val).setTail v)) := by
  show execEvtTailWrite e v s = _
  simp only [execEvtTailWrite, State.mbxReach, h, if_true]
  rfl

theorem evtHeldWrite_writes {m : Fin 5} {s : State} {h : U32 × List Byte} {q : List (U32 × List Byte)} (hheld : (s.box m.val).held = h :: q)
    (hroom : (s.box m.val).full = false) :
    Gives (.evtHeldWrite m) s ((s.setBox m.val { s.box m.val with held := q }).putRecord m.val h.2) := by
  show execEvtHeldWrite m s = _
  simp only [execEvtHeldWrite, hheld, hroom]
  rfl

/-! ### Completion records (R357) -/

theorem State.finish_written {s : State} {m : Nat} {l : LongCmd} (result : Nat) (p : List Byte) (hkept : l.discard = false)
    (hroom : (s.box m).full = false) (hheld : (s.box m).held = []) :
    s.finish m l result p = (s.setBox m { s.box m with rseq := (s.box m).rseq + 1, long := (s.box m).long.filter fun x => x.token ≠ l.token }).putRecord
      m (recordBytes s (s.box m).rseq l result p) := by
  simp only [State.finish, hkept, hroom, hheld]
  rfl

theorem State.finish_held {s : State} {m : Nat} {l : LongCmd} (result : Nat) (p : List Byte) (hkept : l.discard = false)
    (hwait : (s.box m).full = true ∨ (s.box m).held ≠ []) :
    s.finish m l result p = s.setBox m { s.box m with
      rseq := (s.box m).rseq + 1, long := (s.box m).long.filter (fun x => x.token ≠ l.token),
      held := (s.box m).held ++ [(l.token, recordBytes s (s.box m).rseq l result p)] } := by
  have hcheck : ((s.box m).full || !(s.box m).held.isEmpty) = true := by
    rcases hwait with h | h <;> simp [h]
  simp only [State.finish, hkept, hcheck, if_true]
  rfl

/-- Settles O17: both event areas and completion records end in one record written to a slot, or held behind the others. -/
theorem mailboxEvents : Obligations.MailboxEvents := by
  unfold Obligations.MailboxEvents
  refine ⟨fun e m v h q s => ⟨fun hreach hlow => ?_, fun hreach hpast => ?_, fun hheld hroom => ?_⟩, fun m l result p s hkept => ?_⟩
  · have htail : (s.box e.val).setTail v = { s.box e.val with evtTail := v } := by simp only [Mailbox.setTail, hlow, if_true]
    exact htail ▸ evtTailWrite_reaches v hreach
  · have htail : (s.box e.val).setTail v = s.box e.val := by simp only [Mailbox.setTail, hpast.not_ge, if_false]
    refine ⟨_, evtTailWrite_reaches v hreach, fun k => ?_, State.setBox_only _ _ _⟩
    rw [htail]
    by_cases hk : k = e.val
    · rw [hk, State.box_setBox_self]
    · rw [State.box_setBox_ne _ _ hk]
  · have hwritten := (s.setBox_atBox m.val { s.box m.val with held := q }).trans (State.putRecord_atBox _ m.val h.2)
    refine ⟨_, evtHeldWrite_writes hheld hroom, ?_, hwritten.others, hwritten.only, fun hm => ?_⟩
    · rw [hwritten.own, State.box_setBox_self]
      rfl
    · have hm4 : m.val = 4 := by rw [hm]; rfl
      rw [hm4, State.putRecord_out_bmc, State.box_setBox_self]
      rfl
  · intro b u rcd b'
    by_cases hwait : b.full = true ∨ b.held ≠ []
    · have hu : u = s.setBox m { b' with held := b.held ++ [(l.token, rcd)] } := State.finish_held result p hkept hwait
      have hwritten := s.setBox_atBox m { b' with held := b.held ++ [(l.token, rcd)] }
      rw [hu]
      refine ⟨fun hroom hnone => ?_, fun _ => rfl, hwritten.others, hwritten.only⟩
      rcases hwait with h | h
      · exact absurd (hroom ▸ h) (by decide)
      · exact absurd hnone h
    · simp only [not_or, Bool.not_eq_true, ne_eq, not_not] at hwait
      have hu : u = (s.setBox m b').putRecord m rcd := State.finish_written result p hkept hwait.1 hwait.2
      have hwritten := (s.setBox_atBox m b').trans (State.putRecord_atBox _ m rcd)
      rw [State.box_setBox_self] at hwritten
      rw [hu]
      refine ⟨fun _ _ => hwritten.own, fun h => ?_, hwritten.others, hwritten.only⟩
      simp only [hwait.1, hwait.2, Bool.false_eq_true, false_or, ne_eq, not_true] at h

/-! ### The BMC's path (R371 to R373) -/

theorem State.bmcReach_of {s : State} (hon : s.pwr.st ≠ .off) (haddr : s.bmc.dynAddr.isSome = true) : s.bmcReach = true := by
  simp [State.bmcReach, State.standbyOn, hon, haddr]

/-- A vendor message that carries a request of the BMC. -/
theorem bmcBciRequest_reaches {s : State} {b : List Byte} (hreach : s.bmcReach = true) (hlow : 16 ≤ b.length) (hhigh : b.length ≤ 1024) :
    Gives (.bmcBciRequest (bciMsg 1 b)) s
      (if (s.box 4).busy then s.emit (.mctp (bciMsg 2 (rspBytes (parseReq b (BitVec.ofNat 32 (field b 4 4))) rBusy 0 0 [])))
       else s.takeRequest 4 (parseReq b (BitVec.ofNat 32 (field b 4 4)))) := by
  have hform : s.bmcReach ∧ (bciMsg 1 b).take 4 = [0x7E, 0x1F, 0x2B, 0x01] ∧ 20 ≤ (bciMsg 1 b).length ∧ (bciMsg 1 b).length ≤ 1028 :=
    ⟨hreach, rfl, Nat.add_le_add_right hlow 4, Nat.add_le_add_right hhigh 4⟩
  have hbody : (bciMsg 1 b).drop 4 = b := rfl
  show execBmcBciRequest (bciMsg 1 b) s = _
  simp only [execBmcBciRequest, hform, and_self, if_true, hbody]
  split <;> rfl

/-- A request whose doorbell names its SEQ and whose command is in the list waits in its mailbox (R352). -/
theorem State.takeRequest_listed {s : State} {m : Nat} {r : BciReq} (hseq : r.dbSeq = r.seq) (hcmd : r.cmd ∈ bciCodes) :
    s.takeRequest m r = s.setBox m { s.box m with busy := true, done := false, taken := some (s.queued r) } := by
  have hlisted : bciCodes.contains r.cmd = true := List.contains_iff_mem.mpr hcmd
  simp only [State.takeRequest, hseq, hlisted, State.modBox, ne_eq, not_true, if_false, Bool.not_true, Bool.false_eq_true]

/-- Settles O18: the standby controller is reached, so each control command is answered, and each request is taken or answered BUSY. -/
theorem bmcPath : Obligations.BmcPath := by
  unfold Obligations.BmcPath
  refine ⟨fun addr inst op eid type code s hon => ⟨?_, fun haddr => ?_⟩, fun b s hon haddr hlow hhigh => ?_⟩
  · show execI3cEntdaa addr s = _
    simp [execI3cEntdaa, State.standbyOn, hon, State.done]
  · have hreach := State.bmcReach_of hon haddr
    refine ⟨fun hop hid hres => ?_, ?_, ?_, ?_, ?_, ?_, fun hcode => ?_⟩
    · show execSetEndpointId inst op eid s = _
      simp only [execSetEndpointId, hreach, hop, hid, hres, ne_eq, not_false_eq_true, and_self, if_true]
      rfl
    · show execGetEndpointId inst s = _
      simp only [execGetEndpointId, hreach, if_true]
      rfl
    · show execGetEndpointUuid inst s = _
      simp only [execGetEndpointUuid, hreach, if_true]
      rfl
    · show execGetMctpVersionSupport inst type s = _
      simp only [execGetMctpVersionSupport, hreach, if_true]
      rfl
    · show execGetMessageTypeSupport inst s = _
      simp only [execGetMessageTypeSupport, hreach, if_true]
      rfl
    · show execGetVendorMessageSupport inst 0 s = _
      simp only [execGetVendorMessageSupport, hreach, if_true]
      rfl
    · have hother : ¬ (1 ≤ code.toNat ∧ code.toNat ≤ 6) := by omega
      have hbyte : leBytes 1 code.toNat = [code] := by simp [leBytes]
      show execMctpUnsupportedCmd inst code s = _
      simp only [execMctpUnsupportedCmd, hreach, hother, not_false_eq_true, and_self, if_true, State.mctpCtl, hbyte]
      rfl
  · intro r t
    have hgives := bmcBciRequest_reaches (State.bmcReach_of hon haddr) hlow hhigh
    refine ⟨fun hfree hcmd => ?_, fun hbusy => ?_⟩
    · rw [hfree] at hgives
      have htaken : s.takeRequest 4 r = t := State.takeRequest_listed rfl hcmd
      rwa [if_neg (by decide), htaken] at hgives
    · rwa [hbusy, if_pos rfl] at hgives

end Sys2Proof.Machine
end

section
/-! PROOFS. The frame of BCI commands: a served request and its answer, the order of the checks, who is served when, and the payload's fields
(R353, R357 to R365, R555). -/
namespace Sys2Proof.Machine

/-! ### A served request and its answer -/

section
variable {i : Instr} {s u : State} {m : Fin 5} {c : BciCmd} {n : List Byte → Nat} {fs : List Byte → List Fld} {work : List Byte → Res} {r : BciReq}

theorem Served.gives_ok {p : List Byte} (h : Served s m c n fs r) (hexec : exec i s = (s.bci m c n fs work).done)
    (hwork : work r.payload = .ok u p) : Gives i s (Answered u m r p) := by
  rw [Gives, hexec, State.bci_served work h, hwork]
  rfl

theorem Served.gives_accepted {p : List Byte} {w : LongWork} (h : Served s m c n fs r) (hexec : exec i s = (s.bci m c n fs work).done)
    (hwork : work r.payload = .accepted u w p) : Gives i s (Accepted u m r w p) := by
  rw [Gives, hexec, State.bci_served work h, hwork]
  rfl

theorem Served.gives_err {code detail : Nat} (h : Served s m c n fs r) (hexec : exec i s = (s.bci m c n fs work).done)
    (hwork : work r.payload = .err code detail) : Gives i s (s.reply m r code (detailOf code detail) 0 []) := by
  rw [Gives, hexec, State.bci_served work h, hwork]
  rfl

end

/-- Work behind a single condition that does not hold. -/
theorem guardBci_one {bad : Bool} (code detail : Nat) (w : Res) (h : bad = false) : guardBci [(bad, code, detail)] w = w :=
  guardBci_clear _ w (by simp [h])

/-! ### The checks in their order (R555) -/

section
variable {m : Fin 5} {c : BciCmd} {r : BciReq} {s : State} (n : List Byte → Nat) (fs : List Byte → List Fld) (work : List Byte → Res)
  (hreq : s.request? m c.code = some (r, false))
include hreq

theorem State.bci_bad_length (hlen : r.len ≠ n r.payload) : s.bci m c n fs work = s.reply m r rBadLength 0 0 [] := by
  simp only [State.bci, hreq, hlen, ne_eq, not_false_eq_true, if_true]
  rfl

variable {n} (hlen : r.len = n r.payload)
include hlen

theorem State.bci_unavailable {code detail : Nat} (havail : s.unavailable m c = some (code, detail)) :
    s.bci m c n fs work = s.reply m r code (detailOf code detail) 0 [] := by
  simp only [State.bci, hreq, hlen, ne_eq, not_true, if_false, havail]
  rfl

variable (havail : s.unavailable m c = none)
include havail

theorem State.bci_denied (hwho : s.mayIssue m c.who = false) : s.bci m c n fs work = s.reply m r rDenied 0 0 [] := by
  simp only [State.bci, hreq, hlen, ne_eq, not_true, if_false, havail, hwho, Bool.not_false, if_true]
  rfl

theorem State.bci_bad_param {off : Nat} (hwho : s.mayIssue m c.who = true) (hlong : c.long = true → (s.box m).longOut < 8)
    (hfields : badParam (fs r.payload) r.payload = some off) : s.bci m c n fs work = s.reply m r rBadParam off 0 [] := by
  have hroom : (c.long && decide (8 ≤ (s.box m).longOut)) = false := by
    cases hl : c.long with
    | false => rfl
    | true => simpa using hlong hl
  simp only [State.bci, hreq, hlen, ne_eq, not_true, if_false, havail, hwho, Bool.not_true, Bool.false_eq_true, hroom, hfields]
  rfl

end

/-! ### Availability (R365, R373, R421) -/

theorem State.unavailable_standby {s : State} {m : Nat} (c : BciCmd) (h : s.dieRuns = false ∨ s.boot.alive = .booting ∨ s.standbyTook m = true) :
    s.unavailable m c = if m = 4 ∧ c.a3 = true then none else some (rNotAvailable, 0) := by
  have hserves : (s.standbyServes || s.standbyTook m) = true := by
    rcases h with h | h | h <;> simp [State.standbyServes, h]
  simp only [State.unavailable, hserves, if_true]

theorem State.unavailable_bursar {s : State} {m : Nat} (c : BciCmd) (hruns : s.dieRuns = true) (halive : s.boot.alive ≠ .booting)
    (htook : s.standbyTook m = false) :
    s.unavailable m c = match s.boot.alive with
      | .recovery => if c.code / 256 = 0x0F then none else some (rRecoveryOnly, 0)
      | .running => if c.code = 0x0900 ∧ s.sec.rngOk = false then some (rHwFault, 0x0003) else none
      | .stopped => if c.code / 256 ≤ 1 ∨ c.code / 256 = 0x0C ∨ c.code / 256 = 0x0F ∨ c.code = 0x0E00 then none
          else some (rHwFault, s.faults.stopSource)
      | _ => none := by
  have hserves : (s.standbyServes || s.standbyTook m) = false := by simp [State.standbyServes, hruns, halive, htook]
  simp only [State.unavailable, hserves, Bool.false_eq_true, if_false] <;> rfl

/-! ### Order between mailboxes (R361) -/

/-- A request behind one that the same controller took before it is not looked at. -/
theorem State.request?_waits {s : State} {m code : Nat} {r w : BciReq} (hw : w ∈ s.waitingReqs) (htaken : (s.box m).taken = some r)
    (hgone : (s.box m).gone = []) (hbefore : w.order < r.order) (hsame : w.standby = r.standby) : s.request? m code = none := by
  have hnot : (s.waitingReqs.all fun w => r.order ≤ w.order || w.standby != r.standby) = false := by
    refine List.all_eq_false.mpr ⟨w, hw, ?_⟩
    simpa [hsame] using hbefore
  simp only [State.request?, hgone, htaken, Option.toList_some, List.nil_append, List.head?_cons, hnot, Bool.false_eq_true, and_false, if_false]

theorem State.request?_alone {s : State} {m : Nat} {r : BciReq} (hwait : s.waitingReqs = [r]) (htaken : (s.box m).taken = some r)
    (hgone : (s.box m).gone = []) : s.request? m r.cmd = some (r, false) := by
  simp [State.request?, hgone, htaken, hwait]

theorem le_foldl_max (l : List BciReq) (n : Nat) : n ≤ l.foldl (fun n w => max n (w.order + 1)) n
    ∧ ∀ w ∈ l, w.order < l.foldl (fun n w => max n (w.order + 1)) n := by
  induction l generalizing n with
  | nil => exact ⟨le_rfl, fun w hw => absurd hw List.not_mem_nil⟩
  | cons a l ih =>
    obtain ⟨hle, hall⟩ := ih (max n (a.order + 1))
    refine ⟨(le_max_left _ _).trans hle, fun w hw => ?_⟩
    rcases List.mem_cons.mp hw with rfl | hw
    · exact Nat.lt_of_lt_of_le (Nat.lt_succ_self _) ((le_max_right n _).trans hle)
    · exact hall w hw

/-! ### Payload fields (R353, R555) -/

/-- A field of the payload takes in byte `i`. -/
def covers (fs : List Fld) (i : Nat) : Prop := ∃ f ∈ fs, f.off ≤ i ∧ i < f.off + f.size

/-- The bytes at which a payload's checks fail: the fields out of order, and the bytes of no field that are not zero. -/
def failing (fs : List Fld) (p : List Byte) (n : Nat) : Prop :=
  (∃ f ∈ fs, f.ok = false ∧ f.off = n) ∨ (n < p.length ∧ p.getD n 0 ≠ 0 ∧ ¬ covers fs n)

/-- The list whose least member `badParam` gives. -/
def failingList (fs : List Fld) (p : List Byte) : List Nat :=
  (fs.filter fun f => !f.ok).map (·.off)
    ++ (List.range p.length).filter fun i => !(fs.any fun f => f.off ≤ i && i < f.off + f.size) && p.getD i 0 != 0

theorem mem_failingList {fs : List Fld} {p : List Byte} {n : Nat} : n ∈ failingList fs p ↔ failing fs p n := by
  simp only [failingList, failing, covers, List.mem_append, List.mem_map, List.mem_filter, List.mem_range, Bool.not_eq_true', and_assoc,
    Bool.and_eq_true, List.any_eq_false, decide_eq_true_eq, bne_iff_ne]
  refine or_congr_right (and_congr_right fun _ => ?_)
  rw [and_comm]
  simp only [not_exists, not_and]

theorem badParam_eq_some_iff {fs : List Fld} {p : List Byte} {n : Nat} :
    badParam fs p = some n ↔ failing fs p n ∧ ∀ k, failing fs p k → n ≤ k := by
  rw [show badParam fs p = (failingList fs p).min? from rfl, List.min?_eq_some_iff]
  simp only [mem_failingList]

theorem badParam_eq_none_iff {fs : List Fld} {p : List Byte} : badParam fs p = none ↔ ∀ k, ¬ failing fs p k := by
  rw [show badParam fs p = (failingList fs p).min? from rfl, List.min?_eq_none_iff, List.eq_nil_iff_forall_not_mem]
  simp only [mem_failingList]

/-- What no failing byte below `n` says of the fields and of the bytes. -/
theorem not_failing_iff {fs : List Fld} {p : List Byte} {n : Nat} :
    (∀ k, k < n → ¬ failing fs p k) ↔ (∀ f ∈ fs, f.ok = false → n ≤ f.off) ∧ ∀ i, i < n → i < p.length → p.getD i 0 ≠ 0 → covers fs i := by
  constructor
  · intro h
    refine ⟨fun f hf hbad => Nat.le_of_not_lt fun hlt => h _ hlt (.inl ⟨f, hf, hbad, rfl⟩), fun i hin hi hbyte => ?_⟩
    by_contra hc
    exact h i hin (.inr ⟨hi, hbyte, hc⟩)
  · rintro ⟨hfields, hbytes⟩ k hk (⟨f, hf, hbad, rfl⟩ | ⟨hi, hbyte, hc⟩)
    · exact absurd (hfields f hf hbad) (by omega)
    · exact hc (hbytes k hk hi hbyte)

/-- Settles O19: the frame of a BCI command check by check, the place of a request among those that wait, and the first byte that fails. -/
theorem bciChecksInOrder : Obligations.BciChecksInOrder := by
  unfold Obligations.BciChecksInOrder
  refine ⟨fun m c len fs work r code detail off s hreq => ?_, fun m c s => ⟨State.unavailable_standby c, ?_, ?_, ?_⟩,
    fun m c len fs work r w s => ⟨?_, fun hw => (le_foldl_max s.waitingReqs 0).2 w hw, rfl, State.request?_alone⟩, fun fs p => ⟨?_, fun n hn => ?_⟩⟩
  · intro no
    refine ⟨State.bci_bad_length len fs work hreq, fun hlen havail => State.bci_unavailable fs work hreq hlen havail,
      fun hlen havail hwho => State.bci_denied fs work hreq hlen havail hwho,
      fun hlen havail hwho hlong hfull => State.bci_long_busy fs work hreq hlen havail hwho hlong hfull,
      fun hlen havail hwho hroom hfields => State.bci_bad_param fs work hreq hlen havail hwho hroom hfields, fun hserved => ?_⟩
    rw [State.bci_served work hserved]
    exact ⟨fun u p hwork => hwork ▸ rfl, fun u w p hwork => hwork ▸ rfl, fun hwork => hwork ▸ rfl⟩
  · intro hruns halive htook
    simp [State.unavailable_bursar c hruns (by simp [halive]) htook, halive]
  · intro hruns halive htook
    simp [State.unavailable_bursar c hruns (by simp [halive]) htook, halive]
  · intro hruns halive htook
    simp [State.unavailable_bursar c hruns (by simp [halive]) htook, halive]
  · intro hw htaken hgone hbefore hsame
    simp only [State.bci, State.request?_waits hw htaken hgone hbefore hsame]
  · rw [badParam_eq_none_iff]
    constructor
    · intro h
      refine ⟨fun f hf => ?_, fun i hi hbyte => ?_⟩
      · by_contra hok
        exact h f.off (.inl ⟨f, hf, by simpa using hok, rfl⟩)
      · by_contra hc
        exact h i (.inr ⟨hi, hbyte, hc⟩)
    · rintro ⟨hfields, hbytes⟩ k (⟨f, hf, hbad, -⟩ | ⟨hi, hbyte, hc⟩)
      · rw [hfields f hf] at hbad
        cases hbad
      · exact hc (hbytes k hi hbyte)
  · obtain ⟨hfail, hleast⟩ := badParam_eq_some_iff.mp hn
    refine ⟨?_, not_failing_iff.mp fun k hk hf => absurd (hleast k hf) (by omega)⟩
    refine hfail.imp_right fun ⟨hi, hbyte, hc⟩ => ⟨hi, hbyte, fun f hf hin => hc ⟨f, hf, hin⟩⟩

end Sys2Proof.Machine
end

section
/-! PROOFS. BCI commands of the mailbox, identity, module configuration, port and route groups (R16 to R18, R62, R70 to R72, R84 to R92, R327,
R334, R366, R424, R452, R457, R468, R515, R556). -/
namespace Sys2Proof.Machine

/-! ### Mailbox, identity and module configuration -/

theorem Mailbox.tokenState_one {b : Mailbox} {t : U32} (h : (b.tokenState t).1 = 1) :
    ∃ l ∈ b.long, l.token = t ∧ l.discard = false ∧ (b.tokenState t).2 = l.cmd := by
  unfold Mailbox.tokenState at h ⊢
  split
  case h_1 l hl =>
    have hp := List.find?_some hl
    simp only [Bool.and_eq_true, beq_iff_eq, Bool.not_eq_true'] at hp
    exact ⟨l, List.mem_of_find?_eq_some hl, hp.1, hp.2, rfl⟩
  case h_2 hnone =>
    simp only [hnone] at h
    split at h <;> simp at h

theorem Mailbox.tokenState_zero {b : Mailbox} {t : U32} (h : (b.tokenState t).1 = 0) : ∀ l ∈ b.long, l.discard = false → l.token ≠ t := by
  unfold Mailbox.tokenState at h
  split at h
  case h_1 => cases h
  case h_2 hnone =>
    intro l hl hkeep htoken
    have := List.find?_eq_none.mp hnone l hl
    simp [hkeep, htoken] at this

theorem leBytes_mod (n k : Nat) : leBytes n (k % 256 ^ n) = leBytes n k := by
  have h := leBytes_leNat (leBytes n k)
  rwa [leBytes_length, leNat_leBytes] at h

/-- A sum of powers of two, one for each endpoint that is formed, has a formed endpoint's bit set and no other. -/
theorem bit_mask4 (f : Nat → Bool) {e : Nat} (he : e < 4) : bit ((List.range 4).map fun e => if f e then 2 ^ e else 0).sum e = f e := by
  have hsum : ((List.range 4).map fun e => if f e then 2 ^ e else 0).sum
      = (if f 0 then 1 else 0) + ((if f 1 then 2 else 0) + ((if f 2 then 4 else 0) + ((if f 3 then 8 else 0) + 0))) := rfl
  rw [hsum]
  interval_cases e <;> cases f 0 <;> cases f 1 <;> cases f 2 <;> cases f 3 <;> rfl

theorem Reports.ite {s t u : State} {c : Prop} [Decidable c] (h : Reports s t) (k : Reports s u) : Reports s (if c then t else u) := by
  split
  · exact h
  · exact k

/-- A management PF that is named, with its link up, is the one taken; the change of hands may be recorded. -/
theorem State.chooseMgmt_reports {s : State} {k : Nat} (e : Nat) (hnamed : s.host.mgmtNamed = some k) (hup : (s.ep k).dlUp = true) :
    Reports { s with host := { s.host with mgmt := some k, mgmtNamed := some k } } (s.chooseMgmt e) := by
  simp only [State.chooseMgmt, hnamed, hup, if_true, Option.orElse_some]
  exact Reports.ite (State.event_reports _ _ _ _) (Reports.refl _)

/-- The record that MCR_WRITE leaves in the flash. -/
def writtenCopy (s : State) (q : List Byte) : McrCopy :=
  { signatureOk := true, version := 1, sequence := s.boot.nextCopy.2 % 2 ^ 32, reservedZero := true, fields := mcrFields q, digestOk := true }

theorem execMcrWriteDone_of {s : State} {m : Fin 5} {token : U32} {l : LongCmd} {q : List Byte} (hl : s.long? m.val token = some l)
    (hw : l.work = .mcrWrite q) : execMcrWriteDone m token s
      = (State.finish { s with boot := { s.boot with mcrCopies := put s.boot.mcrCopies s.boot.nextCopy.1 (some (writtenCopy s q)) } } m.val l rOk
        (leBytes 4 s.boot.nextCopy.2)).done := by
  rw [← leBytes_mod 4 s.boot.nextCopy.2]
  simp only [execMcrWriteDone, hl, hw]
  rfl

theorem workGetModuleState_off {s : State} (p : List Byte) (hoff : s.dieRuns = false) :
    workGetModuleState s p = .ok s ([0xFF] ++ leBytes 1 s.pwr.st.code ++ zeros 5) := by
  simp only [workGetModuleState, hoff, Bool.false_eq_true, if_false]
  rfl

/-- TIME_STATUS of GET_MODULE_STATE: the status, NT valid and the root. -/
def timeStatusByte (t : TimeState) : Nat :=
  (match t.status with | .lost => 0 | .holdover => 1 | .locked => 2) + 4 * b2n t.ntValid + 8 * b2n t.root

theorem workGetModuleState_on {s : State} (p : List Byte) (hruns : s.dieRuns = true) : workGetModuleState s p = .ok s
    (leBytes 1 s.boot.alive.code ++ leBytes 1 s.pwr.st.code ++ leBytes 1 (timeStatusByte s.time)
      ++ leBytes 1 (s.faults.sevValid + 16 * b2n s.faults.stopped) ++ leBytes 2 s.faults.validSources
      ++ leBytes 1 (b2n (s.boot.alive == .recovery) + 2 * b2n s.mem.exposed)) := by
  simp only [workGetModuleState, hruns, if_true]
  rfl

theorem timeStatusByte_bits (t : TimeState) : bit (timeStatusByte t) 2 = t.ntValid ∧ bit (timeStatusByte t) 3 = t.root := by
  unfold timeStatusByte
  cases t.status <;> cases t.ntValid <;> cases t.root <;> decide

/-- Settles O21: each command of the groups is served through the frame of the BCI. -/
theorem bciMailboxAndModule : Obligations.BciMailboxAndModule := by
  unfold Obligations.BciMailboxAndModule
  refine ⟨fun m r s => ⟨?_, ?_, ?_, ?_, ?_⟩, fun m r token l q s => ⟨?_, ?_, ?_, ?_, ?_, ?_, ?_⟩, fun b x y => ⟨?_, ?_, ?_, ?_⟩⟩
  · exact fun h => h.gives_ok rfl rfl
  · exact fun h => ⟨_, _, h.gives_ok rfl rfl, Mailbox.tokenState_one, Mailbox.tokenState_zero⟩
  · intro h
    refine ⟨_, _, h.gives_ok rfl rfl, rfl, ?_⟩
    simp only [List.length_flatten, List.map_map, Function.comp_def, Memory.read_length, List.map_const', List.length_range, List.sum_replicate,
      smul_eq_mul, Nat.mul_comm]
  · exact fun h => h.gives_ok rfl rfl
  · exact fun h => ⟨_, h.gives_ok rfl rfl, fun e he => bit_mask4 s.formed he⟩
  · exact fun h => h.gives_ok rfl rfl
  · exact fun h hfree => h.gives_accepted rfl (guardBci_one _ _ _ hfree)
  · intro hl hw
    refine ⟨_, writtenCopy s q, ?_, rfl, rfl, rfl, rfl, rfl⟩
    show execMcrWriteDone m token s = _
    rw [execMcrWriteDone_of hl hw]
    rfl
  · intro h hformed hup
    have hwork := State.chooseMgmt_reports (s := { s with host := { s.host with mgmtNamed := some (field r.payload 0 1) } }) (field r.payload 0 1)
      rfl hup
    refine ⟨_, h.gives_ok rfl (guardBci_one _ _ _ (by simp [hformed, hup])), ?_, ?_⟩
    · refine Only.trans (fun p => ?_) (hwork.only.mono)
      cases p <;> first | exact .inl (by decide) | exact .inr rfl
    · rw [hwork]
  · exact fun h hformed => h.gives_ok rfl (guardBci_one _ _ _ (by simp [hformed]))
  · exact fun h hruns => ⟨_, h.gives_ok rfl (workGetModuleState_on _ hruns), timeStatusByte_bits s.time⟩
  · exact fun h hoff => h.gives_ok rfl (workGetModuleState_off _ hoff)
  · exact fun hx hy => by simp only [Boot.nextCopy, hx, hy]
  · exact fun hx hy => by simp only [Boot.nextCopy, hx, hy]
  · exact fun hx hy => by simp only [Boot.nextCopy, hx, hy]
  · exact fun hx hy => by simp only [Boot.nextCopy, hx, hy]; decide

/-! ### Ports -/

/-- A list of conditions none of which holds over the ports of a mask. -/
theorem any_false {l : List Nat} {f : Nat → Bool} (h : ∀ i ∈ l, f i = false) : l.any f = false :=
  List.any_eq_false.mpr fun i hi => by simp [h i hi]

theorem portSet_clear {s : State} {p : List Byte} (hheld : ∀ i ∈ maskPorts p, s.portHeld i = false)
    (hisolated : field p 8 1 = 1 → ∀ i ∈ maskPorts p, ((s.link i).isolated && (s.capture (0x0200 + i)).valid) = false)
    (hres : ∀ i ∈ maskPorts p, (s.link i).cfg.changesRes p = true → (s.link i).st = .disabled) :
    workPortSet s p = .ok ((maskPorts p).foldl (fun s i => s.portSet p i) s) [] := by
  refine guardBci_clear _ _ ?_
  have hiso : (field p 8 1 == 1 && (maskPorts p).any fun q => (s.link q).isolated && (s.capture (0x0200 + q)).valid) = false := by
    by_cases hen : field p 8 1 = 1
    · simp only [any_false (hisolated hen), Bool.and_false]
    · simp [hen]
  have hchg : ((maskPorts p).any fun q => (s.link q).cfg.changesRes p && (s.link q).st != .disabled) = false :=
    any_false fun i hi => by
      cases hc : (s.link i).cfg.changesRes p with
      | false => rfl
      | true => simp [hres i hi hc]
  simp only [List.forall_mem_cons, List.not_mem_nil, false_implies, implies_true, any_false hheld, hiso, hchg, and_self]

theorem portSet_isolated {s : State} {p : List Byte} {i : Nat} (hheld : ∀ j ∈ maskPorts p, s.portHeld j = false) (hi : i ∈ maskPorts p)
    (hen : field p 8 1 = 1) (hisolated : (s.link i).isolated = true) (hvalid : (s.capture (0x0200 + i)).valid = true) :
    workPortSet s p = .err rState 8 := by
  have hbad : (field p 8 1 == 1 && (maskPorts p).any fun q => (s.link q).isolated && (s.capture (0x0200 + q)).valid) = true := by
    simp only [hen, beq_self_eq_true, Bool.true_and, List.any_eq_true, Bool.and_eq_true]
    exact ⟨i, hi, hisolated, hvalid⟩
  simp only [workPortSet, hbad, any_false hheld]
  exact guardBci_first [(false, rBusy, 0)] _ _ _ _ (by simp)

theorem portSet_reserved {s : State} {p : List Byte} {i : Nat} (hheld : ∀ j ∈ maskPorts p, s.portHeld j = false) (hi : i ∈ maskPorts p)
    (hen : field p 8 1 ≠ 1) (hres : (s.link i).cfg.changesRes p = true) (hrun : (s.link i).st ≠ .disabled) :
    workPortSet s p = .err rState 24 := by
  have hbad : ((maskPorts p).any fun q => (s.link q).cfg.changesRes p && (s.link q).st != .disabled) = true := by
    simp only [List.any_eq_true, Bool.and_eq_true, bne_iff_ne]
    exact ⟨i, hi, hres, hrun⟩
  have hno : (field p 8 1 == 1) = false := by simpa using hen
  simp only [workPortSet, hbad, any_false hheld, hno, Bool.false_and]
  exact guardBci_first [(false, rBusy, 0), (false, rState, 8)] _ _ _ _ (by simp)

/-- Settles O22: the conditions of each port command are those that its refusals test, in their order. -/
theorem bciPorts : Obligations.BciPorts := by
  unfold Obligations.BciPorts
  refine ⟨fun m r token l q s => ⟨?_, ?_, ?_, ?_⟩, fun m r i s hserved hheld hi => ⟨?_, ?_⟩⟩
  · exact fun h hfree => h.gives_ok rfl (guardBci_one _ _ _ hfree)
  · exact fun h hheld hiso hres => h.gives_ok rfl (portSet_clear hheld hiso hres)
  · exact fun h hfree hup => h.gives_accepted rfl (guardBci_clear _ _ (by simp [hfree, hup]))
  · intro hl hw hrest
    show execPortRetrainDone m token s = _
    simp only [execPortRetrainDone, hl, hw, hrest, if_true]
    rfl
  · exact fun hen hiso hvalid => hserved.gives_err rfl (portSet_isolated hheld hi hen hiso hvalid)
  · exact fun hen hres hrun => hserved.gives_err rfl (portSet_reserved hheld hi hen hres hrun)

/-! ### Routes -/

/-- Steps that each write one place leave in every place named what that place's own step wrote. -/
theorem foldl_pointwise {σ α : Type} {get : σ → Nat → α} {f : σ → Nat → σ} {g : Nat → α → α} (hself : ∀ s a, get (f s a) a = g a (get s a))
    (hne : ∀ s a i, i ≠ a → get (f s a) i = get s i) (l : List Nat) (hnodup : l.Nodup) (s : σ) (i : Nat) :
    get (l.foldl f s) i = if i ∈ l then g i (get s i) else get s i := by
  induction l generalizing s with
  | nil => rfl
  | cons a l ih =>
    obtain ⟨hnot, hnodup⟩ := List.nodup_cons.mp hnodup
    rw [List.foldl_cons, ih hnodup]
    by_cases hia : i = a
    · subst hia
      simp [hnot, hself]
    · simp [hia, hne _ _ _ hia]

theorem maskPorts_nodup (p : List Byte) : (maskPorts p).Nodup := List.nodup_range.filter _

theorem State.setRport_rport (s : State) (p q : Nat) (x : RPort) : (s.setRport p x).rport q = if q = p then x else s.rport q := Tbl.getD_set ..

/-- What the entries of a run of groups hold after they are written one by one. -/
theorem get?_foldl_set {α : Type} (f : Nat → α) (first n g : Nat) (t : Tbl α) :
    Tbl.get? ((List.range n).foldl (fun t i => Tbl.set t (first + i) (f i)) t) g
      = if first ≤ g ∧ g < first + n then some (f (g - first)) else Tbl.get? t g := by
  induction n with
  | zero =>
    rw [if_neg (by omega)]
    rfl
  | succ n ih =>
    rw [List.range_succ, List.foldl_append, List.foldl_cons, List.foldl_nil, Tbl.get?_set, ih]
    by_cases hlast : g = first + n
    · rw [if_pos hlast, if_pos (by omega), hlast, Nat.add_sub_cancel_left]
    · rw [if_neg hlast]
      exact if_congr (by omega) rfl rfl

/-- Writing router ports changes the table of ports and nothing else. -/
theorem State.foldl_setRport (f : State → Nat → RPort) (l : List Nat) (s : State) :
    l.foldl (fun s q => s.setRport q (f s q)) s
      = { s with route := { s.route with ports := (l.foldl (fun s q => s.setRport q (f s q)) s).route.ports } } := by
  induction l generalizing s with
  | nil => rfl
  | cons a l ih =>
    rw [List.foldl_cons, ih]
    rfl

/-- Settles O23: each table is written at the places that the payload names. -/
theorem bciRoutes : Obligations.BciRoutes := by
  unfold Obligations.BciRoutes
  intro m r s
  refine ⟨?_, ?_, ?_, ?_, ?_, ?_, ?_, ?_⟩
  · exact fun h hfirst => ⟨_, h.gives_ok rfl (guardBci_one _ _ _ hfirst), rfl⟩
  · intro h hfree hsame
    refine h.gives_ok rfl (guardBci_clear _ _ ?_)
    cases hen : (s.rport (field r.payload 0 1)).role.en with
    | false => simp [hfree]
    | true => simp [hfree, hsame hen]
  · exact fun h => ⟨_, h.gives_ok rfl rfl, rfl, fun g => get?_foldl_set _ _ _ g _⟩
  · exact fun h => h.gives_ok rfl rfl
  · exact fun h => h.gives_ok rfl rfl
  · exact fun h => h.gives_ok rfl rfl
  · intro h hfree
    refine ⟨_, h.gives_ok rfl (guardBci_one _ _ _ (any_false hfree)), State.foldl_setRport _ _ s, fun i => ?_⟩
    refine foldl_pointwise (get := State.rport) (g := fun _ x => { x with thresh := field r.payload 8 2 }) ?_ ?_ _ (maskPorts_nodup _) s i
    · exact fun s a => by simp [State.setRport_rport]
    · exact fun s a i hia => by simp [State.setRport_rport, hia]
  · intro h hfree
    refine h.gives_ok rfl (guardBci_one _ _ _ ?_)
    by_cases htable : field r.payload 0 1 = 0
    · simp [hfree htable]
    · simp [htable]

end Sys2Proof.Machine
end

section
/-! PROOFS. BCI commands of contexts, match domains, ledgers, jobs, collective nodes and queue pairs (R64 to R68, R163 to R172, R205, R217, R243,
R250 to R253, R260, R279, R366, R368, R374, R556). -/
namespace Sys2Proof.Machine

/-! ### What the module chooses -/

/-- A choice meets its test where the fallback does. -/
theorem State.choose_some {s v : State} {w n : Nat} {ok : Nat → Bool} {fallback : Option Nat} (hfall : ∀ k, fallback = some k → ok k = true)
    (h : s.choose w ok fallback = (some n, v)) : ok n = true ∧ v = { s with free := s.free + 1 } := by
  obtain ⟨hn, rfl⟩ := Prod.mk.inj h
  refine ⟨?_, rfl⟩
  split at hn
  case isTrue hok => exact Option.some.inj hn ▸ hok
  case isFalse => exact hfall n hn

/-- A choice among the first that meets the test. -/
theorem State.choose_find {s v : State} {w n : Nat} {ok : Nat → Bool} {l : List Nat} (h : s.choose w ok (l.find? ok) = (some n, v)) :
    ok n = true ∧ v = { s with free := s.free + 1 } :=
  State.choose_some (fun _ hk => List.find?_some hk) h

/-- Nothing is chosen only where no candidate meets the test. -/
theorem State.choose_none {s v : State} {w : Nat} {ok : Nat → Bool} {l : List Nat} (h : s.choose w ok (l.find? ok) = (none, v)) :
    ∀ k ∈ l, ok k = false := by
  obtain ⟨hn, -⟩ := Prod.mk.inj h
  split at hn
  · cases hn
  · exact fun k hk => by simpa using List.find?_eq_none.mp hn k hk

/-! ### Contexts -/

theorem State.endDomain_domain? (s : State) (c : Nat) : (s.endDomain c).domain? c = none := by
  unfold State.endDomain
  split
  case h_1 hnone => exact hnone
  case h_2 => exact Tbl.get?_erase_self _ _

/-- Deregistering writes regions and the performance counters. -/
theorem State.deregister_domains (s : State) (i : Nat) : (s.deregister i).domains = s.domains := by
  unfold State.deregister
  split
  · rfl
  · dsimp only
    split <;> rfl

theorem State.endCtx_gone (s : State) (c : Nat) : (s.endCtx c).ctx? c = none ∧ (s.endCtx c).domain? c = none := by
  refine ⟨Tbl.get?_erase_self _ _, ?_⟩
  refine Eq.trans (congrArg (Tbl.get? · c) ?_) (State.endDomain_domain? s c)
  refine foldl_keeps (fun t : State => t.domains = (s.endDomain c).domains) _ (fun t e ht => ?_) _ _ rfl
  split
  · exact (State.deregister_domains _ _).trans ht
  · exact ht

/-- A context with a QP is not quiet. -/
theorem State.ctxQuiet_of_qp {s : State} {c : Nat} (h : ∃ q ∈ s.qps, q.2.owner = c) : s.ctxQuiet c = false := by
  obtain ⟨q, hq, howner⟩ := h
  have hall : (s.qps.all fun e => e.2.owner != c) = false := List.all_eq_false.mpr ⟨q, hq, by simp [howner]⟩
  simp [State.ctxQuiet, hall]

theorem State.modCtx_of {s : State} {c : Nat} {x : Ctx} (f : Ctx → Ctx) (h : s.ctx? c = some x) : s.modCtx c f = s.setCtx c (f x) := by
  simp only [State.modCtx, h]

/-- The fields that SELECT of CTX_SET selects. -/
theorem workCtxSet_of {m : Fin 5} {s : State} {p : List Byte} {x : Ctx} (howns : s.Owns m (field p 0 2)) (hx : s.ctx? (field p 0 2) = some x)
    (hspilled : bit (field p 2 1) 1 = true → ∀ q ∈ s.qps, q.2.owner = field p 0 2 → q.2.spilled = false) :
    workCtxSet m s p = .ok (s.setCtx (field p 0 2)
      { x with eagerLimit := if bit (field p 2 1) 0 then field p 6 2 else x.eagerLimit,
               spillVa := if bit (field p 2 1) 1 then field p 8 8 else x.spillVa,
               spillSize := if bit (field p 2 1) 1 then field p 16 4 else x.spillSize,
               asid := if bit (field p 2 1) 1 then field p 20 2 else x.asid }) [] := by
  have hfree : (bit (field p 2 1) 1 && s.qps.any fun e => e.2.owner == field p 0 2 && e.2.spilled) = false := by
    cases hsel : bit (field p 2 1) 1 with
    | false => rfl
    | true =>
      refine List.any_eq_false.mpr fun q hq hbad => ?_
      simp only [Bool.and_eq_true, beq_iff_eq] at hbad
      rw [hspilled hsel q hq hbad.1] at hbad
      cases hbad.2
  refine (guardBci_clear _ _ ?_).trans ?_
  · simpa only [List.forall_mem_append, List.forall_mem_singleton, hfree, and_true] using State.ctxRefusals_clear 0 howns
  · rw [State.modCtx_of _ hx]
    cases bit (field p 2 1) 0 <;> cases bit (field p 2 1) 1 <;> rfl

theorem State.newCtx_any (s : State) : s.newCtx 0xFFFF = s.choose 12 (fun c => decide (c < 4096) && (s.ctx? c).isNone)
    ((List.range 4096).find? fun c => decide (c < 4096) && (s.ctx? c).isNone) := by
  simp only [State.newCtx, if_true]

theorem workCtxCreate_of {m : Fin 5} {s v : State} {p : List Byte} {c : Nat} (hnew : s.newCtx (field p 0 2) = (some c, v))
    (hheld : s.ctxHeld (field p 0 2) = false) (hfree : s.ctx? (field p 0 2) = none) (hformed : s.formed (namedEp m (field p 2 1)) = true)
    (hact : s.mayAct m (namedEp m (field p 2 1)) = true) (hup : (s.ep (namedEp m (field p 2 1))).dlUp = true)
    (hfn : field p 3 1 ≤ (s.ep (namedEp m (field p 2 1))).vfs) :
    workCtxCreate m s p
      = .ok (v.setCtx c
          { Ctx.fresh (namedEp m (field p 2 1)) (field p 3 1) (if field p 4 1 = 0xFF then c % 64 else field p 4 1) (bit (field p 5 1) 0)
              (bit (field p 5 1) 1) with
            eagerLimit := field p 6 2, spillVa := field p 8 8, spillSize := field p 16 4, asid := field p 20 2 })
          (leBytes 2 c ++ leBytes 1 (if field p 4 1 = 0xFF then c % 64 else field p 4 1)) := by
  have hfn' : ¬ (s.ep (namedEp m (field p 2 1))).vfs < field p 3 1 := Nat.not_lt.mpr hfn
  simp only [workCtxCreate, hnew]
  exact guardBci_clear _ _ (by simp [hheld, hfree, hformed, hact, hup, hfn'])

/-- Settles O25: each command tests what its statement assumes, and a chosen number is one that its test lets through. -/
theorem bciContexts : Obligations.BciContexts := by
  unfold Obligations.BciContexts
  intro m r c x token l s v
  refine ⟨?_, ?_, ?_, ?_, ?_, ?_, ?_, ?_, ?_⟩
  · exact fun h hnew _ _ hheld hfree hformed hact hup hfn =>
      ⟨_, h.gives_ok rfl (workCtxCreate_of hnew hheld hfree hformed hact hup hfn), rfl⟩
  · exact fun hwant => if_neg hwant
  · intro hnew
    rw [State.newCtx_any] at hnew
    obtain ⟨hok, hv⟩ := State.choose_find hnew
    simp only [Bool.and_eq_true, decide_eq_true_eq, Option.isNone_iff_eq_none] at hok
    exact ⟨hok.1, hok.2, hv⟩
  · intro hnew k hk
    rw [State.newCtx_any] at hnew
    have hno := State.choose_none hnew k (List.mem_range.mpr hk)
    simpa [hk] using hno
  · refine fun h howns hdom => h.gives_accepted rfl (guardBci_clear _ _ ?_)
    simpa only [List.forall_mem_append, List.forall_mem_singleton, hdom, and_true] using State.ctxRefusals_clear 0 howns
  · refine fun hl hw hquiet => ⟨?_, State.endCtx_gone s c⟩
    show execCtxDestroyDone m token s = _
    simp only [execCtxDestroyDone, hl, hw, hquiet, if_true]
    rfl
  · intro hl hw hqp
    show execCtxDestroyDone m token s = _
    simp only [execCtxDestroyDone, hl, hw, State.ctxQuiet_of_qp hqp, Bool.false_eq_true, if_false]
  · intro h howns hx
    refine h.gives_ok rfl ((guardBci_clear _ _ (State.ctxRefusals_clear 0 howns)).trans ?_)
    simp only [hx]
    rfl
  · exact fun h howns hx hspilled => ⟨_, h.gives_ok rfl (workCtxSet_of howns hx hspilled), rfl⟩

/-! ### Ledgers and match domains -/

theorem ownsLedgers_of {s : State} {c first n : Nat}
    (h : ∀ i, first ≤ i → i < first + n → ∃ g, Tbl.get? s.ledgers i = some g ∧ g.owner = c) : s.ownsLedgers c first n = true := by
  refine List.all_eq_true.mpr fun i hi => ?_
  obtain ⟨k, hk, rfl⟩ := List.mem_map.mp hi
  obtain ⟨g, hg, howner⟩ := h (first + k) (by omega) (by have := List.mem_range.mp hk; omega)
  simp [hg, howner]

/-- The refusals of a command on ledgers of the context's own. -/
theorem ledgerRefusals_clear {s : State} {m : Fin 5} {c first n : Nat} (howns : s.Owns m c)
    (hmine : ∀ i, first ≤ i → i < first + n → ∃ g, Tbl.get? s.ledgers i = some g ∧ g.owner = c) :
    ∀ e ∈ [(!(s.ctx? c).isSome, rNotFound, 0), (!s.ownsLedgers c first n, rNotFound, 4)] ++ s.ctxRefusals m c 0, e.1 = false := by
  have hexists : (s.ctx? c).isSome = true := howns.1
  simpa only [List.forall_mem_append, List.forall_mem_cons, List.not_mem_nil, false_implies, implies_true, hexists, ownsLedgers_of hmine, Bool.not_true,
    true_and, and_true] using State.ctxRefusals_clear 0 howns

/-- A chosen run of ledgers is free and homed where asked. -/
theorem State.newLedgers_free {s v : State} {tile n first : Nat} (h : s.newLedgers tile n = (some first, v)) :
    s.ledgersFree tile n first = true ∧ v = { s with free := s.free + 1 } := State.choose_find h

/-- Setting a run of entries to one value, entry by entry. -/
theorem get?_foldl_ledgerRange (g : Ledger) (first n i : Nat) (t : Tbl Ledger) :
    Tbl.get? ((ledgerRange first n).foldl (fun t i => Tbl.set t i g) t) i
      = if first ≤ i ∧ i < first + n then some g else Tbl.get? t i := by
  rw [ledgerRange, List.foldl_map]
  exact get?_foldl_set (fun _ => g) first n i t

theorem get?_map_range (f : Ledger → Ledger) (first n i : Nat) (t : Tbl Ledger) :
    Tbl.get? (List.map (fun e => if first ≤ e.1 ∧ e.1 < first + n then (e.1, f e.2) else e) t) i
      = if first ≤ i ∧ i < first + n then (Tbl.get? t i).map f else Tbl.get? t i := by
  have hmap : List.map (fun e => if first ≤ e.1 ∧ e.1 < first + n then (e.1, f e.2) else e) t
      = Tbl.map (fun k g => if first ≤ k ∧ k < first + n then f g else g) t := by
    refine List.map_congr_left fun e _ => ?_
    by_cases hin : first ≤ e.1 ∧ e.1 < first + n
    · simp only [if_pos hin]
    · simp only [if_neg hin]
  rw [hmap, Tbl.get?_map]
  split
  · rfl
  · exact Option.map_id'

theorem State.findRun_some {s v : State} {n limit chunk : Nat} (h : s.findRun n limit = (some chunk, v)) :
    v = { s with free := s.free + 1 } ∧ s.runFree chunk n limit = true := by
  refine And.symm (State.choose_some (ok := fun v => s.runFree v n limit) (fun k hk => ?_) h)
  exact (List.mem_filter.mp (List.min?_mem hk)).2

/-- The match domain that DOMAIN_CREATE asks for, at its pool's address and under its key. -/
def newDomain (p : List Byte) (base : Nat) (key : U64) : Domain :=
  { job := field p 2 2, nbinsLog2 := dflt (field p 4 1) 10, maxPosted := dflt (field p 8 4) 65536,
    maxUnexp := dflt (field p 12 4) 65536, poolGranules := 2 ^ dflt (field p 16 1) 26 / 256, base := base, backoff := dflt (field p 18 2) 20,
    key := key, nextPseq := 0, nextAseq := 0, posted := [], msgs := [], nextMsg := 0, used := [], busy := [] }

/-- The bytes that the pool and the bin heads of DOMAIN_CREATE take. -/
def poolBytes (p : List Byte) : Nat := 2 ^ dflt (field p 16 1) 26 + 16 * 2 ^ dflt (field p 4 1) 10

theorem chunksOf_eq (n : Nat) : chunksOf n = (n + 0x1FFFFF) / 0x200000 := by
  show (n + 0x200000 - 1) / 0x200000 = _
  rw [Nat.add_sub_assoc (by decide)]

theorem workDomainCreate_of {m : Fin 5} {s v : State} {p : List Byte} {chunk : Nat} (howns : s.Owns m (field p 0 2))
    (hjob : (Tbl.get? s.route.jobs (field p 2 2)).isSome = true) (hnone : s.domain? (field p 0 2) = none)
    (hhost : (s.ctx? (field p 0 2)).map (·.hostLost) = some false) (hrun : s.findRun (chunksOf (poolBytes p)) poolChunks = (some chunk, v)) :
    workDomainCreate m s p
      = .ok (({ v with free := v.free + 1 }.hbmZero (poolBase + chunkBytes * chunk) (chunkBytes * chunksOf (poolBytes p))).setDomain (field p 0 2)
          (newDomain p (poolBase + chunkBytes * chunk) (BitVec.ofNat 64 (v.fresh 64).1))) [] := by
  have hjob' : (Tbl.get? s.route.jobs (field p 2 2)).isNone = false := by simpa [Option.isSome_iff_ne_none] using hjob
  have hrun' := hrun
  simp only [poolBytes] at hrun'
  simp only [workDomainCreate, hrun']
  refine guardBci_clear _ _ ?_
  simpa only [List.forall_mem_append, List.forall_mem_cons, List.not_mem_nil, false_implies, implies_true, hjob', hnone, hhost, Option.isSome_none,
    Option.isNone_some, Option.getD_some, and_true] using State.ctxRefusals_clear 0 howns

/-- Settles O26: what is chosen is free, and every entry of the range is written, freed or attributed. -/
theorem bciLedgersAndDomains : Obligations.BciLedgersAndDomains := by
  unfold Obligations.BciLedgersAndDomains
  intro m r first chunk c token l s v
  refine ⟨?_, ?_, ?_, ?_, ?_, ?_, State.findRun_some⟩
  · intro h howns hnew
    obtain ⟨hfree, rfl⟩ := State.newLedgers_free hnew
    simp only [State.ledgersFree, Bool.and_eq_true, Bool.or_eq_true, beq_iff_eq, decide_eq_true_eq, List.all_eq_true] at hfree
    obtain ⟨⟨hend, hhome⟩, hothers⟩ := hfree
    refine ⟨_, h.gives_ok rfl (u := { s with free := s.free + 1, ledgers := _ }) ((guardBci_clear _ _ ?_).trans ?_),
      fun i => get?_foldl_ledgerRange _ _ _ i s.ledgers, hend, hhome.resolve_left, hothers⟩
    · simpa only [List.forall_mem_append, List.forall_mem_singleton, hnew, Option.isNone_some, and_true] using State.ctxRefusals_clear 0 howns
    · simp only [hnew]
  · exact fun h howns ⟨_, hmine⟩ => h.gives_ok rfl (guardBci_clear _ _ (ledgerRefusals_clear howns hmine))
  · exact fun h howns ⟨_, hmine⟩ => ⟨_, h.gives_ok rfl (guardBci_clear _ _ (ledgerRefusals_clear howns hmine)),
      
      fun i => get?_map_range (fun g => { g with remote := field r.payload 8 1 == 1, share := field r.payload 9 1 == 1 }) _ _ i s.ledgers⟩
  · intro h howns hjob hnone hhost hrun
    rw [← chunksOf_eq] at hrun ⊢
    exact ⟨_, h.gives_ok rfl (workDomainCreate_of howns hjob hnone hhost hrun), rfl, rfl, rfl, rfl, rfl, rfl, rfl, rfl, rfl, rfl, rfl, rfl⟩
  · intro h howns hdom hheld
    refine h.gives_accepted rfl (guardBci_clear _ _ ?_)
    have hexists : (s.ctx? (field r.payload 0 2)).isSome = true := howns.1
    have hsome : (s.domain? (field r.payload 0 2)).isNone = false := by simpa [Option.isSome_iff_ne_none] using hdom
    simpa only [List.forall_mem_append, List.forall_mem_singleton, hexists, hsome, hheld, Bool.not_true, Bool.or_false, true_and, and_true]
      using State.ctxRefusals_clear 0 howns
  · refine fun hl hw => ⟨?_, State.endDomain_domain? s c⟩
    show execDomainDestroyDone m token s = _
    simp only [execDomainDestroyDone, hl, hw]
    rfl

end Sys2Proof.Machine
end

section
/-! PROOFS. BCI commands of jobs, ranks, collective nodes and queue pairs (R64 to R68, R163 to R172, R205, R214, R250 to R253, R260, R366, R368,
R556). -/
namespace Sys2Proof.Machine

/-! ### Jobs and ranks -/

theorem all_false {α : Type} {l : List α} {f : α → Bool} (h : ∀ a ∈ l, f a = false) : l.any f = false :=
  List.any_eq_false.mpr fun a ha => by simp [h a ha]

theorem State.jobUsed_false {s : State} {j : Nat} (hqps : ∀ q ∈ s.qps, q.2.job ≠ j)
    (hregions : ∀ g ∈ s.mem.regions, g.2.valid = true ∨ g.2.registering = true → g.2.job ≠ j) (hnodes : ∀ x ∈ s.nodes, x.2.job ≠ j)
    (hdomains : ∀ x ∈ s.domains, x.2.job ≠ j) (hkeys : ∀ h ∈ s.sec.handles, h.2.st ≠ .free → h.2.job ≠ j) : s.jobUsed j = false := by
  have hq : (s.qps.any fun e => e.2.job == j) = false := all_false fun e he => by simpa using hqps e he
  have hg : (s.mem.regions.any fun e => (e.2.valid || e.2.registering) && e.2.job == j) = false := all_false fun e he => by
    by_cases hlive : e.2.valid = true ∨ e.2.registering = true
    · simp [hregions e he hlive]
    · simp only [not_or, Bool.not_eq_true] at hlive
      simp [hlive.1, hlive.2]
  have hn : (s.nodes.any fun e => e.2.job == j) = false := all_false fun e he => by simpa using hnodes e he
  have hd : (s.domains.any fun e => e.2.job == j) = false := all_false fun e he => by simpa using hdomains e he
  have hk : (s.sec.handles.any fun e => e.2.st != .free && e.2.job == j) = false := all_false fun e he => by
    by_cases hfree : e.2.st = .free
    · simp [hfree]
    · simp [hkeys e he hfree]
  simp only [State.jobUsed, hq, hg, hn, hd, hk, Bool.or_false]

/-- Field `k` of entries of 8 bytes each. -/
theorem field_flatten {f : Nat → List Byte} {n k : Nat} (hlen : ∀ i, (f i).length = 8) (hk : k < n) :
    field ((List.range n).map f).flatten (8 * k) 8 = leNat (f k) := by
  have hbytes : (((List.range n).map f).flatten.drop (8 * k)).take 8 = f k := by
    refine List.ext_getElem? fun i => ?_
    rw [List.getElem?_take, List.getElem?_drop]
    split
    case isTrue hi =>
      rw [getElem?_flatten_map_range hlen (by omega), Nat.mul_add_div (by decide), Nat.mul_add_mod, Nat.div_eq_of_lt hi, Nat.mod_eq_of_lt hi, Nat.add_zero]
    case isFalse hi =>
      rw [List.getElem?_eq_none (by rw [hlen]; omega)]
  rw [field, hbytes]

theorem JobDesc.word_eq (d : JobDesc) : d.word = d.base + d.count * 2 ^ 22 + d.policy * 2 ^ 45 + b2n d.prot * 2 ^ 47 + 2 ^ 63 := by
  simp only [JobDesc.word, at_, Nat.shiftLeft_eq, Nat.one_mul]

/-- The bytes of an entry of the rank table as JOB_QUERY reads it. -/
def rankBytes (t : Tbl RankEntry) (i : Nat) : List Byte :=
  match Tbl.get? t i with
  | some x => leBytes 8 x.word
  | none => zeros 8

theorem rankBytes_length (t : Tbl RankEntry) (i : Nat) : (rankBytes t i).length = 8 := by
  unfold rankBytes
  split
  · exact leBytes_length 8 _
  · rfl

theorem leNat_rankBytes (t : Tbl RankEntry) (i : Nat) : leNat (rankBytes t i) = match Tbl.get? t i with
    | some x => (x.feid.toNat + at_ x.pset 20 + at_ (b2n x.valid) 63) % 2 ^ 64
    | none => 0 := by
  unfold rankBytes
  cases Tbl.get? t i with
  | none => rfl
  | some x => exact leNat_leBytes 8 _

theorem workJobQuery_of {s : State} {p : List Byte} {d : JobDesc} (h : s.job? (field p 0 2) = some d) :
    workJobQuery s p = .ok s (leBytes 8 (d.base + d.count * 2 ^ 22 + d.policy * 2 ^ 45 + b2n d.prot * 2 ^ 47 + 2 ^ 63)
      ++ ((List.range (field p 2 2)).map fun i => rankBytes s.route.ranks (d.base + field p 4 4 + i)).flatten) := by
  rw [← JobDesc.word_eq]
  simp only [workJobQuery, h]
  rfl

/-! ### Collective nodes -/

/-- QPs of a node's edges that meet R251 give no refusal. -/
theorem State.edgeRefusals_clear {s : State} {x : Node} (named : Nat → Bool) (h : ∀ q ∈ x.edges, named q = true → s.edgeOk x q = true) :
    ∀ e ∈ s.edgeRefusals x named, e.1 = false := by
  intro e he
  simp only [State.edgeRefusals, List.mem_append, List.mem_map, List.mem_filter, Bool.and_eq_true, List.contains_iff_mem] at he
  rcases he with ⟨a, ⟨-, hedge, hnamed⟩, rfl⟩ | ⟨a, ⟨-, hedge, hnamed⟩, rfl⟩
  · have hok := h _ hedge hnamed
    cases hq : s.qp? a.2 with
    | none => simp [State.edgeOk, hq] at hok
    | some q => rfl
  · simp [h _ hedge hnamed]

theorem State.nodeRefusals_clear {s : State} {m n : Nat} {x : Node} (hx : s.node? n = some x) (howns : s.OwnsFor m x.owner) :
    ∀ e ∈ s.nodeRefusals m n, e.1 = false := by
  obtain ⟨hact, hfree⟩ := howns
  simp [State.nodeRefusals, hx, hact, hfree]

/-- The SRAM window of node `n`, which COLL_NODE_CREATE registers under region index `i`. -/
def nodeWindow (s : State) (d : JobDesc) (y : Node) (n i : Nat) : Region :=
  { tag := s.nextTag i, kind := .cuWindow, perm := 8, valid := true, prot := d.prot, user := false, job := y.job, owner := y.owner,
    base := n, size := 2 ^ 48, asid := 0, agent := 0, hold := none, registering := false }

theorem workCollNodeCreate_of {m : Fin 5} {s v w : State} {p : List Byte} {d : JobDesc} {n i : Nat} (hstripe : (nodeOf p).stripe = 0)
    (hjob : s.job? (nodeOf p).job = some d) (hprot : d.prot = (nodeOf p).prot) (hexists : s.ownerExists (nodeOf p).owner = true)
    (howns : s.OwnsFor m (nodeOf p).owner) (hedges : ∀ q ∈ (nodeOf p).edges, q = 0) (htile : s.ctxTile (nodeOf p).owner = (nodeOf p).tile)
    (hnode : s.choose 14 (fun n => (s.node? n).isNone) ((List.range 16384).find? fun n => (s.node? n).isNone) = (some n, v))
    (hregion : v.newIndex = (some i, w)) (hroom : s.cuReserved (nodeOf p).tile + (nodeOf p).sram ≤ 4194304) :
    workCollNodeCreate m s p
      = .ok ((w.setRegion i (nodeWindow s d (nodeOf p) n i)).setNode n { nodeOf p with windowRkey := 256 * i + s.nextTag i, lead := n })
          (leBytes 2 n ++ zeros 2 ++ leBytes 4 (256 * i + s.nextTag i)) := by
  obtain ⟨hact, hheld⟩ := howns
  have hnoedge : ∀ e ∈ s.edgeRefusals (nodeOf p) (· != 0), e.1 = false :=
    State.edgeRefusals_clear _ fun q hq hnamed => by simp [hedges q hq] at hnamed
  have hroom' : ¬ 4194304 < s.cuReserved (nodeOf p).tile + (nodeOf p).sram := Nat.not_lt.mpr hroom
  simp only [workCollNodeCreate, hnode, hregion]
  refine (guardBci_clear _ _ ?_).trans ?_
  · simp only [List.forall_mem_append, List.forall_mem_cons, List.not_mem_nil, false_implies, implies_true, hjob, hexists, hstripe, hact, hheld, htile,
      hprot, hroom', Option.isNone_some, Option.map_some, Option.getD_some, Bool.not_true, beq_self_eq_true, Bool.true_or, bne_self_eq_false,
      Bool.false_and, Bool.or_false, decide_false, and_true, true_and]
    exact hnoedge
  · simp only [hstripe, hjob, if_true]
    cases s.node? (nodeOf p).lead <;> rfl

/-- Settles O27: each command tests what its statement assumes, and tables are written entry by entry. -/
theorem bciJobsAndNodes : Obligations.BciJobsAndNodes := by
  unfold Obligations.BciJobsAndNodes
  refine ⟨fun m r d s => ⟨?_, ?_, ?_, ?_⟩, fun m r n i d x s v w => ⟨?_, ?_, ?_⟩⟩
  · intro h hnone hprot
    refine h.gives_ok rfl (guardBci_clear _ _ ?_)
    have hfree : ((JobDesc.ofWord (field r.payload 8 8)).prot && s.mem.exposed) = false := by
      cases hp : bit (field r.payload 8 8) 47 with
      | false => simp only [JobDesc.ofWord, hp, Bool.false_and]
      | true => simp only [hprot hp, Bool.and_false]
    simp [hnone, hfree]
  · intro h hjob hqps hregions hnodes hdomains hkeys
    refine h.gives_ok rfl (guardBci_clear _ _ ?_)
    simp [hjob, State.jobUsed_false hqps hregions hnodes hdomains hkeys]
  · intro h hjob
    refine ⟨_, h.gives_ok rfl ?_, fun i => get?_foldl_set (fun i => RankEntry.ofWord (field r.payload (8 + 8 * i) 8)) _ _ i _⟩
    simp only [workRankWrite, hjob]
  · intro h hjob
    refine ⟨_, h.gives_ok rfl (workJobQuery_of hjob), ?_, fun i hi => ?_⟩
    · simp [rankBytes_length, Function.comp_def, Nat.mul_comm]
    · exact (field_flatten (fun i => rankBytes_length _ _) hi).trans (leNat_rankBytes _ _)
  · intro h hstripe hjob hprot hexists howns hedges htile hnode hregion hroom
    exact ⟨_, h.gives_ok rfl (workCollNodeCreate_of hstripe hjob hprot hexists howns hedges htile hnode hregion hroom), rfl⟩
  · intro h hx howns hst z hedges
    refine h.gives_ok rfl ?_
    simp only [workCollNodeLink, hx]
    refine guardBci_clear _ _ ?_
    simp only [List.forall_mem_append, List.forall_mem_singleton, hst, bne_self_eq_false, and_true]
    exact ⟨State.nodeRefusals_clear hx howns, State.edgeRefusals_clear _ fun q hq _ => hedges q hq⟩
  · intro h hx howns
    refine h.gives_ok rfl ?_
    simp only [workCollNodeDestroy, hx]
    exact guardBci_clear _ _ (State.nodeRefusals_clear hx howns)

/-! ### Queue pairs -/

/-- A chosen QPN is a free one of its tile. -/
theorem State.newQpn_free {s v : State} {tile qpn : Nat} (h : s.newQpn tile = (some qpn, v)) :
    s.qp? qpn = none ∧ qpn % 64 = tile % 64 ∧ v = { s with free := s.free + 1 } := by
  obtain ⟨hq, hv⟩ := Prod.mk.inj h
  obtain ⟨i, hi, rfl⟩ := Option.map_eq_some_iff.mp hq
  obtain ⟨hfree, hs⟩ := State.choose_find (Prod.ext hi hv)
  simp only [Bool.and_eq_true, decide_eq_true_eq, Option.isNone_iff_eq_none] at hfree
  exact ⟨hfree.2, by omega, hs⟩

theorem State.qpRefusals_clear {s : State} {m qpn : Nat} {q : Qp} (hq : s.qp? qpn = some q) (howns : s.OwnsFor m q.owner) :
    ∀ e ∈ s.qpRefusals m qpn, e.1 = false := by
  obtain ⟨hact, hfree⟩ := howns
  simp [State.qpRefusals, hq, hact, hfree]

/-- The QP that QP_CREATE makes for an unprotected job, with one channel and its receive window at `a`. -/
def newQp (s : State) (p : List Byte) (addrRank : Bool) (qpn a : Nat) : Qp :=
  { st := .reset, errCode := 0, addrRank := addrRank, prot := false, pin := false, spilled := false, fetchingCtx := false,
    tgtCqe := bit (field p 9 1) 0, hostLost := false, gen := Tbl.getD s.gens qpn 0, owner := field p 0 2, job := field p 2 2, peer := 0,
    pset := 0, peerGen := 0, peerQpn := 0, peerRank := 0, mtuCode := field p 6 1, winLog2 := field p 7 1, peerWinLog2 := 8,
    retryMax := field p 8 1 % 8, lifeMax := field p 8 1 / 16, rtoBase := field p 10 2, ackDelay := field p 12 2, window := a, handle := 0,
    tkey := none, keyErased := false, fetchFrom := 0, quarFrom := 0, freeing := false,
    chans := [slotOfByte (field p 4 1) true, slotOfByte (field p 5 1) false] }

theorem workQpCreate_of {m : Fin 5} {s v w : State} {p : List Byte} {x : Ctx} {d : JobDesc} {qpn a : Nat} (hx : s.ctx? (field p 0 2) = some x)
    (hhost : x.hostLost = false) (hjob : s.job? (field p 2 2) = some d) (hprot : d.prot = false) (howns : s.OwnsFor m (field p 0 2))
    (htc : field p 4 1 % 8 ≠ 0) (hone : bit (field p 5 1) 3 = false) (hnew : s.newQpn x.tile = (some qpn, v))
    (hwindow : v.maySpill.findWindow (3 * 2 ^ field p 7 1) = (some a, w)) :
    workQpCreate m s p = .ok (w.setQp qpn (newQp s p x.addrRank qpn a)) (leBytes 4 qpn ++ leBytes 1 ((Tbl.getD s.gens qpn 0 + 1) % 256) ++ [0]) := by
  obtain ⟨hact, hheld⟩ := howns
  have hpin : (field p 4 1 % 8 == 0) = false := by simpa using htc
  have hexists : s.ownerExists (field p 0 2) = true := by simp [State.ownerExists, hx]
  have htile : s.ctxTile (field p 0 2) = x.tile := by simp [State.ctxTile, hx]
  have hsize : 3 * 2 ^ field p 7 1 * (1 + b2n false) = 3 * 2 ^ field p 7 1 := Nat.mul_one _
  simp only [workQpCreate, hone, hpin, htile, hnew, hsize, hwindow, hx, hjob, hprot, Option.map_some, Option.getD_some, Bool.false_and,
    Bool.or_false, Bool.false_eq_true, if_false]
  refine guardBci_clear _ _ ?_
  simp [hexists, hact, hheld, hhost]

theorem workQpConnect_of {m : Fin 5} {s : State} {p : List Byte} {q : Qp} (hq : s.qp? (field p 0 4) = some q) (howns : s.OwnsFor m q.owner)
    (hst : q.st = .reset) (hhost : q.hostLost = false) (hprot : q.prot = false) :
    workQpConnect m s p = .ok (s.setQp (field p 0 4) (q.connect p)) (leBytes 1 ((q.gen + 1) % 256)) := by
  simp only [workQpConnect, hq]
  refine (guardBci_clear _ _ ?_).trans ?_
  · simpa only [List.forall_mem_append, List.forall_mem_cons, List.not_mem_nil, false_implies, implies_true, hst, hhost, hprot, bne_self_eq_false,
      Bool.false_and, Bool.or_false, and_true] using State.qpRefusals_clear hq howns
  · simp only [hprot]
    rfl

/-- Settles O29: each command tests what its statement assumes, and the QP that it leaves is written out field by field. -/
theorem bciQps : Obligations.BciQps := by
  unfold Obligations.BciQps
  intro m r qpn n0 a q d x s v w
  refine ⟨?_, State.newQpn_free, ?_, ?_, ?_, ?_⟩
  · intro h hx hhost hjob hprot howns htc hone hnew hwindow
    exact h.gives_ok rfl (workQpCreate_of hx hhost hjob hprot howns htc hone hnew hwindow)
  · intro h hq howns hst hhost hprot
    refine ⟨_, h.gives_ok rfl (workQpConnect_of hq howns hst hhost hprot), rfl, rfl, rfl, rfl, fun hen => ?_, rfl, rfl, rfl, rfl, rfl⟩
    show (if (q.chan 1).en then _ else q.chan 1) = q.chan 1
    rw [hen]
    rfl
  · intro h hq howns hst
    refine h.gives_ok rfl ?_
    simp only [workQpReset, hq]
    refine guardBci_clear _ _ ?_
    have hruns : (q.st != .rts && q.st != .err) = false := by rcases hst with hst | hst <;> simp [hst]
    simpa only [List.forall_mem_append, List.forall_mem_singleton, hruns, and_true] using State.qpRefusals_clear hq howns
  · intro h hq howns
    have hwork (hst : q.st ≠ .rts) : workQpDestroy m s r.payload = if q.st = .quarantine then
        .ok (s.setQp (field r.payload 0 4) { q with freeing := true }) [] else .ok (s.quarantine (field r.payload 0 4) true) [] := by
      simp only [workQpDestroy, hq]
      refine guardBci_clear _ _ ?_
      simpa only [List.forall_mem_append, List.forall_mem_singleton, beq_eq_false_iff_ne.mpr hst, and_true] using State.qpRefusals_clear hq howns
    refine ⟨fun hst => h.gives_ok rfl ?_, fun hst => h.gives_ok rfl ?_, fun hst => h.gives_err (code := rState) (detail := 0) rfl ?_⟩
    · rw [hwork (by simp [hst]), if_pos hst]
    · rw [hwork (by rcases hst with hst | hst <;> simp [hst]), if_neg (by rcases hst with hst | hst <;> simp [hst])]
    · simp only [workQpDestroy, hq, hst, beq_self_eq_true]
      exact guardBci_first _ _ _ _ _ (State.qpRefusals_clear hq howns)
  · intro h hq howns
    refine ⟨leBytes 20 (s.fresh 160).1, leBytes 20 ((s.fresh 160).2.fresh 160).1, h.gives_ok rfl ?_⟩
    simp only [workQpQuery, hq]
    exact guardBci_clear _ _ (State.qpRefusals_clear hq howns)

end Sys2Proof.Machine
end

section
/-! PROOFS. BCI commands of memory regions, ASIDs, the interleave key, certificates, measurements, attestation and job keys (R291, R295 to R303,
R368, R411 to R420, R556). -/
namespace Sys2Proof.Machine

/-! ### Regions -/

/-- The region that REG_REGISTER registers under index `i`. -/
def newRegion (s : State) (p : List Byte) (i : Nat) (kind : RegKind) (base : Nat) : Region :=
  { tag := s.nextTag i, kind := kind, perm := field p 1 1, valid := false, prot := bit (field p 2 1) 1, user := bit (field p 2 1) 2,
    job := field p 4 2, owner := field p 6 2, base := base, size := field p 16 8, asid := field p 24 2, agent := field p 3 1, hold := none,
    registering := true }

section
variable {m : Fin 5} {s v : State} {p : List Byte} {d : JobDesc} {x : Ctx} {i : Nat} (hjob : s.job? (field p 4 2) = some d)
  (hx : s.ctx? (field p 6 2) = some x) (howns : s.Owns m (field p 6 2)) (hhost : x.hostLost = false)
  (hprot : bit (field p 2 1) 1 = true → d.prot = true) (hnew : s.newIndex = (some i, v))
include hjob hx howns hhost hprot hnew

theorem workRegRegister_host (hkind : field p 0 1 = 1) : workRegRegister m s p
    = .accepted (v.setRegion i (newRegion s p i .host (field p 8 8))) (.regRegister i) (leBytes 4 (256 * i + s.nextTag i)) := by
  obtain ⟨-, hact, hheld⟩ := howns
  simp only [workRegRegister, hkind, hnew, beq_self_eq_true, if_true]
  exact guardBci_clear _ _ (by simpa [hjob, hx, hact, hheld, hhost] using hprot)

theorem workRegRegister_hbm {w : State} {chunk : Nat} (hkind : field p 0 1 = 0)
    (hrun : v.findRun (chunksOf (field p 16 8)) (s.runLimit (bit (field p 1 1) 5)) = (some chunk, w)) : workRegRegister m s p
    = .accepted (w.setRegion i (newRegion s p i .hbm (poolBase + chunkBytes * chunk))) (.regRegister i) (leBytes 4 (256 * i + s.nextTag i)) := by
  obtain ⟨-, hact, hheld⟩ := howns
  have hbit : pBar4 = 5 := rfl
  have hno : ((0 : Nat) == 1) = false := rfl
  simp only [workRegRegister, hkind, hnew, hbit, hrun, hno, Bool.false_eq_true, if_false]
  exact guardBci_clear _ _ (by simpa [hjob, hx, hact, hheld, hhost] using hprot)

end

/-- An index that the module chooses is free, and its next tag is one more than the tag it had. -/
theorem State.newIndex_free {s v : State} {i : Nat} (h : s.newIndex = (some i, v)) : s.indexFree i = true ∧ v = { s with free := s.free + 1 }
    ∧ (∀ h, s.region? i = some h → s.nextTag i = (h.tag + 1) % 256) ∧ (s.region? i = none → s.nextTag i = 0) := by
  obtain ⟨hfree, hv⟩ := State.choose_find h
  exact ⟨hfree, hv, fun g hg => by simp only [State.nextTag, hg], fun hg => by simp only [State.nextTag, hg]⟩

/-- The state with the chunks of a new region zeroed, if it is HBM's, and the region VALID. -/
def State.completeRegion (s : State) (i : Nat) (g : Region) : State :=
  (if g.kind = .hbm then s.hbmZero g.base (chunkBytes * chunksOf g.size) else s).setRegion i { g with valid := true, registering := false }

theorem execRegRegisterDone_of {s : State} {m : Fin 5} {token : U32} {l : LongCmd} {i : Nat} {g : Region} (hl : s.long? m.val token = some l)
    (hw : l.work = .regRegister i) (hg : s.region? i = some g) (hreg : g.registering = true) : execRegRegisterDone m token s
      = ((s.completeRegion i g).finish m.val l rOk (leBytes 4 (256 * i + g.tag) ++ zeros 4
        ++ leBytes 8 (if bit g.perm 5 then g.base - poolBase else 2 ^ 64 - 1))).done := by
  simp only [execRegRegisterDone, hl, hw, hg, hreg, if_true]
  rfl

theorem State.completeRegion_eq (s : State) (i : Nat) (g : Region) : s.completeRegion i g
    = { s with mem := { s.mem with cells := (s.completeRegion i g).mem.cells, poison := (s.completeRegion i g).mem.poison,
                                   regions := Tbl.set s.mem.regions i { g with valid := true, registering := false } } } := by
  unfold State.completeRegion
  split <;> rfl

theorem le_chunks (n : Nat) : n ≤ chunkBytes * chunksOf n := by
  rw [chunksOf_eq]
  show n ≤ 0x200000 * _
  omega

theorem State.completeRegion_host {s : State} {i : Nat} {g : Region} (h : g.kind ≠ .hbm) :
    (s.completeRegion i g).mem.cells = s.mem.cells ∧ (s.completeRegion i g).mem.poison = s.mem.poison := by
  rw [State.completeRegion, if_neg h]
  exact ⟨rfl, rfl⟩

theorem State.completeRegion_byte (s : State) (i : Nat) (g : Region) (a : Nat) : Memory.byte (s.completeRegion i g).mem.cells a
    = if g.kind = .hbm ∧ g.base ≤ a ∧ a < g.base + chunkBytes * chunksOf g.size then 0 else Memory.byte s.mem.cells a := by
  by_cases h : g.kind = .hbm
  · rw [State.completeRegion, if_pos h]
    exact (Memory.byte_zero s.mem.cells g.base (chunkBytes * chunksOf g.size) a).trans (by simp only [h, true_and])
  · rw [(State.completeRegion_host h).1, if_neg (fun hc => h hc.1)]

theorem State.mem_completeRegion_poison {s : State} {i : Nat} {g : Region} {b : Nat} (h : b ∈ (s.completeRegion i g).mem.poison) :
    b ∈ s.mem.poison := by
  unfold State.completeRegion at h
  split at h
  · exact (List.mem_filter.mp h).1
  · exact h

/-- Keys of one index and one tag are one key. -/
theorem key_eq_iff {k key : Nat} : (k / 256 == key / 256 && k % 256 == key % 256) = (k == key) := by
  rw [Bool.eq_iff_iff]
  simp only [Bool.and_eq_true, beq_iff_eq]
  omega

theorem State.namedRegion_some {s : State} {key : Nat} {g : Region} (h : s.namedRegion key = some g) :
    s.region? (key / 256) = some g ∧ g.tag = key % 256 := by
  unfold State.namedRegion at h
  split at h
  case h_1 r hr =>
    split at h
    case isTrue hok =>
      cases h
      simp only [Bool.and_eq_true, beq_iff_eq] at hok
      exact ⟨hr, hok.2⟩
    case isFalse => cases h
  case h_2 => cases h

theorem State.deregister_named {s : State} {key : Nat} {g : Region} (h : s.namedRegion key = some g) : s.deregister (key / 256)
    = { s.setRegion (key / 256) { g with valid := false, registering := false, hold := some s.clk.now } with
        perf := if (s.perf.running && s.perf.lkey.toNat == key) || s.perf.dump.any (fun d => d.lkey.toNat == key) then
          { s.perf with running := false, stoppedDest := true, dump := none } else s.perf } := by
  obtain ⟨hr, htag⟩ := State.namedRegion_some h
  have hswept : (s.perf.goesTo fun k => k / 256 == key / 256 && k % 256 == g.tag)
      = ((s.perf.running && s.perf.lkey.toNat == key) || s.perf.dump.any fun d => d.lkey.toNat == key) := by
    simp only [Perf.goesTo, htag, key_eq_iff]
  simp only [State.deregister, hr]
  show (if (s.perf.goesTo fun k => k / 256 == key / 256 && k % 256 == g.tag) = true then _ else _) = _
  rw [hswept]
  cases (s.perf.running && s.perf.lkey.toNat == key) || s.perf.dump.any fun d => d.lkey.toNat == key <;> rfl

theorem State.regionRefusals_clear {s : State} {m key : Nat} {g : Region} (h : s.namedRegion key = some g) (hact : s.mayActOn m g.owner = true)
    (hfree : s.regionHeld (key / 256) = false) : ∀ e ∈ s.regionRefusals m key, e.1 = false := by
  simp [State.regionRefusals, h, hact, hfree]

/-! ### ASIDs and the interleave key -/

theorem State.asidEp_of {s : State} {agent asid : Nat} {x : AsidRec} (h : Tbl.get? s.mem.asids (4096 * agent + asid) = some x) :
    s.asidEp agent asid = some x.ep := by
  simp [State.asidEp, h]

theorem State.asidRefusals_clear {s : State} {m agent asid : Nat} {x : AsidRec} (h : Tbl.get? s.mem.asids (4096 * agent + asid) = some x)
    (hact : s.mayAct m x.ep = true) : ∀ e ∈ s.asidRefusals m agent asid, e.1 = false := by
  simp [State.asidRefusals, State.asidEp_of h, hact]

theorem State.newAsid_free {s v : State} {e a : Nat} (h : s.newAsid e = (some a, v)) :
    a < 4096 ∧ Tbl.get? s.mem.asids (4096 * e + a) = none ∧ v = { s with free := s.free + 1 } := by
  obtain ⟨hfree, hv⟩ := State.choose_find (ok := fun a => decide (a < 4096) && (s.asidEp e a).isNone) h
  simp only [Bool.and_eq_true, decide_eq_true_eq, Option.isNone_iff_eq_none, State.asidEp, Option.map_eq_none_iff] at hfree
  exact ⟨hfree.1, hfree.2, hv⟩

theorem State.asidUsed_false {s : State} {agent asid : Nat}
    (h : ∀ g ∈ s.mem.regions, g.2.valid = true ∨ g.2.registering = true → g.2.kind = .host → g.2.agent = agent → g.2.asid ≠ asid) :
    s.asidUsed agent asid = false := by
  refine all_false fun g hg => ?_
  rw [← Bool.not_eq_true]
  simp only [Bool.and_eq_true, Bool.or_eq_true, beq_iff_eq]
  exact fun ⟨⟨⟨hlive, hkind⟩, hagent⟩, hasid⟩ => h g hg hlive hkind hagent hasid

/-- Settles O30: each command tests what its statement assumes; the chunks that are zeroed hold the whole region. -/
theorem bciRegionsAndAsids : Obligations.BciRegionsAndAsids := by
  unfold Obligations.BciRegionsAndAsids
  refine ⟨fun m r i chunk g d x token l s v w => ⟨?_, State.newIndex_free, ?_, ?_, ?_⟩, fun m r a e x s v => ⟨?_, State.newAsid_free, ?_, ?_, ?_, ?_⟩⟩
  · exact fun h hjob hx howns hhost hprot hnew =>
      ⟨fun hkind => h.gives_accepted rfl (workRegRegister_host hjob hx howns hhost hprot hnew hkind),
        fun hkind hrun => h.gives_accepted rfl (workRegRegister_hbm hjob hx howns hhost hprot hnew hkind hrun)⟩
  · intro hl hw hg hreg
    refine ⟨s.completeRegion i g, (execRegRegisterDone_of hl hw hg hreg).trans rfl, State.completeRegion_eq s i g, State.completeRegion_host,
      fun b hb => State.mem_completeRegion_poison hb, fun hkind a hlo hhi => ?_, fun a hout => ?_⟩
    · have := le_chunks g.size
      rw [State.completeRegion_byte, if_pos ⟨hkind, hlo, by omega⟩]
    · rw [State.completeRegion_byte, if_neg]
      rintro ⟨hkind, hlo, hhi⟩
      rcases hout with hno | hlt | hge
      · exact hno hkind
      · omega
      · omega
  · intro h hg hact hfree
    refine ⟨_, h.gives_ok rfl (guardBci_clear _ _ (State.regionRefusals_clear hg hact hfree)), ?_, ?_⟩
    · rw [State.deregister_named hg]
    · rw [State.deregister_named hg]
  · intro h hg hact hfree
    refine h.gives_ok rfl ?_
    simp only [workRegQuery, hg]
    exact guardBci_clear _ _ (State.regionRefusals_clear hg hact hfree)
  · intro h hformed hact hnew
    refine h.gives_ok rfl ?_
    simp only [workAsidAlloc, hnew]
    exact guardBci_clear _ _ (by simp [hformed, hact])
  · intro h hx hact
    refine h.gives_ok rfl ?_
    simp only [workAsidSetRoot, hx]
    exact guardBci_clear _ _ (State.asidRefusals_clear hx hact)
  · intro h hx hact hused
    refine h.gives_ok rfl (guardBci_clear _ _ ?_)
    simpa only [List.forall_mem_append, List.forall_mem_singleton, State.asidUsed_false hused, and_true] using State.asidRefusals_clear hx hact
  · exact fun h hnone => h.gives_ok rfl (guardBci_one _ _ _ (all_false hnone))
  · intro h hsome
    refine h.gives_err (code := rProtConflict) (detail := 0) rfl ?_
    have hprot : (s.route.jobs.any fun e => e.2.prot) = true := List.any_eq_true.mpr hsome
    simp only [workHbmExposeKey, hprot]
    rfl

/-! ### Certificates, measurements and attestation -/

/-- The entry that a measurement adds to the log. -/
def State.measEntry (s : State) (type arg : Nat) (digest : List Byte) : Meas :=
  { index := s.sec.measCount + 1, type := type, ntInvalid := !s.time.ntValid, nt := if s.time.ntValid then s.clk.nt else 0,
    arg := BitVec.ofNat 32 arg, digest := digest }

theorem State.measure_log_of_room {s : State} (type arg : Nat) (digest : List Byte) (h : s.sec.log.length < 1024) :
    (s.measure type arg digest).sec.log = s.sec.log ++ [s.measEntry type arg digest]
      ∧ (s.measure type arg digest).sec.logTruncated = s.sec.logTruncated := by
  have hroom : decide (1024 ≤ s.sec.log.length) = false := decide_eq_false (Nat.not_le.mpr h)
  simp only [State.measure, hroom, Bool.or_false, Bool.false_eq_true, if_false, State.measEntry, and_self]

theorem State.measure_log_of_full {s : State} (type arg : Nat) (digest : List Byte) (h : 1024 ≤ s.sec.log.length) :
    (s.measure type arg digest).sec.log = s.sec.log ∧ (s.measure type arg digest).sec.logTruncated = true := by
  simp only [State.measure, decide_eq_true h, Bool.or_true, if_true, and_self]

theorem attestHandle_none {p : List Byte} (h : field p 64 4 = 0xFFFFFFFF) : attestHandle p = none := if_pos h

/-- Settles O31: reports without a handle are signed as their body stands, and an entry is kept while the log has room. -/
theorem attestationAndMeasurements : Obligations.AttestationAndMeasurements := by
  unfold Obligations.AttestationAndMeasurements
  refine ⟨fun m r token l q report s => ⟨?_, ?_, ?_, ?_⟩, fun type arg digest s => ⟨s.measEntry type arg digest, rfl, rfl, rfl, rfl, rfl, rfl, rfl, rfl,
    State.measure_log_of_room type arg digest, State.measure_log_of_full type arg digest⟩⟩
  · exact fun h => h.gives_ok rfl rfl
  · refine fun h => ⟨fun hlog => h.gives_ok rfl (if_pos hlog), fun hreport hsome => h.gives_ok rfl ?_,
      fun hreport hnone => h.gives_err (code := rNotFound) (detail := 0) rfl ?_⟩
    · rw [workGetMeasurements, if_neg (by simp [hreport]), hsome]
    · rw [workGetMeasurements, if_neg (by simp [hreport]), hnone]
  · intro h hnone
    refine h.gives_accepted rfl ?_
    simp only [workAttest, attestHandle_none hnone]
  · refine fun hl hw hnone => ⟨_, rfl, ?_⟩
    show execAttestDone m token s = _
    simp only [execAttestDone, hl, hw, attestHandle_none hnone]
    rfl

/-! ### Job keys -/

/-- A field of a payload that has passed the checks is in order. -/
theorem ok_of_badParam_none {fs : List Fld} {p : List Byte} {f : Fld} (h : badParam fs p = none) (hf : f ∈ fs) : f.ok = true := by
  by_contra hbad
  exact badParam_eq_none_iff.mp h f.off (.inl ⟨f, hf, by simpa using hbad, rfl⟩)

theorem State.handle?_some {s : State} {k : Nat} {h : KeyHandle} (hh : s.handle? k = some h) :
    Tbl.get? s.sec.handles (k % 1024) = some h ∧ h.st ≠ .free := by
  unfold State.handle? at hh
  dsimp only at hh
  split at hh
  case isTrue hok =>
    cases hh
    refine ⟨?_, hok.1⟩
    cases hget : Tbl.get? s.sec.handles (k % 1024) with
    | none => exact absurd (by simp [Tbl.getD, hget, KeyHandle.reset]) hok.1
    | some x => simp [Tbl.getD, hget]
  case isFalse => cases hh

theorem State.handleRefusals_clear {s : State} {k off : Nat} {h : KeyHandle} (hh : s.handle? k = some h) (hfree : h.held = false) :
    ∀ e ∈ s.handleRefusals k off, e.1 = false := by
  simp [State.handleRefusals, hh, hfree]

theorem State.holdHandle_of {s : State} {k : Nat} {h : KeyHandle} (b : Bool) (hh : s.handle? k = some h) :
    s.holdHandle (k % 1024) b = s.setHandle (k % 1024) { h with held := b } := by
  simp only [State.holdHandle, (State.handle?_some hh).1]

theorem handleOf_eq (i reuse : Nat) : handleOf i (reuse % 65536) = i + reuse % 65536 * 65536 := by
  simp [handleOf, at_, Nat.shiftLeft_eq]

theorem fit_length (n : Nat) (l : List Byte) : (fit n l).length = n := by
  simp only [fit, List.length_take, List.length_append, List.length_replicate]
  omega

/-- What fitting a list to a length leaves in the places it has. -/
theorem getD_fit {n i : Nat} (l : List Byte) (h : i < n) : (fit n l).getD i 0 = l.getD i 0 := by
  simp only [fit, List.getD_eq_getElem?_getD, List.getElem?_take, if_pos h, List.getElem?_append, List.getElem?_replicate]
  split
  · rfl
  · rw [List.getElem?_eq_none (by omega)]
    split <;> rfl

theorem patch_length {l d : List Byte} {off : Nat} (h : off + d.length ≤ l.length) : (patch l off d).length = l.length := by
  simp only [patch, List.length_append, List.length_take, List.length_drop]
  omega

theorem getD_patch {l d : List Byte} {off : Nat} (j : Nat) (h : off + d.length ≤ l.length) :
    (patch l off d).getD j 0 = if off ≤ j ∧ j < off + d.length then d.getD (j - off) 0 else l.getD j 0 := by
  have htake : (l.take off).length = off := by simp only [List.length_take]; omega
  simp only [patch, List.getD_eq_getElem?_getD, List.append_assoc, List.getElem?_append, htake, List.getElem?_drop, List.getElem?_take]
  split
  case isTrue hlo => rw [if_neg (by omega)]
  case isFalse hlo =>
    split
    case isTrue hin => rw [if_pos (by omega)]
    case isFalse hin => rw [if_neg (by omega), show off + d.length + (j - off - d.length) = j by omega]

/-- The fields of KEY_CT_WRITE that has passed the checks lie within the blob. -/
theorem keyCtWrite_bounds {s : State} {m : Fin 5} {r : BciReq} {n : List Byte → Nat} (h : Served s m cKeyCtWrite n fieldsKeyCtWrite r) :
    field r.payload 4 2 + field r.payload 6 2 ≤ 1616 := by
  have hok := ok_of_badParam_none h.2.2.2.2.2 (f := fIf r.payload 6 2 fun n => 1 ≤ n && n ≤ 992 && field r.payload 4 2 + n ≤ 1616)
    (by simp [fieldsKeyCtWrite])
  simp only [fIf, Bool.and_eq_true, decide_eq_true_eq] at hok
  exact hok.2

/-- A withdrawn job's handles are free. -/
theorem State.withdraw_free {s : State} {j n : Nat} {x : KeyHandle} (h : Tbl.get? (s.withdraw j).sec.handles n = some x) (hj : x.job = j) :
    x.st = .free := by
  simp only [State.withdraw, State.modSec, Tbl.get?_map, Option.map_eq_some_iff] at h
  obtain ⟨y, -, hy⟩ := h
  split at hy
  case isTrue => exact hy ▸ rfl
  case isFalse hne => exact absurd (hy ▸ hj) hne

/-- The handle that KEY_KEM_OPEN opens under its next reuse count, with the seed drawn in `v`. -/
def openedHandle (s v : State) (p : List Byte) (i : Nat) : KeyHandle :=
  { KeyHandle.reset with st := .open_, job := field p 0 2, reuse := ((Tbl.getD s.sec.handles i KeyHandle.reset).reuse + 1) % 65536,
                         seed := (v.fresh 512).1, ek := fit 1568 (Config.kemPublic (v.fresh 512).1), blob := zeros 1616 }

theorem workKeyKemOpen_of {s v : State} {p : List Byte} {i : Nat} {d : JobDesc} (hjob : s.job? (field p 0 2) = some d) (hprot : d.prot = true)
    (hnew : s.newHandle = (some i, v)) : workKeyKemOpen s p
      = .ok ({ v with free := v.free + 1 }.setHandle i (openedHandle s v p i)) (leBytes 4 (i + (openedHandle s v p i).reuse * 65536)) := by
  rw [openedHandle, ← handleOf_eq]
  simp only [workKeyKemOpen, hnew]
  exact guardBci_clear _ _ (by simp [hjob, hprot])

/-- Settles O32: each command tests what its statement assumes, and the handle that it leaves is written out. -/
theorem bciJobKeys : Obligations.BciJobKeys := by
  unfold Obligations.BciJobKeys
  intro m r i d h token l k s v
  refine ⟨?_, ?_, ?_, ?_, ?_, ?_, ?_⟩
  · intro hs hjob hprot hnew
    refine ⟨openedHandle s v r.payload i, hs.gives_ok rfl ?_, rfl, rfl, rfl, rfl, rfl, rfl⟩
    exact workKeyKemOpen_of hjob hprot hnew
  · intro hs hh hfree
    refine hs.gives_ok rfl ?_
    simp only [workKeyKemPublic, hh]
    exact guardBci_clear _ _ (State.handleRefusals_clear hh hfree)
  · intro hs hh hfree hopen
    have hbounds := keyCtWrite_bounds hs
    refine ⟨patch h.blob (field r.payload 4 2) (fit (field r.payload 6 2) (r.payload.drop 16)), hs.gives_ok rfl ?_, fun hlen => ⟨?_, fun j hj => ?_⟩⟩
    · simp only [workKeyCtWrite, hh]
      refine guardBci_clear _ _ ?_
      simpa only [List.forall_mem_append, List.forall_mem_singleton, hopen, bne_self_eq_false, and_true] using State.handleRefusals_clear hh hfree
    · rw [patch_length (by rw [fit_length]; omega), hlen]
    · rw [getD_patch j (by rw [fit_length]; omega), fit_length]
      by_cases hin : field r.payload 4 2 ≤ j ∧ j < field r.payload 4 2 + field r.payload 6 2
      · rw [if_pos hin, if_pos hin, getD_fit _ (by omega)]
        simp [List.getD_eq_getElem?_getD, List.getElem?_drop]
      · rw [if_neg hin, if_neg hin]
  · intro hs hh hfree hopen hkeyed
    refine hs.gives_accepted rfl ?_
    simp only [workKeyInstall, hh]
    rw [State.holdHandle_of true hh]
    refine guardBci_clear _ _ ?_
    simpa only [List.forall_mem_append, List.forall_mem_cons, List.not_mem_nil, false_implies, implies_true, hopen, hkeyed, bne_self_eq_false, and_true]
      using State.handleRefusals_clear hh hfree
  · intro hl hw hh hopen hkeyed
    subst hh
    have hgo : ¬ ((Tbl.getD s.sec.handles i KeyHandle.reset).st ≠ .open_
        ∨ s.jobKeyed (Tbl.getD s.sec.handles i KeyHandle.reset).job = true) := by simp [hopen, hkeyed]
    refine ⟨fun hkey => ⟨_, ?_, rfl⟩, fun hfail hfew => ?_, fun hfail hmany => ?_⟩
    all_goals show execKeyInstallDone m token s = _
    · simp only [execKeyInstallDone, hl, hw, if_neg hgo, hkey]
      rfl
    · simp only [execKeyInstallDone, hl, hw, if_neg hgo, hfail, if_pos hfew]
      rfl
    · simp only [execKeyInstallDone, hl, hw, if_neg hgo, hfail, if_neg (Nat.not_lt.mpr hmany)]
      rfl
  · intro hs hjob hheld
    have hnone : (s.sec.handles.any fun e => e.2.job == field r.payload 0 2 && e.2.held) = false := all_false fun e he => by
      by_cases hj : e.2.job = field r.payload 0 2
      · simp [hheld e he hj]
      · simp [hj]
    exact ⟨hs.gives_ok rfl (guardBci_clear _ _ (by simp [hjob, hnone])), fun n x => State.withdraw_free⟩
  · intro hs hh hfree
    refine hs.gives_ok rfl ?_
    simp only [workKeyQuery, hh]
    exact guardBci_clear _ _ (State.handleRefusals_clear hh hfree)

end Sys2Proof.Machine
end

section
/-! PROOFS. The refutation of what is said of TIME_SET_ROOT (R23, R40, R43): NT that is loaded also leaves its mark in `loadedNt`. -/
namespace Sys2Proof.Machine

/-- Nothing but the containment of recorded faults can follow: no transfer, torus load, QP, node, context or suspended packet, and every port
is disabled. -/
structure Still (s : State) : Prop where
  ended : s.mem.ended = []
  loads : s.net.loads = []
  waits : s.net.waits = []
  qps : s.qps = []
  nodes : s.nodes = []
  tiles : ∀ e ∈ s.tiles, e.2.susp = []
  ctxs : s.ctxs = []
  disabled : ∀ p, (s.link p).st = .disabled

theorem Still.stopPort {s : State} (h : Still s) (p : Nat) (c : DownCause) : s.stopPort p c = s := by
  simp [State.stopPort, h.disabled p, PortSt.up]

theorem Still.stopPorts {s : State} (h : Still s) (c : DownCause) : s.stopPorts c = s :=
  foldl_of_fixed fun p _ => h.stopPort p c

/-- A port that is isolated stays disabled. -/
theorem Still.isolate {s : State} (h : Still s) (p : Nat) :
    Still (s.modLink p fun l => { l with cfg := { l.cfg with en := false }, isolated := true }) where
  ended := h.ended
  loads := h.loads
  waits := h.waits
  qps := h.qps
  nodes := h.nodes
  tiles := h.tiles
  ctxs := h.ctxs
  disabled q := by
    have hp := h.disabled p
    have hq := h.disabled q
    simp only [State.link, State.modLink, State.setLink_links, Tbl.getD_set] at hp hq ⊢
    split
    · exact hp
    · exact hq

/-- Containment in its three parts (R515 to R517): the context is fenced, the port isolated, the module stopped. -/
def State.containCtx (s : State) (d : Due) : State :=
  match d.fence, d.context with
  | true, some c => if ((s.ctx? c).map (·.fenced)).getD true then s else s.fenceCtx c 3
  | _, _ => s

def State.containPort (s : State) (d : Due) : State :=
  match d.isolate, portOf d.source with
  | true, some p => (s.modLink p fun l => { l with cfg := { l.cfg with en := false }, isolated := true }).stopPort p .isolated
  | _, _ => s

theorem State.contain_eq (s : State) (d : Due) : s.contain d
    = if d.stop && !((s.containCtx d).containPort d).faults.stopped then ((s.containCtx d).containPort d).stopModule d.source
      else (s.containCtx d).containPort d := rfl

theorem Still.containCtx {s : State} (h : Still s) (d : Due) : s.containCtx d = s := by
  unfold State.containCtx
  split
  · simp [State.ctx?, h.ctxs]
  · rfl

theorem Still.containPort {s : State} (h : Still s) (d : Due) : Still (s.containPort d) ∧ (s.containPort d).time = s.time := by
  unfold State.containPort
  split
  case h_1 p _ _ =>
    rw [(h.isolate p).stopPort]
    exact ⟨h.isolate p, rfl⟩
  case h_2 => exact ⟨h, rfl⟩

theorem Tbl.map_eq_nil {α : Type} {f : Nat → α → α} {t : Tbl α} (h : t = []) : Tbl.map f t = [] := by
  rw [h]
  rfl

theorem Still.stopModule {s : State} (h : Still s) (src : Nat) : Still (s.stopModule src) ∧ (s.stopModule src).time = s.time := by
  unfold State.stopModule
  rw [h.stopPorts]
  exact ⟨⟨h.ended, h.loads, h.waits, by simp only [State.modSec_qps]; exact Tbl.map_eq_nil h.qps, h.nodes, h.tiles, h.ctxs, h.disabled⟩, rfl⟩

/-- Containment of a fault leaves such a state still, and its time as it was. -/
theorem Still.contain {s : State} (h : Still s) (d : Due) : Still (s.contain d) ∧ (s.contain d).time = s.time := by
  obtain ⟨hport, htime⟩ := h.containPort d
  rw [State.contain_eq, h.containCtx]
  split
  · exact ⟨(hport.stopModule _).1, (hport.stopModule _).2.trans htime⟩
  · exact ⟨hport, htime⟩

theorem Still.settleN {s : State} (h : Still s) (n : Nat) : (s.settleN n).time = s.time := by
  induction n generalizing s with
  | zero => rfl
  | succ n ih =>
    simp only [State.settleN, h.ended]
    split
    case h_1 d t hdue =>
      have hnext : Still { s with faults := { s.faults with due := t } } := { h with }
      exact (ih (hnext.contain d).1).trans (hnext.contain d).2
    case h_2 hdue =>
      simp [State.netStep_of_empty h.loads h.waits, State.holdBacks_of_empty h.loads, State.qpSync_of_empty h.qps, State.collSync_of_empty h.nodes,
        State.suspSync_of_empty h.tiles, h.ended, hdue]

theorem State.portSync_time (s : State) (p : Nat) : (s.portSync p).time = s.time :=
  ((s.portSync_port p).only .time).resolve_left (by decide)

theorem Still.settle {s : State} (h : Still s) : s.settle.time = s.time := by
  rw [State.settle_eq]
  exact foldl_keeps (fun t : State => t.time = s.time) _ (fun t p ht => (State.portSync_time t p).trans ht) _ _ (h.settleN _)

theorem State.reply_only (s : State) (m : Nat) (r : BciReq) (result detail : Nat) (token : U32) (p : List Byte) :
    Only (.mbx :: reporting) s (s.reply m r result detail token p) := by
  have hbox (b : Mailbox) : Only (.mbx :: reporting) s (s.setBox m b) := fun q => by
    cases q <;> first | exact .inl (by decide) | exact .inr rfl
  unfold State.reply
  extract_lets
  refine Only.ite (fun _ => ?_) (fun _ => Only.ite (fun _ => ?_) (fun _ => hbox _))
  · exact (hbox _).trans (State.emit_only _ _).mono
  · exact (hbox _).trans (State.raise_only _ _ _).mono

/-- A still state stays still when only the clock, time, mailboxes and reporting change. -/
theorem Still.of_only {s u : State} (h : Still s) (hu : Only (.clk :: .time :: .mbx :: reporting) s u) : Still u := by
  have hmem : u.mem = s.mem := (hu .mem).resolve_left (by decide)
  have hnet : u.net = s.net := (hu .net).resolve_left (by decide)
  have hqps : u.qps = s.qps := (hu .qps).resolve_left (by decide)
  have hnodes : u.nodes = s.nodes := (hu .nodes).resolve_left (by decide)
  have htiles : u.tiles = s.tiles := (hu .tiles).resolve_left (by decide)
  have hctxs : u.ctxs = s.ctxs := (hu .ctxs).resolve_left (by decide)
  have hlinks : u.links = s.links := (hu .links).resolve_left (by decide)
  exact ⟨hmem ▸ h.ended, hnet ▸ h.loads, hnet ▸ h.waits, hqps ▸ h.qps, hnodes ▸ h.nodes, htiles ▸ h.tiles, hctxs ▸ h.ctxs,
    fun p => by rw [State.link, hlinks]; exact h.disabled p⟩

/-- The time that an answered command leaves in a still state is what its work left. -/
theorem Still.answered_time {s u : State} (h : Still s) (hu : Only (.clk :: .time :: reporting) s u) (m : Fin 5) (r : BciReq) (p : List Byte) :
    (Answered u m r p).settle.time = u.time := by
  have hreply := State.reply_only u m r rOk 0 0 p
  rw [Answered, (h.of_only (hu.mono.trans hreply.mono)).settle]
  exact (hreply .time).resolve_left (by decide)

/-- The request TIME_SET_ROOT of a root that runs on its own oscillator, with NT 1. -/
def rootRequest : BciReq :=
  { cmd := 0x0A00, seq := 1, len := 24, payload := zeros 8 ++ [1] ++ zeros 15, dbSeq := 1 }

/-- A module that runs and has never had NT, with that request in the mailbox of its management PF. -/
def rootAsked : State :=
  { State.reset with boot := { Boot.reset with alive := .running }, host := { HostPorts.reset with mgmt := some 0 },
                     mbx := [(0, { Mailbox.reset with busy := true, taken := some rootRequest })] }

theorem rootAsked_served : Served rootAsked 0 cTimeSetRoot (len 24) fieldsTimeSetRoot rootRequest := by
  refine ⟨?_, ?_, ?_, ?_, ?_, ?_⟩ <;> decide

theorem rootAsked_still : Still rootAsked := ⟨rfl, rfl, rfl, rfl, rfl, (fun _ h => nomatch h), rfl, fun _ => rfl⟩

theorem State.refLost_only (s : State) : Only (.clk :: .time :: reporting) s s.refLost := by
  unfold State.refLost
  refine Only.ite (fun _ => ?_) (fun _ => Only.refl _ _)
  exact (State.setTime_only s _).mono.trans (State.timeEvent_only _ _ _ _).mono

theorem State.becomeRoot_only (s : State) : Only (.clk :: .time :: reporting) s s.becomeRoot := by
  have hset (t : State) : Only (.clk :: .time :: reporting) t (t.setStatus .locked) := (State.setStatus_only _ _).mono
  unfold State.becomeRoot
  extract_lets old u v
  have hu : Only (.clk :: .time :: reporting) s u := (State.setTime_only s _).mono
  have hv : Only (.clk :: .time :: reporting) u v := by
    cases hold : old with
    | none => simpa only [v, hold] using Only.refl _ u
    | some p => simpa only [v, hold] using (State.timeEvent_only u _ _ _).mono
  exact hu.trans (hv.trans (hset v))

theorem State.setRoot_only (s : State) (ref : Nat) (nt epoch : U64) : Only (.clk :: .time :: reporting) s (s.setRoot ref nt epoch) := by
  unfold State.setRoot
  extract_lets u
  have hu : Only (.clk :: .time :: reporting) s u :=
    (Only.ite (fun _ => Only.refl _ _) (fun _ => s.refLost_only)).trans (State.setTime_only _ _).mono
  refine hu.trans (Only.ite (fun _ => Only.refl _ _) (fun _ => Only.ite (fun _ => State.becomeRoot_only _) (fun _ => ?_)))
  exact (State.loadNt_only _ _).mono.trans (State.becomeRoot_only _)

/-- Refutes O33: a module without NT takes the one given, and `loadedNt` is then that NT (R23), not what it was. -/
theorem not_bciTimeGroup : ¬ Obligations.BciTimeGroup := by
  unfold Obligations.BciTimeGroup
  intro h
  obtain ⟨u, hgives, honly, htime, -, -⟩ := ((h 0 rootRequest rootAsked).1 rootAsked_served).2 rfl
  have hruns := rootAsked_served.gives_ok (i := .timeSetRoot 0) rfl (work := workTimeSetRoot rootAsked) rfl
  have hsame := Host.Outcome.next.inj (hgives.symm.trans hruns)
  have hu := rootAsked_still.answered_time honly 0 rootRequest (leBytes 8 u.clk.nt.toNat)
  rw [hsame, rootAsked_still.answered_time (State.setRoot_only _ _ _ _)] at hu
  have hold : u.time.loadedNt = 0 := by rw [htime]; rfl
  have hnew : (rootAsked.setRoot 0 1 0).time.loadedNt = 1 := by decide
  rw [← hu] at hold
  exact absurd (hold.symm.trans hnew) (by decide)

end Sys2Proof.Machine
end

section
/-! PROOFS. BCI commands of the scheduling group (R142, R146 to R156, R368, R537). -/
namespace Sys2Proof.Machine

theorem State.setSched_sched (s : State) (p q : Nat) (x : SchedPort) : (s.setSched p x).sched q = if q = p then x else s.sched q := Tbl.getD_set ..

/-- Steps that each write one place, and leave what their own place is asked for, leave it in every place named. -/
theorem foldl_establishes {σ α : Type} {get : σ → Nat → α} {f : σ → Nat → σ} {P : Nat → α → Prop} (hself : ∀ s a, P a (get (f s a) a))
    (hne : ∀ s a i, i ≠ a → get (f s a) i = get s i) (l : List Nat) (s : σ) (i : Nat) (hi : i ∈ l) : P i (get (l.foldl f s) i) := by
  induction l using List.reverseRecOn with
  | nil => exact absurd hi List.not_mem_nil
  | append_singleton l a ih =>
    rw [List.foldl_append, List.foldl_cons, List.foldl_nil]
    by_cases hia : i = a
    · exact hia ▸ hself _ i
    · rw [hne _ _ _ hia]
      exact ih ((List.mem_append.mp hi).resolve_right fun h => hia (List.mem_singleton.mp h))

/-- Steps that each write one place leave the places not named. -/
theorem foldl_elsewhere {σ α : Type} {get : σ → Nat → α} {f : σ → Nat → σ} (hne : ∀ s a i, i ≠ a → get (f s a) i = get s i) (l : List Nat) (s : σ)
    (i : Nat) (hi : i ∉ l) : get (l.foldl f s) i = get s i := by
  induction l generalizing s with
  | nil => rfl
  | cons a l ih =>
    obtain ⟨hia, hil⟩ := not_or.mp (List.mem_cons.not.mp hi)
    rw [List.foldl_cons, ih _ hil, hne _ _ _ hia]

theorem State.setSched_only (s : State) (p : Nat) (x : SchedPort) : Only [.scheds] s (s.setSched p x) := (s.setSched_port p x).only

/-- What a setting reads besides the schedulers is the same at every port of the mask. -/
theorem State.foldl_modSched_fixed {f : State → SchedPort → SchedPort} {s : State} (hf : ∀ t, Only [.scheds] s t → f t = f s) (l : List Nat)
    (t : State) (ht : Only [.scheds] s t) :
    l.foldl (fun u q => u.modSched q (f u)) t = l.foldl (fun u q => u.modSched q (f s)) t := by
  induction l generalizing t with
  | nil => rfl
  | cons a l ih =>
    rw [List.foldl_cons, List.foldl_cons, hf t ht]
    exact ih _ (ht.trans (t.setSched_only a _))

/-- One setting changed at the ports named, and at no other. -/
theorem State.foldl_modSched_spec {f : State → SchedPort → SchedPort} {s : State} (hf : ∀ t, Only [.scheds] s t → f t = f s) {l : List Nat}
    (hnodup : l.Nodup) : Only [.scheds] s (l.foldl (fun u q => u.modSched q (f u)) s)
      ∧ ∀ i, (l.foldl (fun u q => u.modSched q (f u)) s).sched i = if i ∈ l then f s (s.sched i) else s.sched i := by
  refine ⟨Only.foldl (fun u q => u.setSched_only q _) l s, fun i => ?_⟩
  rw [State.foldl_modSched_fixed hf l s (Only.refl _ s)]
  refine foldl_pointwise (get := State.sched) (g := fun _ => f s) ?_ ?_ l hnodup s i
  · exact fun t a => by simp [State.modSched]
  · exact fun t a j hja => by simp [State.modSched, State.setSched_sched, hja]

theorem State.countedNt_of_only {s t : State} (h : Only [.scheds] s t) : t.countedNt = s.countedNt := by
  have hclk : t.clk = s.clk := (h .clk).resolve_left (by decide)
  have htime : t.time = s.time := (h .time).resolve_left (by decide)
  simp only [State.countedNt, hclk, htime]

theorem State.announce_only (s : State) : Only [.links] s s.announce := fun q => by
  cases q <;> first | exact .inl (by decide) | exact .inr rfl

/-- The gates of a port are brought up to date; whether they are on, and the guard, stay. -/
theorem State.gateSync_gate (s : State) (p : Nat) : ((s.gateSync p).sched p).gateEn = (s.sched p).gateEn
    ∧ ((s.gateSync p).sched p).guard = (s.sched p).guard := by
  have hnotify {w : Nat} (t : State) (a b c : BitVec w) : (t.notify a b c).sched p = t.sched p := by
    rw [State.sched, State.notify_scheds]
    rfl
  unfold State.gateSync
  extract_lets src x nt switch old y run e z
  rw [hnotify, State.sched_setSched_self]
  have hy : y.gateEn = (s.sched p).gateEn ∧ y.guard = (s.sched p).guard := by
    unfold y
    split <;> exact ⟨rfl, rfl⟩
  unfold z
  split <;> exact hy

theorem State.setGate_port (s : State) (q : Nat) (en : Bool) (guard : Nat) : Port q (.scheds :: reporting) s (s.setGate q en guard) :=
  (s.gateSync_port q).trans (((State.setSched_port _ q _).mono).trans (State.gateSync_port _ q))

theorem State.setGate_gate (s : State) (q : Nat) (en : Bool) (guard : Nat) : ((s.setGate q en guard).sched q).gateEn = en
    ∧ ((s.setGate q en guard).sched q).guard = guard := by
  unfold State.setGate
  rw [(State.gateSync_gate _ q).1, (State.gateSync_gate _ q).2]
  simp [State.modSched]

theorem State.setShaper_port (s : State) (p : List Byte) (q : Nat) : Port q [.scheds] s (s.setShaper p q) :=
  (s.syncTc0_port q).trans (State.setSched_port _ q _)

theorem Port.sched_ne {p : Nat} {l : List Part} {s u : State} (h : Port p l s u) {i : Nat} (hi : i ≠ p) : u.sched i = s.sched i :=
  (h.elsewhere i hi).2.1

/-- TC0_EN and TC0_QLIMIT at all ports (R142). -/
def State.writeTc0 (s : State) (p : List Byte) : State :=
  (List.range 64).foldl (fun s q => s.modSched q fun x => { x with tc0En := field p 0 1 == 1, qlimit := field p 2 2 }) s

theorem State.writeTc0_spec (s : State) (p : List Byte) : Only [.scheds] s (s.writeTc0 p)
    ∧ ∀ i, (s.writeTc0 p).sched i = if i < 64 then { s.sched i with tc0En := field p 0 1 == 1, qlimit := field p 2 2 } else s.sched i := by
  obtain ⟨honly, hsched⟩ := State.foldl_modSched_spec (s := s) (f := fun _ x => { x with tc0En := field p 0 1 == 1, qlimit := field p 2 2 })
    (fun _ _ => rfl) (List.nodup_range (n := 64))
  simp only [List.mem_range] at hsched
  exact ⟨honly, hsched⟩

/-- Links announce TC0_EN when it changes (R440). -/
def State.setTc0 (s : State) (p : List Byte) : State :=
  if (s.sched 0).tc0En != (field p 0 1 == 1) then (s.writeTc0 p).announce else s.writeTc0 p

theorem State.announce_sched (s : State) (i : Nat) : s.announce.sched i = s.sched i := rfl

theorem State.setTc0_spec (s : State) (p : List Byte) : Only [.scheds, .links] s (s.setTc0 p)
    ∧ ((s.sched 0).tc0En = (field p 0 1 == 1) → (s.setTc0 p).links = s.links)
    ∧ ∀ i, (s.setTc0 p).sched i = if i < 64 then { s.sched i with tc0En := field p 0 1 == 1, qlimit := field p 2 2 } else s.sched i := by
  obtain ⟨honly, hsched⟩ := s.writeTc0_spec p
  unfold State.setTc0
  refine ⟨Only.ite (fun _ => honly.mono.trans (State.announce_only _).mono) (fun _ => honly.mono), fun hsame => ?_, fun i => ?_⟩
  · rw [if_neg (by simp [hsame])]
    exact (honly .links).resolve_left (by decide)
  · rw [← hsched i]
    split
    · exact State.announce_sched _ i
    · rfl

theorem workSchedTc0_of {s : State} {p : List Byte} (h : field p 0 1 = 0 ∨ (s.sched 0).tc0En = true ∨ ∀ i < 64, (s.sched i).closesTc0 = false) :
    workSchedTc0 s p = .ok (s.setTc0 p) [] := by
  refine guardBci_one _ _ _ ?_
  rcases h with h | h | h
  · simp [h]
  · cases hen : field p 0 1 == 1 <;> simp [h]
  · rw [any_false fun i hi => h i (List.mem_range.mp hi), Bool.and_false]

/-- Settles O34: every setting is written at the ports named, one port at a time, and a port that is not named keeps what it had. -/
theorem bciSchedulingGroup : Obligations.BciSchedulingGroup := by
  unfold Obligations.BciSchedulingGroup
  refine ⟨fun m r x s => ⟨?_, ?_, ?_, ?_, ?_, ?_, ?_, ?_, ?_⟩, fun b p => ⟨rfl, rfl, rfl, fun i => ?_⟩⟩
  · rintro h hen hoff ⟨i, hi, hcloses⟩
    refine h.gives_err (code := rState) (detail := 0) rfl ?_
    have hany : ((List.range 64).any fun q => (s.sched q).closesTc0) = true := List.any_eq_true.mpr ⟨i, List.mem_range.mpr hi, hcloses⟩
    simp only [workSchedTc0, hen, hoff, hany]
    rfl
  · intro h hok
    exact ⟨_, h.gives_ok rfl (workSchedTc0_of hok), State.setTc0_spec s r.payload⟩
  · intro h hfree
    refine ⟨_, h.gives_ok rfl (guardBci_one _ _ _ (any_false hfree)), rfl, Only.foldl (fun s q => (s.setShaper_port r.payload q).only) _ s,
      foldl_elsewhere (get := State.sched) (fun s a i hia => (s.setShaper_port r.payload a).sched_ne hia) _ s⟩
  · intro h hfree
    obtain ⟨honly, hsched⟩ := State.foldl_modSched_spec (s := s)
      (f := fun _ x => { x with quanta := put x.quanta (field r.payload 8 1) (field r.payload 12 4) }) (fun _ _ => rfl) (maskPorts_nodup r.payload)
    exact ⟨_, h.gives_ok rfl (guardBci_one _ _ _ (any_false hfree)), honly, hsched⟩
  · intro h hfree
    obtain ⟨honly, hsched⟩ := State.foldl_modSched_spec (s := s) (f := fun _ x => { x with overhead := field r.payload 8 1 }) (fun _ _ => rfl)
      (maskPorts_nodup r.payload)
    exact ⟨_, h.gives_ok rfl (guardBci_one _ _ _ (any_false hfree)), honly, hsched⟩
  · intro h hfree htaken
    obtain ⟨honly, hsched⟩ := State.foldl_modSched_spec (s := s) (f := fun _ x =>
      { x with banks := put x.banks (field r.payload 8 1) ((x.banks.getD (field r.payload 8 1) GclBank.reset).write r.payload) }) (fun _ _ => rfl)
      (maskPorts_nodup r.payload)
    refine ⟨_, h.gives_ok rfl (guardBci_clear _ _ ?_), honly, hsched⟩
    have hbank : ((maskPorts r.payload).any fun q => (s.sched q).bankTaken (field r.payload 8 1)) = false :=
      any_false fun i hi => by simp [SchedPort.bankTaken, htaken i hi]
    simp [hbank, State.portsHeld, any_false hfree]
  · intro h hfree hpend
    obtain ⟨honly, hsched⟩ := State.foldl_modSched_spec (s := s)
      (f := fun t x => { x with switchAt := BitVec.ofNat 64 (field r.payload 8 8), pend := true, pendFrom := t.countedNt })
      (fun t ht => by simp only [State.countedNt_of_only ht]) (maskPorts_nodup r.payload)
    refine ⟨_, h.gives_ok rfl (guardBci_clear _ _ ?_), honly, hsched⟩
    simp [State.portsHeld, any_false hfree, any_false hpend]
  · intro h hfree
    have hport (t : State) (q : Nat) := t.setGate_port q (field r.payload 8 1 == 1) (field r.payload 10 2)
    refine ⟨_, h.gives_ok rfl (guardBci_one _ _ _ (any_false hfree)), Only.foldl (fun s q => (hport s q).only) _ s,
      foldl_elsewhere (get := State.sched) (fun t a i hia => (hport t a).sched_ne hia) _ s, fun i hi => ?_⟩
    exact foldl_establishes (get := State.sched) (P := fun _ x => x.gateEn = (field r.payload 8 1 == 1) ∧ x.guard = field r.payload 10 2)
      (fun t a => State.setGate_gate t a _ _) (fun t a i hia => (hport t a).sched_ne hia) _ s i hi
  · intro h howns hx
    refine ⟨_, h.gives_ok rfl ((guardBci_clear _ _ (State.ctxRefusals_clear 0 howns)).trans ?_), rfl⟩
    rw [State.modCtx_of _ hx]
    rfl
  · exact get?_foldl_set (fun i => (field p (32 + 4 * i) 1, field p (33 + 4 * i) 3)) _ _ i _

end Sys2Proof.Machine
end

section
/-! PROOFS. What follows in a stopped module (R517): packets held back on the torus are counted, and nothing else moves. What time passes there is
what the command let pass, which the statements that fix the time in ticks are measured by. -/
namespace Sys2Proof.Machine

/-- A stopped module in which no transfer has ended, no containment is due, and no QP, node or suspended packet waits. -/
structure Halted (s : State) : Prop where
  stopped : s.faults.stopped = true
  due : s.faults.due = []
  ended : s.mem.ended = []
  qps : s.qps = []
  nodes : s.nodes = []
  tiles : ∀ e ∈ s.tiles, e.2.susp = []

/-- What may follow in a stopped module. -/
def following : List Part := [.net, .scheds, .funcs, .out, .perf]

theorem Halted.of_only {l : List Part} {s u : State} (h : Halted s) (hu : Only l s u) (hf : .faults ∉ l := by decide)
    (hm : .mem ∉ l := by decide) (hq : .qps ∉ l := by decide) (hn : .nodes ∉ l := by decide) (ht : .tiles ∉ l := by decide) : Halted u := by
  have hfaults : u.faults = s.faults := (hu .faults).resolve_left hf
  have hmem : u.mem = s.mem := (hu .mem).resolve_left hm
  have hqps : u.qps = s.qps := (hu .qps).resolve_left hq
  have hnodes : u.nodes = s.nodes := (hu .nodes).resolve_left hn
  have htiles : u.tiles = s.tiles := (hu .tiles).resolve_left ht
  exact ⟨hfaults ▸ h.stopped, hfaults ▸ h.due, hmem ▸ h.ended, hqps ▸ h.qps, hnodes ▸ h.nodes, htiles ▸ h.tiles⟩

theorem State.raise_following (s : State) (f : FnId) (v : Nat) : Only following s (s.raise f v) := by
  unfold State.raise
  extract_lets fn vec
  refine Only.ite (fun _ => (s.emit_only _).mono.trans (State.count_only _ _ _ _ _).mono) (fun _ q => ?_)
  cases q <;> first | exact .inl (by decide) | exact .inr rfl

theorem State.notify_following {w : Nat} (s : State) (a b c : BitVec w) : Only following s (s.notify a b c) := by
  refine Only.ite (fun _ => Only.refl _ _) (fun _ => ?_)
  unfold State.raiseMgmt
  split
  · exact s.raise_following _ _
  · exact Only.refl _ _

theorem State.boundFalls_following (s : State) (p : Nat) : Only following s (s.boundFalls p) := by
  unfold State.boundFalls
  exact Only.ite (fun _ => (s.setSched_only p _).mono.trans (State.notify_following _ _ _ _)) (fun _ => Only.refl _ _)

theorem State.tc0Blocked_following (s : State) (p : Nat) : Only following s (s.tc0Blocked p) :=
  (s.setSched_only p _).mono.trans ((State.count_only _ _ _ _ _).mono.trans ((State.notify_following _ _ _ _).trans (State.boundFalls_following _ p)))

theorem State.holdBack_following (s : State) (t id : Nat) : Only following s (s.holdBack t id) := by
  unfold State.holdBack
  split
  · exact Only.ite (fun _ => Only.refl _ _) (fun _ => (s.setNet_only _).mono.trans (State.tc0Blocked_following _ t))
  · exact Only.refl _ _

theorem State.holdBacks_following (s : State) : Only following s s.holdBacks := by
  unfold State.holdBacks
  exact Only.ite (fun _ => Only.refl _ _) (fun _ => Only.foldl (fun s (e : Nat × Nat) => s.holdBack_following e.1 e.2) _ s)

theorem State.netStep_of_stopped {s : State} (h : s.faults.stopped = true) : s.netStep = none := by
  simp [State.netStep, State.waitRound, State.netRound, h]

theorem Halted.settleN {s : State} (h : Halted s) (n : Nat) : Only following s (s.settleN n) := by
  induction n generalizing s with
  | zero => exact Only.refl _ _
  | succ n ih =>
    have hback := s.holdBacks_following
    have hhalted := h.of_only hback
    have hsync : s.holdBacks.qpSync.collSync.suspSync = s.holdBacks := by
      rw [State.qpSync_of_empty hhalted.qps, State.collSync_of_empty hhalted.nodes, State.suspSync_of_empty hhalted.tiles]
    simp only [State.settleN, h.ended, h.due, State.netStep_of_stopped h.stopped, hsync]
    exact Only.ite (fun _ => hback) (fun _ => hback.trans (ih hhalted))

theorem State.gateSync_following (s : State) (p : Nat) : Only following s (s.gateSync p) :=
  (s.setSched_only p _).mono.trans (State.notify_following _ _ _ _)

theorem State.portSync_following (s : State) (p : Nat) : Only following s (s.portSync p) := by
  have hbound (t : State) : Only following t (t.boundSync p) :=
    Only.ite (fun _ => (State.setSched_only _ p _).mono) (fun _ => State.boundFalls_following _ p)
  unfold State.portSync
  split
  · exact (s.gateSync_following p).trans (hbound _)
  · exact hbound s

theorem Halted.settle {s : State} (h : Halted s) : Only following s s.settle := by
  rw [State.settle_eq]
  exact (h.settleN _).trans (Only.foldl (fun s p => s.portSync_following p) _ _)

theorem Halted.settle_clk {s : State} (h : Halted s) : s.settle.clk = s.clk := (h.settle .clk).resolve_left (by decide)

/-- Two effects that settle to one state have passed the same time, where neither leaves anything but held packets to follow. -/
theorem Halted.clk_eq {i : Instr} {s u v : State} (hu : Halted u) (hv : Halted v) (hgives : Gives i s u) (hexec : exec i s = v.done) :
    u.clk = v.clk := by
  have hsame : u.settle = v.settle := Host.Outcome.next.inj (hgives.symm.trans hexec)
  rw [← hu.settle_clk, ← hv.settle_clk, hsame]

end Sys2Proof.Machine
end

section
/-! PROOFS. The refutation of what is said of A2 (R496): the clock's ticks are NT's, and a wait of the clock source under RATE_ADJ is not as many. -/
namespace Sys2Proof.Machine

/-- A state with a mark of the auditor's STOP, in which the fabric runs and RATE_ADJ is +100 ppm (R36). -/
def adjusted : State :=
  { State.reset with time := { TimeState.reset with rateAdj := 100000 }, faults := { Faults.reset with stopped := true } }

/-- A transit packet of module 1. -/
def transitPacket : Packet := { hdr := { RouteHdr.ofWords 0 0 with src := 4 }, body := [] }

/-- That module in A2, with the packet at port 0 in DOZE. -/
def dozing : State :=
  { adjusted with pwr := { Power.reset with st := .a2 }, links := [(0, { LinkPort.reset with st := .doze })],
                  scheds := [(0, { SchedPort.reset with queues := [[], [transitPacket]] })] }

theorem dozing_halted : Halted dozing := ⟨rfl, rfl, rfl, rfl, rfl, fun _ h => nomatch h⟩

/-- Refutes O36: with RATE_ADJ at +100 ppm the 10 µs that a transit packet waits are 2,560,256 ticks of NT, which the clock counts. -/
theorem not_bciPowerGroup : ¬ Obligations.BciPowerGroup := by
  unfold Obligations.BciPowerGroup
  rintro ⟨-, h⟩
  obtain ⟨u, hgives, honly, -, hnow⟩ := (h 0 dozing).2.2.2.1 rfl rfl (by decide)
  have hwoken : Only (.pwr :: passing) dozing (dozing.passTime (10 * usTicks)).wake :=
    (State.passTime_only _ _).mono.trans (State.wake_only _).mono
  have hclk := (dozing_halted.of_only honly).clk_eq (dozing_halted.of_only hwoken) hgives (by rfl)
  rw [hclk, State.wake_clk, State.passTime_clk _ _ (by decide)] at hnow
  exact absurd hnow (by decide)

end Sys2Proof.Machine
end

section
/-! PROOFS. BCI commands of the firmware group (R366, R369, R370, R406 to R411). -/
namespace Sys2Proof.Machine

section
variable {s : State} {m : Fin 5} {x : FwSession}

theorem Fw.openElse_of_own (h : ∀ y, s.fw.session = some y → y.box = m.val) : s.fw.openElse m.val = false := by
  unfold Fw.openElse
  split
  case h_1 y hy => simp [h y hy]
  case h_2 => rfl

theorem Fw.openFor_of (hx : s.fw.session = some x) (hbox : x.box = m.val) (hopen : x.committing = false) : s.fw.openFor m.val = some x := by
  simp [Fw.openFor, hx, hbox, hopen]

/-- The refusals of a command in a session of the mailbox's own. -/
theorem Fw.own_session (hx : s.fw.session = some x) (hbox : x.box = m.val) (hfree : s.flashHeld = false) :
    ∀ e ∈ [(s.fw.openElse m.val, rDenied, 0), (s.flashHeld, rBusy, 0)], e.1 = false := by
  have helse : s.fw.openElse m.val = false := Fw.openElse_of_own fun y hy => by rw [hx] at hy; cases hy; exact hbox
  simp [helse, hfree]

end

/-- What a sound image leaves (R370, R411): its slot valid, and measured while Balyn runs. -/
def State.commitImage (s : State) (slot : Nat) (img : ImageHdr) : State :=
  let w : State := { s with fw := { s.fw with session := none, slots := put s.fw.slots slot { hdr := some img, valid := true } } }
  if s.boot.balyn && s.dieRuns then w.measure 0x0010 slot (Config.shake256 64 img.raw) else w

section
variable {s : State} {m : Fin 5} {token : U32} {l : LongCmd} {x : FwSession} (hl : s.long? m.val token = some l) (hx : s.fw.session = some x)
  (hw : l.work = .fwCommit x.slot) (hc : x.committing = true)
include hl hx hw hc

theorem execFwCommitDone_of (err : Bool) : execFwCommitDone m token err s
    = (if err then (State.finish { s with fw := { s.fw with session := none } } m.val l 0x12 []).done
      else if !(parseImage x.cells x.size).valid s.sec then (State.finish { s with fw := { s.fw with session := none } } m.val l rImageInvalid []).done
      else if (parseImage x.cells x.size).svn < s.sec.fusedSvn then
        (State.finish { s with fw := { s.fw with session := none } } m.val l rRollback []).done
      else ((s.commitImage x.slot (parseImage x.cells x.size)).finish m.val l rOk []).done) := by
  have hgo : ¬ (l.work ≠ .fwCommit x.slot ∨ x.committing = false) := by simp [hw, hc]
  simp only [execFwCommitDone, hl, hx, if_neg hgo]
  rfl

end

/-- What FW_CONFIRM of the image that runs leaves before it is measured (R370, R409, R410). -/
def State.confirmImage (s : State) (i : Nat) (h : ImageHdr) : State :=
  { s with
    fw := { s.fw with trial := false, selTrial := if s.fw.sel = i then false else s.fw.selTrial },
    sec := if decide (s.sec.fusedSvn < max s.sec.fusedSvn h.svn) || (h.provision s.sec).isSome then
      { s.sec with fuseBusy := true, burnFrom := s.clk.now, burnSvn := max s.sec.fusedSvn h.svn, burnOwner := h.provision s.sec } else s.sec }

theorem workFwConfirm_of {s : State} {i : Nat} {h : ImageHdr} (p : List Byte) (hfree : s.flashHeld = false) (hi : s.fw.running = some i)
    (hh : s.fw.image = some h) : workFwConfirm s p
      = .ok ((s.confirmImage i h).measure 0x0011 (max s.sec.fusedSvn h.svn) (Config.shake256 64 h.raw)) [] := by
  refine (guardBci_one _ _ _ hfree).trans ?_
  simp only [hi, hh]
  refine congrArg (fun u : State => Res.ok (u.measure 0x0011 (max s.sec.fusedSvn h.svn) (Config.shake256 64 h.raw)) []) ?_
  simp only [State.confirmImage, Bool.or_eq_true, decide_eq_true_eq]
  by_cases hburn : s.sec.fusedSvn < max s.sec.fusedSvn h.svn ∨ (h.provision s.sec).isSome = true
  · refine (if_pos hburn).trans ?_
    simp only [if_pos hburn]
    rfl
  · refine (if_neg hburn).trans ?_
    simp only [if_neg hburn]
    rfl

/-- Settles O37: a session is its mailbox's own until it is committed, aborted or confirmed. -/
theorem bciFirmwareGroup : Obligations.BciFirmwareGroup := by
  unfold Obligations.BciFirmwareGroup
  intro m r token l x i h err s
  refine ⟨?_, ?_, ?_, ?_, ?_, ?_, ?_, ?_⟩
  · exact fun hs => ⟨_, hs.gives_ok rfl rfl, List.length_take_le _ _⟩
  · intro hs hfree hnone hrun
    exact hs.gives_ok rfl (guardBci_clear _ _ (by simp [hfree, hnone, hrun]))
  · intro hs hx hbox hopen hfree
    refine hs.gives_ok rfl ((guardBci_clear _ _ (Fw.own_session hx hbox hfree)).trans ?_)
    simp only [Fw.openFor_of hx hbox hopen]
    rfl
  · intro hs hx hbox hopen hfree
    refine hs.gives_accepted rfl ((guardBci_clear _ _ (Fw.own_session hx hbox hfree)).trans ?_)
    simp only [Fw.openFor_of hx hbox hopen]
    rfl
  · intro hl hx hw hc
    have hrun := execFwCommitDone_of hl hx hw hc
    refine ⟨fun herr => (hrun err).trans ?_, fun herr hbad => (hrun err).trans ?_, fun herr hgood hold => (hrun err).trans ?_,
      fun herr hgood hnew => (hrun err).trans ?_⟩
    · rw [herr]
      rfl
    · rw [herr, hbad]
      rfl
    · rw [herr, hgood, if_pos hold]
      rfl
    · rw [herr, hgood, if_neg (Nat.not_lt.mpr hnew)]
      rfl
  · intro hs helse hfree hvalid
    exact hs.gives_ok rfl (guardBci_clear _ _ (by simp [helse, hfree, hvalid]))
  · exact fun hs hfree hi hh => hs.gives_ok rfl (workFwConfirm_of _ hfree hi hh)
  · intro hs hown
    have hwork : workFwAbort m s r.payload = .ok (match s.commitOf with
        | some (b, l) => State.finish { s with fw := { s.fw with session := none } } b l rCancelled []
        | none => { s with fw := { s.fw with session := none } }) [] := by
      refine guardBci_one _ _ _ ?_
      split
      case h_1 y hy => simp [hown y hy]
      case h_2 => rfl
    refine ⟨fun hnone => hs.gives_ok rfl ?_, fun b hsome => hs.gives_ok rfl ?_⟩
    · rw [hwork, hnone]
    · rw [hwork, hsome]

end Sys2Proof.Machine
end

section
/-! PROOFS. The refutation of what is said of RING_DISABLE (R398): a collective entry that ends ABORTED gives up the segments fetched in its
preparation as well as its payload. -/
namespace Sys2Proof.Machine

/-- A NOP entry that waits, with a segment fetched. -/
def segmentedChain : Chain :=
  { serial := 0, timing := none, work := [], st := .waiting, ready := false, held := false, passed := false, payload := none, segs := [(0, [])],
    code := 0, value := 0, countA := 0, countB := 0, ident := 0, flags := 0 }

/-- A context of endpoint 0 whose rings run, with that chain. -/
def segmentedCtx : Ctx := { Ctx.fresh 0 0 0 false false with enable := true, idle := false, owed := 1, chains := [segmentedChain] }

/-- A stopped module that holds the context, with its host up. -/
def segmented : State :=
  { State.reset with faults := { Faults.reset with stopped := true }, ctxs := [(0, segmentedCtx)],
                     host := { HostPorts.reset with eps := [(0, { Endpoint.reset with linkUp := true, dlUp := true, configured := true })] } }

/-- Refutes O38: clearing ENABLE drops the `segs` of the aborted chain, which the statement keeps. -/
theorem not_ringsAndTheirDoorbells : ¬ Obligations.RingsAndTheirDoorbells := by
  unfold Obligations.RingsAndTheirDoorbells
  rintro ⟨h, -, -⟩
  have hgives := (h 0 0 0 segmentedCtx segmented rfl rfl rfl).2.2.2.2 rfl
  have hexec : exec (.ringDisable 0 0 0) segmented = (segmented.drain 0).done := rfl
  have hsame := Host.Outcome.next.inj (hgives.symm.trans hexec)
  have hctxs {v : State} (hv : Halted v) : v.settle.ctxs = v.ctxs := (hv.settle .ctxs).resolve_left (by decide)
  have hdrained : Halted (segmented.drain 0) := ⟨rfl, rfl, rfl, rfl, rfl, fun _ h => nomatch h⟩
  have hstated (x : Ctx) : Halted (segmented.setCtx 0 x) := ⟨rfl, rfl, rfl, rfl, rfl, fun _ h => nomatch h⟩
  have hlists := (hctxs (hstated _)).symm.trans ((congrArg State.ctxs hsame).trans (hctxs hdrained))
  exact absurd (congrArg (fun l => l.map fun e => e.2.chains.map Chain.segs) hlists) (by decide)

end Sys2Proof.Machine
end

section
/-! PROOFS. The refutation of what is said of LEDGER_WAKE (R281, R388): in a table of contexts that names one twice, the release of a ring changes
how many chains its tile counts, and so how many turns it gives. -/
namespace Sys2Proof.Machine

/-- An untimed entry that waits; what holds its ring is the ledger of number 0. -/
def idleChain (serial op : Nat) (held : Bool) : Chain :=
  { serial := serial, timing := none, work := [BitVec.ofNat 8 op], st := .waiting, ready := false, held := held, passed := false, payload := none,
    segs := [], code := 0, value := 0, countA := 0, countB := 0, ident := 0, flags := 0 }

def zeroLedger : Ledger := { count := 0, poison := false, owner := 0, remote := false, share := false }

/-- Context 3 of tile 0, whose ring ledger 0 holds; its host is gone, so that the tile does not serve it. -/
def heldCtx : Ctx := { Ctx.fresh 0 0 0 false false with hostLost := true, chains := [idleChain 0 opNop true] }

/-- Context 5 stands twice in the table: with four NOPs on tile 1, and behind it with one on tile 0. -/
def listedTwice : State :=
  { State.reset with
    boot := { Boot.reset with alive := .running, mintDone := true, balyn := true }, ledgers := [(0, zeroLedger)],
    ctxs := [(5, { Ctx.fresh 0 0 1 false false with chains := (List.range 4).map fun n => idleChain n opNop false }), (3, heldCtx),
             (5, { Ctx.fresh 0 0 0 false false with chains := [idleChain 0 opNop false] })] }

/-- The chains of context 5 that are done. -/
def State.doneOf5 (s : State) : Option Nat := (s.ctx? 5).map fun x => (x.chains.filter fun h => h.st == .done).length

/-- The ring released, and `n` turns of its tile. -/
def servedAfterRelease (n : Nat) : State := (listedTwice.testWaiter zeroLedger 3 (idleChain 0 opNop true)).serve 3 n

theorem servedAfterRelease_quiet : (servedAfterRelease 3).quiet ∧ (servedAfterRelease 4).quiet := by
  refine ⟨⟨rfl, rfl, rfl, rfl, rfl, rfl, ?_, ?_⟩, ⟨rfl, rfl, rfl, rfl, rfl, rfl, ?_, ?_⟩⟩ <;> decide

/-- Refutes O42: the model counts the tile's chains after the release, in a table to which the release has added an entry; the statement counts them
before it, so that the tile takes one turn less. -/
theorem not_ledgersAndPasses : ¬ Obligations.LedgersAndPasses := by
  unfold Obligations.LedgersAndPasses
  rintro ⟨-, -, h, -⟩
  have hgives : Gives (.ledgerWake 3) listedTwice (servedAfterRelease 3) := (h 3 heldCtx (idleChain 0 opNop true) zeroLedger listedTwice rfl).2.1 rfl rfl rfl
  have hexec : exec (.ledgerWake 3) listedTwice = (servedAfterRelease 4).done := rfl
  have hsame := Host.Outcome.next.inj (hgives.symm.trans hexec)
  rw [State.settle_of_quiet servedAfterRelease_quiet.1, State.settle_of_quiet servedAfterRelease_quiet.2] at hsame
  exact absurd (congrArg State.doneOf5 hsame) (by decide)

end Sys2Proof.Machine
end

section
/-! PROOFS. The refutation of what is said of entries that are read (R54, R255): a collective entry whose launch target lies beyond the horizon
completes ABORTED, and takes its instance number all the same. -/
namespace Sys2Proof.Machine

/-- A COLL entry of node 0, the last of its chain. -/
def collEntry : List Byte := (leBytes 1 opColl ++ [(2 : Byte)]) ++ zeros 62

/-- Its TIMING entry: the first of the chain, with LAUNCH_EN and a target of 2^62 ticks. -/
def farTiming : List Byte := (leBytes 1 opTiming ++ leBytes 3 (1 + 2 ^ 16)) ++ zeros 12 ++ leBytes 8 (2 ^ 62) ++ zeros 40

/-- Context 0, which has read the TIMING entry. -/
def timedCtx : Ctx := { Ctx.fresh 0 0 0 false false with enable := true, idle := false, openTiming := some farTiming }

/-- Node 0 is the context's own member. -/
def timedColl : State := { State.reset with ctxs := [(0, timedCtx)], nodes := [(0, nodeOf [])] }

/-- Refutes O39: the entry's instance number is used up, where the statement leaves the nodes as they were. -/
theorem not_entriesFormChains : ¬ Obligations.EntriesFormChains := by
  unfold Obligations.EntriesFormChains
  rintro ⟨-, h⟩
  obtain ⟨-, -, -, -, -, htimed⟩ := h 0 collEntry timedCtx timedColl rfl
  have hread := (htimed farTiming rfl (by decide)).2.1 (by decide) (by decide) (by decide) (by decide) (by decide)
  exact absurd (congrArg (fun s => (s.node? 0).map Node.next) hread) (by decide)

end Sys2Proof.Machine
end

section
/-! PROOFS. A context's turn, the tile's choice among its contexts, and what each entry does when its chain starts (R384, R386, R388). -/
namespace Sys2Proof.Machine

/-! ### Turns -/

section Turn
variable {s v : State} {c : Nat} {h : Chain} (hwalk : s.walk c = (v, some h)) (hserved : s.nextServed (s.ctxTile c) = some c)
include hserved

theorem State.turnTo_self (n : Nat) : s.turnTo c n = s := by
  cases n with
  | zero => rfl
  | succ n => simp [State.turnTo, hserved]

include hwalk

theorem State.walkOne_of_op {op : Nat} (hop : h.op = op) : s.walkOne c op = v.takeTurn c h := by
  simp [State.walkOne, State.turnTo_self hserved, hwalk, hop]

theorem State.walkOne_of_ne {op : Nat} (hop : h.op ≠ op) : s.walkOne c op = s := by
  simp [State.walkOne, State.turnTo_self hserved, hwalk, hop]

theorem State.serve_succ (n : Nat) : s.serve c (n + 1) = (v.takeTurn c h).serve c n := by
  simp [State.serve, hserved, hwalk]

end Turn

/-! ### The tile's choice (R388) -/

theorem Tbl.mem_of_get? {α : Type} {t : Tbl α} {k : Nat} {v : α} (h : Tbl.get? t k = some v) : (k, v) ∈ t := by
  induction t with
  | nil => simp [Tbl.get?] at h
  | cons e t ih =>
    obtain ⟨j, w⟩ := e
    unfold Tbl.get? at h
    split_ifs at h with hk
    · simp_all
    · exact List.mem_cons_of_mem _ (ih h)

/-- The chains of a context that the walk could start as things stand. -/
def State.canStart (s : State) (d : Nat) (y : Ctx) : List Chain := s.startablesFrom d y y.chains y.blockedKeys

/-- A chain of TC0. -/
def Chain.urgent (h : Chain) : Bool := h.usesQp && h.tc == 0

theorem State.mem_startable {s : State} {t : Nat} {p : Chain → Bool} {d : Nat} (h : d ∈ s.startable t p) :
    ∃ y, (d, y) ∈ s.ctxs ∧ y.tile = t ∧ (s.canStart d y).any p = true := by
  unfold State.startable at h
  split at h
  · exact nomatch h
  · obtain ⟨⟨e, y⟩, hmem, rfl⟩ := List.mem_map.mp h
    obtain ⟨hctx, hok⟩ := List.mem_filter.mp hmem
    simp only [Bool.and_eq_true, beq_iff_eq] at hok
    exact ⟨y, hctx, hok.1.1, hok.2⟩

/-- Where any context is listed, so is every one of the tile that satisfies the condition. -/
theorem State.startable_of_mem {s : State} {t c : Nat} {p q : Chain → Bool} (hc : c ∈ s.startable t p) {d : Nat} {y : Ctx}
    (hy : (d, y) ∈ s.ctxs) (htile : y.tile = t) (hlost : y.hostLost = false) (hany : (s.canStart d y).any q = true) : d ∈ s.startable t q := by
  unfold State.startable at hc ⊢
  split at hc
  · exact nomatch hc
  · next hruns =>
    rw [if_neg hruns]
    exact List.mem_map.mpr ⟨(d, y), List.mem_filter.mpr ⟨hy, by simp [htile, hlost]; simpa [State.canStart] using hany⟩, rfl⟩

theorem State.startable_sorted {s : State} (hsorted : (s.ctxs.map (·.1)).Pairwise (· < ·)) (t : Nat) (p : Chain → Bool) :
    (s.startable t p).Pairwise (· < ·) := by
  unfold State.startable
  split
  · exact .nil
  · exact hsorted.sublist (List.filter_sublist.map _)

theorem State.mem_of_inRobin {s : State} {t c : Nat} {l : List Nat} (h : s.inRobin t l = some c) : c ∈ l := by
  unfold State.inRobin at h
  cases hfind : l.find? fun c => (s.tile t).turn ≤ c with
  | some d => exact Option.some.inj (by simpa [hfind] using h) ▸ List.mem_of_find?_eq_some hfind
  | none => exact List.mem_of_head? (by simpa [hfind] using h)

/-- In the round robin, no context between the turn and the one served waits. -/
theorem State.inRobin_least {s : State} {t c d : Nat} {l : List Nat} (hsorted : l.Pairwise (· < ·)) (h : s.inRobin t l = some c) (hd : d ∈ l)
    (hturn : (s.tile t).turn ≤ d) : (s.tile t).turn ≤ c ∧ c ≤ d := by
  unfold State.inRobin at h
  cases hfind : l.find? fun c => (s.tile t).turn ≤ c with
  | none => exact absurd hturn (by simpa using List.find?_eq_none.mp hfind d hd)
  | some e =>
    obtain rfl : e = c := by simpa [hfind] using h
    obtain ⟨hle, before, after, rfl, hbefore⟩ := List.find?_eq_some_iff_append.mp hfind
    refine ⟨by simpa using hle, ?_⟩
    rcases List.mem_append.mp hd with hd | hd
    · exact absurd hturn (by simpa using hbefore d hd)
    · rcases List.mem_cons.mp hd with rfl | hd
      · exact Nat.le_refl _
      · exact Nat.le_of_lt ((List.pairwise_cons.mp (List.pairwise_append.mp hsorted).2.1).1 d hd)

theorem State.inRobin_isSome {s : State} {t d : Nat} {l : List Nat} (hd : d ∈ l) : ∃ c, s.inRobin t l = some c := by
  unfold State.inRobin
  cases hfind : l.find? fun c => (s.tile t).turn ≤ c with
  | some c => exact ⟨c, rfl⟩
  | none =>
    obtain ⟨c, l, rfl⟩ := List.exists_cons_of_ne_nil (List.ne_nil_of_mem hd)
    exact ⟨c, rfl⟩

/-- A tile serves one of those with a chain of TC0, or, where there is none, one of those with any. -/
theorem State.nextServed_cases {s : State} {t c : Nat} (h : s.nextServed t = some c) :
    s.inRobin t (s.startable t Chain.urgent) = some c
      ∨ s.startable t Chain.urgent = [] ∧ s.inRobin t (s.startable t fun _ => true) = some c := by
  rcases hlist : s.startable t Chain.urgent with _ | ⟨d, l⟩
  · exact .inr ⟨rfl, by
      have hurgent : s.inRobin t (s.startable t fun h => h.usesQp && h.tc == 0) = none := congrArg (s.inRobin t) hlist
      simpa [State.nextServed, hurgent] using h⟩
  · obtain ⟨e, he⟩ := s.inRobin_isSome (t := t) (List.mem_cons_self (a := d) (l := l))
    have hurgent : s.inRobin t (s.startable t fun h => h.usesQp && h.tc == 0) = some e := (congrArg (s.inRobin t) hlist).trans he
    exact .inl (he.trans (by simpa [State.nextServed, hurgent] using h))

section Choice
variable {s : State} {t c d : Nat} {x y : Ctx} (hsorted : (s.ctxs.map (·.1)).Pairwise (· < ·)) (hserved : s.nextServed t = some c)
  (hx : s.ctx? c = some x)
include hsorted hserved hx

theorem State.served_can : x.tile = t ∧ s.canStart c x ≠ [] := by
  have hmem : ∃ p, c ∈ s.startable t p := (State.nextServed_cases hserved).elim (fun h => ⟨_, State.mem_of_inRobin h⟩)
    fun h => ⟨_, State.mem_of_inRobin h.2⟩
  obtain ⟨p, hp⟩ := hmem
  obtain ⟨z, hz, htile, hany⟩ := State.mem_startable hp
  obtain rfl : z = x := Option.some.inj ((Tbl.get?_of_mem (hsorted.imp Nat.ne_of_lt) hz).symm.trans hx)
  exact ⟨htile, fun hnil => by simp [hnil] at hany⟩

variable (hy : s.ctx? d = some y) (htile : y.tile = t) (hlost : y.hostLost = false)
include hy htile hlost

theorem State.served_urgent (hany : (s.canStart d y).any Chain.urgent = true) : (s.canStart c x).any Chain.urgent = true := by
  have hlisted {q : Chain → Bool} (hc : c ∈ s.startable t q) : d ∈ s.startable t Chain.urgent :=
    State.startable_of_mem hc (Tbl.mem_of_get? hy) htile hlost hany
  rcases State.nextServed_cases hserved with h | ⟨hnone, h⟩
  · obtain ⟨z, hz, -, hurgent⟩ := State.mem_startable (State.mem_of_inRobin h)
    obtain rfl : z = x := Option.some.inj ((Tbl.get?_of_mem (hsorted.imp Nat.ne_of_lt) hz).symm.trans hx)
    exact hurgent
  · exact absurd (hnone ▸ hlisted (State.mem_of_inRobin h)) List.not_mem_nil

theorem State.served_first (hsame : (s.canStart d y).any Chain.urgent = (s.canStart c x).any Chain.urgent) (hcan : s.canStart d y ≠ [])
    (hturn : (s.tile t).turn ≤ d) : (s.tile t).turn ≤ c ∧ c ≤ d := by
  have hmem := Tbl.mem_of_get? hy
  rcases State.nextServed_cases hserved with h | ⟨-, h⟩
  · have hc := State.mem_of_inRobin h
    obtain ⟨z, hz, -, hurgent⟩ := State.mem_startable hc
    obtain rfl : z = x := Option.some.inj ((Tbl.get?_of_mem (hsorted.imp Nat.ne_of_lt) hz).symm.trans hx)
    exact State.inRobin_least (State.startable_sorted hsorted t _) h (State.startable_of_mem hc hmem htile hlost (hsame.trans hurgent)) hturn
  · refine State.inRobin_least (State.startable_sorted hsorted t _) h (State.startable_of_mem (State.mem_of_inRobin h) hmem htile hlost ?_) hturn
    obtain ⟨k, l, hkl⟩ := List.exists_cons_of_ne_nil hcan
    simp [hkl]

end Choice

/-! ### What each entry does (R384) -/

/-- What a chain does that starts untimed, or in time. -/
def State.startByOp (s : State) (c : Nat) (h : Chain) : State :=
  if h.op = opPut then s.startPut c h
  else if h.op = opGet then s.startGet c h
  else if h.op = opSend then s.startSend c h
  else if h.op = opRecv then s.startRecv c h
  else if h.op = opAtomic then s.startAtomic c h
  else if h.op = opColl then s.startCollChain c h
  else if h.op = opProbe then s.startProbe c h
  else if h.op = opCancel then s.startCancel c h
  else if h.op = opLedgerAdd then s.startLedgerAdd c h
  else if h.op = opLedgerSet then s.startLedgerSet c h
  else if h.op = opLedgerRead then s.startLedgerRead c h
  else s.startNop c h

theorem State.startChain_untimed {s : State} {c : Nat} {h : Chain} (hlaunch : h.launchEn = false) :
    s.startChain c h = (s.count 0x0B00 c (qMask h.tc) 1).startByOp c h := by
  simp only [State.startChain, State.startByOp, State.lateLaunch, hlaunch, Bool.false_and, Bool.false_eq_true, if_false]

/-- The start of each opcode (R381). -/
theorem State.startByOp_eq (s : State) (c : Nat) (h : Chain) :
    (h.op = 1 → s.startByOp c h = s.startPut c h) ∧ (h.op = 2 → s.startByOp c h = s.startGet c h)
    ∧ (h.op = 3 → s.startByOp c h = s.startSend c h) ∧ (h.op = 4 → s.startByOp c h = s.startRecv c h)
    ∧ (h.op = 5 → s.startByOp c h = s.startAtomic c h) ∧ (h.op = 6 → s.startByOp c h = s.startCollChain c h)
    ∧ (h.op = 7 → s.startByOp c h = s.startProbe c h) ∧ (h.op = 8 → s.startByOp c h = s.startCancel c h)
    ∧ (h.op = 9 → s.startByOp c h = s.startLedgerAdd c h) ∧ (h.op = 10 → s.startByOp c h = s.startLedgerSet c h)
    ∧ (h.op = 11 → s.startByOp c h = s.startLedgerRead c h) ∧ (h.op = 12 → s.startByOp c h = s.startNop c h) := by
  refine ⟨?_, ?_, ?_, ?_, ?_, ?_, ?_, ?_, ?_, ?_, ?_, ?_⟩ <;> intro hop <;>
    simp [State.startByOp, hop, opPut, opGet, opSend, opRecv, opAtomic, opColl, opProbe, opCancel, opLedgerAdd, opLedgerSet, opLedgerRead]

theorem State.startPut_inline {s : State} {c : Nat} {h : Chain} (hinl : h.inl = true) :
    ∃ q, s.startPut c h = s.startMsg c h q ∧ q.total = h.xflags ∧ q.inline_ = some ((h.work.drop 32).take h.xflags)
      ∧ q.rkey = h.f 16 4 ∧ q.roff = h.f 24 6 := by
  simp only [State.startPut, hinl, if_true, Bool.not_true, Bool.false_and, Bool.false_eq_true, if_false]
  exact ⟨_, rfl, rfl, rfl, rfl, rfl⟩

/-- A SEND from memory is a rendezvous where its length is beyond the eager limit (R229). -/
theorem State.startSend_long {s : State} {c : Nat} {h : Chain} (hinl : h.inl = false)
    (hkey : s.badKey c (h.f 40 4) (h.f 48 6) (h.f 36 4) [pLocalRead] = false) :
    ∃ q, s.startSend c h = s.startMsg c h q ∧ q.tagv = BitVec.ofNat 64 (h.f 16 8) ∧ q.comm = h.f 24 2
      ∧ q.rndv = decide (h.f 36 4 ≠ 0 ∧ ((s.ctx? c).map (·.eagerLimit)).getD 0 < h.f 36 4) := by
  unfold State.startSend
  extract_lets len eager base
  have hlen : len = h.f 36 4 := by simp [len, hinl]
  have heager : eager = !decide (h.f 36 4 ≠ 0 ∧ ((s.ctx? c).map (·.eagerLimit)).getD 0 < h.f 36 4) := by
    rw [Bool.eq_iff_iff]
    simp [eager, hinl, hlen]
  rw [if_neg (by simp [hinl, hlen, hkey])]
  cases hlong : decide (h.f 36 4 ≠ 0 ∧ ((s.ctx? c).map (·.eagerLimit)).getD 0 < h.f 36 4) with
  | false =>
    rw [if_pos (by simp [heager, hlong])]
    exact ⟨_, rfl, rfl, rfl, rfl⟩
  | true =>
    rw [if_neg (by simp [heager, hlong])]
    exact ⟨_, rfl, rfl, rfl, rfl⟩

theorem State.startAtomic_remote {s : State} {c : Nat} {h : Chain} (hloc : h.localAtomic = false) :
    ∃ q, s.startAtomic c h = s.startMsg c h q ∧ q.rkey = h.f 16 4 ∧ q.roff = h.f 24 6 ∧ q.aop = h.f 32 1 % 16
      ∧ q.op0 = BitVec.ofNat 64 (h.f 40 8) ∧ q.op1 = BitVec.ofNat 64 (h.f 48 8) := by
  simp only [State.startAtomic, hloc, Bool.false_eq_true, if_false]
  exact ⟨_, rfl, rfl, rfl, rfl, rfl, rfl⟩

/-- Settles O41: a turn is the walk's, the choice follows TC0 and the round robin, and each opcode has one start. -/
theorem entriesStart : Obligations.EntriesStart := by
  unfold Obligations.EntriesStart
  refine ⟨fun c h s v hwalk hserved => ?_, fun t c d x s hsorted hserved hx => ?_, fun c h g s hlaunch => ?_⟩
  · have row {i : Instr} {op : Nat} (hexec : exec i s = (s.walkOne c op).done) :
        (h.op = op → Gives i s (v.takeTurn c h)) ∧ (h.op ≠ op → Gives i s s) :=
      ⟨fun hop => hexec.trans (congrArg State.done (State.walkOne_of_op hwalk hserved hop)),
        fun hop => hexec.trans (congrArg State.done (State.walkOne_of_ne hwalk hserved hop))⟩
    refine ⟨row rfl, row rfl, row rfl, row rfl, row rfl, row rfl, row rfl, row rfl, row rfl, row rfl, row rfl, row rfl, ?_, fun x hx => ?_⟩
    · exact congrArg (fun r : State × Option Chain => r.1.done) hwalk
    · have hexec : exec (.chainStart c) s = execChainStart c s := rfl
      rw [Gives, hexec]
      simp only [execChainStart, hx, State.serve_succ hwalk hserved]
      rfl
  · exact ⟨(State.served_can hsorted hserved hx).1, (State.served_can hsorted hserved hx).2,
      fun y hy htile hlost hany => State.served_urgent hsorted hserved hx hy htile hlost hany,
      fun y hy htile hlost hsame hcan hturn => State.served_first hsorted hserved hx hy htile hlost hsame hcan hturn⟩
  · intro v started u put
    have hu : u = v.startByOp c h := State.startChain_untimed hlaunch
    obtain ⟨hput, hget, hsend, hrecv, hatomic, hcoll, hprobe, hcancel, hadd, hset, hread, hnop⟩ := v.startByOp_eq c h
    rw [hu]
    refine ⟨fun hop hinl hkey => (hput hop).trans ?_, fun hop hinl hkey => (hput hop).trans ?_, fun hop hinl => hput hop ▸ State.startPut_inline hinl,
      fun hop hkey => (hget hop).trans ?_, fun hop hinl hkey => hsend hop ▸ State.startSend_long hinl hkey, fun hop hkey hdom => (hrecv hop).trans ?_,
      fun hop hkey hdom => (hrecv hop).trans ?_, fun hop hloc => hatomic hop ▸ State.startAtomic_remote hloc, fun hop hloc => (hatomic hop).trans ?_,
      fun hop hnone => (hcoll hop).trans ?_, fun hop hdom => (hprobe hop).trans ?_, fun hop hdom => (hcancel hop).trans ?_,
      fun hop hok => (hadd hop).trans ?_, fun hop hok => (hset hop).trans ?_, fun hop hok hg => (hread hop).trans ?_, hnop⟩
    · simp [State.startPut, hinl, hkey]
    · simp only [State.startPut, hinl, hkey, Bool.not_false, Bool.true_and, Bool.false_eq_true, if_false]
      rfl
    · simp only [State.startGet, hkey, Bool.false_eq_true, if_false]
      rfl
    · simp only [State.startRecv, hkey, Option.isNone_eq_false_iff.mpr hdom, Bool.false_eq_true, if_false]
      rfl
    · simp [State.startRecv, hkey, hdom]
    · simp [State.startAtomic, hloc]
    · simp only [State.startCollChain, hnone]
      rfl
    · simp only [State.startProbe, Option.isNone_eq_false_iff.mpr hdom, Bool.false_eq_true, if_false]
      rfl
    · simp only [State.startCancel, Option.isNone_eq_false_iff.mpr hdom, Bool.false_eq_true, if_false]
      rfl
    · simp [State.startLedgerAdd, hok]
    · simp [State.startLedgerSet, hok]
    · simp [State.startLedgerRead, hok, hg]

end Sys2Proof.Machine
end

section
/-! PROOFS. Notices, congestion scores and salts, and waiting work that goes on (R93, R105, R111, R206, R284, R421). -/
namespace Sys2Proof.Machine

/-- A time that has come is reached at once. -/
theorem State.reach_of_le {s : State} {due : Nat} (h : due ≤ s.clk.now) : s.reach due = s := by
  have hnone : due - s.clk.now = 0 := Nat.sub_eq_zero_of_le h
  simp [State.reach, hnone, State.passTime, Clock.untilTicks]

/-! ### Congestion scores (R93) -/

theorem Tbl.getD_decay {t : Tbl Nat} (hkeys : (t.map (·.1)).Nodup) (j : Nat) :
    Tbl.getD ((Tbl.map (fun _ n => n - 1) t).filter fun e => e.2 ≠ 0) j 0 = Tbl.getD t j 0 - 1 := by
  induction t with
  | nil => rfl
  | cons e t ih =>
    obtain ⟨k, n⟩ := e
    obtain ⟨hnew, hkeys⟩ := List.nodup_cons.mp hkeys
    have hrest := ih hkeys
    simp only [Tbl.getD, Tbl.map] at hrest ⊢
    by_cases hkj : k = j
    · subst hkj
      have habsent : Tbl.get? t k = none := by
        rcases hget : Tbl.get? t k with _ | v
        · rfl
        · exact absurd (List.mem_map.mpr ⟨_, Tbl.mem_of_get? hget, rfl⟩) hnew
      by_cases hzero : n - 1 = 0
      · simpa [hzero, Tbl.get?, habsent] using hrest
      · simp [hzero, Tbl.get?]
    · by_cases hzero : n - 1 = 0
      · simpa [hzero, Tbl.get?, hkj] using hrest
      · simpa [hzero, Tbl.get?, hkj] using hrest

/-- Every score of a tile goes down by one, and one at 0 goes. -/
def Tile.decay (t : Tile) : Tile := { t with cong := (Tbl.map (fun _ n => n - 1) t.cong).filter fun e => e.2 ≠ 0 }

/-- The scores of all tiles go down, and the next time is counted from now. -/
def State.decayed (s : State) : State :=
  { s with route := { s.route with decayAt := s.clk.now }, tiles := Tbl.map (fun _ t => t.decay) s.tiles }

theorem State.decayed_tile (s : State) (i : Nat) : s.decayed.tile i = (s.tile i).decay := by
  simp only [State.tile, State.decayed, Tbl.getD, Tbl.get?_map]
  cases Tbl.get? s.tiles i <;> rfl

/-! ### Salts (R111, R421) -/

/-- A tile draws its salt. -/
def State.drawSalt (s : State) (t : Nat) : State :=
  let f := s.fresh 32
  f.2.modTile t fun x => { x with salt := BitVec.ofNat 32 f.1 }

theorem State.drawSalt_tile (s : State) (t i : Nat) :
    (s.drawSalt t).tile i = { s.tile i with salt := ((s.drawSalt t).tile i).salt } := by
  have hset : (s.drawSalt t).tile i = if i = t then ((s.drawSalt t).tile t) else s.tile i := by
    by_cases hi : i = t
    · rw [if_pos hi, hi]
    · rw [if_neg hi]
      simp [State.drawSalt, State.fresh, State.modTile, State.tile, Tbl.getD_set, hi]
  by_cases hi : i = t
  · subst hi
    simp [State.drawSalt, State.fresh, State.modTile, State.tile]
  · rw [hset, if_neg hi]

theorem State.drawSalts (l : List Nat) (s : State) : ∃ u, l.foldl State.drawSalt s = u
    ∧ u = { s with free := s.free + l.length, tiles := u.tiles } ∧ ∀ i, u.tile i = { s.tile i with salt := (u.tile i).salt } := by
  induction l generalizing s with
  | nil => exact ⟨s, rfl, rfl, fun _ => rfl⟩
  | cons t l ih =>
    obtain ⟨u, hfold, hu, htiles⟩ := ih (s.drawSalt t)
    refine ⟨u, hfold, hu.trans ?_, fun i => ?_⟩
    · simp only [State.drawSalt, State.fresh, State.modTile, State.setTile, List.length_cons, Nat.add_assoc, Nat.add_comm 1]
    · rw [htiles i, s.drawSalt_tile t i]

/-- Settles O46: each row does what its definition says where its work waits. -/
theorem waitingWorkGoesOn : Obligations.WaitingWorkGoesOn := by
  unfold Obligations.WaitingWorkGoesOn
  refine ⟨fun t k s v => ⟨fun htake hkind => ?_, fun htake hkind => ?_, fun hdue hkeys => ?_, fun hworks hrng hdue => ?_, fun hrng => ?_⟩,
    fun t qpn n c slot k rest q x i at_ s hworks => ⟨fun hmiss => ?_, fun hq hspilled hfetching => ?_, ?_, fun ha2 => ?_, fun hx hinst hat => ?_,
      fun hx hinsts hstarted htimeout => ?_⟩⟩
  · have hexec : exec (.pathFaultReceive t) s = execPathFaultReceive t s := rfl
    rw [Gives, hexec]
    simp only [execPathFaultReceive, htake, hkind, ne_eq, not_true_eq_false, if_false]
    rfl
  · have hexec : exec (.pathFaultReceive t) s = execPathFaultReceive t s := rfl
    rw [Gives, hexec]
    simp only [execPathFaultReceive, htake, hkind, ne_eq, not_false_eq_true, if_true]
    rfl
  · have hexec : exec .congDecay s = execCongDecay s := rfl
    refine ⟨s.decayed, ?_, rfl, fun i => ?_, fun i j => ?_⟩
    · rw [Gives, hexec, execCongDecay, State.reach_of_le hdue]
      rfl
    · rw [s.decayed_tile i]
      rfl
    · rw [s.decayed_tile i]
      exact Tbl.getD_decay (hkeys i) j
  · obtain ⟨u, hfold, hu, htiles⟩ := State.drawSalts (List.range 64) (s.modSec fun x => { x with saltAt := s.clk.now })
    have hexec : exec .saltRedraw s = execSaltRedraw s := rfl
    refine ⟨u, ?_, hu, htiles⟩
    rw [Gives, hexec]
    simp only [execSaltRedraw, hworks, hrng, Bool.and_self, if_true, State.reach_of_le hdue]
    exact congrArg State.done hfold
  · have hexec : exec .saltRedraw s = execSaltRedraw s := rfl
    rw [hexec]
    simp only [execSaltRedraw, hrng, Bool.and_false, Bool.false_eq_true, if_false]
  · have hexec : exec (.contextFetchDone t) s = execContextFetchDone t s := rfl
    rw [Gives, hexec]
    simp only [execContextFetchDone, hmiss, hworks, if_true]
    rfl
  · have hexec : exec (.spilledContextFetchDone qpn) s = execSpilledContextFetchDone qpn s := rfl
    rw [Gives, hexec]
    simp only [execSpilledContextFetchDone, hq, hspilled, hfetching, hworks, Bool.not_true, Bool.or_self, Bool.false_eq_true, if_false]
    rfl
  · exact if_pos hworks
  · exact if_pos (by simp [hworks, ha2])
  · have hexec : exec (.barrierRelease n) s = execBarrierRelease n s := rfl
    rw [Gives, hexec]
    simp only [execBarrierRelease, hx, hinst, hat, hworks, if_true]
    rfl
  · have hexec : exec (.collTimeout n) s = execCollTimeout n s := rfl
    rw [Gives, hexec]
    simp only [execCollTimeout, hx, hinsts, hstarted, List.filter_cons, List.filter_nil, if_true, List.map_cons, List.map_nil]
    exact if_neg (by simp [htimeout, hworks])

end Sys2Proof.Machine
end

section
/-! PROOFS. Rows of arriving packets, ACKs and NAKs (R182, R191, R201, R202, R204). -/
namespace Sys2Proof.Machine

/-! ### The next packet of a tile -/

section Row
variable {s v : State} {t : Nat} {k : Packet} (hworks : s.works = true) (hruns : s.faults.stopped = false) (hnext : s.nextPacket t = some (k, v))
include hworks hruns hnext

theorem State.packetRow_of_op {op : Nat} (hop : k.trans.opcode.toNat = op) : s.packetRow t op = (v.takePacket t k).getD s := by
  simp [State.packetRow, hworks, hruns, hnext, hop]

theorem State.packetRow_of_ne {op : Nat} (hop : k.trans.opcode.toNat ≠ op) : s.packetRow t op = s := by
  simp [State.packetRow, hworks, hruns, hnext, hop]

end Row

/-! ### A channel changed in place -/

theorem State.chan_modChan {s : State} {qpn slot : Nat} {q : Qp} (f : Chan → Chan) (hq : s.qp? qpn = some q) (hslot : slot < q.chans.length) :
    (s.modChan qpn slot f).chan qpn slot = f (q.chan slot) := by
  have hput : (put q.chans slot (f (q.chan slot))).getD slot Chan.reset = f (q.chan slot) := getD_put_self _ _ hslot
  have hqp : (s.modChan qpn slot f).qp? qpn = some { q with chans := put q.chans slot (f (q.chan slot)) } := by
    simp only [State.modChan, State.modQp, hq]
    exact Tbl.get?_set_self _ _ _
  simp only [State.chan, hqp]
  exact hput

/-! ### ACKs (R191) -/

/-- What an ACK makes of its channel. -/
def Chan.ackedBy (a : Ans) (c : Chan) : Chan :=
  let cum := nearest 24 c.sndCum (bits (a.w 0) 63 40)
  let c := if c.sndCum < cum ∧ cum ≤ c.sndNext then { c with sndCum := cum } else c
  let asn := nearest 24 c.asnRx a.th.psn.toNat
  (({ c with asnRx := max c.asnRx asn } : Chan).ackTracks cum (a.w 1)).freeTracks

theorem Chan.ackedBy_sndNext (a : Ans) (c : Chan) : (c.ackedBy a).sndNext = c.sndNext := by
  unfold Chan.ackedBy
  extract_lets cum d asn
  change d.sndNext = c.sndNext
  unfold d
  split <;> rfl

theorem Chan.ackedBy_sndCum (a : Ans) (c : Chan) :
    (c.ackedBy a).sndCum = if c.sndCum < nearest 24 c.sndCum (bits (a.w 0) 63 40) ∧ nearest 24 c.sndCum (bits (a.w 0) 63 40) ≤ c.sndNext
      then nearest 24 c.sndCum (bits (a.w 0) 63 40) else c.sndCum := by
  unfold Chan.ackedBy
  extract_lets cum d asn
  change d.sndCum = _
  unfold d
  split <;> rfl

theorem State.feedCong_qps (s : State) (t g mask : Nat) : (s.feedCong t g mask).qps = s.qps := by
  unfold State.feedCong
  split
  · rfl
  · exact foldl_keeps (fun u : State => u.qps = s.qps) _ (by exact fun u i hu => hu) _ s rfl

theorem State.chan_ackIn {a : Ans} {q : Qp} {s : State} (hq : s.qp? a.qpn = some q) (hslot : a.slot < q.chans.length) :
    (s.ackIn a).chan a.qpn a.slot = (q.chan a.slot).ackedBy a := by
  unfold State.ackIn
  extract_lets w0 w1 u
  refine Eq.trans ?_ (State.chan_modChan (Chan.ackedBy a) hq hslot)
  split
  · rfl
  · simp only [State.chan, State.qp?, State.feedCong_qps]
    rfl

/-! ### NAKs (R201, R202) -/

theorem nak_reasons : nCtxRetry ≠ nSeq ∧ nResource ≠ nSeq ∧ nAccess ≠ nSeq ∧ nHostGone ≠ nSeq ∧ nAccess ≠ nCtxRetry ∧ nAccess ≠ nResource
    ∧ nHostGone ≠ nCtxRetry ∧ nHostGone ≠ nResource ∧ nAccess ≠ nHostGone := by decide

/-- The channel's newest answer number after a NAK, which is counted. -/
def State.nakCounted (s : State) (a : Ans) : State :=
  (s.count 0x0505 (a.qpn % 64) qAny 1).modChan a.qpn a.slot fun c => { c with asnRx := max c.asnRx (nearest 24 c.asnRx a.th.psn.toNat) }

/-- The packet that a NAK names. -/
def State.nakPsn (s : State) (a : Ans) : Nat := nearest 24 ((s.nakCounted a).chan a.qpn a.slot).sndCum (bits (a.w 0) 63 40)

theorem State.nakIn_eq (s : State) (a : Ans) : s.nakIn a =
    if bits (a.w 0) 39 32 = nSeq then
      if s.nakPsn a = ((s.nakCounted a).chan a.qpn a.slot).sndCum ∧ ((s.nakCounted a).chan a.qpn a.slot).ordered = true
        then (s.nakCounted a).goBack a.qpn a.slot else s.nakCounted a
    else if bits (a.w 0) 39 32 = nCtxRetry ∨ bits (a.w 0) 39 32 = nResource then
      (s.nakCounted a).modChan a.qpn a.slot fun c =>
        c.backOff (s.nakPsn a) (decide (bits (a.w 0) 39 32 = nCtxRetry)) ((s.nakCounted a).clk.now + bits (a.w 0) 23 8 * usTicks)
    else (s.nakCounted a).failQp a.qpn a.slot (some (s.nakPsn a)) (nakCode (bits (a.w 0) 39 32) (bits (a.w 0) 31 24)) := rfl

/-- Settles O47: each row takes its tile's next packet, an ACK moves SND_CUM within the window, and a NAK does what its reason says. -/
theorem packetRowsAndAnswers : Obligations.PacketRowsAndAnswers := by
  unfold Obligations.PacketRowsAndAnswers
  refine ⟨fun t k q s v hworks hruns hnext => ?_, fun a q s hq => ?_⟩
  · intro qpn row
    have hrow {i : Instr} {op : Nat} (hexec : exec i s = (s.packetRow t op).done) : row i op := by
      refine ⟨fun hop => ⟨fun u htaken => ?_, fun hnone => ?_⟩, fun hop => ?_⟩ <;> refine hexec.trans (congrArg State.done ?_)
      · rw [State.packetRow_of_op hworks hruns hnext hop, htaken, Option.getD_some]
      · rw [State.packetRow_of_op hworks hruns hnext hop, hnone, Option.getD_none]
      · exact State.packetRow_of_ne hworks hruns hnext hop
    refine ⟨hrow rfl, hrow rfl, hrow rfl, hrow rfl, hrow rfl, hrow rfl, hrow rfl, hrow rfl, fun hnone => ?_, fun hsome hcached => ?_,
      fun hsome hpin hcached => ⟨fun hroom => ?_, fun hfull => ?_⟩⟩
    · simp only [State.takePacket, show v.wake.qp? k.trans.dstQpn.toNat = none from hnone]
    · simp only [State.takePacket, show v.wake.qp? k.trans.dstQpn.toNat = some q from hsome]
      exact if_pos (by simpa using hcached)
    · simp only [State.takePacket, show v.wake.qp? k.trans.dstQpn.toNat = some q from hsome]
      refine (if_neg ?_).trans (if_pos hroom)
      rw [hpin, show (v.wake.tile t).cached.contains k.trans.dstQpn.toNat = false from hcached]
      exact Bool.false_ne_true
    · simp only [State.takePacket, show v.wake.qp? k.trans.dstQpn.toNat = some q from hsome]
      refine (if_neg ?_).trans (if_neg (Nat.not_lt.mpr hfull))
      rw [hpin, show (v.wake.tile t).cached.contains k.trans.dstQpn.toNat = false from hcached]
      exact Bool.false_ne_true
  · intro c d reason v psn
    refine ⟨fun hslot => ?_, fun hreason hpsn hordered => ?_, fun hreason hordered => ?_, fun hreason => ?_, fun hreason => ?_, fun hreason => ?_⟩
    · have hd : d = c.ackedBy a := State.chan_ackIn hq hslot
      rw [hd, c.ackedBy_sndNext, c.ackedBy_sndCum]
      refine ⟨?_, fun hle => ?_, rfl⟩ <;> split <;> omega
    all_goals rw [s.nakIn_eq a]; obtain ⟨hctx, hres, hacc, hgone, haccCtx, haccRes, hgoneCtx, hgoneRes, haccGone⟩ := nak_reasons
    · exact (if_pos hreason).trans (if_pos ⟨hpsn, hordered⟩)
    · exact (if_pos hreason).trans (if_neg fun h => absurd (hordered.symm.trans h.2) (by decide))
    · have hother : reason ≠ nSeq := hreason.elim (fun h => h ▸ hctx) fun h => h ▸ hres
      exact (if_neg hother).trans (if_pos hreason)
    · have hother : reason ≠ nSeq := hreason ▸ hacc
      have hnoRetry : ¬ (reason = nCtxRetry ∨ reason = nResource) := hreason ▸ not_or.mpr ⟨haccCtx, haccRes⟩
      refine (if_neg hother).trans ((if_neg hnoRetry).trans ?_)
      rw [show bits (a.w 0) 39 32 = nAccess from hreason, nakCode, if_neg haccGone]
      rfl
    · have hother : reason ≠ nSeq := hreason ▸ hgone
      have hnoRetry : ¬ (reason = nCtxRetry ∨ reason = nResource) := hreason ▸ not_or.mpr ⟨hgoneCtx, hgoneRes⟩
      refine (if_neg hother).trans ((if_neg hnoRetry).trans ?_)
      rw [show bits (a.w 0) 39 32 = nHostGone from hreason, nakCode, if_pos rfl]
      rfl

end Sys2Proof.Machine
end

section
/-! PROOFS. Sequence classes, requests at their target, and access checks (R179, R182 to R186, R194, R209). -/
namespace Sys2Proof.Machine

/-! ### Sequence classes (R179) -/

/-- How far a number lies behind another, modulo 2^24. -/
theorem exists_ahead_iff (a b w : Nat) (hw : w ≤ 2 ^ 24) :
    (∃ d, d < w ∧ (a + d) % 2 ^ 24 = b % 2 ^ 24) ↔ (psnBits b + 2 ^ 24 - psnBits a) % 2 ^ 24 < w := by
  unfold psnBits
  refine ⟨fun ⟨d, hd, hsum⟩ => by omega, fun h => ⟨(b % 2 ^ 24 + 2 ^ 24 - a % 2 ^ 24) % 2 ^ 24, h, by omega⟩⟩

theorem seqClass_inWindow {base psn w : Nat} (hw : w ≤ 2 ^ 14) :
    seqClass base psn w = .inWindow ↔ ∃ d, d < w ∧ (base + d) % 2 ^ 24 = psn % 2 ^ 24 := by
  rw [exists_ahead_iff base psn w (by omega), seqClass]
  split_ifs <;> simp_all

theorem seqClass_recent {base psn w : Nat} (hpos : 1 ≤ w) (hw : w ≤ 2 ^ 14) :
    seqClass base psn w = .recent ↔ ∃ d, 1 ≤ d ∧ d ≤ w ∧ (psn + d) % 2 ^ 24 = base % 2 ^ 24 := by
  unfold seqClass psnBits
  extract_lets ahead behind
  have hsum : ahead = 0 ∧ behind = 0 ∨ ahead + behind = 2 ^ 24 := by omega
  constructor
  · intro h
    split_ifs at h with hahead hbehind
    exact ⟨behind, by omega, hbehind, by omega⟩
  · rintro ⟨d, hd, hle, hmod⟩
    have hd : behind = d := by omega
    rw [if_neg (by omega), if_pos (by omega)]

theorem seqClass_self {base w : Nat} (hpos : 1 ≤ w) : seqClass base base w = .inWindow := by
  have hzero : (psnBits base + 2 ^ 24 - psnBits base) % 2 ^ 24 = 0 := by
    unfold psnBits
    omega
  rw [seqClass, if_pos (by omega)]

/-! ### Requests at their target (R182 to R186) -/

/-- A request that has been placed already: what it does again (R184, R194). -/
def State.duplicate (s : State) (q : Qp) (r : Req) (x : ReqSlot) : State :=
  let t := r.qpn % 64
  if (q.chan r.slot).tc = 0 && r.th.retry.toNat == x.retry && x.hdr.copy != r.k.hdr.copy then (s.tpCount t 4).ackEvent r.qpn r.slot
  else if r.th.opcode.toNat = tGet ∨ r.th.opcode.toNat = tAtomic then (s.redo r x).ackEvent r.qpn r.slot
  else ((s.tpCount t 3).count 0x0502 t qAny 1).ackEvent r.qpn r.slot

/-- `State.sequence` as a function of its own: the kernel compares it with its definition before any argument tempts it to evaluate the class. -/
theorem State.sequence_fun : ∃ f, State.sequence = f := ⟨_, rfl⟩

section Sequence
variable {s : State} {q : Qp} {r : Req} {plain : List Byte}

theorem State.sequence_stale (h : seqClass (q.chan r.slot).rcvBase r.psn (2 ^ q.winLog2) = .stale) :
    s.sequence q r (some plain) = (s.tpCount (r.qpn % 64) 5).ackEvent r.qpn r.slot := by
  obtain ⟨f, hf⟩ := State.sequence_fun
  rw [hf]
  delta State.sequence at hf
  subst hf
  simp only [h]

theorem State.sequence_recent (h : seqClass (q.chan r.slot).rcvBase r.psn (2 ^ q.winLog2) = .recent)
    (hslot : Tbl.get? (q.chan r.slot).slots r.psn = none) :
    s.sequence q r (some plain) = ((s.tpCount (r.qpn % 64) 3).count 0x0502 (r.qpn % 64) qAny 1).ackEvent r.qpn r.slot := by
  obtain ⟨f, hf⟩ := State.sequence_fun
  rw [hf]
  delta State.sequence at hf
  subst hf
  simp only [h, hslot]

theorem State.sequence_placed {x : ReqSlot} (h : seqClass (q.chan r.slot).rcvBase r.psn (2 ^ q.winLog2) ≠ .stale)
    (hslot : Tbl.get? (q.chan r.slot).slots r.psn = some x) (hplaced : x.placed = true) :
    s.sequence q r (some plain) = s.duplicate q r x := by
  obtain ⟨f, hf⟩ := State.sequence_fun
  rw [hf]
  delta State.sequence at hf
  subst hf
  cases hcls : seqClass (q.chan r.slot).rcvBase r.psn (2 ^ q.winLog2) with
  | stale => exact absurd hcls h
  | recent =>
    simp only [hcls, hslot, hplaced, if_true]
    rfl
  | inWindow =>
    simp only [hcls, hslot]
    rfl

theorem State.sequence_gap (h : seqClass (q.chan r.slot).rcvBase r.psn (2 ^ q.winLog2) = .inWindow)
    (hslot : Tbl.get? (q.chan r.slot).slots r.psn = none) (hordered : (q.chan r.slot).ordered = true) (hpsn : r.psn ≠ (q.chan r.slot).rcvBase)
    (hnak : (q.chan r.slot).nakBase = none) :
    s.sequence q r (some plain) = (s.modChan r.qpn r.slot fun c => { c with nakBase := some (c.rcvBase, s.clk.now) }).nak r.qpn r.slot
      (q.chan r.slot).rcvBase nSeq 0 0 := by
  obtain ⟨f, hf⟩ := State.sequence_fun
  rw [hf]
  delta State.sequence at hf
  subst hf
  simp only [h, hslot, hordered, hpsn, hnak, ne_eq, not_false_eq_true, decide_true, Bool.and_self, if_true, Bool.false_eq_true, if_false]

theorem State.sequence_put (h : seqClass (q.chan r.slot).rcvBase r.psn (2 ^ q.winLog2) = .inWindow)
    (hslot : Tbl.get? (q.chan r.slot).slots r.psn = none) (hturn : (q.chan r.slot).ordered = false ∨ r.psn = (q.chan r.slot).rcvBase)
    (hopen : q.prot = false) (hprot : r.th.prot = 0) (hput : r.th.opcode.toNat = 0) :
    s.sequence q r (some plain) = s.acceptPut q { r with payload := plain } := by
  have hgo : ((q.chan r.slot).ordered && decide (r.psn ≠ (q.chan r.slot).rcvBase)) = false := by
    rcases hturn with h | h <;> simp [h]
  obtain ⟨f, hf⟩ := State.sequence_fun
  rw [hf]
  delta State.sequence at hf
  subst hf
  simp only [h, hslot, hgo, hopen, hprot, hput]
  rfl

end Sequence

/-! ### Access checks (R183) -/

/-- What the checks of a key, a job and a range leave of a request's access. -/
theorem State.accessOf_ok {s : State} {q : Qp} {r : Req} {a : Region} (h : s.accessOf q r = .ok a) :
    s.keyRegion (r.w 0 / 2 ^ 32) = some a ∧ a.job = q.job ∧ a.prot = q.prot
      ∧ (a.kind ≠ .cuWindow → r.w 1 % 2 ^ 48 + (if r.th.opcode.toNat = 0 then r.payload.length
          else if r.th.opcode.toNat = 2 then r.w 0 % 2 ^ 32 else 8) ≤ a.size) := by
  unfold State.accessOf at h
  extract_lets op off n perm at h
  split at h
  · exact nomatch h
  · next g hkey =>
    split_ifs at h with hjob hbounds hperm hprot <;> cases h <;>
    exact ⟨hkey, not_not.mp hjob, not_not.mp hprot, fun hkind => Nat.le_of_not_lt fun hlt => hbounds ⟨hkind, hlt⟩⟩

/-- Settles O48: a class fixes what a request does, and the checks of R183 come in their order. -/
theorem requestsAtTheTarget : Obligations.RequestsAtTheTarget := by
  unfold Obligations.RequestsAtTheTarget
  refine ⟨fun base psn w hpos hw => ⟨seqClass_inWindow hw, seqClass_recent hpos hw, seqClass_self hpos⟩,
    fun q r x g cause plain s => ?_, fun q r g s => ?_⟩
  · intro t c cls again new twin
    have dup : ¬ twin → (c.tc = 0 && r.th.retry.toNat == x.retry && x.hdr.copy != r.k.hdr.copy) = false := fun h => by
      simpa [twin] using h
    refine ⟨State.sequence_stale, State.sequence_recent, fun hcls hslot hplaced htwin hop => ?_, fun hcls hslot hplaced htwin => ?_,
      fun hcls hslot hplaced htwin hop => ?_, State.sequence_gap, fun hnew hop herr => ?_, fun hnew hop hok hkind hdata => ?_⟩
    · refine (State.sequence_placed hcls hslot hplaced).trans ((if_neg (Bool.not_eq_true _ ▸ dup htwin)).trans (if_neg ?_))
      simp only [tGet, tAtomic]
      omega
    · refine (State.sequence_placed hcls hslot hplaced).trans (if_pos ?_)
      simpa [twin, and_assoc] using htwin
    · exact (State.sequence_placed hcls hslot hplaced).trans ((if_neg (Bool.not_eq_true _ ▸ dup htwin)).trans (if_pos hop))
    · obtain ⟨hcls, hslot, hturn, hopen, hprot⟩ := hnew
      rw [State.sequence_put hcls hslot hturn hopen hprot hop]
      simp only [State.acceptPut, herr]
    · obtain ⟨hcls, hslot, hturn, hopen, hprot⟩ := hnew
      rw [State.sequence_put hcls hslot hturn hopen hprot hop]
      simp only [State.acceptPut, hok, hkind, State.mustPause, List.isEmpty_eq_false_iff.mpr hdata]
      rfl
  · intro op off n key
    refine ⟨fun hkey => ?_, fun hkey hjob => ?_, fun hkey hjob hkind hsize => ?_, fun hkey hjob hsize hperm => ?_,
      fun hkey hjob hsize hperm hprot hnotify hop halign => ?_, fun a => State.accessOf_ok⟩
    · simp only [State.accessOf, show s.keyRegion (r.w 0 / 2 ^ 32) = none from hkey]
    all_goals
      unfold State.accessOf
      extract_lets n' perm aop
      simp only [show s.keyRegion (r.w 0 / 2 ^ 32) = some g from hkey]
    · exact if_pos hjob
    · exact (if_neg (not_not.mpr hjob)).trans (if_pos ⟨hkind, hsize⟩)
    · refine (if_neg (not_not.mpr hjob)).trans ((if_neg fun h => Nat.not_lt.mpr hsize h.2).trans (if_pos ?_))
      exact Bool.not_eq_true' _ ▸ hperm
    · have hgranted : bit g.perm perm = true := by simpa [perm, hop, tPut, tGet] using hperm
      have hsilent : s.notifyOk q r.th = true := by simp [State.notifyOk, hnotify]
      refine (if_neg (not_not.mpr hjob)).trans ((if_neg fun h => Nat.not_lt.mpr hsize h.2).trans ?_)
      simp only [hgranted, hprot, hsilent, hop, tAtomic, if_true, Bool.not_true, Bool.false_eq_true, if_false, ne_eq, not_true_eq_false]
      exact if_pos halign

end Sys2Proof.Machine
end

section
/-! PROOFS. Timers of a channel, retransmission, quarantine and holds (R168, R169, R190, R197 to R203, R299). -/
namespace Sys2Proof.Machine

/-- The context of a QP leaves every tile's cache. -/
def Tile.evict (qpn : Nat) (t : Tile) : Tile := { t with cached := t.cached.filter (· ≠ qpn) }

theorem tile_map {f : Tile → Tile} (hf : f Tile.reset = Tile.reset) (t : Tbl Tile) (i : Nat) :
    Tbl.getD (Tbl.map (fun _ => f) t) i Tile.reset = f (Tbl.getD t i Tile.reset) := by
  simp only [Tbl.getD, Tbl.get?_map]
  cases Tbl.get? t i with
  | none => exact hf.symm
  | some x => rfl

theorem State.rto_le_succ (s : State) (q : Qp) (k : Nat) : s.rto q k ≤ s.rto q (k + 1) := by
  have hpow : 2 ^ k ≤ 2 ^ (k + 1) := Nat.pow_le_pow_right (by decide) (Nat.le_succ k)
  exact min_le_min_right _ (Nat.mul_le_mul_right _ (Nat.mul_le_mul_left _ hpow))

theorem State.quarTicks_eq (s : State) : s.quarTicks = s.time.lt * 16384 + 3 * usTicks := by
  simp only [State.quarTicks, State.ltTicks, Nat.mul_assoc]

/-- The retransmission of a packet that an earlier transmission lost, by its tracker. -/
theorem execLinkLost_tracked {tile : Fin 64} {p : Packet} {rest : List Packet} {q : Qp} {i : Nat} {k : Track} {s lost : State}
    (hlost : lost = (s.modTile tile fun x => { x with lost := rest }).tpCount tile 9) (hp : (s.tile tile).lost = p :: rest)
    (hq : lost.qp? p.trans.srcQpn.toNat = some q) (hslot : q.slotOf p.tc = some i)
    (htrack : lost.tracker p.trans.srcQpn.toNat i p.trans.psn.toNat = some k) :
    exec (.linkLost tile) s = if p.tc = 0 ∨ p.trans.gen.toNat ≠ q.gen ∨ k.acked = true ∨ lost.mayInject = false then lost.done
      else (lost.resendOr p.trans.srcQpn.toNat i k).done := by
  subst hlost
  have hexec : exec (.linkLost tile) s = execLinkLost tile s := rfl
  rw [hexec]
  simp only [execLinkLost, hp, hq, hslot, htrack]

/-- Settles O49: each timer's row reaches its time and acts; the back-off doubles up to the lifetime; quarantine and holds end after LT + 3 µs. -/
theorem transportTimers : Obligations.TransportTimers := by
  unfold Obligations.TransportTimers
  refine ⟨fun qpn psn t slot tile q k p rest i s hq => ?_, fun q k s => ⟨?_, s.rto_le_succ q k⟩, fun qpn i t q g s => ?_⟩
  · intro lost
    refine ⟨fun hfrom hst hworks => ?_, fun htrack hinject => ⟨?_, fun hback => ?_⟩, fun htrack hworks => ?_, ?_,
      fun hp hqpn hslot htrack htc hgen hacked hinject hlost => ?_, fun hp hqpn hslot hlost htrack htc => ?_⟩
    · have hexec : exec (.ackDelayTimer qpn slot) s = execAckDelayTimer qpn slot s := rfl
      rw [Gives, hexec]
      simp only [execAckDelayTimer, hq, hfrom, hst, hworks, and_self, if_true]
      rfl
    · have hexec : exec (.rtoExpiry qpn slot psn) s = execRtoExpiry qpn slot psn s := rfl
      rw [Gives, hexec]
      simp only [execRtoExpiry, hq, htrack, hinject, if_true]
      rfl
    · have hexec : exec (.nakBackoffExpiry qpn slot psn) s = execNakBackoffExpiry qpn slot psn s := rfl
      rw [Gives, hexec]
      simp only [execNakBackoffExpiry, htrack, hback, hinject, if_true]
      rfl
    · have hexec : exec (.lifeLimitExpiry qpn slot psn) s = execLifeLimitExpiry qpn slot psn s := rfl
      rw [Gives, hexec]
      simp only [execLifeLimitExpiry, hq, htrack, hworks, if_true]
      rfl
    · simp only [State.resendOr, hq, Qp.mayRetry, decide_eq_true_eq]
    · subst hqpn
      refine (execLinkLost_tracked rfl hp hlost hslot htrack).trans (if_neg ?_)
      simpa [htc, hgen, hacked] using hinject
    · subst hqpn
      obtain ⟨j, hj⟩ := Option.isSome_iff_exists.mp htrack
      exact (execLinkLost_tracked rfl hp hlost hslot hj).trans (if_pos (.inl htc))
  · simp only [State.rto, State.ltTicks, Nat.mul_assoc]
  · intro wait
    have hexec : exec (.quarantineExpiry qpn) s = execQuarantineExpiry qpn s := rfl
    refine ⟨fun hq hst hkeep => ?_, fun hq hst hfree => ?_, fun hq hst => ?_, fun hg hhold => ?_⟩
    · rw [Gives, hexec]
      simp only [execQuarantineExpiry, hq, hst, hkeep, s.quarTicks_eq, ne_eq, not_true_eq_false, if_false, Bool.false_eq_true]
      rfl
    · refine ⟨{ s.reach (q.quarFrom + wait) with qps := Tbl.erase s.qps qpn, gens := Tbl.set s.gens qpn q.gen,
                                                 tiles := Tbl.map (fun _ => Tile.evict qpn) s.tiles }, ?_, rfl, fun i => ?_, ?_, ?_⟩
      · rw [Gives, hexec]
        simp only [execQuarantineExpiry, hq, hst, hfree, s.quarTicks_eq, ne_eq, not_true_eq_false, if_false, if_true, State.reach_qps, State.reach_gens,
          State.reach_tiles]
        rfl
      · exact tile_map rfl s.tiles i
      · exact Tbl.get?_erase_self _ _
      · exact Tbl.getD_set_self _ _ _ _
    · rw [hexec]
      simp only [execQuarantineExpiry, hq, ne_eq, hst, not_false_eq_true, if_true]
    · have hexec : exec (.regionHoldExpiry i) s = execRegionHoldExpiry i s := rfl
      rw [Gives, hexec]
      simp only [execRegionHoldExpiry, hg, hhold, s.quarTicks_eq]
      rfl

end Sys2Proof.Machine
end

section
/-! PROOFS. The status of network time, its references and PPS, and the gates of a port (R30, R31, R39, R40, R152 to R154, R161). -/
namespace Sys2Proof.Machine

/-! ### The reference of a root (R30) -/

theorem State.timeEvent_time (s : State) (e b : Nat) (d : List Byte) :
    (s.timeEvent e b d).time = { s.time with intStatus := (s.timeEvent e b d).time.intStatus } := by
  unfold State.timeEvent
  extract_lets u old new
  have hu : u.time = s.time := s.event_time e 0xFFFF d
  rw [State.notify_time]
  exact congrArg (fun t : TimeState => { t with intStatus := new }) hu

theorem State.refLost_time (s : State) : s.refLost.time = { s.time with refLock := false, intStatus := s.refLost.time.intStatus } := by
  unfold State.refLost
  by_cases hlock : s.time.refLock = true
  · rw [if_pos hlock]
    exact State.timeEvent_time _ _ _ _
  · rw [if_neg hlock, ← Bool.not_eq_true _ |>.mp hlock]

theorem State.refGained_time (s : State) : s.refGained.time = { s.time with refLock := true } := by
  unfold State.refGained
  by_cases hlock : s.time.refLock = true
  · rw [if_pos hlock, ← hlock]
  · rw [if_neg hlock]
    exact State.event_time _ _ _ _

theorem State.refGained_only (s : State) : Only (.time :: reporting) s s.refGained := by
  unfold State.refGained
  exact Only.ite (fun _ => Only.refl _ _) (fun _ => (s.setTime_only _).mono.trans (State.event_only _ _ _ _).mono)

/-- The slew that a PPS edge of a given error calls for, of a free size. -/
def ppsSlew (err : Int) (v : Nat) : Int := if err = 0 then 0 else if 0 < err then -((v % 100001 : Nat) : Int) else ((v % 100001 : Nat) : Int)

theorem ppsSlew_spec (err : Int) (v : Nat) : (ppsSlew err v).natAbs ≤ 100000 ∧ (err = 0 → ppsSlew err v = 0)
    ∧ (0 < err → ppsSlew err v ≤ 0) ∧ (err < 0 → 0 ≤ ppsSlew err v) := by
  unfold ppsSlew
  split_ifs <;> omega

/-- The edge sets the slew and samples the reference clock. -/
def State.ppsSampled (s : State) : State :=
  let v := s.fresh 32
  let present := v.2.fresh 1
  { present.2 with time := { present.2.time with rateAdj := ppsSlew s.ppsError v.1 }, pins := { present.2.pins with tref10m := present.1 == 1 } }

/-- What a PPS edge does at a root that steers by it. -/
def State.ppsEdge (s : State) : State :=
  if s.ppsError.natAbs ≤ 512 ∧ s.ppsSampled.pins.tref10m = true then s.ppsSampled.refGained
  else if s.ppsError.natAbs > 12800 then s.ppsSampled.refLost else s.ppsSampled

theorem execPpsInEdge_root {s : State} (hroot : s.ppsRoot = true) : execPpsInEdge s = s.ppsEdge.done := by
  unfold execPpsInEdge
  rw [if_neg (by simp [hroot])]
  rfl

theorem State.ppsSampled_only (s : State) : Only (.free :: .time :: .pins :: reporting) s s.ppsSampled := fun q => by
  cases q <;> first | exact .inl (by decide) | exact .inr rfl

theorem State.ppsEdge_only (s : State) : Only (.free :: .time :: .pins :: reporting) s s.ppsEdge := by
  have hlost (t : State) : Only (.free :: .time :: .pins :: reporting) t t.refLost := by
    unfold State.refLost
    exact Only.ite (fun _ => (t.setTime_only _).mono.trans (State.timeEvent_only _ _ _ _).mono) (fun _ => Only.refl _ _)
  exact s.ppsSampled_only.trans (Only.ite (fun _ => (State.refGained_only _).mono) (fun _ => Only.ite (fun _ => hlost _) (fun _ => Only.refl _ _)))

theorem State.ppsEdge_pins (s : State) : s.ppsEdge.pins = s.ppsSampled.pins := by
  have hlost (t : State) : t.refLost.pins = t.pins := (t.refLost_only .pins).resolve_left (by decide)
  have hgained (t : State) : t.refGained.pins = t.pins := (t.refGained_only .pins).resolve_left (by decide)
  unfold State.ppsEdge
  split_ifs
  · exact hgained _
  · exact hlost _
  · rfl

theorem State.ppsEdge_rateAdj (s : State) : s.ppsEdge.time.rateAdj = ppsSlew s.ppsError (s.fresh 32).1 := by
  unfold State.ppsEdge
  split_ifs
  · exact congrArg TimeState.rateAdj (State.refGained_time _)
  · exact congrArg TimeState.rateAdj (State.refLost_time _)
  · rfl

/-- REF_LOCK sets within 2 ns while the clock is present, clears past 50 ns, and stays between. -/
theorem State.ppsEdge_refLock (s : State) : s.ppsEdge.time.refLock =
    if s.ppsError.natAbs ≤ 512 ∧ s.ppsSampled.pins.tref10m = true then true
    else if 12800 < s.ppsError.natAbs then false else s.time.refLock := by
  unfold State.ppsEdge
  split_ifs
  · exact congrArg TimeState.refLock (State.refGained_time _)
  · exact congrArg TimeState.refLock (State.refLost_time _)
  · rfl

/-! ### The gates of a port (R152 to R154) -/

theorem State.gateSync_off {s : State} {p : Nat} (h : (s.sched p).gateEn = false ∨ s.time.ntValid = false) :
    ((s.gateSync p).sched p).running = false ∧ ((s.gateSync p).sched p).openMask = 0xFF
      ∧ ((s.gateSync p).sched p).active = (s.sched p).active := by
  unfold State.gateSync
  extract_lets src x nt switch old y run e z
  have hx : x.gateEn = (s.sched p).gateEn ∧ x.active = (s.sched p).active := ⟨rfl, rfl⟩
  have hungated (w : SchedPort) (hw : w.gateEn = (s.sched p).gateEn) : w.gated s.time.ntValid nt = false := by
    rcases h with h | h <;> simp [SchedPort.gated, hw, h]
  have hy : y = x := if_neg (by simp [switch, hungated x hx.1])
  have hz : z = { y with running := false, index := 0, openMask := 0xFF } := if_neg (by simp [run, hy, hungated x hx.1])
  have hsched : ((s.setSched p z).notify old z.intStatus z.intEnable).sched p = z := by
    rw [State.sched, State.notify_scheds]
    exact Tbl.getD_set_self _ _ _ _
  rw [hsched, hz, hy]
  exact ⟨rfl, rfl, rfl⟩

theorem State.gateSync_on {s : State} {p : Nat} (hen : (s.sched p).gateEn = true) (hnt : s.time.ntValid = true)
    (hbase : ((s.sched p).bank (s.sched p).active).base.toNat ≤ s.clk.nt.toNat) (hpend : (s.sched p).pend = false) :
    ((s.gateSync p).sched p).running = true ∧ ((s.gateSync p).sched p).active = (s.sched p).active := by
  unfold State.gateSync
  extract_lets src x nt switch old y run e z
  have hx : x.pend = false := hpend
  have hgated : x.gated s.time.ntValid nt = true := by
    rw [SchedPort.gated, show x.gateEn = true from hen, hnt]
    exact decide_eq_true hbase
  have hy : y = x := if_neg (by simp [switch, hx])
  have hz : z = { y with running := true, index := e.1, openMask := e.2.2 } := if_pos (by simp [run, hy, hgated])
  have hsched : ((s.setSched p z).notify old z.intStatus z.intEnable).sched p = z := by
    rw [State.sched, State.notify_scheds]
    exact Tbl.getD_set_self _ _ _ _
  rw [hsched, hz, hy]
  exact ⟨rfl, rfl⟩

/-- Settles O52: each row of network time reaches its time and acts, and a port's gates follow NT where a list is in force. -/
theorem timeStatusAndGates : Obligations.TimeStatusAndGates := by
  unfold Obligations.TimeStatusAndGates
  refine ⟨fun p q s => ?_, fun p t0 s => ?_⟩
  · intro next t lost
    refine ⟨fun hparent hst hpartner hfind => ⟨_, rfl, ?_⟩, fun hst hroot => ?_, fun hst => ?_, fun hroot => ⟨s.ppsEdge, ?_, s.ppsEdge_only, ?_⟩,
      fun hroot => ⟨fun hlock => ?_, fun hlock => ?_⟩, fun hnt hruns => ?_, fun hout => ?_⟩
    · have hexec : exec .parentStatusWait s = execParentStatusWait s := rfl
      rw [Gives, hexec]
      simp only [execParentStatusWait, hparent, hst, hpartner, or_self, if_false, hfind]
      rfl
    · exact if_neg (by simp [hst, hroot])
    · exact if_pos (.inl hst)
    · exact execPpsInEdge_root hroot
    · obtain ⟨hsize, hzero, hneg, hpos⟩ := ppsSlew_spec s.ppsError (s.fresh 32).1
      rw [s.ppsEdge_rateAdj, s.ppsEdge_refLock, s.ppsEdge_pins]
      refine ⟨hsize, hzero, hneg, hpos, fun hnear => ?_, fun hfar => ?_, fun hlow hhigh => ?_⟩
      · rw [if_neg (Nat.not_lt.mpr (le_trans hnear (by decide : 512 ≤ 12800)))]
        cases s.ppsSampled.pins.tref10m <;> simp [hnear]
      · rw [if_neg (fun h => by omega), if_pos hfar]
      · rw [if_neg (fun h => by omega), if_neg (Nat.not_lt.mpr hhigh)]
    · have hlost : s.refLost = lost.timeEvent 0x0013 4 (timeData lost.time.status lost.time.status lost.time.parent lost.time.parent lost.errBound) :=
        if_pos hlock
      rw [← hlost]
      exact if_pos hroot
    · have hkept : s.refLost = s := if_neg (by simp [hlock])
      exact (if_pos hroot).trans (congrArg State.done hkept)
    · have hexec : exec .ppsOutStart s = execPpsOutStart s := rfl
      rw [Gives, hexec]
      simp only [execPpsOutStart, hnt, hruns, Bool.and_self, if_true]
      exact congrArg (fun x : Pins => State.done { s.reachNt (BitVec.ofNat 64 t) with
        pins := { x with ppsOut := true, ppsOutUntil := BitVec.ofNat 64 (t + 100 * msTicks) } }) (State.reachNt_pins s _)
    · have hexec : exec .ppsOutEnd s = execPpsOutEnd s := rfl
      rw [Gives, hexec]
      simp only [execPpsOutEnd, hout, if_true]
      exact congrArg (fun x : Pins => State.done { s.reachNt s.pins.ppsOutUntil with pins := { x with ppsOut := false } }) (State.reachNt_pins s _)
  · intro x y same
    have hsame : same ↔ ¬ ((x.active, x.index, x.openMask, x.running) ≠ (y.active, y.index, y.openMask, y.running)) := by
      simp only [same, ne_eq, not_not, Prod.mk.injEq]
    have hbound : exec (.boundOkRestore p) s = execBoundOkRestore p s := rfl
    refine ⟨fun hchange => if_pos (not_not.mp (hsame.not.mp hchange)), fun hstill hen hnt => ?_, fun hnone => ?_, fun hsome => ?_,
      State.gateSync_off, State.gateSync_on⟩
    · exact (if_neg (hsame.mp hstill)).trans (if_pos (by simp [show (s.sched p).gateEn = true from hen, hnt]))
    · rw [Gives, hbound]
      simp only [execBoundOkRestore, show (s.sched p).boundBadAt = none from hnone]
      rfl
    · rw [Gives, hbound]
      simp only [execBoundOkRestore, show (s.sched p).boundBadAt = some t0 from hsome]
      have hsched : (s.reach (t0 + msTicks)).sched p = s.sched p := by rw [State.sched, State.reach_scheds, State.sched]
      rw [State.modSched, hsched]
      rfl

end Sys2Proof.Machine
end

section
/-! PROOFS. Cables and the bring-up of a port (R424, R439 to R443, R462, R477, R478). -/
namespace Sys2Proof.Machine

/-! ### A port changed more than once -/

theorem State.setLink_setLink (s : State) (p : Nat) (x y : LinkPort) : (s.setLink p x).setLink p y = s.setLink p y := by
  simp only [State.setLink, Tbl.set_set]

theorem State.setLink_link_self (s : State) (p : Nat) (x : LinkPort) : (s.setLink p x).link p = x := Tbl.getD_set_self _ _ _ _

theorem State.modLink_setLink (s : State) (p : Nat) (x : LinkPort) (f : LinkPort → LinkPort) :
    (s.setLink p x).modLink p f = s.setLink p (f x) := by
  rw [State.modLink, State.setLink_link_self, State.setLink_setLink]

theorem State.modLink_modLink (s : State) (p : Nat) (f g : LinkPort → LinkPort) :
    (s.modLink p f).modLink p g = s.modLink p fun l => g (f l) := s.modLink_setLink p _ g

/-- What time leaves of a port: everything but its counters. -/
theorem State.reach_link (s : State) (due p : Nat) : ∃ c, (s.reach due).link p = { s.link p with ctr := c } := (State.passTime_later s _).link p

/-! ### Entering a state (R424) -/

theorem State.enterPort_detect (s : State) (p : Nat) : s.enterPort p .detect =
    s.setLink p { s.link p with st := .detect, since := s.clk.now, width := 0, train := { LinkTrain.reset with trained := 8 } } := rfl

theorem State.enterPort_slow (s : State) (p : Nat) : s.enterPort p .slow =
    s.setLink p { s.link p with st := .slow, since := s.clk.now, width := 0, train := { LinkTrain.reset with ckLock := (s.link p).train.ckLock } } := rfl

theorem State.trainTimeout_detect (s : State) (p : Nat) : s.trainTimeout p .detect =
    s.setLink p { s.link p with st := .detect, since := s.clk.now, cause := .trainTimeout, width := 0,
                                train := { LinkTrain.reset with trained := 8 } } := by
  rw [State.trainTimeout, State.enterPort, State.modLink_modLink]
  rfl

/-! ### Cables (R462, R477, R478) -/

section Cable
variable {k : Fin 16} {s : State} {mem : List Byte}

theorem connData_eq (k : Fin 16) : connData k = [BitVec.ofNat 8 k.val] := rfl

theorem cableInserted_gives (h : (s.conn k).present = false) : Gives (.cableInserted k) s
    (let v := s.setConn k { Connector.reset with present := true, vcc := s.dieRuns, onAt := s.clk.now }
     if s.dieRuns then v.cableChange k else v) := if_neg (by simp [h])

theorem cableRemoved_gives (h : (s.conn k).present = true) : Gives (.cableRemoved k) s ((State.cableChange
    ((connPorts k).foldl (fun s p => s.declareDown p .cableRemoved) (s.setConn k Connector.reset)) k).event 0x0024 0xFFFF [BitVec.ofNat 8 k.val]) :=
  if_neg (by simp [h])

theorem cablePgAssert_gives (hvcc : (s.conn k).vcc = true) (hpg : (s.conn k).pg = false) : Gives (.cablePgAssert k) s
    ((s.setConn k { s.conn k with pg := true, powerOk := true }).event 0x0023 0xFFFF [BitVec.ofNat 8 k.val]) := if_neg (by simp [hvcc, hpg])

/-- The identification of a cable is read, and fits (R478) or does not. -/
theorem cableIdReadDone_eq (hpg : (s.conn k).pg = true) (hacc : (s.conn k).accepted = false) (hrej : (s.conn k).rejected = false) :
    exec (.cableIdReadDone k mem) s = if (field mem 0 1 = 1 ∨ field mem 0 1 = 2) ∧ field mem 3 1 ≤ 15 then
        (s.setConn k { s.conn k with accepted := true, ctype := field mem 0 1, lengthDm := beNat ((mem.drop 1).take 2) }).done
      else ((s.setConn k { s.conn k with rejected := true, vcc := false, pg := false, powerOk := false }).event 0x0025 0xFFFF
        [BitVec.ofNat 8 k.val]).done := if_neg (by simp [hpg, hacc, hrej])

theorem cablePowerTimeout_gives (hvcc : (s.conn k).vcc = true) (hpg : (s.conn k).pg = false) :
    Gives (.cablePowerTimeout k) s ((s.reach ((s.conn k).onAt + 100 * msTicks)).cablePowerFails k 0) := if_neg (by simp [hvcc, hpg])

theorem cableOvercurrent_gives (hvcc : (s.conn k).vcc = true) : Gives (.cableOvercurrent k) s (s.cablePowerFails k 1) := if_neg (by simp [hvcc])

end Cable

/-! ### DETECT, CLOCK and SLOW (R424, R441, R442) -/

section Detect
variable {p : Fin 64} {s : State}

theorem detectClock_gives (hst : (s.link p).st = .detect) (hready : s.cableReady p = true) :
    Gives (.detectClock p) s ((s.reach ((s.link p).since + 100 * usTicks)).enterPort p .clock) := if_pos ⟨hst, hready⟩

theorem clockLocked_gives (hst : (s.link p).st = .clock) : Gives (.clockLocked p) s
    (let v := s.reach ((s.link p).since + 10 * usTicks)
     v.setLink p { v.link p with st := .slow, since := v.clk.now, width := 0, train := { LinkTrain.reset with ckLock := true } }) :=
  (if_pos hst).trans (congrArg State.done (State.modLink_setLink _ _ _ _))

theorem clockTimeout_gives (hst : (s.link p).st = .clock) : Gives (.clockTimeout p) s (s.trainTimeout p .detect) := if_pos hst

theorem slowTimeout_gives (hst : (s.link p).st = .slow) :
    Gives (.slowTimeout p) s ((s.reach ((s.link p).since + 2 * msTicks)).trainTimeout p .detect) := if_pos hst

end Detect

/-- A training block as its lane carries it: inverted where the lane is. -/
def blockOf (w : BitVec 128) : BitVec 128 := if w.extractLsb' 96 32 == ~~~syncWord then ~~~w else w

/-- The block is good (R442): its sync word, upright or inverted, and its CRC. -/
def blockHeard (w : BitVec 128) : Bool :=
  (w.extractLsb' 96 32 == ~~~syncWord || w.extractLsb' 96 32 == syncWord) && blockGood (blockOf w)

/-- What a lane's block tells. -/
def LinkTrain.heard (t : LinkTrain) (lane : Fin 8) (w : BitVec 128) : LinkTrain :=
  let b := blockOf w
  let t := { t with goodRun := put t.goodRun lane (if blockHeard w then min 8 (t.goodRun.getD lane 0 + 1) else 0) }
  if blockHeard w then
    { t with polarity := if w.extractLsb' 96 32 == ~~~syncWord then t.polarity ||| BitVec.ofNat 8 (2 ^ lane.val)
                         else t.polarity &&& ~~~BitVec.ofNat 8 (2 ^ lane.val),
             partnerAck := if b.getLsbD 87 then t.partnerAck ||| BitVec.ofNat 8 (2 ^ lane.val)
                           else t.partnerAck &&& ~~~BitVec.ofNat 8 (2 ^ lane.val),
             partnerRates := (b.extractLsb' 84 3).toNat + 8, partnerMaxWidth := (b.extractLsb' 80 4).toNat }
  else t

/-- The GO blocks of lane 0 counted each way, once `t` has heard the block. -/
def LinkTrain.goCounted (t : LinkTrain) (lane : Fin 8) (w : BitVec 128) : LinkTrain :=
  let b := blockOf w
  let pp := (b.extractLsb' 88 4).toNat
  if lane.val = 0 then
    { t with goGot := if blockHeard w && pp == 2 && b.getLsbD 87 then min 16 (t.goGot + 1) else 0,
             goSent := if t.phase pp = 2 then min 16 (t.goSent + 1) else 0 }
  else t

/-- Training after a block, and the phase this end then sends. -/
def LinkTrain.afterBlock (t : LinkTrain) (lane : Fin 8) (w : BitVec 128) : LinkTrain := (t.heard lane w).goCounted lane w

theorem LinkTrain.phase_goCounted (t : LinkTrain) (lane : Fin 8) (w : BitVec 128) (n : Nat) : (t.goCounted lane w).phase n = t.phase n := by
  unfold LinkTrain.goCounted
  split <;> rfl

theorem LinkTrain.goCounted_keeps (t : LinkTrain) (lane : Fin 8) (w : BitVec 128) :
    t.goCounted lane w = { t with goGot := (t.goCounted lane w).goGot, goSent := (t.goCounted lane w).goSent } := by
  unfold LinkTrain.goCounted
  split <;> rfl

theorem LinkTrain.goCounted_zero {t : LinkTrain} {lane : Fin 8} {w : BitVec 128} (h : lane.val = 0) :
    (t.goCounted lane w).goSent = (if t.phase ((blockOf w).extractLsb' 88 4).toNat = 2 then min 16 (t.goSent + 1) else 0)
      ∧ (t.goCounted lane w).goGot =
        if blockHeard w && ((blockOf w).extractLsb' 88 4).toNat == 2 && (blockOf w).getLsbD 87 then min 16 (t.goGot + 1) else 0 := by
  unfold LinkTrain.goCounted
  rw [if_pos h]
  exact ⟨rfl, rfl⟩

theorem LinkTrain.goCounted_ne {t : LinkTrain} {lane : Fin 8} {w : BitVec 128} (h : lane.val ≠ 0) : t.goCounted lane w = t := if_neg h

/-- Bit `lane` of a mask that a block sets or clears there. -/
theorem getLsbD_setBit (x : BitVec 8) (lane : Fin 8) (c : Bool) :
    (if c then x ||| BitVec.ofNat 8 (2 ^ lane.val) else x &&& ~~~BitVec.ofNat 8 (2 ^ lane.val)).getLsbD lane = c := by
  have hbit : (BitVec.ofNat 8 (2 ^ lane.val)).getLsbD lane = true := by
    revert lane
    decide
  cases c
  · rw [if_neg Bool.false_ne_true, BitVec.getLsbD_and, BitVec.getLsbD_not, hbit, Bool.not_true, Bool.and_false, Bool.and_false]
  · rw [if_pos rfl, BitVec.getLsbD_or, hbit, Bool.or_true]

theorem LinkTrain.heard_good {t : LinkTrain} {lane : Fin 8} {w : BitVec 128} (h : blockHeard w = true) :
    (t.heard lane w).goodRun = put t.goodRun lane (min 8 (t.goodRun.getD lane 0 + 1))
      ∧ (t.heard lane w).partnerRates = ((blockOf w).extractLsb' 84 3).toNat + 8
      ∧ (t.heard lane w).partnerMaxWidth = ((blockOf w).extractLsb' 80 4).toNat
      ∧ (t.heard lane w).partnerAck.getLsbD lane = (blockOf w).getLsbD 87
      ∧ (t.heard lane w).polarity.getLsbD lane = (w.extractLsb' 96 32 == ~~~syncWord) := by
  unfold LinkTrain.heard
  simp only [h, if_true]
  exact ⟨trivial, trivial, trivial, getLsbD_setBit _ _ _, getLsbD_setBit _ _ _⟩

theorem LinkTrain.heard_bad {t : LinkTrain} {lane : Fin 8} {w : BitVec 128} (h : blockHeard w = false) :
    t.heard lane w = { t with goodRun := put t.goodRun lane 0 } := by
  unfold LinkTrain.heard
  simp only [h, Bool.false_eq_true, if_false]

theorem LinkTrain.heard_go (t : LinkTrain) (lane : Fin 8) (w : BitVec 128) :
    (t.heard lane w).goGot = t.goGot ∧ (t.heard lane w).goSent = t.goSent := by
  unfold LinkTrain.heard
  split <;> exact ⟨rfl, rfl⟩

/-- Training at the rate and width that both ends can. -/
def LinkPort.aimed (r : Nat) (l : LinkPort) : LinkPort :=
  { l with train := { l.train with targetRate := r, targetWidth := l.targetW, eqRate := r, trained := 8, eqSelf := false, eqPartner := false } }

/-- A block in SLOW: it is answered by one sent, and once both ends have had 16 GO blocks the port goes to EQUALIZE. -/
theorem execTsNrzBlock_slow {p : Fin 64} {lane : Fin 8} {w : BitVec 128} {s : State} (hst : (s.link p).st = .slow) :
    exec (.tsNrzBlock p lane w) s =
      let m : LinkPort := { s.link p with train := (s.link p).train.afterBlock lane w }
      let v := (s.setLink p m).emit (.trainBlock p lane (m.block lane (((s.link p).train.heard lane w).phase ((blockOf w).extractLsb' 88 4).toNat)).word)
      match m.targetR with
      | some r =>
        if m.train.goGot ≥ 16 ∧ m.train.goSent ≥ 16 ∧ m.targetW ≠ 0 then
          ((v.enterPort p .equalize).modLink p (LinkPort.aimed r)).done
        else v.done
      | none => v.done := (if_neg (not_not.mpr hst))

theorem State.aimed_equalize (s : State) (p : Nat) (m : LinkPort) (o : Output) (r : Nat) :
    (((s.setLink p m).emit o).enterPort p .equalize).modLink p (LinkPort.aimed r)
      = (s.setLink p { m.aimed r with st := .equalize, since := s.clk.now }).emit o := by
  have hemit (t : State) (f : LinkPort → LinkPort) : (t.emit o).modLink p f = (t.modLink p f).emit o := rfl
  rw [State.enterPort, hemit, State.modLink_setLink, hemit, State.modLink_setLink]
  rfl

/-! ### EQUALIZE to ACTIVE, and DOWN (R424, R439 to R441) -/

section Train
variable {p : Fin 64} {lanes : BitVec 8} {c : List Byte} {w : BitVec 128} {s : State}

/-- The width that a rate leaves. -/
def LinkTrain.passWidth (t : LinkTrain) (lanes : BitVec 8) : Nat := if t.trained = 8 then widthWithin lanes t.targetWidth else t.targetWidth

/-- The rate is stored. -/
def LinkTrain.passed (t : LinkTrain) (lanes : BitVec 8) : LinkTrain :=
  { t with trained := t.trained + 2 ^ t.eqRate, targetRate := if t.trained = 8 then t.eqRate else t.targetRate, targetWidth := t.passWidth lanes,
           laneOk := lanes, eqSelf := false, eqPartner := false }

theorem equalizePass_eq (hst : (s.link p).st = .equalize) (hwidth : (s.link p).train.passWidth lanes ≠ 0)
    (hlanes : ∀ i, i < (s.link p).train.passWidth lanes → lanes.getLsbD i = true) : exec (.equalizePass p lanes) s =
      if (s.link p).train.eqRate < 2 then
        (s.setLink p { s.link p with train := { (s.link p).train.passed lanes with eqRate := (s.link p).train.eqRate + 1 }, since := s.clk.now }).done
      else ((s.setLink p { s.link p with train := (s.link p).train.passed lanes }).enterPort p .align).done := by
  refine (if_neg (not_not.mpr hst)).trans (if_neg ?_)
  have hpass : (decide ((s.link p).train.passWidth lanes ≠ 0) && (List.range ((s.link p).train.passWidth lanes)).all fun i => lanes.getLsbD i) = true := by
    simpa [hwidth] using hlanes
  exact fun hfail => absurd (hpass.symm.trans ((Bool.not_eq_true' _).mp hfail)) (by decide)

theorem equalizeTimeout_eq (hst : (s.link p).st = .equalize) : exec (.equalizeTimeout p) s =
    let v := s.reach ((s.link p).since + 20 * msTicks)
    if (s.link p).train.eqRate < 2 then
      (v.setLink p { v.link p with train := { (s.link p).train with eqRate := (s.link p).train.eqRate + 1 }, since := v.clk.now, cause := .trainTimeout }).done
    else (v.trainTimeout p .detect).done := by
  obtain ⟨n, hlink⟩ := s.reach_link ((s.link p).since + 20 * msTicks) p
  refine (if_neg (not_not.mpr hst)).trans ?_
  simp only [State.modLink, hlink]

theorem alignLock_gives (hst : (s.link p).st = .align) : Gives (.alignLock p) s (s.setLink p
    { s.link p with st := .capx, since := s.clk.now,
                    train := { (s.link p).train with markerLock := BitVec.ofNat 8 (2 ^ (s.link p).train.targetWidth - 1), capSent := false,
                                                     capGot := false, capSeen := false, incompatible := false },
                    cap := { (s.link p).cap with sentAt := [], echo := 0, gotAt := 0, rttKnown := false, rttNs := 0, repeats := 0 } }) :=
  (if_neg (not_not.mpr hst)).trans (congrArg State.done (State.modLink_setLink _ _ _ _))

/-- A port after a CAP has been sent (R440). -/
def State.capped (s : State) (p : Nat) (seen : Bool) : LinkPort :=
  { s.link p with
    tx := { (s.link p).tx with lctl := (s.link p).tx.lctl ++ [.cap (s.capBytes p seen)] },
    cap := { (s.link p).cap with seq := (s.link p).cap.seq + 1, repeats := (s.link p).cap.repeats - 1 },
    train := { (s.link p).train with capSent := (s.link p).train.capSent || seen } }

theorem State.sendCap (s : State) (p : Nat) (seen : Bool) :
    (s.sendLctl p (.cap (s.capBytes p seen))).modLink p (fun l =>
      { l with cap := { l.cap with seq := l.cap.seq + 1, repeats := l.cap.repeats - 1 }, train := { l.train with capSent := l.train.capSent || seen } })
      = s.setLink p (s.capped p seen) := by
  rw [State.sendLctl, State.modLink_modLink]
  rfl

/-- In CAPX a CAP is sent, and the link is up once one with SEEN has gone each way. -/
theorem capSend_capx (hst : (s.link p).st = .capx) (hcomp : (s.link p).train.incompatible = false) : exec (.capSend p) s =
    let v := s.setLink p (s.capped p (s.link p).train.capSeen)
    (if ((s.link p).train.capSent || (s.link p).train.capSeen) = true ∧ (s.link p).train.capGot = true then v.linkUp p else v).done := by
  have hseen : ((s.link p).train.capSeen
      || (decide ((s.link p).st = .active) || decide ((s.link p).st = .doze)) && decide ((s.link p).cap.repeats ≠ 0)) = (s.link p).train.capSeen := by
    simp [hst]
  have hexec : exec (.capSend p) s = execCapSend p s := rfl
  rw [hexec, execCapSend, if_neg (by simp [hst, hcomp])]
  dsimp only
  rw [hseen, State.sendCap, State.setLink_link_self]
  refine congrArg State.done (if_congr ?_ rfl rfl)
  exact ⟨fun h => ⟨h.2.1, h.2.2⟩, fun h => ⟨hst, h.1, h.2⟩⟩

/-- In ACTIVE a CAP repeats a change of identity. -/
theorem capSend_again (hst : (s.link p).st = .active) (hrep : (s.link p).cap.repeats ≠ 0) :
    Gives (.capSend p) s (s.setLink p (s.capped p true)) := by
  have hseen : ((s.link p).train.capSeen
      || (decide ((s.link p).st = .active) || decide ((s.link p).st = .doze)) && decide ((s.link p).cap.repeats ≠ 0)) = true := by
    simp [hst, hrep]
  have hexec : exec (.capSend p) s = execCapSend p s := rfl
  rw [Gives, hexec, execCapSend, if_neg (by simp [hst, hrep])]
  dsimp only
  rw [hseen, State.sendCap, State.setLink_link_self]
  refine congrArg State.done (if_neg fun h => ?_)
  exact absurd (hst.symm.trans h.1) (by decide)

/-- A port after a compatible CAP has come (R439, R440). -/
def State.capHeard (s : State) (p : Nat) (c : List Byte) (ns : Nat) (known : Bool) : LinkPort :=
  { s.link p with
    cap := { (s.link p).cap with partner := fit 64 c, echo := BitVec.ofNat 16 (beNat ((c.drop 50).take 2)), gotAt := s.clk.now, rttNs := ns,
                                 rttKnown := known },
    tx := { (s.link p).tx with partnerRes := (List.range 12).map (fun v => beNat ((c.drop (22 + 2 * v)).take 2)),
                               partnerTotal := beNat ((c.drop 20).take 2) },
    train := { (s.link p).train with capSeen := true, capGot := (s.link p).train.capGot || bit (field c 2 1) 0 } }

/-- The round trip of a capability exchange is the least measured. -/
def LinkCap.measured (cap : LinkCap) (rtt : Option Nat) : LinkCap :=
  match rtt with
  | some r => { cap with rttNs := if cap.rttKnown then min cap.rttNs r else r, rttKnown := true }
  | none => cap

theorem LinkCap.measured_keeps (cap : LinkCap) (rtt : Option Nat) :
    cap.measured rtt = { cap with rttNs := (cap.measured rtt).rttNs, rttKnown := (cap.measured rtt).rttKnown } := by
  cases rtt <;> rfl

theorem LinkCap.measured_least (cap : LinkCap) (rtt : Option Nat) (h : cap.rttKnown = true) :
    (cap.measured rtt).rttKnown = true ∧ (cap.measured rtt).rttNs ≤ cap.rttNs := by
  cases rtt with
  | none => exact ⟨h, Nat.le_refl _⟩
  | some r =>
    refine ⟨rfl, ?_⟩
    simp only [LinkCap.measured, h, if_true]
    exact Nat.min_le_left _ _

/-- A compatible CAP in CAPX. -/
theorem capFlit_capx (hst : (s.link p).st = .capx) (hkind : field c 0 1 = 6) (hcomp : capCompatible c = true) :
    ∃ (ns : Nat) (known : Bool), ((s.link p).cap.rttKnown = true → known = true ∧ ns ≤ (s.link p).cap.rttNs)
      ∧ exec (.capFlit p c) s =
        let v := s.setLink p (s.capHeard p c ns known)
        (if (s.link p).train.capSent = true ∧ ((s.link p).train.capGot || bit (field c 2 1) 0) = true then v.linkUp p else v).done := by
  have hexec : exec (.capFlit p c) s = execCapFlit p c s := rfl
  rw [hexec, execCapFlit, if_neg (fun h => h.1 hst), if_neg (not_not.mpr hkind), if_neg (by simp [hcomp])]
  extract_lets rtt capOld cap0 cap1 srcTrain srcTx v l
  have hmeasured : cap1 = cap0.measured rtt := rfl
  have hcap : cap1 = { cap0 with rttNs := cap1.rttNs, rttKnown := cap1.rttKnown } := hmeasured ▸ cap0.measured_keeps rtt
  have hleast : (s.link p).cap.rttKnown = true → cap1.rttKnown = true ∧ cap1.rttNs ≤ (s.link p).cap.rttNs :=
    hmeasured ▸ fun hknown => cap0.measured_least rtt hknown
  have hv : v = s.setLink p (s.capHeard p c cap1.rttNs cap1.rttKnown) :=
    congrArg (fun x : LinkCap => s.setLink p { s.link p with
      cap := x,
      tx := { (s.link p).tx with partnerRes := (List.range 12).map (fun v => beNat ((c.drop (22 + 2 * v)).take 2)),
                                 partnerTotal := beNat ((c.drop 20).take 2) },
      train := { (s.link p).train with capSeen := true, capGot := (s.link p).train.capGot || bit (field c 2 1) 0 } }) hcap
  refine ⟨cap1.rttNs, cap1.rttKnown, hleast, ?_⟩
  have hl : l = s.capHeard p c cap1.rttNs cap1.rttKnown := (congrArg (State.link · p) hv).trans (State.setLink_link_self _ _ _)
  rw [hl, hv]
  exact if_pos hst

theorem capFlit_incompatible (hst : (s.link p).st = .capx) (hkind : field c 0 1 = 6) (hcomp : capCompatible c = false) : Gives (.capFlit p c) s
    (s.setLink p { s.link p with cause := .incompatible, train := { (s.link p).train with incompatible := true } }) :=
  (if_neg fun h => h.1 hst).trans ((if_neg (not_not.mpr hkind)).trans ((if_pos (by simp [hcomp])).trans (if_pos hst)))

theorem capxTimeout_gives (hst : (s.link p).st = .capx) (hcomp : (s.link p).train.incompatible = false) :
    Gives (.capxTimeout p) s ((s.reach ((s.link p).since + msTicks)).trainTimeout p .slow) := if_pos ⟨hst, hcomp⟩

theorem incompatibleHold_gives (hst : (s.link p).st = .capx) (hcomp : (s.link p).train.incompatible = true) :
    Gives (.incompatibleHold p) s ((s.reach ((s.link p).since + secTicks)).enterPort p .detect) := if_pos ⟨hst, hcomp⟩

theorem holdoffExpiry_gives (hst : (s.link p).st = .holdoff) :
    Gives (.holdoffExpiry p) s ((s.reach ((s.link p).since + 10 * secTicks)).enterPort p .detect) := if_pos hst

end Train

/-- Where DOWN leads for a cause that names no state of its own. -/
theorem downTimer_other {p : Fin 64} {s : State} (hst : (s.link p).st = .down) (hother : (s.link p).cause ≠ .disabled ∧ (s.link p).cause ≠ .isolated
    ∧ (s.link p).cause ≠ .power ∧ (s.link p).cause ≠ .retrain) : exec (.downTimer p) s =
    let v := s.reach ((s.link p).since + usTicks)
    if !(s.link p).cfg.autoRetrain then (v.enterPort p .disabled).done
    else if (s.link p).downs.length ≥ 8 then
      let h := (v.enterPort p .holdoff).portInt p 5
      (h.event 0x0022 (0x0200 + p) (h.portData p (s.link p).cause.code 0)).done
    else (v.enterPort p .detect).done := by
  obtain ⟨hdis, hiso, hpow, hre⟩ := hother
  refine (if_neg (not_not.mpr hst)).trans ?_
  dsimp only
  split
  · exact absurd ‹_› hdis
  · exact absurd ‹_› hiso
  · exact absurd ‹_› hpow
  · exact absurd ‹_› hre
  · rfl

theorem downTimer_retrain {p : Fin 64} {s : State} (hst : (s.link p).st = .down) (hcause : (s.link p).cause = .retrain) : Gives (.downTimer p) s
    ((s.reach ((s.link p).since + usTicks)).enterPort p (if (s.link p).train.ckLock then .slow else .detect)) := by
  refine (if_neg (not_not.mpr hst)).trans ?_
  simp only [hcause]
  rfl

theorem downTimer_off {p : Fin 64} {s : State} (hst : (s.link p).st = .down)
    (hcause : (s.link p).cause = .disabled ∨ (s.link p).cause = .isolated ∨ (s.link p).cause = .power) :
    Gives (.downTimer p) s ((s.reach ((s.link p).since + usTicks)).enterPort p .disabled) := by
  refine (if_neg (not_not.mpr hst)).trans ?_
  rcases hcause with h | h | h <;>
  · simp only [h]
    rfl

/-- The words of a block are good exactly where the statement says so. -/
theorem blockHeard_iff (w : BitVec 128) : blockHeard w = true ↔
    (w.extractLsb' 96 32 = ~~~syncWord ∨ w.extractLsb' 96 32 = syncWord) ∧ blockGood (blockOf w) = true := by
  simp [blockHeard]

/-- What SLOW makes of a block (R441, R442). -/
theorem slow_block {p : Fin 64} {lane : Fin 8} {w : BitVec 128} {s : State} (hst : (s.link p).st = .slow) :
    ∃ (m : LinkPort) (mine : Nat), m = { s.link p with train := m.train } ∧ mine = m.train.phase ((blockOf w).extractLsb' 88 4).toNat
      ∧ (blockHeard w = true → m.train.goodRun = put (s.link p).train.goodRun lane (min 8 ((s.link p).train.goodRun.getD lane 0 + 1))
          ∧ m.train.partnerRates = ((blockOf w).extractLsb' 84 3).toNat + 8 ∧ m.train.partnerMaxWidth = ((blockOf w).extractLsb' 80 4).toNat
          ∧ m.train.partnerAck.getLsbD lane = (blockOf w).getLsbD 87 ∧ m.train.polarity.getLsbD lane = decide (w.extractLsb' 96 32 = ~~~syncWord))
      ∧ (¬ blockHeard w = true → m.train.goodRun = put (s.link p).train.goodRun lane 0 ∧ m.train.partnerRates = (s.link p).train.partnerRates)
      ∧ (lane.val ≠ 0 → m.train.goGot = (s.link p).train.goGot ∧ m.train.goSent = (s.link p).train.goSent)
      ∧ (lane.val = 0 → m.train.goSent = (if mine = 2 then min 16 ((s.link p).train.goSent + 1) else 0)
          ∧ (¬ blockHeard w = true → m.train.goGot = 0)
          ∧ (blockHeard w = true → m.train.goGot =
              if ((blockOf w).extractLsb' 88 4).toNat = 2 ∧ (blockOf w).getLsbD 87 = true then min 16 ((s.link p).train.goGot + 1) else 0))
      ∧ (m.train.goGot < 16 ∨ m.train.goSent < 16 ∨ m.targetW = 0 ∨ m.targetR = none →
          Gives (.tsNrzBlock p lane w) s ((s.setLink p m).emit (.trainBlock p lane (m.block lane mine).word)))
      ∧ ∀ r, 16 ≤ m.train.goGot → 16 ≤ m.train.goSent → m.targetW ≠ 0 → m.targetR = some r → Gives (.tsNrzBlock p lane w) s
          ((s.setLink p { m.aimed r with st := .equalize, since := s.clk.now }).emit (.trainBlock p lane (m.block lane mine).word)) := by
  obtain ⟨hgot, hsent⟩ := (s.link p).train.heard_go lane w
  have hkeeps := ((s.link p).train.heard lane w).goCounted_keeps lane w
  refine ⟨{ s.link p with train := (s.link p).train.afterBlock lane w }, ((s.link p).train.heard lane w).phase ((blockOf w).extractLsb' 88 4).toNat,
    rfl, (LinkTrain.phase_goCounted _ lane w _).symm, fun hgood => ?_, fun hbad => ?_, fun hlane => ?_, fun hlane => ⟨?_, fun hbad => ?_, fun hgood => ?_⟩,
    fun hstay => ?_, fun r hgot16 hsent16 hwidth hrate => ?_⟩
  · obtain ⟨hrun, hrates, hmax, hack, hpol⟩ := LinkTrain.heard_good (t := (s.link p).train) (lane := lane) hgood
    dsimp only [LinkTrain.afterBlock]
    rw [hkeeps]
    exact ⟨hrun, hrates, hmax, hack, hpol⟩
  · dsimp only [LinkTrain.afterBlock]
    rw [hkeeps, LinkTrain.heard_bad (Bool.not_eq_true _ ▸ hbad)]
    exact ⟨rfl, rfl⟩
  · dsimp only [LinkTrain.afterBlock]
    rw [LinkTrain.goCounted_ne hlane]
    exact ⟨hgot, hsent⟩
  · exact (LinkTrain.goCounted_zero hlane).1.trans (by rw [hsent])
  · exact (LinkTrain.goCounted_zero hlane).2.trans (if_neg (by simp [hbad]))
  · refine (LinkTrain.goCounted_zero hlane).2.trans ?_
    rw [hgot]
    exact if_congr (by simp [hgood]) rfl rfl
  · rw [Gives, execTsNrzBlock_slow hst]
    dsimp only
    split
    · next r hr =>
      refine if_neg fun hgo => ?_
      rcases hstay with h | h | h | h
      · exact Nat.not_lt.mpr hgo.1 h
      · exact Nat.not_lt.mpr hgo.2.1 h
      · exact hgo.2.2 h
      · exact absurd (hr.symm.trans h) (by simp)
    · rfl
  · rw [Gives, execTsNrzBlock_slow hst]
    dsimp only
    split
    · next q hq =>
      obtain rfl : q = r := Option.some.inj (hq.symm.trans hrate)
      rw [if_pos ⟨hgot16, hsent16, hwidth⟩, State.aimed_equalize]
      rfl
    · next hnone => exact absurd (hnone.symm.trans hrate) (by simp)

/-- Settles O54: each row of a cable or of bring-up leads where R424's table and R439 to R443 say. -/
theorem cablesAndBringUp : Obligations.CablesAndBringUp := by
  unfold Obligations.CablesAndBringUp
  refine ⟨fun k mem s => ?_, fun p lane w s => ?_, fun p lanes c w s => ?_⟩
  · intro c ports fitting id
    refine ⟨cableInserted_gives, cableRemoved_gives, fun v => rfl, cablePgAssert_gives, fun hid hfit => ?_, fun hid hfit => ?_,
      cablePowerTimeout_gives, cableOvercurrent_gives, fun n => rfl⟩
    · exact (cableIdReadDone_eq hid.1 hid.2.1 hid.2.2).trans (if_pos hfit)
    · exact (cableIdReadDone_eq hid.1 hid.2.1 hid.2.2).trans (if_neg hfit)
  · intro l inv b good fallen
    have hfallen (v : State) : v.trainTimeout p .detect = fallen v := v.trainTimeout_detect p
    refine ⟨detectClock_gives, clockLocked_gives, fun hst => hfallen s ▸ clockTimeout_gives hst, fun hst => hfallen _ ▸ slowTimeout_gives hst,
      fun hst => if_pos hst, fun hst => ?_⟩
    have hgood : good ↔ blockHeard w = true := (blockHeard_iff w).symm
    rw [hgood]
    exact slow_block hst
  · intro l t width pass passed back capped heard
    refine ⟨fun hst hgood => ?_, fun hst hpass hrate => ?_, fun hst hpass hrate => ?_, fun hst hrate => ?_, fun hst hrate => ?_, alignLock_gives,
      fun hst => if_pos hst, fun hst hcomp hno => ?_, fun hst hcomp hgot hseen => ?_, capSend_again, fun hst hkind hcomp => ?_,
      capFlit_incompatible, capxTimeout_gives, incompatibleHold_gives, fun hst => ?_, holdoffExpiry_gives, rfl, rfl, rfl, rfl⟩
    · refine if_neg fun h => ?_
      rcases h with h | h
      · exact h hst
      · exact absurd (hgood.symm.trans h) (by decide)
    · exact (equalizePass_eq hst hpass.1 hpass.2).trans (if_pos hrate)
    · refine (equalizePass_eq hst hpass.1 hpass.2).trans ((if_neg (Nat.not_lt.mpr hrate)).trans ?_)
      rw [State.enterPort, State.modLink_setLink]
      rfl
    · exact (equalizeTimeout_eq hst).trans (if_pos hrate)
    · exact (equalizeTimeout_eq hst).trans (if_neg (Nat.not_lt.mpr hrate))
    · refine (capSend_capx hst hcomp).trans (congrArg State.done (if_neg fun h => ?_))
      rcases hno with hgot | ⟨hseen, hsent⟩
      · exact absurd (hgot.symm.trans h.2) (by decide)
      · have hnone : (t.capSent || t.capSeen) = false := by rw [hsent, hseen, Bool.or_self]
        exact absurd (hnone.symm.trans h.1) (by decide)
    · have hsent : (t.capSent || t.capSeen) = true := by rw [hseen, Bool.or_true]
      refine (capSend_capx hst hcomp).trans (congrArg State.done ((if_pos ⟨hsent, hgot⟩).trans ?_))
      rw [show (s.link p).train.capSeen = true from hseen]
      rfl
    · obtain ⟨ns, known, hleast, hexec⟩ := capFlit_capx hst hkind hcomp
      refine ⟨ns, known, hleast, fun hsent => ?_, fun hsent hgot => ?_⟩
      · exact hexec.trans (congrArg State.done (if_neg fun h => absurd (hsent.symm.trans h.1) (by decide)))
      · exact hexec.trans (congrArg State.done (if_pos ⟨hsent, (Bool.or_eq_true _ _).mpr hgot⟩))
    · intro v other
      refine ⟨downTimer_off hst, downTimer_retrain hst, fun hother hauto => ?_, fun hother hauto hfew => ?_, fun hother hauto hmany => ?_⟩
      · exact (downTimer_other hst hother).trans (if_pos (by rw [show (s.link p).cfg.autoRetrain = false from hauto, Bool.not_false]))
      all_goals
        have hretrain : ¬ (!(s.link p).cfg.autoRetrain) = true := by
          rw [show (s.link p).cfg.autoRetrain = true from hauto, Bool.not_true]
          exact Bool.false_ne_true
      · exact (downTimer_other hst hother).trans ((if_neg hretrain).trans (if_neg (Nat.not_le.mpr hfew)))
      · exact (downTimer_other hst hother).trans ((if_neg hretrain).trans (if_pos hmany))

end Sys2Proof.Machine
end

section
/-! PROOFS. Links up and down, their timers, and operating points (R439, R444, R446 to R449, R456 to R465). -/
namespace Sys2Proof.Machine

/-! ### A port through changes elsewhere -/

theorem Only.link {l : List Part} {s u : State} (h : Only l s u) (p : Nat) (hl : .links ∉ l := by decide) : u.link p = s.link p := by
  have hlinks : u.links = s.links := (h .links).resolve_left hl
  simp only [State.link, hlinks]

theorem Only.sched {l : List Part} {s u : State} (h : Only l s u) (p : Nat) (hl : .scheds ∉ l := by decide) : u.sched p = s.sched p := by
  have hscheds : u.scheds = s.scheds := (h .scheds).resolve_left hl
  simp only [State.sched, hscheds]

theorem State.notify_link {w : Nat} (s : State) (a b c : BitVec w) (p : Nat) : (s.notify a b c).link p = s.link p := (s.notify_only a b c).link p

theorem State.modLink_link_self (s : State) (p : Nat) (f : LinkPort → LinkPort) : (s.modLink p f).link p = f (s.link p) := State.setLink_link_self _ _ _

theorem State.modTile_link (s : State) (t p : Nat) (f : Tile → Tile) : (s.modTile t f).link p = s.link p := rfl

theorem State.countDrop_link (s : State) (q v p : Nat) : (s.countDrop q v).link p = s.link p := rfl

theorem State.portInt_link (s : State) (p i : Nat) :
    (s.portInt p i).link p = { s.link p with intStatus := ((s.portInt p i).link p).intStatus } := by
  have hlink : (s.portInt p i).link p = { s.link p with intStatus := (s.link p).intStatus ||| BitVec.ofNat 6 (2 ^ i) } :=
    (State.notify_link _ _ _ _ p).trans (State.setLink_link_self _ _ _)
  rw [hlink]

/-! ### Entry to ACTIVE (R439, R444, R461) -/

/-- The link as it enters ACTIVE or DOZE at tick `now`. -/
def LinkPort.begun (now : Nat) (l : LinkPort) : LinkPort :=
  let pt := l.point
  { l with st := if pt.doze then .doze else .active, since := now, width := if pt.doze then 1 else l.train.targetWidth,
           rate := if pt.doze then 3 else l.train.targetRate, ckPrev := l.train.targetRate,
           tx := { l.tx with next := 0, escrow := [], prog := [none, none], replay := none, replayFrom := 0, replayRun := 0,
                             occ := List.replicate 12 0, freedSeen := List.replicate 12 0, creditFrom := none,
                             switchTo := none, switched := none,
                             line := if pt.doze then { l.tx.line with width := 1, rate := 3 } else l.tx.line },
           rx := { LinkRx.reset with till := l.rx.till, ackAt := now } }

/-- Where both ends want the full point, nothing is sent beyond what every link sends. -/
theorem State.linkUp_link {s : State} {p : Nat} (hwant : (s.link p).want = Point.full) :
    (s.linkUp p).link p = { (s.link p).begun s.clk.now with intStatus := ((s.linkUp p).link p).intStatus } := by
  have hbegun : ((s.syncTc0 p).modLink p (LinkPort.begun s.clk.now)).link p = (s.link p).begun s.clk.now := State.setLink_link_self _ _ _
  unfold State.linkUp
  extract_lets s1 x s2 l s3 s4 s5
  have hs2 : s2.link p = (s.link p).begun s.clk.now := hbegun
  have hs5 : s5.link p = s3.link p := ((s4.checkRole_port p).only.link p).trans ((State.event_only s3 _ _ _).link p)
  have hfull : ¬ l.want ≠ Point.full := not_not.mpr ((congrArg LinkPort.want hs2).trans hwant)
  rw [if_neg hfull, hs5, show s3.link p = _ from s2.portInt_link p 0, hs2]

/-! ### A link declared down (R457 to R461) -/

/-- `m` is the link `l` but for its counters. -/
def LinkPort.Counted (l m : LinkPort) : Prop := ∃ c, m = { l with ctr := c }

theorem LinkPort.Counted.refl (l : LinkPort) : l.Counted l := ⟨l.ctr, rfl⟩

theorem LinkPort.Counted.trans {l m n : LinkPort} (h : l.Counted m) (h' : m.Counted n) : l.Counted n := by
  obtain ⟨c, rfl⟩ := h
  obtain ⟨d, rfl⟩ := h'
  exact ⟨d, rfl⟩

theorem State.dropDown_link (s : State) (p : Nat) (k : Packet) : (s.link p).Counted ((s.dropDown p k).link p) := by
  simp only [State.dropDown]
  split
  next src =>
    rw [State.modLink_link_self, State.modTile_link, State.countDrop_link]
    exact ⟨_, rfl⟩
  · rw [(State.drop_port s p _ _).only.link p]
    exact .refl _

theorem State.dropDowns_link (p : Nat) (ks : List Packet) (s : State) :
    (s.link p).Counted ((ks.foldl (fun s k => s.dropDown p k) s).link p) :=
  foldl_keeps (fun u : State => (s.link p).Counted (u.link p)) _ (fun u k hu => hu.trans (u.dropDown_link p k)) ks s (.refl _)

theorem State.boundFalls_queues (s : State) (p : Nat) : ((s.boundFalls p).sched p).queues = (s.sched p).queues := by
  simp only [State.boundFalls]
  split
  · rw [(State.notify_only _ _ _ _).sched p, State.sched_setSched_self]
  · rfl

theorem State.declareDown_spec {s d : State} {p : Nat} {c : DownCause} (hd : s.declareDown p c = d) (hup : (s.link p).st.up = true) :
    (d.link p).st = .down ∧ (d.link p).cause = c ∧ (d.link p).width = 0 ∧ (d.link p).tx.escrow = []
      ∧ (d.link p).rx.till = (s.link p).rx.till.map (fun k => { k with old := true }) ∧ (d.sched p).queues = List.replicate 8 [] := by
  unfold State.declareDown at hd
  extract_lets l s1 lost s2 x y s3 s4 s4' s5 s6 s7 s8 s9 z s10 at hd
  rw [if_neg (by rw [show l.st.up = true from hup, Bool.not_true]; exact Bool.false_ne_true)] at hd
  have hs2 : (s.link p).Counted (s2.link p) := State.dropDowns_link p lost s1
  have hs3 : s3.link p = _ := State.setLink_link_self _ _ _
  have hs6 : s6.link p = _ := s5.portInt_link p 1
  have hs10 : s10.link p = s6.link p :=
    ((s9.setRport_port p _).only.link p).trans (((State.boundFalls_port s8 p).only.link p).trans
      (((State.linkTimeLost_only s7 p).link p).trans ((State.event_only s6 _ _ _).link p)))
  have hqueues : (s10.sched p).queues = List.replicate 8 [] := by
    have hs4 : (s4.sched p).queues = List.replicate 8 [] := congrArg SchedPort.queues (s3.sched_setSched_self p _)
    have hs5 : s5.sched p = s4.sched p := ((State.emit_only s4' _).sched p).trans ((State.setNet_only s4 _).sched p)
    have hs8 : s8.sched p = s4.sched p :=
      ((State.linkTimeLost_only s7 p).sched p).trans
        (((State.event_only s6 _ _ _).sched p).trans (((s5.portInt_port p 1).only.sched p).trans hs5))
    have hs9 : (s9.sched p).queues = (s8.sched p).queues := s8.boundFalls_queues p
    exact ((congrArg SchedPort.queues ((s9.setRport_port p _).only.sched p)).trans (hs9.trans (congrArg SchedPort.queues hs8))).trans hs4
  have hs5 : s5.link p = s3.link p :=
    ((State.emit_only s4' _).link p).trans (((State.setNet_only s4 _).link p).trans ((State.setSched_port s3 p _).only.link p))
  obtain ⟨k, hs2⟩ := hs2
  have hs10link : (s10.link p).st = .down ∧ (s10.link p).cause = c ∧ (s10.link p).width = 0 ∧ (s10.link p).tx.escrow = []
      ∧ (s10.link p).rx.till = (s.link p).rx.till.map (fun k => { k with old := true }) := by
    rw [hs10, hs6, hs5, hs3, hs2]
    exact ⟨rfl, rfl, rfl, rfl, rfl⟩
  obtain ⟨hst, hcause, hwidth, hescrow, htill⟩ := hs10link
  subst hd
  split
  · rw [(State.fault_only s10 _ _ _ _ _).link p, (State.fault_only s10 _ _ _ _ _).sched p]
    exact ⟨hst, hcause, hwidth, hescrow, htill, hqueues⟩
  · exact ⟨hst, hcause, hwidth, hescrow, htill, hqueues⟩

/-! ### Entry to ACTIVE and a link declared down, together -/

theorem LinkPort.point_doze (l : LinkPort) : l.point.doze = (l.want.doze || l.pwant.doze) := by
  unfold LinkPort.point
  split
  · next h => exact h.symm
  · next h => exact (Bool.not_eq_true _ |>.mp h).symm

theorem LinkPort.begun_full {l : LinkPort} (hdoze : l.point.doze = false) (now : Nat) :
    (l.begun now).st = .active ∧ (l.begun now).width = l.train.targetWidth ∧ (l.begun now).rate = l.train.targetRate := by
  simp [LinkPort.begun, hdoze]

theorem State.linkUp_full {s u : State} {p : Nat} (hu : s.linkUp p = u) (hwant : (s.link p).want = Point.full) (hpwant : (s.link p).pwant = Point.full) :
    (u.link p).st = .active ∧ (u.link p).tx.next = 0 ∧ (u.link p).tx.escrow = [] ∧ (u.link p).tx.occ = List.replicate 12 0
      ∧ (u.link p).rx.expect = 0 ∧ (u.link p).rx.till = (s.link p).rx.till ∧ (u.link p).width = (s.link p).train.targetWidth
      ∧ (u.link p).rate = (s.link p).train.targetRate := by
  have hdoze : (s.link p).point.doze = false := by rw [LinkPort.point_doze, hwant, hpwant]; rfl
  obtain ⟨hst, hwidth, hrate⟩ := LinkPort.begun_full hdoze s.clk.now
  have hlink := State.linkUp_link hwant
  rw [hu] at hlink
  rw [hlink]
  exact ⟨hst, rfl, rfl, rfl, rfl, rfl, hwidth, hrate⟩

/-! ### The timers of a link (R446 to R449, R456) -/

section Timers
variable {p : Fin 64} {s : State}

theorem State.replayOldest {v : State} {q : Nat} {t : LinkTx} {f : EFlit} {rest : List EFlit} (htx : (v.link q).tx = t) (hescrow : t.escrow = f :: rest) :
    (let u := v.modLink q fun l => { l with tx := { l.tx with ackFrom := v.clk.now } }
     u.startReplay q (u.link q).tx.oldest 2) = (v.setLink q { v.link q with tx := { t with ackFrom := v.clk.now } }).startReplay q f.seq 2 := by
  subst htx
  have holdest : LinkTx.oldest { (v.link q).tx with ackFrom := v.clk.now } = f.seq := by
    simp only [LinkTx.oldest, hescrow, List.head?_cons]
  simp only [State.modLink_link_self, holdest]
  rfl

theorem ackTimer_gives {f : EFlit} {rest : List EFlit} (hup : (s.link p).st.up = true) (hstep : (s.link p).st ≠ .step)
    (hescrow : (s.link p).tx.escrow = f :: rest) : Gives (.ackTimer p) s
      (let v := s.reach ((s.link p).tx.ackFrom + (s.link p).ackEffNs * 256)
       (v.setLink p { v.link p with tx := { (s.link p).tx with ackFrom := v.clk.now } }).startReplay p f.seq 2) := by
  have hguard : ¬ ((s.link p).st.up = false ∨ (s.link p).st = .step ∨ (s.link p).tx.escrow = []) := by simp [hup, hstep, hescrow]
  have htx : ((s.reach ((s.link p).tx.ackFrom + (s.link p).ackEffNs * 256)).link p).tx = (s.link p).tx := by
    obtain ⟨c, hc⟩ := s.reach_link ((s.link p).tx.ackFrom + (s.link p).ackEffNs * 256) p
    rw [hc]
  refine (if_neg hguard).trans ?_
  exact congrArg State.done (State.replayOldest htx hescrow)

theorem replayWaitTimer_gives (hup : (s.link p).st.up = true) (hstep : (s.link p).st ≠ .step) (hwaiting : (s.link p).rx.waiting = true) :
    Gives (.replayWaitTimer p) s ((s.reach ((s.link p).rx.waitFrom + (s.link p).ackEffNs * 256)).replayRequest p 3) :=
  if_neg (by simp [hup, hstep, hwaiting])

theorem creditTimeout_gives {t0 : Nat} (hup : (s.link p).st.up = true) (hstep : (s.link p).st ≠ .step)
    (hcredit : (s.link p).tx.creditFrom = some t0) :
    Gives (.creditTimeout p) s ((s.reach (t0 + (s.link p).cfg.creditTimeout * usTicks)).declareDown p .creditTimeout) := by
  have hexec : exec (.creditTimeout p) s = execCreditTimeout p s := rfl
  rw [Gives, hexec]
  simp only [execCreditTimeout, hcredit]
  exact if_neg (by simp [hup, hstep])

end Timers

/-! ### Operating points (R463 to R465) -/

section Points
variable {p : Fin 64} {s : State}

theorem State.goodCw_modLink (s : State) (p : Nat) (f : LinkPort → LinkPort) :
    (s.goodCw p).modLink p f = s.setLink p (f { s.link p with rx := { (s.link p).rx with badRun := 0 } }) := by
  rw [State.goodCw, State.modLink_modLink, State.modLink]

theorem pstateRequest_gives {doze : Bool} {width rate : Nat} (hup : (s.link p).st.up = true) : Gives (.pstateRequest p doze width rate) s
    ((s.setLink p { s.link p with rx := { (s.link p).rx with badRun := 0 },
                                  pwant := { doze := doze, width := width, rate := rate } }).propose p) := by
  refine (if_neg (by simp [hup])).trans ?_
  rw [State.goodCw_modLink, State.done]

theorem pstateSwitch_gives {doze : Bool} {width rate : Nat} {cw : U32} (hup : (s.link p).st.up = true) : Gives (.pstateSwitch p doze width rate cw) s
    (s.setLink p { s.link p with rx := { (s.link p).rx with badRun := 0 },
                                 train := { (s.link p).train with switchCw := some cw.toNat } }) := by
  refine (if_neg (by simp [hup])).trans ?_
  rw [State.goodCw_modLink, State.done]

/-- The lane codewords' line after a switch to point `pt` at slot `slot`. -/
def LinkPort.switchedLine (l : LinkPort) (pt : Point) (slot : Nat) : Line :=
  { l.tx.line with width := pt.width, rate := pt.rate, slots := if slot = l.tx.slot then l.tx.line.slots else [] }

/-- A port that passes through STEP on its way to `pt` (R464). -/
def State.stepped (s : State) (p : Nat) (pt : Point) (at_ : Nat) : State :=
  let l := s.link p
  let slot := max l.tx.slot (at_ * 10)
  (s.syncTc0 p).setLink p { l with st := .step, since := s.clk.now, width := pt.width, rate := pt.rate,
                                   ckPrev := if l.st = .active then (if pt.doze then l.rate else pt.rate) else l.ckPrev,
                                   tx := { l.tx with slot := slot, switched := some at_, line := l.switchedLine pt slot } }

theorem State.stepped_tport (s : State) (p : Nat) (pt : Point) (at_ : Nat) : (s.stepped p pt at_).tport p = s.tport p := rfl

/-- A port's move to point `pt`, reached as of codeword `at_`: a width alone at once, else as soon as no replay runs, through STEP. -/
theorem operatingPointSwitch_eq {pt : Point} {at_ : Nat} (hswitch : (s.link p).tx.switchTo = some (pt, at_))
    (hst : (s.link p).st = .active ∨ (s.link p).st = .doze) : exec (.operatingPointSwitch p) s =
      if pt.doze = false ∧ (s.link p).st = .active ∧ pt.rate = (s.link p).rate then
        (let l := s.link p
         let slot := max l.tx.slot (at_ * 10)
         ((((s.syncTc0 p).setLink p { l with width := pt.width, tx := { l.tx with slot := slot, switchTo := none, switched := some at_,
                                                                                   line := l.switchedLine pt slot } }).portInt p 4).propose p).done)
      else if (s.link p).tx.replay.isSome then (s.syncTc0 p).done
      else (if (s.tport p).out.isSome then (s.stepped p pt at_).failSample p else s.stepped p pt at_).done := by
  have hexec : exec (.operatingPointSwitch p) s = execOperatingPointSwitch p s := rfl
  rw [hexec, execOperatingPointSwitch]
  split
  · next hnone => exact absurd (hnone.symm.trans hswitch) (by simp)
  · next point cw hsome =>
    obtain ⟨rfl, rfl⟩ : point = pt ∧ cw = at_ := by simpa using hsome.symm.trans hswitch
    exact if_neg (not_not.mpr hst)

theorem stepAligned_gives {pt : Point} {at_ : Nat} (hst : (s.link p).st = .step) (hswitch : (s.link p).tx.switchTo = some (pt, at_)) :
    let l := s.link p
    let on (x : Nat) := x + (s.clk.now - max x l.since)
    Gives (.stepAligned p) s
      (((s.setLink p { l with st := if pt.doze then .doze else .active, since := s.clk.now,
                              tx := { l.tx with switchTo := none, ackFrom := on l.tx.ackFrom, creditFrom := l.tx.creditFrom.map on },
                              rx := { l.rx with waitFrom := on l.rx.waitFrom },
                              train := { l.train with markerLock := BitVec.ofNat 8 (2 ^ l.width - 1), switchCw := none } }).portInt p 4).propose p) := by
  have hexec : exec (.stepAligned p) s = execStepAligned p s := rfl
  rw [Gives, hexec]
  simp only [execStepAligned, hswitch]
  exact if_neg (not_not.mpr hst)

theorem State.propose_unchanged {y : State} {p : Nat} {m : LinkPort} (hm : y.link p = m)
    (h : m.st ≠ .active ∧ m.st ≠ .doze ∨ m.point = m.current) : y.propose p = y := by
  subst hm
  refine if_neg fun ⟨hst, hpoint, _⟩ => ?_
  rcases h with ⟨hactive, hdoze⟩ | hsame
  · exact hst.elim hactive hdoze
  · exact hpoint hsame

theorem State.propose_setLink {s : State} {p : Nat} {m : LinkPort} (hst : m.st = .active ∨ m.st = .doze) (hpoint : m.point ≠ m.current)
    (hswitch : m.tx.switchTo = none) : (s.setLink p m).propose p = s.setLink p
      { m with tx := { m.tx with switchTo := some (m.point, m.tx.cw + 16), lctl := m.tx.lctl ++
        [.pstateSwitch m.point.doze m.point.width m.point.rate (BitVec.ofNat 32 (m.tx.cw + 16))] } } := by
  unfold State.propose
  simp only [State.setLink_link_self]
  rw [if_pos ⟨hst, hpoint, by simp [hswitch]⟩, State.sendLctl, State.setLink_setLink, State.modLink_setLink]

end Points

/-- Settles O55: entry to ACTIVE starts the receiver afresh and keeps its till, a link declared down drops what its port held; each
timer's row acts once its time has come; a switch of width is taken at once and any other through STEP. -/
theorem linksAndOperatingPoints : Obligations.LinksAndOperatingPoints := by
  unfold Obligations.LinksAndOperatingPoints
  refine ⟨fun p c s => ?_, fun p t0 cause f rest s => ?_, fun p doze width rate cw pt at_ s => ?_⟩
  · exact ⟨State.linkUp_full rfl, (s.linkUp_port p).only, (s.linkUp_port p).elsewhere, fun hdown => if_pos (by rw [hdown]; rfl),
      State.declareDown_spec rfl, (s.declareDown_port p c).only, (s.declareDown_port p c).elsewhere⟩
  · exact ⟨fun hup => if_neg (by simp [hup]), ackTimer_gives, replayWaitTimer_gives, creditTimeout_gives, fun hup => if_neg (by simp [hup]),
      rfl, rfl, fun hst => if_neg (by simp [hst])⟩
  · refine ⟨pstateRequest_gives, pstateSwitch_gives, fun hswitch hst => ?_, stepAligned_gives, fun m y hy => ?_⟩
    · have hexec := operatingPointSwitch_eq hswitch hst
      refine ⟨fun hwidth => hexec.trans (if_pos hwidth), fun hwidth hreplay => ?_, fun hwidth hreplay hout => ?_, fun hwidth hreplay hout => ?_⟩
      · exact (hexec.trans (if_neg hwidth)).trans (if_pos (Option.isSome_iff_ne_none.mpr hreplay))
      · rw [if_neg hwidth, if_neg (by simp [hreplay]), if_neg (by simp [hout])] at hexec
        exact hexec
      · rw [if_neg hwidth, if_neg (by simp [hreplay]), if_pos (Option.isSome_iff_ne_none.mpr hout)] at hexec
        exact hexec
    · subst hy
      exact ⟨State.propose_unchanged (State.setLink_link_self s p m), State.propose_setLink⟩

end Sys2Proof.Machine
end

section
/-! PROOFS. Data flits, uncorrectable codewords, and injections at the lane FEC (R445, R446, R449, R451, R457, R523). -/
namespace Sys2Proof.Machine

/-! ### A data flit -/

/-- The link when a data flit has come in a decoded codeword, which `cw` describes when the flit is its first (R469). -/
def LinkPort.arrived (l : LinkPort) (cw : Option (List Nat)) : LinkPort :=
  let c := { l.ctr with dataRx := l.ctr.dataRx + 1 }
  { l with rx := { l.rx with badRun := 0 },
           ctr := match cw with
             | none => c
             | some fixed => { c with cwRx := c.cwRx + 1, cwCorrected := if fixed.sum = 0 then c.cwCorrected else c.cwCorrected + 1,
                                      symCorr := (List.range 8).map fun i => c.symCorr.getD i 0 + BitVec.ofNat 64 (fixed.getD i 0) } }

/-- The link when a flit has been accepted as EXPECT at tick `now` (R445). -/
def LinkPort.accepted (l : LinkPort) (now : Nat) : LinkPort :=
  { l with rx := { l.rx with expect := l.rx.expect + 1, firstAfter := false, ackSince := l.rx.ackSince + 1, due := true,
                             dueFrom := if l.rx.due then l.rx.dueFrom else now } }

/-- The link when an ACK has been queued at tick `now` (R446). -/
def LinkPort.acking (l : LinkPort) (now : Nat) : LinkPort :=
  { l with rx := { l.rx with ackSince := 0, due := false, ackAt := now }, tx := { l.tx with lctl := l.tx.lctl ++ [.ack 0 []] } }

theorem State.queueAck_setLink (s : State) (p : Nat) (l : LinkPort) : (s.setLink p l).queueAck p = s.setLink p (l.acking s.clk.now) := by
  rw [State.queueAck, State.sendLctl, State.modLink_modLink, State.modLink_setLink]
  rfl

theorem State.acceptFlit_setLink (s : State) (p stream : Nat) (flit : List Byte) (l : LinkPort) :
    (s.setLink p l).acceptFlit p stream flit =
      (let a := l.accepted s.clk.now
       let v := if l.rx.ackSince + 1 ≥ 32 || l.rx.firstAfter then s.setLink p (a.acking s.clk.now) else s.setLink p a
       (if l.rx.firstAfter then v.repaired p else v).assemble p stream flit) := by
  have haccept : (s.setLink p l).setLink p (l.accepted (s.setLink p l).clk.now) = s.setLink p (l.accepted s.clk.now) :=
    State.setLink_setLink _ _ _ _
  unfold State.acceptFlit
  simp only [State.setLink_link_self]
  rw [← State.queueAck_setLink, ← haccept]
  rfl

/-- What becomes of a flit that has come: dropped while a replay is waited for or overlaps, else accepted (R445). -/
def State.takeFlit (s : State) (p stream : Nat) (flit : List Byte) : State :=
  let l := s.link p
  if l.rx.waiting then s
  else if l.rx.drop ≠ 0 then s.setLink p { l with rx := { l.rx with drop := l.rx.drop - 1 }, ctr := { l.ctr with dup := l.ctr.dup + 1 } }
  else s.acceptFlit p stream flit

theorem State.dataArrives_eq (s : State) (p stream : Nat) (cw : Option (List Nat)) (flit : List Byte) :
    s.dataArrives p stream cw flit = (s.setLink p ((s.link p).arrived cw)).takeFlit p stream flit :=
  congrArg (fun v : State => v.takeFlit p stream flit) (s.goodCw_modLink p fun l => { l with ctr := (l.arrived cw).ctr })

@[simp] theorem LinkPort.arrived_waiting (l : LinkPort) (cw : Option (List Nat)) : (l.arrived cw).rx.waiting = l.rx.waiting := rfl

@[simp] theorem LinkPort.arrived_drop (l : LinkPort) (cw : Option (List Nat)) : (l.arrived cw).rx.drop = l.rx.drop := rfl

@[simp] theorem LinkPort.arrived_firstAfter (l : LinkPort) (cw : Option (List Nat)) : (l.arrived cw).rx.firstAfter = l.rx.firstAfter := rfl

@[simp] theorem LinkPort.arrived_ackSince (l : LinkPort) (cw : Option (List Nat)) : (l.arrived cw).rx.ackSince = l.rx.ackSince := rfl

theorem State.takeFlit_setLink (s : State) (p stream : Nat) (flit : List Byte) (m : LinkPort) : (s.setLink p m).takeFlit p stream flit =
    if m.rx.waiting then s.setLink p m
    else if m.rx.drop ≠ 0 then
      s.setLink p { m with rx := { m.rx with drop := m.rx.drop - 1 }, ctr := { m.ctr with dup := m.ctr.dup + 1 } }
    else (s.setLink p m).acceptFlit p stream flit := by
  simp only [State.takeFlit, State.setLink_link_self, State.setLink_setLink]

section Arrival
variable {p : Fin 64} {stream : Fin 2} {cw : Option (List Nat)} {flit : List Byte} {s : State}

/-- Where no injection meets the codeword that the flit begins, the flit arrives as it was sent. -/
theorem dataFlit_arrives (hup : (s.link p).st.up = true) (hcw : cw = none ∨ s.armedAt (0x0200 + p) 0x82 = none) :
    Gives (.dataFlit p stream cw flit) s (s.dataArrives p stream cw flit) := by
  have hup' : ¬ (s.link p).st.up = false := by simp [hup]
  refine (if_neg hup').trans ?_
  split
  · next fixed i hi => simp [hi] at hcw
  · rfl

theorem dataFlit_waiting (hup : (s.link p).st.up = true) (hcw : cw = none ∨ s.armedAt (0x0200 + p) 0x82 = none)
    (hwaiting : (s.link p).rx.waiting = true) : Gives (.dataFlit p stream cw flit) s (s.setLink p ((s.link p).arrived cw)) := by
  have h := dataFlit_arrives (stream := stream) (flit := flit) hup hcw
  rwa [State.dataArrives_eq, State.takeFlit_setLink, if_pos (by simpa using hwaiting)] at h

theorem dataFlit_duplicate (hup : (s.link p).st.up = true) (hcw : cw = none ∨ s.armedAt (0x0200 + p) 0x82 = none)
    (hwaiting : (s.link p).rx.waiting = false) (hdrop : (s.link p).rx.drop ≠ 0) :
    let m := (s.link p).arrived cw
    Gives (.dataFlit p stream cw flit) s
      (s.setLink p { m with rx := { m.rx with drop := (s.link p).rx.drop - 1 }, ctr := { m.ctr with dup := m.ctr.dup + 1 } }) := by
  have h := dataFlit_arrives (stream := stream) (flit := flit) hup hcw
  rwa [State.dataArrives_eq, State.takeFlit_setLink, if_neg (by simp [hwaiting]), if_pos (by simpa using hdrop)] at h

/-- A flit accepted is acknowledged at once when it is the first after a replay, or the 32nd since the last ACK. -/
theorem dataFlit_accepted {a b : LinkPort} (ha : a = ((s.link p).arrived cw).accepted s.clk.now) (hb : b = a.acking s.clk.now)
    (hup : (s.link p).st.up = true) (hcw : cw = none ∨ s.armedAt (0x0200 + p) 0x82 = none)
    (hwaiting : (s.link p).rx.waiting = false) (hdrop : (s.link p).rx.drop = 0) :
    Gives (.dataFlit p stream cw flit) s ((if (s.link p).rx.firstAfter then (s.setLink p b).repaired p
      else if 32 ≤ (s.link p).rx.ackSince + 1 then s.setLink p b else s.setLink p a).assemble p stream flit) := by
  subst hb ha
  have h := dataFlit_arrives (stream := stream) (flit := flit) hup hcw
  rw [State.dataArrives_eq, State.takeFlit_setLink, if_neg (by simp [hwaiting]), if_neg (by simp [hdrop]), State.acceptFlit_setLink] at h
  cases hfirst : (s.link p).rx.firstAfter <;> simpa [hfirst] using h

end Arrival

/-! ### An uncorrectable codeword -/

/-- The link when a codeword that cannot be corrected was counted. -/
def LinkPort.spoiled (l : LinkPort) : LinkPort := { l with ctr := { l.ctr with cwRx := l.ctr.cwRx + 1, cwUncorr := l.ctr.cwUncorr + 1 } }

/-- The link, up, when one more codeword that cannot be corrected has come at tick `now`. -/
def LinkPort.spoiledUp (l : LinkPort) (now : Nat) : LinkPort :=
  { l.spoiled with badAt := now :: (l.badAt.filter fun t => now < t + secTicks), rx := { l.rx with badRun := l.rx.badRun + 1, repair := true } }

/-- The link when it has sent a REPLAY_REQ and waits for the replay. -/
def LinkPort.requesting (l : LinkPort) (now cause : Nat) : LinkPort :=
  { l with rx := { l.rx with waiting := true, waitFrom := now }, ctr := { l.ctr with rreqTx := l.ctr.rreqTx + 1 },
           tx := { l.tx with lctl := l.tx.lctl ++ [.replayReq l.rx.expect cause] } }

theorem State.replayRequest_setLink (s : State) (p cause : Nat) (l : LinkPort) :
    (s.setLink p l).replayRequest p cause = s.setLink p (l.requesting s.clk.now cause) := by
  rw [State.replayRequest, State.sendLctl, State.modLink_modLink, State.modLink_setLink, State.modLink_setLink, State.setLink_link_self]
  rfl

theorem State.badCodeword_down {s : State} {p kind : Nat} (hup : (s.link p).st.up = false) :
    s.badCodeword p kind = s.setLink p (s.link p).spoiled := if_pos hup

theorem State.badCodeword_up {s : State} {p kind : Nat} (hup : (s.link p).st.up = true) : s.badCodeword p kind =
    (let m := (s.link p).spoiledUp s.clk.now
     let v := s.setLink p (if (s.link p).rx.waiting then m else m.requesting s.clk.now (kind + 1))
     if (s.link p).rx.badRun + 1 ≥ 64 then v.declareDown p .lockLost else v) := by
  have hv : ∀ m : LinkPort, (if (s.link p).rx.waiting then s.setLink p m else (s.setLink p m).replayRequest p (kind + 1))
      = s.setLink p (if (s.link p).rx.waiting then m else m.requesting s.clk.now (kind + 1)) := fun m => by
    rw [State.replayRequest_setLink, apply_ite (s.setLink p)]
  refine (if_neg (by simp [hup])).trans ?_
  simp only [← hv]
  rfl

section Spoiled
variable {p : Fin 64} {kind : Fin 2} {s : State}

theorem uncorrectable_gives (hst : (s.link p).st.decodes = true) (harmed : s.armedAt (0x0200 + p) 0x82 = none) :
    Gives (.uncorrectableCodeword p kind) s (s.badCodeword p kind) := by
  have hexec : exec (.uncorrectableCodeword p kind) s = execUncorrectableCodeword p kind s := rfl
  rw [Gives, hexec, execUncorrectableCodeword, if_neg (by simp [hst]), harmed]
  rfl

theorem PortSt.decodes_of_up {st : PortSt} (h : st.up = true) : st.decodes = true := by
  cases st <;> simp_all [PortSt.decodes, PortSt.up]

theorem uncorrectable_up (hup : (s.link p).st.up = true) (harmed : s.armedAt (0x0200 + p) 0x82 = none) :
    let m := (s.link p).spoiledUp s.clk.now
    let v := s.setLink p (if (s.link p).rx.waiting then m else m.requesting s.clk.now (kind + 1))
    Gives (.uncorrectableCodeword p kind) s (if (s.link p).rx.badRun + 1 ≥ 64 then v.declareDown p .lockLost else v) := by
  have h := uncorrectable_gives (kind := kind) (PortSt.decodes_of_up hup) harmed
  rwa [State.badCodeword_up hup] at h

end Spoiled

/-! ### An injection at the lane FEC (R523) -/

section Injected
variable {p : Fin 64} {stream : Fin 2} {fixed : List Nat} {flit : List Byte} {i : Injection} {s : State}

theorem State.armedAt_eq {src : Nat} (hinject : (s.capture src).inject = some i) (hchecker : i.checker = 0x82) :
    s.armedAt src 0x82 = some i := by
  simp [State.armedAt, hinject, hchecker]

theorem State.useInjection_eq {src : Nat} (hinject : (s.capture src).inject = some i) : s.useInjection src =
    s.setCapture src { s.capture src with inject := if i.left ≤ 1 then none else some { i with left := i.left - 1 } } := by
  simp only [State.useInjection, hinject, Option.bind_some]

theorem withParity_length (w : Nat) (fixed ks : List Nat) : (withParity w fixed ks).length = 8 := by simp [withParity]

theorem withParity_getD (w : Nat) (fixed ks : List Nat) {k : Nat} (hk : k < 8) :
    (withParity w fixed ks).getD k 0 = fixed.getD k 0 + (ks.filter fun j => (514 + j) % w == k).length := by
  simp [withParity, List.getD_eq_getElem?_getD, hk]

theorem Injection.onLane (i : Injection) (n w k : Nat) :
    (i.bitsBelow n).filter (fun j => (514 + j) % w == k) = (List.range n).filter fun j => i.mask.getLsbD j && (514 + j) % w == k := by
  rw [Injection.bitsBelow, List.filter_filter]
  simp only [Bool.and_comm]

theorem dataFlit_inverted (hup : (s.link p).st.up = true) (harmed : s.armedAt (0x0200 + p) 0x82 = some i) :
    exec (.dataFlit p stream (some fixed) flit) s =
      if fixed.sum + (i.bitsBelow 30).length ≤ 13 then
        ((s.useInjection (0x0200 + p)).dataArrives p stream (some (withParity (s.link p).width fixed (i.bitsBelow 30))) flit).done
      else ((s.spoilCodeword p i).badCodeword p 0).done := by
  have hup' : ¬ (s.link p).st.up = false := by simp [hup]
  refine (if_neg hup').trans ?_
  rw [harmed]
  simp only [rsCorrects, decide_eq_true_eq]

theorem uncorrectable_inverted (hup : (s.link p).st.up = true) (harmed : s.armedAt (0x0200 + p) 0x82 = some i) :
    Gives (.uncorrectableCodeword p 0) s ((s.spoilCodeword p i).badCodeword p 0) := by
  have hexec : exec (.uncorrectableCodeword p 0) s = execUncorrectableCodeword p 0 s := rfl
  rw [Gives, hexec, execUncorrectableCodeword, if_neg (by simp [PortSt.decodes_of_up hup]), harmed]
  rfl

end Injected

/-- Settles O56: a flit's four cases by WAIT, DROP and FIRST; an uncorrectable codeword's by the run it makes; an injection adds its
parity symbols to those to be corrected, up to 13 in all. -/
theorem flitsReceived : Obligations.FlitsReceived := by
  unfold Obligations.FlitsReceived
  refine ⟨fun p stream cw flit s => ?_, fun p kind s => ?_, fun p stream fixed flit i s => ?_⟩
  · intro l c counted m v a b hup hcw
    have hm : m = (s.link p).arrived cw := by cases cw <;> rfl
    have ha : a = ((s.link p).arrived cw).accepted s.clk.now := congrArg (LinkPort.accepted · s.clk.now) hm
    have haccepted := dataFlit_accepted (stream := stream) (flit := flit) ha (b := b) rfl hup hcw
    refine ⟨fun hwaiting => ?_, fun hwaiting hdrop => ?_, fun hwaiting hdrop hfirst hack => ?_, fun hwaiting hdrop hfirst hack => ?_,
      fun hwaiting hdrop hfirst => ?_⟩
    · exact (dataFlit_waiting hup hcw hwaiting).trans (by rw [← hm])
    · exact (dataFlit_duplicate hup hcw hwaiting hdrop).trans (by rw [← hm])
    · have h := haccepted hwaiting hdrop
      rwa [hfirst, if_neg Bool.false_ne_true, if_neg (Nat.not_le.mpr hack)] at h
    · have h := haccepted hwaiting hdrop
      rwa [hfirst, if_neg Bool.false_ne_true, if_pos hack] at h
    · have h := haccepted hwaiting hdrop
      rwa [hfirst, if_pos rfl] at h
  · intro l c m w harmed
    have hrun : l.st.up = true → Gives (.uncorrectableCodeword p kind) s
        (if l.rx.badRun + 1 ≥ 64 then (s.setLink p (if l.rx.waiting then m else w)).declareDown p .lockLost
         else s.setLink p (if l.rx.waiting then m else w)) := fun hup => uncorrectable_up hup harmed
    refine ⟨fun hst => ?_, fun hup hwaiting hbad => ?_, fun hup hwaiting hbad => ?_, fun hup hbad => ?_⟩
    · have hup : l.st.up = false ∧ l.st.decodes = true := by rcases hst with h | h <;> rw [h] <;> exact ⟨rfl, rfl⟩
      have h := uncorrectable_gives (kind := kind) hup.2 harmed
      rwa [State.badCodeword_down hup.1] at h
    · have h := hrun hup
      rwa [if_neg (by omega), if_neg (by simp [hwaiting])] at h
    · have h := hrun hup
      rwa [if_neg (by omega), if_pos hwaiting] at h
    · have h := hrun hup
      rwa [if_pos (by omega)] at h
  · intro src u n hup hinject hchecker
    have harmed : s.armedAt (0x0200 + p) 0x82 = some i := State.armedAt_eq hinject hchecker
    have hu : s.useInjection (0x0200 + p) = u := State.useInjection_eq hinject
    have hspoil : s.spoilCodeword p i = u.setLink p { s.link p with rx := { (s.link p).rx with injected := some i.full } } :=
      congrArg (fun v : State => v.modLink p fun l => { l with rx := { l.rx with injected := some i.full } }) hu
    have hexec := dataFlit_inverted (stream := stream) (fixed := fixed) (flit := flit) hup harmed
    have huncorr := uncorrectable_inverted hup harmed
    refine ⟨fun hfew => ⟨withParity (s.link p).width fixed (i.bitsBelow 30), withParity_length _ _ _, fun k hk => ?_, ?_⟩, fun hmany => ⟨?_, ?_⟩⟩
    · rw [withParity_getD _ _ _ hk, Injection.onLane]
    · have hcorrects : fixed.sum + (i.bitsBelow 30).length ≤ 13 := hfew
      rwa [if_pos hcorrects, hu] at hexec
    · have hspoils : 13 < fixed.sum + (i.bitsBelow 30).length := hmany
      rw [if_neg (Nat.not_le.mpr hspoils)] at hexec
      exact hexec.trans huncorr.symm
    · rwa [hspoil] at huncorr

end Sys2Proof.Machine
end

section
/-! PROOFS. Acknowledgement, replay and coins (R435, R445, R447 to R449, R454, R455). -/
namespace Sys2Proof.Machine

/-! ### Flits that acknowledge and ask for a replay -/

section Control
variable {p : Fin 64} {seq : U16} {freed : List U16} {cause : Nat} {cw : U32} {s : State}

theorem State.goodCw_eq (s : State) (p : Nat) : s.goodCw p = s.setLink p { s.link p with rx := { (s.link p).rx with badRun := 0 } } := rfl

/-- After an ACK's sequence number, its coins are taken when the link is still up. -/
theorem ackFlit_gives {a : State} (ha : (s.goodCw p).applyAck p seq = a) (hup : (s.link p).st.up = true) :
    Gives (.ackFlit p seq freed) s (if (a.link p).st.up then a.applyFreed p freed else a) := by
  subst ha
  exact if_neg (by simp [hup])

/-- The link when a REPLAY_REQ has come. -/
def LinkPort.asked (l : LinkPort) : LinkPort :=
  { l with rx := { l.rx with badRun := 0 }, ctr := { l.ctr with rreqRx := l.ctr.rreqRx + 1 } }

/-- A REPLAY_REQ acknowledges, and starts a replay when the link is still up: from its flit, or the oldest one that is kept. -/
theorem replayReqFlit_gives {b : State} (hb : (s.setLink p (s.link p).asked).applyAck p seq = b) (hup : (s.link p).st.up = true) :
    Gives (.replayReqFlit p seq cause) s
      (if (b.link p).st.up then b.startReplay p (if seqGe seq (b.link p).tx.oldest then seq else (b.link p).tx.oldest) 1 else b) := by
  have hb' : ((s.goodCw p).modLink p fun l => { l with ctr := { l.ctr with rreqRx := l.ctr.rreqRx + 1 } }).applyAck p seq = b := by
    rw [State.goodCw_modLink]
    exact hb
  subst hb'
  refine (if_neg (by simp [hup])).trans ?_
  split <;> rfl

theorem replayStartFlit_renumbers (hup : (s.link p).st.up = true) (hseq : seqGe (s.link p).rx.expect seq = true) :
    Gives (.replayStartFlit p seq cause) s (s.setLink p { s.link p with rx :=
      { (s.link p).rx with badRun := 0, waiting := false, drop := ((s.link p).rx.expect - seq).toNat, firstAfter := true } }) := by
  refine (if_neg (by simp [hup])).trans ?_
  simp only [State.goodCw_eq, State.setLink_link_self, State.setLink_setLink]
  exact if_pos hseq

theorem replayStartFlit_early (hup : (s.link p).st.up = true) (hseq : seqGe (s.link p).rx.expect seq = false) :
    Gives (.replayStartFlit p seq cause) s ((s.goodCw p).declareDown p .protocol) := by
  refine (if_neg (by simp [hup])).trans ?_
  simp only [State.goodCw_eq, State.setLink_link_self]
  exact if_neg (by simp [hseq])

end Control

/-! ### The sequence number of an ACK (R447) -/

section Acknowledged
variable {p : Nat} {seq : U16} {f : EFlit} {rest : List EFlit} {s : State}

theorem State.applyAck_beyond (hseq : seqGe (s.link p).tx.next seq = false) : s.applyAck p seq = s.declareDown p .protocol :=
  if_pos (by rw [hseq]; rfl)

theorem State.applyAck_old (hseq : seqGe (s.link p).tx.next seq = true) (hescrow : (s.link p).tx.escrow = f :: rest)
    (hold : seq = f.seq ∨ seqGe seq f.seq = false) : s.applyAck p seq = s := by
  refine (if_neg (by simp [hseq])).trans (if_pos ?_)
  simpa [hescrow] using hold

/-- The replay that goes on when the escrow holds only the flits from `seq` on. -/
def LinkTx.replayOn (t : LinkTx) (seq : U16) : Option U16 :=
  match t.replay with
  | some r => if (t.escrow.filter fun f => seqGe f.seq seq).isEmpty then none else if seqGe r seq then some r else some seq
  | none => none

theorem State.applyAck_frees (hseq : seqGe (s.link p).tx.next seq = true) (hescrow : (s.link p).tx.escrow = f :: rest)
    (hne : seq ≠ f.seq) (hnew : seqGe seq f.seq = true) : s.applyAck p seq =
      s.setLink p { s.link p with tx := { (s.link p).tx with
        escrow := (s.link p).tx.escrow.filter (fun f => seqGe f.seq seq), replay := (s.link p).tx.replayOn seq, replayRun := 0,
        ackFrom := s.clk.now } } := by
  refine (if_neg (by simp [hseq])).trans (if_neg ?_)
  simpa [hescrow, hne] using hnew

end Acknowledged

/-! ### Replays (R448, R449) -/

section Replayed
variable {p : Nat} {seq : U16} {cause : Nat} {s : State}

/-- The link with its `run`-th replay from `seq` started. -/
def LinkPort.replaying (l : LinkPort) (seq : U16) (run cause : Nat) : LinkPort :=
  { l with tx := { l.tx with replay := if seq = l.tx.next then none else some seq, replayFrom := seq, replayRun := run,
                             replays := l.tx.replays + 1, lctl := l.tx.lctl ++ [.replayStart seq cause] },
           ctr := { l.ctr with replays := l.ctr.replays + 1 } }

theorem State.startReplay_eq {run : Nat} (hrun : (if (s.link p).tx.replayFrom = seq then (s.link p).tx.replayRun else 0) = run)
    (hlimit : run < (s.link p).cfg.replayLimit) :
    s.startReplay p seq cause = (s.setLink p ((s.link p).replaying seq (run + 1) cause)).portInt p 3 := by
  subst hrun
  refine (if_neg (Nat.not_le.mpr hlimit)).trans ?_
  rw [State.sendLctl, State.modLink_setLink]
  rfl

theorem State.startReplay_link {run : Nat} (hrun : (if (s.link p).tx.replayFrom = seq then (s.link p).tx.replayRun else 0) = run)
    (hlimit : run < (s.link p).cfg.replayLimit) : ∃ i, (s.startReplay p seq cause).link p =
      { (s.link p).replaying seq (run + 1) cause with intStatus := i } := by
  rw [State.startReplay_eq hrun hlimit, State.portInt_link, State.setLink_link_self]
  exact ⟨_, rfl⟩

theorem State.startReplay_within {run : Nat} (hrun : (if (s.link p).tx.replayFrom = seq then (s.link p).tx.replayRun else 0) = run)
    (hlimit : run < (s.link p).cfg.replayLimit) : Port p (.links :: reporting) s (s.startReplay p seq cause) := by
  rw [State.startReplay_eq hrun hlimit]
  exact (s.setLink_port p _).mono.trans (State.portInt_port _ p 3).mono

end Replayed

/-! ### Coins (R454, R455) -/

theorem State.applyFreed_link (s : State) (p : Nat) (freed : List U16) {v : Nat} (hv : v < 12) :
    ((s.applyFreed p freed).link p).tx.occ.getD v 0
      = (s.link p).tx.occ.getD v 0 - (freed.getD v 0 - (s.link p).tx.freedSeen.getD v 0).toNat := by
  simp [State.applyFreed, State.modLink_link_self, List.getD_eq_getElem?_getD, hv]

theorem State.freeCoins_freed (s : State) (p v n : Nat) : ((s.freeCoins p v n).link p).rx.freed =
    put (s.link p).rx.freed v ((s.link p).rx.freed.getD v 0 + BitVec.ofNat 16 n) := by
  rw [State.freeCoins, State.modLink_link_self]

theorem State.freeCoins_due (s : State) (p v n : Nat) : ((s.freeCoins p v n).link p).rx.due = true := by
  rw [State.freeCoins, State.modLink_link_self]

/-- Settles O57: an ACK frees the flits before its number and returns its coins, a REPLAY_REQ acknowledges and starts a replay up to
REPLAY_LIMIT times in a row, a REPLAY_START renumbers; a number beyond what was sent is a protocol error. -/
theorem acknowledgementAndReplay : Obligations.AcknowledgementAndReplay := by
  unfold Obligations.AcknowledgementAndReplay
  refine ⟨fun p seq freed cause cw s => ⟨fun hup => ?_, fun hst => if_pos hst⟩, fun p seq f rest s => ?_, fun p seq cause s => ?_,
    fun p v n freed s hv => ?_⟩
  · have hack := ackFlit_gives (p := p) (seq := seq) (freed := freed) (s := s) rfl hup
    have hreq := replayReqFlit_gives (p := p) (seq := seq) (cause := cause) (s := s) rfl hup
    refine ⟨fun ha => ?_, fun ha => ?_, fun hb => ?_, fun hb => ?_, replayStartFlit_renumbers hup, replayStartFlit_early hup⟩
    · exact hack.trans (congrArg State.done (if_pos ha))
    · exact hack.trans (congrArg State.done (if_neg (ne_true_of_eq_false ha)))
    · exact hreq.trans (congrArg State.done (if_pos hb))
    · exact hreq.trans (congrArg State.done (if_neg (ne_true_of_eq_false hb)))
  · refine ⟨State.applyAck_beyond, State.applyAck_old, fun hseq hescrow hne hnew => ?_⟩
    rw [State.applyAck_frees hseq hescrow hne hnew, State.setLink_link_self]
    exact ⟨rfl, rfl, rfl, (s.setLink_port p _).only, (s.setLink_port p _).elsewhere⟩
  · refine ⟨fun hlimit => if_pos hlimit, fun hlimit => ?_⟩
    obtain ⟨i, hlink⟩ := State.startReplay_link (cause := cause) rfl hlimit
    have hport := State.startReplay_within (cause := cause) rfl hlimit
    refine ⟨?_, ?_, ?_, ?_, ?_, ?_, hport.only, hport.elsewhere⟩ <;> rw [hlink] <;> rfl
  · refine ⟨s.applyFreed_link p freed hv, ?_, ?_, (s.modLink_port p _).only, (s.modLink_port p _).elsewhere, fun hlen => ⟨?_, s.freeCoins_due p v n, ?_⟩⟩
    · exact congrArg (·.tx.freedSeen) (State.modLink_link_self s p _)
    · exact congrArg (·.tx.escrow) (State.modLink_link_self s p _)
    · rw [State.freeCoins_freed, getD_put_self _ _ (by omega)]
    · intro w hw
      rw [State.freeCoins_freed, getD_put_ne _ _ _ hw]

end Sys2Proof.Machine
end

section
/-! PROOFS. Wire faults, the auditor's polls, stalled stages and the tally sweep (R507, R508, R519, R528 to R530). -/
namespace Sys2Proof.Machine

theorem State.passTime_capture (s : State) (d src : Nat) : (s.passTime d).capture src = s.capture src := by
  simp only [State.capture, State.passTime_faults]

theorem wireFault_gives {src : Nat} {levels : Fin 2} {s : State} (hdie : s.dieRuns = true) (hok : s.sourceOk src = true)
    (hscheme : s.faults.scheme = 0) (hwatched : (s.capture src).unwatched = false) :
    let v := s.passTime (30 * 256)
    Gives (.wireFault src levels) s ((v.setCapture src { s.capture src with unwatched := true, levels := 3 * levels.val, polledAt := v.clk.now }).faultBy
      src 0xFF { kind := .wireFault, fatal := false, context := none, infoA := BitVec.ofNat 32 (3 * levels.val), infoB := 0 }) := by
  refine (if_pos (by simp [hdie, hok, hscheme, hwatched])).trans ?_
  rw [s.passTime_capture]
  rfl

/-- A dump time, once reached, is that of a dump, or is missed, or ends the sweep. -/
theorem sweepDump_eq {s n : State} (hn : s.reachNt s.nextDump = n) (hworks : s.works = true) (hrunning : s.perf.running = true) :
    exec .sweepDump s = match n.keyRegion n.perf.lkey.toNat with
      | none => n.stopSweep.done
      | some r => if n.dumpOpen r then (n.startDump r).done else n.missDump.done := by
  subst hn
  exact if_pos (by simp [hworks, hrunning])

theorem State.dumpOpen_iff (s : State) (g : Region) : s.dumpOpen g = true ↔ s.perf.dump = none ∧ (s.pwr.st ≠ .a2 ∨ g.kind ≠ .hbm) := by
  simp [State.dumpOpen, ← Decidable.imp_iff_not_or]

theorem sweepDump_gives {s n : State} {g : Region} (hn : s.reachNt s.nextDump = n) (hworks : s.works = true) (hrunning : s.perf.running = true) :
    (n.keyRegion n.perf.lkey.toNat = some g → n.perf.dump = none → n.pwr.st ≠ .a2 ∨ g.kind ≠ .hbm → Gives .sweepDump s (n.startDump g))
    ∧ (n.keyRegion n.perf.lkey.toNat = some g → n.perf.dump ≠ none ∨ (n.pwr.st = .a2 ∧ g.kind = .hbm) → Gives .sweepDump s n.missDump)
    ∧ (n.keyRegion n.perf.lkey.toNat = none → Gives .sweepDump s n.stopSweep) := by
  have hexec := sweepDump_eq hn hworks hrunning
  refine ⟨fun hkey hdump hplace => ?_, fun hkey hbusy => ?_, fun hkey => ?_⟩
  · have hopen : n.dumpOpen g = true := (n.dumpOpen_iff g).mpr ⟨hdump, hplace⟩
    rw [hkey] at hexec
    exact hexec.trans (if_pos hopen)
  · have hshut : ¬ n.dumpOpen g = true := fun hopen => by
      obtain ⟨hdump, hplace⟩ := (n.dumpOpen_iff g).mp hopen
      rcases hbusy with hnone | ⟨ha2, hhbm⟩
      · exact hnone hdump
      · exact hplace.elim (fun h => h ha2) (fun h => h hhbm)
    rw [hkey] at hexec
    exact hexec.trans (if_neg hshut)
  · rw [hkey] at hexec
    exact hexec

/-- Settles O59: each detection's row acts where its source stands and is watched or not; the poll applies what an unwatched source
held; a dump time starts a dump, is missed, or ends the sweep. -/
theorem detectionsAndSweep : Obligations.DetectionsAndSweep := by
  unfold Obligations.DetectionsAndSweep
  intro src levels stage g s c here wire stall n
  refine ⟨fun ⟨hdie, hok⟩ hscheme hwatched => wireFault_gives hdie hok hscheme hwatched, fun ⟨hdie, hok⟩ hun => ?_, fun ⟨hdie, hok⟩ hun => ?_,
    fun ⟨hdie, hok⟩ ha2 => ?_, fun hworks hrunning => sweepDump_gives rfl hworks hrunning⟩
  · have hun' : (s.capture src).unwatched = true := hun
    exact if_pos (by simp [hdie, hok, hun'])
  · have hun' : (s.capture src).unwatched = true := hun
    exact if_pos (by simp [hdie, hok, hun'])
  · exact if_pos (by simp [hdie, hok, ha2])

end Sys2Proof.Machine
end

section
/-! PROOFS. Start-up and the vault: BALYN_START, ALIVE_RUNNING, CONFIG_SPACE_READY, HEARTBEAT, the fuses and the random source (R329, R332, R408, R410,
R411, R421, R424, R551). -/
namespace Sys2Proof.Machine

/-! ### Measurements 1 to 5 (R411) -/

theorem State.measure_only (s : State) (type arg : Nat) (d : List Byte) : Only [.sec] s (s.measure type arg d) := fun q => by
  cases q <;> first | exact .inl (by decide) | exact .inr rfl

theorem State.measure_measCount (s : State) (type arg : Nat) (d : List Byte) : (s.measure type arg d).sec.measCount = s.sec.measCount + 1 := rfl

theorem State.mintMeasures_only (s : State) : Only [.sec] s s.mintMeasures := by
  unfold State.mintMeasures
  extract_lets v h64 s1 s2 s3
  have hs3 : Only [.sec] s s3 := ((s.measure_only _ _ _).trans (s1.measure_only _ _ _)).trans (s2.measure_only _ _ _)
  split
  · exact hs3.trans ((State.measure_only _ _ _ _).trans (State.measure_only _ _ _ _))
  · exact hs3

theorem State.mintMeasures_measCount {s : State} (hrunning : s.fw.running.isSome = true) :
    s.mintMeasures.sec.measCount = s.sec.measCount + (if s.fw.image.isSome then 5 else 3) := by
  obtain ⟨i, hi⟩ := Option.isSome_iff_exists.mp hrunning
  have hfw : ∀ a b c : State, Only [.sec] s a → Only [.sec] a b → Only [.sec] b c → c.fw = s.fw := fun a b c ha hb hc =>
    (((ha.trans hb).trans hc) .fw).resolve_left (by decide)
  unfold State.mintMeasures
  extract_lets v h64 s1 s2 s3
  have hs3 : s3.fw = s.fw := hfw s1 s2 s3 (s.measure_only _ _ _) (s1.measure_only _ _ _) (s2.measure_only _ _ _)
  rw [hs3, hi]
  cases himage : s.fw.image with
  | none => simp [State.measure_measCount, s3, s2, s1, BitVec.add_assoc]
  | some h => simp [State.measure_measCount, s3, s2, s1, BitVec.add_assoc]

/-! ### Balyn starts (R111, R290, R408) -/

/-- A new salt for tile `t`. -/
def State.saltTile (s : State) (t : Nat) : State :=
  let f := s.fresh 32
  f.2.modTile t fun x => { x with salt := BitVec.ofNat 32 f.1 }

/-- Only free values and the tiles' salts differ. -/
structure Salted (s u : State) : Prop where
  only : Only [.free, .tiles] s u
  tile : ∀ t, u.tile t = { s.tile t with salt := (u.tile t).salt }

theorem Salted.refl (s : State) : Salted s s := ⟨Only.refl _ _, fun _ => rfl⟩

theorem Salted.saltTile {s u : State} (h : Salted s u) (t : Nat) : Salted s (u.saltTile t) where
  only := h.only.trans ((u.fresh_only 32).mono.trans (State.setTile_only _ _ _).mono)
  tile i := by
    by_cases hi : i = t
    · subst hi
      have hself : (u.saltTile i).tile i = { u.tile i with salt := BitVec.ofNat 32 (u.fresh 32).1 } := Tbl.getD_set_self _ _ _ _
      rw [hself, h.tile i]
    · have hne : (u.saltTile t).tile i = u.tile i := Tbl.getD_set_ne _ _ _ hi
      rw [hne]
      exact h.tile i

section Start
variable {s : State}

/-- Balyn's start before the tiles' salts are drawn. -/
def State.balynUp (s : State) : State :=
  let f := s.fresh 16
  let s := (f.2.mintMeasures).modBoot fun b => { b with mintDone := true, balyn := true }
  let s := s.modMem fun m => { m with key := BitVec.ofNat 16 f.1, engineGen := f.2.free }
  s.modSec fun x => { x with saltAt := s.clk.now }

theorem State.modMem_only (s : State) (f : Mem → Mem) : Only [.mem] s (s.modMem f) := fun q => by
  cases q <;> first | exact .inl (by decide) | exact .inr rfl

theorem State.balynUp_only (s : State) : Only [.free, .sec, .boot, .mem] s s.balynUp :=
  ((((s.fresh_only 16).mono.trans (State.mintMeasures_only _).mono).trans (State.modBoot_only _ _).mono).trans
    (State.modMem_only _ _).mono).trans (State.modSec_only _ _).mono

theorem balynStart_gives (hdie : s.dieRuns = true) (hmint : s.boot.mintDone = false) (hrunning : s.fw.running.isSome = true)
    (halive : s.boot.alive = .booting) : Gives .balynStart s ((List.range 64).foldl State.saltTile s.balynUp) :=
  if_neg (by simp [hdie, hmint, halive, Option.isNone_iff_eq_none, Option.isSome_iff_ne_none.mp hrunning])

theorem balynStart_effect (hdie : s.dieRuns = true) (hmint : s.boot.mintDone = false) (hrunning : s.fw.running.isSome = true)
    (halive : s.boot.alive = .booting) : ∃ u, Gives .balynStart s u ∧ Only [.free, .sec, .boot, .mem, .tiles] s u
      ∧ u.boot = { s.boot with mintDone := true, balyn := true } ∧ u.sec.saltAt = s.clk.now
      ∧ u.sec.measCount = s.sec.measCount + (if s.fw.image.isSome then 5 else 3)
      ∧ u.mem = { s.mem with key := u.mem.key, engineGen := s.free + 1 } ∧ ∀ t, u.tile t = { s.tile t with salt := (u.tile t).salt } := by
  have hsalted : Salted s.balynUp ((List.range 64).foldl State.saltTile s.balynUp) :=
    foldl_keeps (Salted s.balynUp) _ (fun _ t h => h.saltTile t) _ _ (.refl _)
  have hmeasured : Only [.free, .sec] s (s.fresh 16).2.mintMeasures :=
    (s.fresh_only 16).mono.trans ((s.fresh 16).2.mintMeasures_only.mono)
  have hboot : (s.fresh 16).2.mintMeasures.boot = s.boot := (hmeasured .boot).resolve_left (by decide)
  have hmem : (s.fresh 16).2.mintMeasures.mem = s.mem := (hmeasured .mem).resolve_left (by decide)
  have hclk : (s.fresh 16).2.mintMeasures.clk = s.clk := (hmeasured .clk).resolve_left (by decide)
  have htile : ∀ t, s.balynUp.tile t = s.tile t := fun t => congrArg (Tbl.getD · t Tile.reset) ((s.balynUp_only .tiles).resolve_left (by decide))
  have huboot : (((List.range 64).foldl State.saltTile s.balynUp)).boot = s.balynUp.boot := (hsalted.only .boot).resolve_left (by decide)
  have husec : (((List.range 64).foldl State.saltTile s.balynUp)).sec = s.balynUp.sec := (hsalted.only .sec).resolve_left (by decide)
  have humem : (((List.range 64).foldl State.saltTile s.balynUp)).mem = s.balynUp.mem := (hsalted.only .mem).resolve_left (by decide)
  refine ⟨_, balynStart_gives hdie hmint hrunning halive, s.balynUp_only.mono.trans hsalted.only.mono, ?_, ?_, ?_, ?_, fun t => ?_⟩
  · rw [huboot, ← hboot]
    rfl
  · rw [husec, ← hclk]
    rfl
  · rw [husec]
    exact State.mintMeasures_measCount (s := (s.fresh 16).2) hrunning
  · rw [humem, ← hmem]
    rfl
  · rw [hsalted.tile t, htile t]

/-! ### ALIVE reads RUNNING (R424, R551) -/

theorem State.startPort_only (s : State) (p : Nat) : Only [.links] s (s.startPort p) :=
  Only.ite (fun _ => (s.enterPort_port p .detect).only) (fun _ => Only.refl _ _)

theorem State.startPort_link_ne (s : State) {p q : Nat} (h : q ≠ p) : (s.startPort p).link q = s.link q := by
  simp only [State.startPort]
  split
  · exact ((s.enterPort_port p .detect).elsewhere q h).1
  · rfl

/-- The state of a port and its EN. -/
def State.enabling (s : State) (p : Nat) : PortSt × Bool := ((s.link p).st, (s.link p).cfg.en)

/-- A port that is DISABLED with EN set goes to DETECT. -/
def enabled (x : PortSt × Bool) : PortSt × Bool := if x.1 = .disabled ∧ x.2 = true then (.detect, x.2) else x

theorem State.startPort_enabling (s : State) (p : Nat) : (s.startPort p).enabling p = enabled (s.enabling p) := by
  by_cases hon : (s.link p).st = .disabled ∧ (s.link p).cfg.en = true
  · simp only [State.startPort, State.enabling, if_pos hon, State.enterPort_detect, State.setLink_link_self]
    exact (if_pos hon).symm
  · simp only [State.startPort, State.enabling, if_neg hon]
    exact (if_neg hon).symm

theorem State.startPorts_link {l : List Nat} (hnodup : l.Nodup) {p : Nat} (hp : p ∈ l) (hst : (s.link p).st = .disabled)
    (hen : (s.link p).cfg.en = true) : ((l.foldl (fun s p => s.startPort p) s).link p).st = .detect := by
  have hport := foldl_pointwise (get := State.enabling) (g := fun _ => enabled) State.startPort_enabling
    (fun s a i h => by simp only [State.enabling, s.startPort_link_ne h]) l hnodup s p
  have hon : enabled (s.enabling p) = (.detect, (s.link p).cfg.en) := if_pos ⟨hst, hen⟩
  exact congrArg Prod.fst (hport.trans ((if_pos hp).trans hon))

theorem aliveRunning_effect (hdie : s.dieRuns = true) (hbalyn : s.boot.balyn = true) (halive : s.boot.alive = .booting) :
    ∃ u, Gives .aliveRunning s u ∧ Only [.boot, .links] s u ∧ u.boot = { s.boot with alive := .running }
      ∧ ∀ p, p < 64 → (s.link p).st = .disabled → (s.link p).cfg.en = true → (u.link p).st = .detect := by
  have hports (v : State) : Only [.links] v ((List.range 64).foldl (fun s p => s.startPort p) v) :=
    Only.foldl (fun s p => s.startPort_only p) _ v
  exact ⟨_, if_neg (by simp [hdie, hbalyn, halive]), (s.modBoot_only _).mono.trans (hports _).mono,
    (hports _ .boot).resolve_left (by decide), fun p hp hst hen => State.startPorts_link List.nodup_range (List.mem_range.mpr hp) hst hen⟩

/-! ### The configuration space and the heartbeat -/

theorem configSpaceReady_gives {e : Fin 4} (hdie : s.dieRuns = true) (hformed : s.formed e.val = true) (hconf : (s.ep e.val).configured = false)
    (hperst : s.pins.perst.getD (e.val / 2) true = false) (hmint : s.boot.mintDone = true) :
    Gives (.configSpaceReady e) s (s.setEp e.val { s.ep e.val with configured := true }) :=
  if_neg (by rw [hdie, hformed, hconf, hperst, hmint]; decide)

end Start

/-! ### The vault (R410, R421, R505) -/

theorem Sec.burn_intStatus (v : Sec) : v.burn.intStatus = v.intStatus := by
  simp only [Sec.burn]
  split <;> rfl

theorem Sec.burn_fusedSvn (v : Sec) : v.burn.fusedSvn = max v.fusedSvn v.burnSvn := by
  simp only [Sec.burn]
  split <;> rfl

section Vault
variable {s : State}

theorem fuseBurnDone_effect (hdie : s.dieRuns = true) (hbusy : s.sec.fuseBusy = true) :
    ∃ u, Gives .fuseBurnDone s u ∧ Only (.sec :: reporting) s u ∧ u.sec = { s.sec.burn with intStatus := s.sec.intStatus ||| 8 }
      ∧ u.sec.fusedSvn = max s.sec.fusedSvn s.sec.burnSvn ∧ u.sec.fuseBusy = false := by
  have hsec : ((s.modSec Sec.burn).secInt 3).sec = { s.sec.burn with intStatus := s.sec.intStatus ||| 8 } := by
    rw [State.secInt_sec, ← Sec.burn_intStatus s.sec]
    rfl
  refine ⟨_, if_pos (by simp [hdie, hbusy]), (s.modSec_only _).mono.trans (State.secInt_only _ 3), hsec, ?_, ?_⟩
  · rw [hsec]
    exact s.sec.burn_fusedSvn
  · rw [hsec]
    rfl

/-- The vault's report of health test `test`. -/
def rngReport (test : Nat) (fatal : Bool) : Report :=
  { d := { kind := .vaultRng, fatal := fatal, context := none, infoA := BitVec.ofNat 32 test, infoB := 0 }, injected := false, full := true,
    persist := false }

theorem vaultRngFail_effect {test : Nat} (hdie : s.dieRuns = true) (hrng : s.sec.rngOk = true) :
    ∃ u, Gives (.vaultRngFail test) s u ∧ Only (.sec :: reporting) s u
      ∧ u.sec = { s.sec with rngOk := false, intStatus := s.sec.intStatus ||| 16 } ∧ (u.capture 3).valid = true
      ∧ ((s.capture 3).valid = false → ∃ r, (u.capture 3).record = some r ∧ r.kind = .vaultRng ∧ r.infoA = BitVec.ofNat 32 test
          ∧ r.sev = if s.boot.balyn then .uc else .uf) := by
  have hgives : Gives (.vaultRngFail test) s (((s.modSec fun v => { v with rngOk := false }).secInt 4).record 3 (rngReport test !s.boot.balyn)) :=
    if_neg (by simp [hdie, hrng])
  have hcapture : ((s.modSec fun v => { v with rngOk := false }).secInt 4).capture 3 = s.capture 3 := by
    have hfaults : ((s.modSec fun v => { v with rngOk := false }).secInt 4).faults = s.faults := State.notify_faults _ _ _ _
    simp only [State.capture, hfaults]
  obtain ⟨reactions, found, htaken⟩ :=
    State.record_capture_self ((s.modSec fun v => { v with rngOk := false }).secInt 4) 3 (rngReport test !s.boot.balyn)
  refine ⟨_, hgives, ?_, ?_, ?_, fun hclear => ?_⟩
  · exact ((s.modSec_only _).mono.trans (State.secInt_only _ 4)).trans (State.record_only _ _ _).mono
  · rw [((State.record_only _ _ _) .sec).resolve_left (by decide), State.secInt_sec]
    rfl
  · rw [htaken]
    exact Capture.take_valid _ _ _
  · rw [htaken, State.taken, hcapture, Capture.take_of_clear _ _ hclear]
    refine ⟨_, rfl, rfl, rfl, ?_⟩
    cases s.boot.balyn <;> rfl

end Vault

/-- Settles O7: each of start-up's rows and of the vault's, by what it writes. -/
theorem startUpAndVaultEvents : Obligations.StartUpAndVaultEvents := by
  unfold Obligations.StartUpAndVaultEvents
  exact ⟨fun e s => ⟨balynStart_effect, aliveRunning_effect, configSpaceReady_gives, fun hdie hbalyn => if_pos (by simp [hdie, hbalyn])⟩,
    fun test s => ⟨fuseBurnDone_effect, vaultRngFail_effect, fun hdie hrng => if_pos (by simp [hdie, hrng])⟩⟩

end Sys2Proof.Machine
end

section
/-! PROOFS. The refutations of what is said of times that must have come (R185, R293, R488, R494): a RATE_ADJ of −10⁹ ppb, which no invariant of the
state keeps out, holds NT and with it the clock still. -/
namespace Sys2Proof.Machine

/-- With that RATE_ADJ no wait of the clock source brings a later tick, and none is made. -/
theorem State.reach_of_frozen {s : State} (hdie : s.dieRuns = true) (hadj : s.time.rateAdj = -1000000000) (due : Nat) : s.reach due = s := by
  have hticks : s.clk.untilTicks s.time.rateAdj (due - s.clk.now) = 0 := by
    simp [Clock.untilTicks, hadj]
  rw [State.reach, if_pos hdie, hticks]
  exact if_pos rfl

/-- A stopped module at tick 0, in A0 with PWR_GOOD, whose RATE_ADJ is −10⁹ ppb (R36). -/
def frozen : State :=
  { State.reset with time := { TimeState.reset with rateAdj := -1000000000 }, faults := { Faults.reset with stopped := true } }

theorem frozen_halted : Halted frozen := ⟨rfl, rfl, rfl, rfl, rfl, fun _ h => nomatch h⟩

/-- Refutes O8: RETRY_COUNT_RESET at tick 0 of that module clears USED without the 60 s of PWR_GOOD. -/
theorem not_seatingTripsAndRetries : ¬ Obligations.SeatingTripsAndRetries := by
  unfold Obligations.SeatingTripsAndRetries
  rintro ⟨-, -, h⟩
  obtain ⟨u, hgives, -, hnow, honly⟩ := (h 0 0 [] [] frozen).2.2 rfl
  have hcleared : Only [.pwr] frozen ((frozen.reach (60 * secTicks)).modPwr fun x => { x with used := 0, tripped := false }) := by
    rw [State.reach_of_frozen rfl rfl]
    exact fun q => by cases q <;> first | exact .inl (by decide) | exact .inr rfl
  have hclk := (frozen_halted.of_only honly).clk_eq (frozen_halted.of_only hcleared) hgives rfl
  rw [hclk, (hcleared .clk).resolve_left (by decide)] at hnow
  exact absurd hnow (by decide)

/-- That module once it runs. -/
def frozenRunning : State := { frozen with boot := { Boot.reset with balyn := true, alive := .running } }

/-- Some transfer: what is said of the window is said beside one. -/
def someFill : Xfer :=
  { id := 0, use := .fill, home := 0, express := false, ctx := 0, dead := false, space := .hbm 0, write := false, atomic := none, data := [],
    poisoned := false, len := 0, pos := 0, via := none, st := .start }

/-- Refutes O12: the imbalance window of that module ends at tick 0, before its 10 µs are over. -/
theorem not_hostMemoryAccess : ¬ Obligations.HostMemoryAccess := by
  unfold Obligations.HostMemoryAccess
  rintro ⟨-, -, -, -, h, -⟩
  obtain ⟨-, hnow, -⟩ := (h 0 0 0 0 someFill frozenRunning).2.2.1 rfl
  rw [State.reach_of_frozen rfl rfl] at hnow
  exact absurd hnow (by decide)

end Sys2Proof.Machine
end

section
/-! PROOFS. The functions of an endpoint and their interrupt messages (R328, R329, R341, R342). -/
namespace Sys2Proof.Machine

/-! ### Configuration requests (R329) -/

section Requests
variable {e : Fin 4} {fn : Fin 65} {s : State}

theorem State.not_hostReaches_of_retries (h : s.retries e.val = true) : s.hostReaches e = false := by
  have hconf : (s.ep e.val).configured = false := by
    simp only [State.retries, Bool.and_eq_true, Bool.not_eq_true'] at h
    exact h.2
  simp [State.hostReaches, hconf]

theorem configRequest_carried {f : FnId} (go : State → State) (h : s.fnExists f.ep f.fn = true) : s.configRequest f go = (go s).done := if_pos h

theorem configRequest_retried {f : FnId} (go : State → State) (h : s.retries f.ep.val = true) :
    s.configRequest f go = (s.emit (.retryStatus f)).done := by
  have hmissing : ¬ s.fnExists f.ep f.fn = true := by simp [State.fnExists, State.not_hostReaches_of_retries h]
  exact (if_neg hmissing).trans (if_pos h)

theorem vfDisable_departs (hreaches : s.hostReaches e = true) (hvfs : (s.ep e.val).vfs ≠ 0) :
    let w := (s.modEp e.val fun x => { x with vfs := 0 }).loseFns fun c => c.ep == e.val && c.fn != 0
    let v' : State := { w with host := { w.host with funcs := w.host.funcs.filter fun x => x.1 / 128 != e.val || x.1 % 128 == 0 } }
    Gives (.vfDisable e) s ((v'.event 0x0031 (0x0300 + e.val) (leBytes 1 e.val)).hpInt e.val 2) :=
  (if_pos hreaches).trans (congrArg State.done (if_neg hvfs))

theorem vfDisable_retried (h : s.retries e.val = true) : Gives (.vfDisable e) s (s.emit (.retryStatus (pf e))) :=
  (if_neg (by simp [State.not_hostReaches_of_retries h])).trans (if_pos h)

theorem registerWrite_config {w : RegWrite} (hw : w.config = true) : exec (.registerWrite e fn w) s =
    s.configRequest { ep := e, fn := fn.val } (fun s => s.hostWrite { ep := e, fn := fn.val } w) := if_pos hw

/-- A function with its Function Mask cleared, or the Mask bit of one vector (R328). -/
def Func.unmasked (x : Func) : Option (Fin 2048) → Func
  | none => { x with fnMask := false }
  | some v => { x with vectors := Tbl.set x.vectors v.val { Tbl.getD x.vectors v.val Vector.reset with masked := false } }

theorem msixUnmask_gives (v : Option (Fin 2048)) (h : s.fnExists e fn.val = true) : Gives (.msixUnmask e fn v) s
    ((s.setFunc { ep := e, fn := fn.val } ((s.func { ep := e, fn := fn.val }).unmasked v)).flushMsix { ep := e, fn := fn.val }) := by
  cases v <;> exact if_pos h

/-- Where a command is a configuration request, it is carried out for a function that exists. -/
theorem gives_of_carried {i : Instr} {f : FnId} {go : State → State} (hexec : exec i s = s.configRequest f go) (h : s.fnExists f.ep f.fn = true) :
    Gives i s (go s) := hexec.trans (configRequest_carried go h)

theorem gives_of_retried {i : Instr} {f : FnId} {go : State → State} (hexec : exec i s = s.configRequest f go) (h : s.retries f.ep.val = true) :
    Gives i s (s.emit (.retryStatus f)) := hexec.trans (configRequest_retried go h)

theorem bmeClear_exec (e : Fin 4) (fn : Fin 65) (s : State) : exec (.bmeClear e fn) s =
    s.configRequest { ep := e, fn := fn.val } (fun s => s.modFunc { ep := e, fn := fn.val } fun x => { x with bme := false }) := rfl

theorem bmeSet_exec (e : Fin 4) (fn : Fin 65) (s : State) : exec (.bmeSet e fn) s = s.configRequest { ep := e, fn := fn.val }
    (fun s => (s.modFunc { ep := e, fn := fn.val } fun x => { x with bme := true }).fnResumes { ep := e, fn := fn.val }) := rfl

theorem d3hotEntry_exec (e : Fin 4) (fn : Fin 65) (s : State) : exec (.d3hotEntry e fn) s =
    s.configRequest { ep := e, fn := fn.val } (fun s => s.modFunc { ep := e, fn := fn.val } fun x => { x with d3hot := true }) := rfl

theorem d3hotExit_exec (e : Fin 4) (fn : Fin 65) (s : State) : exec (.d3hotExit e fn) s = s.configRequest { ep := e, fn := fn.val }
    (fun s => (s.modFunc { ep := e, fn := fn.val } fun x => { x with d3hot := false }).fnResumes { ep := e, fn := fn.val }) := rfl

theorem bmeSet_gives (h : s.fnExists e fn.val = true) : Gives (.bmeSet e fn) s
    ((s.setFunc { ep := e, fn := fn.val } { s.func { ep := e, fn := fn.val } with bme := true }).fnResumes { ep := e, fn := fn.val }) := by
  have hgives := gives_of_carried (bmeSet_exec e fn s) h
  simp only [State.modFunc] at hgives
  exact hgives

theorem d3hotExit_gives (h : s.fnExists e fn.val = true) : Gives (.d3hotExit e fn) s
    ((s.setFunc { ep := e, fn := fn.val } { s.func { ep := e, fn := fn.val } with d3hot := false }).fnResumes { ep := e, fn := fn.val }) := by
  have hgives := gives_of_carried (d3hotExit_exec e fn s) h
  simp only [State.modFunc] at hgives
  exact hgives

end Requests

/-! ### Interrupt messages (R328, R342) -/

section Raise
variable {f : FnId} {v : Nat} {s : State}

theorem State.raise_sent (hdma : (s.func f).mayDma = true) (hmask : (s.func f).fnMask = false)
    (hvec : (Tbl.getD (s.func f).vectors v Vector.reset).masked = false) :
    (s.raise f v).out = s.out ++ [.msix f v (Tbl.getD (s.func f).vectors v Vector.reset).addr (Tbl.getD (s.func f).vectors v Vector.reset).data]
      ∧ (s.raise f v).host = s.host := by
  have hraise : s.raise f v = (s.emit (.msix f v (Tbl.getD (s.func f).vectors v Vector.reset).addr
      (Tbl.getD (s.func f).vectors v Vector.reset).data)).count 0x0A03 f.ep (qNum f.fn) 1 := if_pos (by rw [hdma, hmask, hvec]; rfl)
  rw [hraise]
  exact ⟨rfl, rfl⟩

/-- A vector that holds its message. -/
def Vector.holding (x : Vector) : Vector := { x with pending := true }

theorem State.raise_held (h : (s.func f).mayDma = false ∨ (s.func f).fnMask = true ∨ (Tbl.getD (s.func f).vectors v Vector.reset).masked = true) :
    s.raise f v = s.modFunc f fun x => { x with vectors := Tbl.set x.vectors v (Tbl.getD x.vectors v Vector.reset).holding } := by
  refine if_neg fun hsend => ?_
  simp only [Bool.and_eq_true, Bool.not_eq_true'] at hsend
  obtain ⟨⟨hdma, hmask⟩, hvec⟩ := hsend
  simp [hdma, hmask, hvec] at h

theorem State.raise_vector (h : (s.func f).mayDma = false ∨ (s.func f).fnMask = true ∨ (Tbl.getD (s.func f).vectors v Vector.reset).masked = true) :
    Tbl.getD ((s.raise f v).func f).vectors v Vector.reset = (Tbl.getD (s.func f).vectors v Vector.reset).holding := by
  rw [State.raise_held h, State.func, State.modFunc, State.setFunc, Tbl.getD_set_self, Tbl.getD_set_self]

end Raise

/-- Settles O11: each request by what it writes when the function exists, and by its Retry Status before the configuration space is set up;
a message by whether its vector and its function let it out. -/
theorem functionsAndTheirInterrupts : Obligations.FunctionsAndTheirInterrupts := by
  unfold Obligations.FunctionsAndTheirInterrupts
  refine ⟨fun e fn v s => ⟨vfDisable_departs, fun hfn => ?_, fun hretry => ?_⟩, fun f v s => ⟨State.raise_sent, fun hheld => ?_⟩⟩
  · exact ⟨gives_of_carried (bmeClear_exec e fn s) hfn, bmeSet_gives hfn, gives_of_carried (d3hotEntry_exec e fn s) hfn,
      d3hotExit_gives hfn, msixUnmask_gives none hfn, msixUnmask_gives (some v) hfn⟩
  · exact ⟨vfDisable_retried hretry, gives_of_retried (bmeClear_exec e fn s) hretry, gives_of_retried (bmeSet_exec e fn s) hretry,
      gives_of_retried (d3hotEntry_exec e fn s) hretry, gives_of_retried (d3hotExit_exec e fn s) hretry,
      fun w hw => gives_of_retried (registerWrite_config hw) hretry⟩
  · refine ⟨?_, ?_, ?_⟩
    · rw [State.raise_held hheld]
      rfl
    · rw [State.raise_vector hheld]
      rfl
    · rw [State.raise_vector hheld]
      rfl

end Sys2Proof.Machine
end

section
/-! PROOFS. What hosts write: words of BAR0, the one owner of module-wide registers, enables and settings (R6, R327, R334, R339, R547). -/
namespace Sys2Proof.Machine

/-! ### Words of BAR0 (R547) -/

section Words
variable {f : FnId} {off : Nat} {v : U32} {r : Reg} {hi : Bool} {s : State}

theorem ofNat_field_leBytes (v : U32) : BitVec.ofNat 32 (field (leBytes 4 v.toNat) (4 * 0) 4) = v := by
  have hbytes : ((leBytes 4 v.toNat).drop (4 * 0)).take 4 = leBytes 4 v.toNat := List.take_of_length_le (by simp)
  have hword : v.toNat % 256 ^ 4 = v.toNat := Nat.mod_eq_of_lt v.isLt
  rw [field, hbytes, leNat_leBytes, hword, BitVec.ofNat_toNat, BitVec.setWidth_eq]

theorem State.writeBar0_word (hoff : off % 4 = 0) : s.writeBar0 f off (leBytes 4 v.toNat) = s.writeUnit f off (leBytes 4 v.toNat) := by
  have hlen : (leBytes 4 v.toNat).length = 4 := leBytes_length 4 _
  rw [State.writeBar0, if_pos hlen, if_pos hoff]

/-- The state with the accesses counted that R327 drops. -/
def State.dropping (s : State) (d : Nat) : State :=
  if d = 0 ∨ s.faults.stopped = true then s else { s with host := { s.host with dropped := s.host.dropped + BitVec.ofNat 64 d } }

/-- One word: it is counted when R327 drops it, and written. -/
theorem State.writeUnit_word : s.writeUnit f off (leBytes 4 v.toNat) = (s.dropping (s.dropsOf f off 1)).writeWord f off v := by
  unfold State.writeUnit
  simp only [leBytes_length, Nat.div_self (by decide : 0 < 4), List.range_one, List.foldl_cons, List.foldl_nil, ofNat_field_leBytes]
  rfl

/-- The register of which a word of a write is dropped. -/
def State.dropOf (s : State) (f : FnId) (off : Nat) : Option Reg := match s.wordFate f off with
  | some (r, _, .dropped) => if s.faults.stopped && !r.runsStopped then none else some r
  | _ => none

theorem filterMap_range_one {α : Type} (g : Nat → Option α) : (List.range 1).filterMap g = (g 0).toList := by
  cases h : g 0 <;> simp [List.range_one, h]

theorem State.dropsOf_one : s.dropsOf f off 1 = (s.dropOf f off).toList.eraseDups.length :=
  congrArg (fun l : List Reg => l.eraseDups.length) (filterMap_range_one _)

theorem State.dropsOf_kept (hdrop : s.dropOf f off = none) : s.dropsOf f off 1 = 0 := by
  rw [State.dropsOf_one, hdrop]
  rfl

theorem State.writeBar0_kept (hoff : off % 4 = 0) (hdrop : s.dropOf f off = none) : s.writeBar0 f off (leBytes 4 v.toNat) = s.writeWord f off v := by
  rw [State.writeBar0_word hoff, State.writeUnit_word, State.dropsOf_kept hdrop, State.dropping, if_pos (.inl rfl)]

theorem State.writeBar0_takes (hoff : off % 4 = 0) (hfate : s.wordFate f off = some (r, hi, .takes)) (hstop : s.faults.stopped = false) :
    s.writeBar0 f off (leBytes 4 v.toNat) = s.regWord f r hi v := by
  have hdrop : s.dropOf f off = none := by rw [State.dropOf, hfate]
  have hruns : ¬ (s.faults.stopped && !r.runsStopped) = true := by simp [hstop]
  rw [State.writeBar0_kept hoff hdrop, State.writeWord, hfate]
  exact if_neg hruns

theorem State.writeWord_dropped (hfate : s.wordFate f off = some (r, hi, .dropped)) : s.writeWord f off v = s := by
  rw [State.writeWord, hfate]

theorem State.writeBar0_dropped (hoff : off % 4 = 0) (hfate : s.wordFate f off = some (r, hi, .dropped)) (hstop : s.faults.stopped = false) :
    s.writeBar0 f off (leBytes 4 v.toNat) = { s with host := { s.host with dropped := s.host.dropped + 1 } } := by
  have hdrop : s.dropOf f off = some r := by
    rw [State.dropOf, hfate]
    exact if_neg (by simp [hstop])
  have hdrops : s.dropsOf f off 1 = 1 := by
    rw [State.dropsOf_one, hdrop]
    rfl
  have hdropping : s.dropping 1 = { s with host := { s.host with dropped := s.host.dropped + 1 } } := if_neg (by simp [hstop])
  rw [State.writeBar0_word hoff, State.writeUnit_word, hdrops, hdropping]
  exact State.writeWord_dropped hfate

theorem State.writeBar0_none (hoff : off % 4 = 0) (hfate : s.wordFate f off = none) : s.writeBar0 f off (leBytes 4 v.toNat) = s := by
  have hdrop : s.dropOf f off = none := by rw [State.dropOf, hfate]
  rw [State.writeBar0_kept hoff hdrop, State.writeWord, hfate]

theorem State.writeBar0_unaligned {data : List Byte} (hlen : data.length = 4) (hoff : off % 4 ≠ 0) : s.writeBar0 f off data = s := by
  rw [State.writeBar0, if_pos hlen, if_neg hoff]

theorem State.writeBar0_odd {data : List Byte} (hlen : data.length ≠ 4) (hodd : data.length % 8 ≠ 0 ∨ off % 8 ≠ 0) : s.writeBar0 f off data = s := by
  rw [State.writeBar0, if_neg hlen, if_neg (by omega)]

end Words

theorem registerWrite_gives {e : Fin 4} {fn : Fin 65} {w : RegWrite} {s u : State} (hfn : s.fnExists e fn.val = true)
    (hu : s.hostWrite { ep := e, fn := fn.val } w = u) : Gives (.registerWrite e fn w) s u := by
  subst hu
  cases hw : w.config
  · exact (if_neg (ne_true_of_eq_false hw)).trans (if_pos hfn)
  · exact gives_of_carried (registerWrite_config hw) hfn

/-! ### One owner of module-wide registers (R327) -/

/-- A register that is no function's own and that only the management PF writes, as most are. -/
theorem State.fate_moduleWide {f : FnId} {r : Reg} {s : State} (halive : s.boot.alive ≠ .recovery)
    (hr : r ∈ [.timeStatus, .timeEnable, .pwrStatus, .pwrEnable, .audStatus, .audEnable, .secStatus, .secEnable, .hbmStatus, .hbmEnable]
      ∨ (∃ p, r = .portStatus p ∨ r = .portEnable p ∨ r = .schedStatus p ∨ r = .schedEnable p ∨ r = .tileStatus p ∨ r = .tileEnable p
          ∨ r = .timePort p)) :
    s.fate f r false = if f.fn ≠ 0 then .absent else if s.host.mgmt = some f.ep.val then .takes else .dropped := by
  have hrec : ¬ (s.boot.alive == .recovery && !r.inRecovery) = true := by simp [halive]
  have honly : s.fate f r false
      = if !(f.fn == 0) then Fate.absent else if f.fn == 0 && s.host.mgmt == some f.ep.val then .takes else .dropped := by
    refine (if_neg hrec).trans ?_
    rcases hr with hr | ⟨p, hr⟩
    · simp only [List.mem_cons, List.not_mem_nil, or_false] at hr
      rcases hr with h | h | h | h | h | h | h | h | h | h <;> subst h <;> rfl
    · rcases hr with h | h | h | h | h | h | h <;> subst h <;> rfl
  rw [honly]
  by_cases hfn : f.fn = 0 <;> simp [hfn]

/-! ### Enables and settings -/

theorem State.vfEnable_taken {f : FnId} {k : Nat} {s : State} (hfn : f.fn = 0) (hvfs : (s.ep f.ep.val).vfs = 0)
    (hk : k ≤ s.boot.mcr.vfCount.getD f.ep.val 0) : s.hostWrite f (.vfEnable k) = s.setEp f.ep.val { s.ep f.ep.val with vfs := k } :=
  if_pos ⟨hfn, hvfs, hk⟩

theorem State.vfEnable_refused {f : FnId} {k : Nat} {s : State}
    (h : f.fn ≠ 0 ∨ (s.ep f.ep.val).vfs ≠ 0 ∨ s.boot.mcr.vfCount.getD f.ep.val 0 < k) : s.hostWrite f (.vfEnable k) = s := by
  refine if_neg fun ⟨hfn, hvfs, hk⟩ => ?_
  rcases h with h | h | h
  · exact h hfn
  · exact h hvfs
  · exact absurd hk (Nat.not_le.mpr h)

/-- Settles O14: a word of BAR0 by its fate, the fate of a module-wide register by the function that writes it, and each enable and
setting by the field it stores. -/
theorem registerWrites : Obligations.RegisterWrites := by
  unfold Obligations.RegisterWrites
  refine ⟨fun e fn w off v data r hi s => ?_, fun f r s halive hr => State.fate_moduleWide halive hr, fun f v n p t k on code s => ?_⟩
  · intro f hfn
    exact ⟨registerWrite_gives hfn rfl, fun hoff hfate hstop => registerWrite_gives hfn (State.writeBar0_takes hoff hfate hstop),
      fun hoff hfate hstop => registerWrite_gives hfn (State.writeBar0_dropped hoff hfate hstop),
      fun hoff hfate => registerWrite_gives hfn (State.writeBar0_none hoff hfate),
      fun hlen hoff => registerWrite_gives hfn (State.writeBar0_unaligned hlen hoff),
      fun hlen hodd => registerWrite_gives hfn (State.writeBar0_odd hlen hodd)⟩
  · exact ⟨rfl, rfl, rfl, rfl, rfl, rfl, rfl, rfl, rfl, rfl, rfl, rfl, rfl, State.vfEnable_taken, State.vfEnable_refused⟩

end Sys2Proof.Machine
end

section
/-! PROOFS. What accesses to BAR0 do beside: write 1 to clear, reads that clear, invalidations, AUD_SRC_CLEAR, and what reads return
(R6, R57, R58, R115, R162, R216, R287, R307, R309, R310, R327, R330 to R332, R513, R543, R547, R550). -/
namespace Sys2Proof.Machine

/-! ### Write 1 to clear (R6) -/

theorem w1c_getLsbD {w : Nat} (old mask still : BitVec w) (i : Nat) :
    (w1c old mask still).getLsbD i = ((old.getLsbD i && !mask.getLsbD i) || still.getLsbD i) := by
  by_cases hi : i < w
  · simp [w1c, hi]
  · simp [w1c, BitVec.getLsbD_of_ge _ _ (Nat.not_lt.mp hi)]

theorem w1c_zero {w : Nat} (old mask : BitVec w) : w1c old mask 0 = old &&& ~~~mask := BitVec.or_zero

theorem State.notify_same {w : Nat} (s : State) (status enable : BitVec w) : s.notify status status enable = s := by
  have hnone : status &&& enable &&& ~~~status = 0 := by
    ext i
    simp
    cases status[i] <;> simp
  exact if_pos hnone

theorem State.notify_ep {w : Nat} (s : State) (a b c : BitVec w) (n : Nat) : (s.notify a b c).ep n = s.ep n := by
  have hhost : { (s.notify a b c).host with funcs := s.host.funcs } = s.host := ((s.notify_only a b c) .host).resolve_left (by decide)
  have heps := congrArg HostPorts.eps hhost
  have heps : (s.notify a b c).host.eps = s.host.eps := heps
  simp only [State.ep, heps]

section Clear
variable {f : FnId} {v : U32} {n t : Nat} {s : State}

theorem State.hpStatus_clears (hflit : (s.ep n).noFlit = false) : s.regWord f (.hpStatus n) false v =
    s.setEp n { s.ep n with intStatus := (s.ep n).intStatus &&& ~~~bv 5 v } := by
  have hstill : (if (s.ep n).noFlit then (16 : BitVec 5) else 0) = 0 := by rw [hflit]; rfl
  simp only [State.regWord, hstill, w1c_zero, State.notify_same, State.modEp]

theorem State.hpStatus_keepsNoFlit (hflit : (s.ep n).noFlit = true) :
    ((s.regWord f (.hpStatus n) false v).ep n).intStatus = ((s.ep n).intStatus &&& ~~~bv 5 v) ||| 16 := by
  simp only [State.regWord, State.notify_ep, State.modEp, hflit, if_true]
  exact congrArg Endpoint.intStatus (Tbl.getD_set_self _ _ _ _)

theorem State.setEp_only (s : State) (n : Nat) (x : Endpoint) : Only [.host] s (s.setEp n x) := fun q => by
  cases q <;> first | exact .inl (by decide) | exact .inr rfl

theorem State.hpStatus_only (s : State) (f : FnId) (n : Nat) (v : U32) : Only (.host :: reporting) s (s.regWord f (.hpStatus n) false v) :=
  (s.setEp_only n _).mono.trans (State.notify_only _ _ _ _).mono

theorem State.pwrStatus_only (s : State) (f : FnId) (v : U32) : Only (.sup :: reporting) s (s.regWord f .pwrStatus false v) :=
  (s.modSup_only _).mono.trans (State.notify_only _ _ _ _).mono

theorem State.secStatus_only (s : State) (f : FnId) (v : U32) : Only (.sec :: reporting) s (s.regWord f .secStatus false v) :=
  (s.modSec_only _).mono.trans (State.notify_only _ _ _ _).mono

theorem State.tileStatus_only (s : State) (f : FnId) (t : Nat) (v : U32) : Only (.tiles :: reporting) s (s.regWord f (.tileStatus t) false v) :=
  (s.setTile_only t _).mono.trans (State.notify_only _ _ _ _).mono

theorem State.timeStatus_clears : s.regWord f .timeStatus false v = { s with time := { s.time with intStatus := s.time.intStatus &&& ~~~bv 6 v } } := by
  simp only [State.regWord, w1c_zero, State.modTime]

theorem State.audStatus_clears : s.regWord f .audStatus false v =
    { s with faults := { s.faults with intStatus := s.faults.intStatus &&& ~~~bv 5 v } } := by
  simp only [State.regWord, w1c_zero]

theorem State.hbmStatus_clears : s.regWord f .hbmStatus false v = { s with mem := { s.mem with intStatus := s.mem.intStatus &&& ~~~bv 3 v } } := by
  simp only [State.regWord, w1c_zero, State.modMem]

theorem State.portStatus_clears {p : Nat} : s.regWord f (.portStatus p) false v =
    s.setLink p { s.link p with intStatus := (s.link p).intStatus &&& ~~~bv 6 v } := by
  simp only [State.regWord, w1c_zero, State.modLink]

theorem State.schedStatus_clears {p : Nat} : s.regWord f (.schedStatus p) false v =
    s.setSched p { s.sched p with intStatus := (s.sched p).intStatus &&& ~~~bv 4 v } := by
  simp only [State.regWord, w1c_zero, State.modSched]

end Clear

/-! ### Reads that clear (R57, R58, R115, R162, R216, R287, R307) -/

section Reads
variable {e : Fin 4} {fn : Fin 65} {s : State}

theorem State.asRead_running (hstop : s.faults.stopped = false) : s.asRead = s := by
  unfold State.asRead
  rw [hstop]

theorem readClear_gives {i : Instr} {v : State → Nat} {clear : State → State} (hexec : exec i s = s.readClear e fn v clear)
    (hfn : s.fnExists e fn.val = true) (halive : s.boot.alive ≠ .recovery) (hstop : s.faults.stopped = false) (hpf : fn.val = 0) :
    Gives i s ((clear s).emit (.readData { ep := e, fn := fn.val } (leBytes 4 (v s)))) := by
  have hguard : ¬ (!s.fnExists e fn.val) = true := by simp [hfn]
  have hreaches : ¬ (fn.val ≠ 0 ∨ s.boot.alive = .recovery) := by simp [hpf, halive]
  have hclear : (if s.faults.stopped then s else clear s) = clear s := if_neg (by simp [hstop])
  rw [Gives, hexec]
  refine (if_neg hguard).trans ((if_neg hreaches).trans ?_)
  rw [hclear, State.asRead_running hstop]
  rfl

theorem readsClear (p t : Fin 64) (v : Fin 12) (a : Fin 19) (hfn : s.fnExists e fn.val = true) (halive : s.boot.alive ≠ .recovery)
    (hstop : s.faults.stopped = false) (hpf : fn.val = 0) :
    let f : FnId := { ep := e, fn := fn.val }
    Gives (.launchLateCntRead e fn) s (s.clearLateCnt.emit (.readData f (leBytes 4 s.time.lateCnt.toNat)))
    ∧ Gives (.launchLateMaxRead e fn) s (s.clearLateMax.emit (.readData f (leBytes 4 s.time.lateMax.toNat)))
    ∧ Gives (.wmarkRead e fn p v) s ((s.clearWmark p v).emit (.readData f (leBytes 4 (Tbl.getD (s.rport p.val).vcs v.val VcCtr.reset).wmark)))
    ∧ Gives (.tc0QdepthMaxRead e fn p) s ((s.clearQdepthMax p).emit (.readData f (leBytes 4 (s.sched p.val).qdepthMax)))
    ∧ Gives (.tpSuspWmarkRead e fn t) s ((s.clearSuspWmark t).emit (.readData f (leBytes 4 (s.tile t.val).suspWmark)))
    ∧ Gives (.clLateMaxRead e fn t) s ((s.clearClLateMax t).emit (.readData f (leBytes 4 (s.tile t.val).clLateMax.toNat)))
    ∧ Gives (.faultCountRead e fn a) s ((s.clearFaultCount a).emit (.readData f (leBytes 4 (s.agent a.val).fCount.toNat))) := by
  have hread {i : Instr} (v : State → Nat) (clear : State → State) (hexec : exec i s = s.readClear e fn v clear) :=
    readClear_gives hexec hfn halive hstop hpf
  exact ⟨hread (fun s => s.time.lateCnt.toNat) State.clearLateCnt rfl, hread (fun s => s.time.lateMax.toNat) State.clearLateMax rfl,
    hread (fun s => (Tbl.getD (s.rport p.val).vcs v.val VcCtr.reset).wmark) (fun s => s.clearWmark p v) rfl,
    hread (fun s => (s.sched p.val).qdepthMax) (fun s => s.clearQdepthMax p) rfl,
    hread (fun s => (s.tile t.val).suspWmark) (fun s => s.clearSuspWmark t) rfl,
    hread (fun s => (s.tile t.val).clLateMax.toNat) (fun s => s.clearClLateMax t) rfl,
    hread (fun s => (s.agent a.val).fCount.toNat) (fun s => s.clearFaultCount a) rfl⟩

theorem ntNowLoRead_gives (hfn : s.fnExists e fn.val = true) (halive : s.boot.alive ≠ .recovery) (hstop : s.faults.stopped = false) :
    Gives (.ntNowLoRead e fn) s ((s.setFunc { ep := e, fn := fn.val }
      { s.func { ep := e, fn := fn.val } with ntLatch := BitVec.ofNat 32 (s.clk.nt.toNat / 2 ^ 32) }).emit
        (.readData { ep := e, fn := fn.val } (leBytes 4 s.clk.nt.toNat))) :=
  (if_neg (by simp [hfn])).trans ((if_neg halive).trans (if_neg (by simp [hstop])))

end Reads

/-! ### Invalidation sets (R309, R310) -/

section Invalidation
variable {w : InvalBy} {s : State}

theorem State.setInval_setInval (s : State) (a k : Nat) (x y : InvalSet) : (s.setInval a k x).setInval a k y = s.setInval a k y := by
  simp only [State.setInval, State.modAgent, State.agent, State.setAgent, State.modMem, Tbl.getD_set_self, Tbl.set_set, put, List.set_set]

theorem State.invalSet_setInval {a k : Nat} (x : InvalSet) (hk : k < (s.agent a).sets.length) : (s.setInval a k x).invalSet a k = x := by
  simp only [State.invalSet, State.setInval, State.modAgent, State.agent, State.setAgent, State.modMem, Tbl.getD_set_self]
  exact getD_put_self _ _ hk

/-- The writer of GO reaches the set: a PF its own, while its registers take what it writes, and Balyn, with the page it has written. -/
def State.mayGo (s : State) : InvalBy → Prop
  | .pf e => s.hostReaches e = true ∧ s.faults.stopped = false ∧ s.boot.alive ≠ .recovery
  | .balyn a page => s.works = true ∧ (s.invalSet (InvalBy.balyn a page).agent (InvalBy.balyn a page).set).va = 4096 * page.toNat
      ∧ (s.agent (InvalBy.balyn a page).agent).sets.length = 2

theorem State.invalRow_of_mayGo (h : s.mayGo w) (scope asid size : Nat) : s.invalRow w scope asid size = (s.goInval w scope asid size).done := by
  cases w with
  | pf e =>
    obtain ⟨hreaches, hstop, halive⟩ := h
    exact if_pos (by simp [hreaches, hstop, halive])
  | balyn a page =>
    obtain ⟨hworks, hva, hsets⟩ := h
    have hset : ({ s.invalSet (InvalBy.balyn a page).agent 0 with va := 4096 * page.toNat } : InvalSet)
        = s.invalSet (InvalBy.balyn a page).agent 0 := by
      rw [← hva]
      rfl
    refine (if_pos hworks).trans (congrArg State.done ?_)
    rw [hset]
    have hsame := State.invalSet_setInval (s := s) (a := (InvalBy.balyn a page).agent) (k := 0)
      (s.invalSet (InvalBy.balyn a page).agent 0) (by omega)
    simp only [State.goInval, InvalBy.set, hsame, State.setInval_setInval, State.invalOwns]
    rfl

theorem State.goInval_overrun {scope asid size : Nat} (hdone : (s.invalSet w.agent w.set).done = false) :
    s.goInval w scope asid size = s.setInval w.agent w.set { s.invalSet w.agent w.set with overrun := true } :=
  if_pos (by rw [hdone]; rfl)

theorem State.goInval_starts {scope asid size : Nat} (hdone : (s.invalSet w.agent w.set).done = true)
    (howns : ¬ ((scope = 1 ∨ scope = 2) ∧ s.invalOwns w asid = false)) : s.goInval w scope asid size = s.setInval w.agent w.set
      { s.invalSet w.agent w.set with scope := scope, asid := asid, sizeLog2 := size, done := false } :=
  (if_neg (by rw [hdone]; decide)).trans (if_neg howns)

theorem State.goInval_denied {asid size : Nat} (hdone : (s.invalSet w.agent w.set).done = true) (howns : s.invalOwns w asid = false) :
    s.goInval w 1 asid size = s.setInval w.agent w.set
      { s.invalSet w.agent w.set with scope := 1, asid := asid, sizeLog2 := size, denied := true } :=
  (if_neg (by rw [hdone]; decide)).trans (if_pos ⟨.inl rfl, howns⟩)

theorem State.agent_setInval (s : State) (a k : Nat) (x : InvalSet) : (s.setInval a k x).agent a = { s.agent a with sets := put (s.agent a).sets k x } :=
  Tbl.getD_set_self _ _ _ _

theorem State.agent_setAgent (s : State) (a : Nat) (x : Agent) : (s.setAgent a x).agent a = x := Tbl.getD_set_self _ _ _ _

theorem invalDone_gives (hdone : (s.invalSet w.agent w.set).done = false) (hworks : s.works = true)
    (hwaits : s.translatedWaits w (s.invalSet w.agent w.set) = false) : Gives (.invalDone w) s
      ((s.setAgent w.agent { s.agent w.agent with tlb := (s.agent w.agent).tlb.filter fun t => !s.inScope w (s.invalSet w.agent w.set) t }).setInval
        w.agent w.set { s.invalSet w.agent w.set with done := true }) :=
  if_neg (by simp [hdone, hworks, hwaits])

end Invalidation

/-! ### AUD_SRC_CLEAR (R327, R513) -/

section Source
variable {n m : Nat} {s : State}

theorem State.clearCapture_only (s : State) (n : Nat) : Only reporting s (s.clearCapture n) := fun q => by
  unfold State.clearCapture
  extract_lets c s1
  split <;> (cases q <;> first | exact .inl (by decide) | exact .inr rfl)

theorem State.clearCapture_capture (s : State) (n m : Nat) : (s.clearCapture n).capture m = if m = n then
    { s.capture n with valid := false, second := false, count := 0, firstSev := .ce, highestSev := .ce } else s.capture m := by
  unfold State.clearCapture
  extract_lets c s1
  split <;> exact Tbl.getD_set ..

theorem State.clearSource_only (s : State) (n : Nat) : Only reporting s (s.clearSource n) :=
  (s.clearCapture_only n).trans (Only.foldl (fun s _ => s.record_only _ _) _ _)

theorem State.clearSource_capture_ne (s : State) {n m : Nat} (hm : m ≠ n) : (s.clearSource n).capture m = s.capture m := by
  have hclear : (s.clearCapture n).capture m = s.capture m := (s.clearCapture_capture n m).trans (if_neg hm)
  exact foldl_keeps (fun u : State => u.capture m = s.capture m) _ (fun u d hu => (u.record_capture_ne _ hm).trans hu) _ _ hclear

theorem State.clearSource_clears (hnone : s.persisting n = []) : ((s.clearSource n).capture n).valid = false ∧ ((s.clearSource n).capture n).count = 0 := by
  have hself : (s.clearSource n).capture n
      = { s.capture n with valid := false, second := false, count := 0, firstSev := .ce, highestSev := .ce } := by
    rw [State.clearSource, hnone]
    exact (s.clearCapture_capture n n).trans (if_pos rfl)
  rw [hself]
  exact ⟨rfl, rfl⟩

end Source

/-! ### What reads return (R330 to R332, R543, R547, R550) -/

section Directory
variable {f : FnId} {off n : Nat} {s : State}

/-- The blocks of the directory, in order. -/
def blockList (window : Bool) : List Block :=
  ([.dir, .glb, .mbx, .time, .pwr, .aud, .perf, .sec] : List Block) ++ (List.replicate 19 Block.xlt ++ (([.atom, .hbm, .hostq, .msix] : List Block)
    ++ (List.replicate 64 Block.port ++ (List.replicate 64 Block.sched ++ (List.replicate 64 Block.tile
    ++ (Block.doorbell :: if window then [Block.hbmWindow] else []))))))

theorem map_block_range {b : Block} (g : Nat → DirEntry) (hg : DirEntry.block ∘ g = fun _ => b) (n : Nat) :
    ((List.range n).map g).map DirEntry.block = List.replicate n b := by
  rw [List.map_map, hg, List.map_const', List.length_range]

theorem State.blocks_block (s : State) : s.blocks.map DirEntry.block = blockList (s.boot.mcr.bar4Log2 != 0) := by
  unfold State.blocks
  extract_lets many one
  have hmany (b : Block) (n base stride : Nat) : (many b n base stride).map DirEntry.block = List.replicate n b := 
    map_block_range (fun i => { block := b, inst := i, bar := 0, off := base + stride * i, size := stride }) rfl n
  have hone (b : Block) (base size : Nat) : (one b base size).map DirEntry.block = [b] := rfl
  clear_value many one
  simp only [List.map_append, hmany, hone, List.append_assoc, blockList, List.map_cons, List.cons_append, List.nil_append]
  by_cases hwindow : s.boot.mcr.bar4Log2 = 0 <;> simp [hwindow]

/-- The blocks a function's directory names: those of the list that it reaches. -/
theorem State.directory_block (s : State) (f : FnId) :
    (s.directory f).map (·.block) = (blockList (s.boot.mcr.bar4Log2 != 0)).filter (s.reachesBlock f) := by
  rw [← State.blocks_block, List.filter_map]
  rfl

theorem State.reachesBlock_pf (halive : s.boot.alive ≠ .recovery) (hpf : f.fn = 0) (b : Block) : s.reachesBlock f b = true := by
  simp [State.reachesBlock, halive, hpf]

theorem State.directory_length_pf (halive : s.boot.alive ≠ .recovery) (hpf : f.fn = 0) :
    (s.directory f).length = if s.boot.mcr.bar4Log2 = 0 then 224 else 225 := by
  have hlen : (s.directory f).length = (blockList (s.boot.mcr.bar4Log2 != 0)).length := by
    rw [← List.length_map (f := DirEntry.block), s.directory_block, List.filter_eq_self.mpr fun b _ => State.reachesBlock_pf halive hpf b]
  rw [hlen]
  by_cases hwindow : s.boot.mcr.bar4Log2 = 0
  · rw [if_pos hwindow, hwindow]
    rfl
  · have hon : (s.boot.mcr.bar4Log2 != 0) = true := by simp [hwindow]
    rw [if_neg hwindow, hon]
    rfl

/-- The blocks that a VF reaches (R326). -/
def Block.ofVf : Block → Bool
  | .dir | .time | .perf | .hostq | .msix | .doorbell => true
  | _ => false

theorem State.directory_vf (halive : s.boot.alive ≠ .recovery) (hvf : f.fn ≠ 0) : (s.directory f).map (·.block.code) = [1, 4, 7, 12, 16, 17] := by
  have hreach : s.reachesBlock f = Block.ofVf := by
    funext b
    cases b <;> simp [State.reachesBlock, halive, hvf, Block.ofVf]
  have hblocks := s.directory_block f
  have hcodes : (s.directory f).map (·.block.code) = ((s.directory f).map (·.block)).map Block.code := by rw [List.map_map]; rfl
  rw [hcodes, hblocks, hreach]
  cases (s.boot.mcr.bar4Log2 != 0) <;> decide

/-- The blocks of the recovery configuration (R329). -/
def Block.ofRecovery : Block → Bool
  | .dir | .glb | .mbx => true
  | _ => false

theorem State.directory_recovery (halive : s.boot.alive = .recovery) (hpf : f.fn = 0) : (s.directory f).map (·.block.code) = [1, 2, 3] := by
  have hreach : s.reachesBlock f = Block.ofRecovery := by
    funext b
    cases b <;> simp [State.reachesBlock, halive, hpf, Block.ofRecovery]
  have hblocks := s.directory_block f
  have hcodes : (s.directory f).map (·.block.code) = ((s.directory f).map (·.block)).map Block.code := by rw [List.map_map]; rfl
  rw [hcodes, hblocks, hreach]
  cases (s.boot.mcr.bar4Log2 != 0) <;> decide

theorem State.reachesBlock_dir (s : State) (f : FnId) : s.reachesBlock f .dir = true := by
  simp [State.reachesBlock]

theorem State.bar0Word_dir (s : State) (f : FnId) {off : Nat} (hoff : blockAt off = some .dir) : s.bar0Word f off = s.dirWord f (off % 0x10000) := by
  unfold State.bar0Word
  rw [hoff]
  simp only [State.reachesBlock_dir, Block.runsStopped]
  rfl

theorem State.readEffect_dir (s : State) (f : FnId) {off : Nat} (hoff : blockAt off = some .dir) : s.readEffect f off = s := by
  unfold State.readEffect
  rw [hoff]
  exact ite_self _

theorem State.readEffect_absent (s : State) (f : FnId) {off : Nat} (hoff : blockAt off = none) : s.readEffect f off = s := by
  unfold State.readEffect
  rw [hoff]

theorem State.bar0Word_absent (s : State) (f : FnId) {off : Nat} (hoff : blockAt off = none) : s.bar0Word f off = 0 := by
  unfold State.bar0Word
  rw [hoff]

theorem State.readBar0_signature (s : State) (f : FnId) : s.readBar0 f 0 8 = ([0x48, 0x44, 0x4C, 0x44, 0x44, 0x49, 0x52, 0x01], s) := by
  have h0 : blockAt 0 = some .dir := rfl
  have h4 : blockAt 4 = some .dir := rfl
  have hbytes : leBytes 4 (s.bar0Word f 0) ++ leBytes 4 (s.bar0Word f 4) = [0x48, 0x44, 0x4C, 0x44, 0x44, 0x49, 0x52, 0x01] := by
    have hlow : s.dirWord f (0 % 0x10000) = word8 0 [dirSignature] 0 := by simp [State.dirWord]
    have hhigh : s.dirWord f (4 % 0x10000) = word8 0 [dirSignature] 4 := by simp [State.dirWord]
    rw [s.bar0Word_dir f h0, s.bar0Word_dir f h4, hlow, hhigh]
    decide
  have heffect : (s.readEffect f 0).readEffect f 4 = s := by rw [s.readEffect_dir f h0, s.readEffect_dir f h4]
  have htime : ¬ (0 = 0x30000 ∧ s.reachesBlock f .time = true) := fun h => absurd h.1 (by decide)
  have hunit : s.readUnit f 0 8 = (if 0 = 0x30000 ∧ s.reachesBlock f .time = true then leBytes 8 s.asRead.clk.nt.toNat
      else leBytes 4 (s.bar0Word f 0) ++ leBytes 4 (s.bar0Word f 4), (s.readEffect f 0).readEffect f 4) := rfl
  rw [State.readBar0, if_pos (by decide), hunit, heffect, if_neg htime, hbytes]

/-- A word that is read whole, without effect. -/
theorem State.readBar0_word (s : State) (f : FnId) {off : Nat} (hoff : off % 4 = 0) (htime : off ≠ 0x30000) (heffect : s.readEffect f off = s) :
    s.readBar0 f off 4 = (leBytes 4 (s.bar0Word f off), s) := by
  have hbase : off / 4 * 4 = off := Nat.div_mul_cancel (Nat.dvd_of_mod_eq_zero hoff)
  have hlatch : ¬ ((off = 0x30000 ∧ s.reachesBlock f .time = true) ∧ 4 = 4 ∧ s.faults.stopped = false) := fun h => htime h.1.1
  have hunit : s.readUnit f off 4 = (((leBytes 4 (s.bar0Word f (off / 4 * 4))).drop (off % 4)).take 4,
      if (off = 0x30000 ∧ s.reachesBlock f .time = true) ∧ 4 = 4 ∧ s.faults.stopped = false then
        (s.readEffect f (off / 4 * 4)).latchNt f else s.readEffect f (off / 4 * 4)) := rfl
  rw [State.readBar0, if_pos ⟨by decide, hoff⟩, hunit, if_neg hlatch, hbase, heffect, hoff, List.drop_zero,
    List.take_of_length_le (by simp)]

theorem State.readBar0_alive (s : State) (f : FnId) :
    s.readBar0 f 12 4 = (leBytes 4 (s.boot.heartbeat.toNat + 2 ^ 16 * s.boot.alive.code + 2 ^ 24 * 0x5A), s) := by
  have h12 : blockAt 12 = some .dir := rfl
  have hword : s.bar0Word f 12 = s.boot.heartbeat.toNat + 2 ^ 16 * s.boot.alive.code + 2 ^ 24 * 0x5A := by
    rw [s.bar0Word_dir f h12]
    show s.aliveWord = _
    simp only [State.aliveWord, at_, Nat.shiftLeft_eq, Nat.mul_comm]
  rw [s.readBar0_word f (by decide) (by decide) (s.readEffect_dir f h12), hword]

theorem State.readBar0_absent (hblock : blockAt off = none) (hoff : off % 4 = 0) : s.readBar0 f off 4 = (zeros 4, s) := by
  have htime : off ≠ 0x30000 := fun h => by
    rw [h] at hblock
    exact absurd hblock (by decide)
  rw [s.readBar0_word f hoff htime (s.readEffect_absent f hblock), s.bar0Word_absent f hblock]
  rfl

theorem State.readBar0_odd (hunit : ¬ ((n = 1 ∨ n = 2 ∨ n = 4 ∨ n = 8) ∧ off % n = 0))
    (hunits : ¬ (8 < n ∧ n % 8 = 0 ∧ off % 8 = 0 ∧ off / 64 = (off + n - 1) / 64)) : s.readBar0 f off n = (zeros n, s) :=
  (if_neg hunit).trans (if_neg hunits)

end Directory

/-- Settles O15: what clears, by the register; GO by the state of its set and its scope; AUD_SRC_CLEAR by its PF; a read by its shape and
block. -/
theorem registerSideEffects : Obligations.RegisterSideEffects := by
  unfold Obligations.RegisterSideEffects
  refine ⟨⟨fun w => w1c_getLsbD, fun f v n p t s => ?_⟩, fun e fn p t v a s => ?_, fun w asid size s => ?_, fun e n s => ?_, fun f off n s => ?_⟩
  · exact ⟨State.hpStatus_clears, fun hflit => ⟨State.hpStatus_keepsNoFlit hflit, s.hpStatus_only f n v⟩, State.timeStatus_clears,
      State.audStatus_clears, State.hbmStatus_clears, State.portStatus_clears, State.schedStatus_clears, State.notify_sup _ _ _ _,
      s.pwrStatus_only f v, State.notify_sec _ _ _ _, s.secStatus_only f v, State.notify_tiles _ _ _ _, s.tileStatus_only f t v⟩
  · intro f c hfn halive hstop
    exact ⟨ntNowLoRead_gives hfn halive hstop, readsClear p t v a hfn halive hstop⟩
  · intro x writes next
    have hmay (hw : writes) : s.mayGo w := by cases w <;> exact hw
    refine ⟨fun hw hdone => ⟨?_, ?_, fun howns => ⟨?_, ?_⟩, fun howns => ?_⟩, fun hw hdone => ?_, fun hdone hworks hwaits ha => ?_⟩
    · exact (State.invalRow_of_mayGo (hmay hw) 0 0 0).trans (congrArg State.done (State.goInval_starts hdone (by simp)))
    · exact (State.invalRow_of_mayGo (hmay hw) 3 0 0).trans (congrArg State.done (State.goInval_starts hdone (by simp)))
    · exact (State.invalRow_of_mayGo (hmay hw) 1 asid.val 0).trans (congrArg State.done (State.goInval_starts hdone (by simp [howns])))
    · exact (State.invalRow_of_mayGo (hmay hw) 2 asid.val size.val).trans (congrArg State.done (State.goInval_starts hdone (by simp [howns])))
    · exact (State.invalRow_of_mayGo (hmay hw) 1 asid.val 0).trans (congrArg State.done (State.goInval_denied hdone howns))
    · exact (State.invalRow_of_mayGo (hmay hw) 0 0 0).trans (congrArg State.done (State.goInval_overrun hdone))
    · refine ⟨_, invalDone_gives hdone hworks hwaits, rfl, fun t ht => ?_, fun hset => ?_⟩
      · rw [State.agent_setInval, State.agent_setAgent] at ht
        exact Bool.not_eq_true' _ ▸ (List.mem_filter.mp ht).2
      · rw [State.invalSet_setInval _ (by rwa [State.agent_setAgent])]
  · intro hreaches hsource halive
    have hguard : (s.hostReaches e && s.sourceOk n && s.boot.alive != .recovery) = true := by simp [hreaches, hsource, halive]
    refine ⟨fun hmgmt => (if_pos hguard).trans (if_pos hmgmt), fun hmgmt hstop => ?_, State.clearSource_clears, s.clearSource_only n,
      fun m hm => s.clearSource_capture_ne hm⟩
    exact (if_pos hguard).trans ((if_neg hmgmt).trans (if_neg (by simp [hstop])))
  · exact ⟨s.readBar0_signature f, s.readBar0_alive f, State.directory_length_pf, State.directory_vf, State.directory_recovery,
      State.readBar0_absent, State.readBar0_odd⟩

end Sys2Proof.Machine
end

section
/-! PROOFS. What follows a command leaves the pins (R329, R493): nothing that a transfer's end, containment or the torus sets off reaches them. -/
namespace Sys2Proof.Machine

theorem foldl_pins {α : Type} {f : State → α → State} (h : ∀ s a, (f s a).pins = s.pins) (l : List α) (s : State) : (l.foldl f s).pins = s.pins :=
  foldl_keeps (fun u : State => u.pins = s.pins) f (fun u a hu => (h u a).trans hu) l s rfl

theorem foldl_snd_pins {α β : Type} {f : α × State → β → α × State} (h : ∀ a b, (f a b).2.pins = a.2.pins) (l : List β) (a : α × State) :
    (l.foldl f a).2.pins = a.2.pins :=
  foldl_keeps (fun x : α × State => x.2.pins = a.2.pins) f (fun x b hx => (h x b).trans hx) l a rfl

theorem foldl_fst_pins {α β : Type} {f : State × α → β → State × α} (h : ∀ a b, (f a b).1.pins = a.1.pins) (l : List β) (a : State × α) :
    (l.foldl f a).1.pins = a.1.pins :=
  foldl_keeps (fun x : State × α => x.1.pins = a.1.pins) f (fun x b hx => (h x b).trans hx) l a rfl

@[simp] theorem ite_pins {c : Prop} [Decidable c] (s t : State) : (if c then s else t).pins = if c then s.pins else t.pins := apply_ite State.pins c s t

/-! ### Replicated parts and the named operations -/

@[simp] theorem State.modLink_pins (s : State) (p : Nat) (f : LinkPort → LinkPort) : (s.modLink p f).pins = s.pins := rfl

@[simp] theorem State.modSched_pins (s : State) (p : Nat) (f : SchedPort → SchedPort) : (s.modSched p f).pins = s.pins := rfl

@[simp] theorem State.modTile_pins (s : State) (t : Nat) (f : Tile → Tile) : (s.modTile t f).pins = s.pins := rfl

@[simp] theorem State.modEp_pins (s : State) (e : Nat) (f : Endpoint → Endpoint) : (s.modEp e f).pins = s.pins := rfl

@[simp] theorem State.modCtx_pins (s : State) (c : Nat) (f : Ctx → Ctx) : (s.modCtx c f).pins = s.pins := by
  simp only [State.modCtx]
  split <;> simp

@[simp] theorem State.modQp_pins (s : State) (q : Nat) (f : Qp → Qp) : (s.modQp q f).pins = s.pins := by
  simp only [State.modQp]
  split <;> simp

@[simp] theorem State.modChan_pins (s : State) (q k : Nat) (f : Chan → Chan) : (s.modChan q k f).pins = s.pins := by simp [State.modChan]

@[simp] theorem State.modDomain_pins (s : State) (c : Nat) (f : Domain → Domain) : (s.modDomain c f).pins = s.pins := by
  simp only [State.modDomain]
  split <;> simp

@[simp] theorem State.modNode_pins (s : State) (n : Nat) (f : Node → Node) : (s.modNode n f).pins = s.pins := by
  simp only [State.modNode]
  split <;> simp

@[simp] theorem State.modAgent_pins (s : State) (a : Nat) (f : Agent → Agent) : (s.modAgent a f).pins = s.pins := rfl

@[simp] theorem State.tpCount_pins (s : State) (t i : Nat) : (s.tpCount t i).pins = s.pins := rfl

@[simp] theorem State.mtCount_pins (s : State) (t i n : Nat) : (s.mtCount t i n).pins = s.pins := rfl

@[simp] theorem State.cuCount_pins (s : State) (t i n : Nat) : (s.cuCount t i n).pins = s.pins := rfl

@[simp] theorem State.clCount_pins (s : State) (t i : Nat) : (s.clCount t i).pins = s.pins := rfl

@[simp] theorem State.choose_pins (s : State) (w : Nat) (ok : Nat → Bool) (fallback : Option Nat) : (s.choose w ok fallback).2.pins = s.pins := rfl

/-! ### Reactions to a fault -/

@[simp] theorem State.useInjection_pins (s : State) (src : Nat) : (s.useInjection src).pins = s.pins := rfl

/-! ### Network time -/

@[simp] theorem State.timeEvent_pins (s : State) (event bit_ : Nat) (data : List Byte) :
    (s.timeEvent event bit_ data).pins = s.pins := by simp [State.timeEvent]

@[simp] theorem State.setStatus_pins (s : State) (new : TStatus) : (s.setStatus new).pins = s.pins := by simp [State.setStatus]

@[simp] theorem State.follow_pins (s : State) (p : Nat) : (s.follow p).pins = s.pins := rfl

@[simp] theorem State.takeParent_pins (s : State) (p : Nat) : (s.takeParent p).pins = s.pins := by simp [State.takeParent]

@[simp] theorem State.loadNt_pins (s : State) (nt : U64) : (s.loadNt nt).pins = s.pins := rfl

@[simp] theorem State.timeStep_pins (s : State) : s.timeStep.pins = s.pins := by
  simp only [State.timeStep]
  (repeat' split) <;> simp

@[simp] theorem State.loseParent_pins (s : State) : s.loseParent.pins = s.pins := by
  simp only [State.loseParent]
  split <;> simp

@[simp] theorem State.linkTimeLost_pins (s : State) (p : Nat) : (s.linkTimeLost p).pins = s.pins := by
  simp only [State.linkTimeLost]
  split <;> simp

/-! ### Ports, paths and queues (R70 to R134) -/

@[simp] theorem State.boundFalls_pins (s : State) (p : Nat) : (s.boundFalls p).pins = s.pins := by simp [State.boundFalls]

@[simp] theorem State.tc0Blocked_pins (s : State) (p : Nat) : (s.tc0Blocked p).pins = s.pins := by simp [State.tc0Blocked]

@[simp] theorem State.enqueue_pins (s : State) (p : Nat) (k : Packet) : (s.enqueue p k).pins = s.pins := by simp [State.enqueue]

@[simp] theorem State.torus_pins (s : State) (h : RouteHdr) (src dst : Nat) (c : Cargo) : (s.torus h src dst c).pins = s.pins := rfl

@[simp] theorem State.eject_pins (s : State) (k : Packet) (src : Nat) : (s.eject k src).pins = s.pins := rfl

@[simp] theorem State.arriveAt_pins (s : State) (t : Nat) (k : Packet) : (s.arriveAt t k).pins = s.pins := by simp [State.arriveAt]

@[simp] theorem State.countDrop_pins (s : State) (p vc : Nat) : (s.countDrop p vc).pins = s.pins := rfl

@[simp] theorem State.drop_pins (s : State) (p vc reason : Nat) : (s.drop p vc reason).pins = s.pins := rfl

@[simp] theorem State.noPath_pins (s : State) (g : Nat) : (s.noPath g).pins = s.pins := by simp [State.noPath]

@[simp] theorem State.pathFault_pins (s : State) (g cand cls : Nat) : (s.pathFault g cand cls).pins = s.pins := by
  simp only [State.pathFault]
  split
  · rfl
  · exact foldl_pins (fun s t => State.modTile_pins s t _) _ s

@[simp] theorem State.toPort_pins (s : State) (t p : Nat) (k : Packet) : (s.toPort t p k).pins = s.pins := by simp [State.toPort]

@[simp] theorem State.inject_pins (s : State) (t : Nat) (k : Packet) : (s.inject t k).pins = s.pins := by
  simp only [State.inject]
  (repeat' split) <;> simp

/-! ### HBM and its chunks (R288 to R302) -/

@[simp] theorem State.accept_pins (s : State) (da n : Nat) (write : Bool) : (s.accept da n write).pins = s.pins := by
  simp [State.accept, foldl_pins]

@[simp] theorem State.uncorrectableOf_pins (s : State) (burst : Nat) (ctx : Option Nat) : (s.uncorrectableOf burst ctx).pins = s.pins := by
  simp only [State.uncorrectableOf]
  split <;> simp

@[simp] theorem State.uncorrectable_pins (s : State) (burst : Nat) : (s.uncorrectable burst).pins = s.pins := by simp [State.uncorrectable]

@[simp] theorem State.hbmCorrected_pins (s : State) : s.hbmCorrected.pins = s.pins := by simp [State.hbmCorrected]

@[simp] theorem State.poisonBurst_pins (s : State) (b : Nat) : (s.poisonBurst b).pins = s.pins := rfl

@[simp] theorem State.spoilBurst_pins (s : State) (b : Nat) (i : Injection) : (s.spoilBurst b i).1.pins = s.pins := by
  simp only [State.spoilBurst]
  (repeat' split) <;> simp

@[simp] theorem State.readBurst_pins (s : State) (b : Nat) : (s.readBurst b).1.pins = s.pins := by
  simp only [State.readBurst]
  (repeat' split) <;> simp

@[simp] theorem State.hbmRead_pins (s : State) (da n : Nat) : (s.hbmRead da n).1.pins = s.pins :=
  (foldl_fst_pins (fun a b => by simp) _ _).trans (by simp)

@[simp] theorem State.hbmWrite_pins (s : State) (da : Nat) (l : List Byte) : (s.hbmWrite da l).pins = s.pins := by simp [State.hbmWrite]

@[simp] theorem State.stopSweep_pins (s : State) : s.stopSweep.pins = s.pins := rfl

/-! ### Transfers, tags and translation (R185, R303 to R342) -/

@[simp] theorem State.setXfer_pins (s : State) (x : Xfer) : (s.setXfer x).pins = s.pins := rfl

@[simp] theorem State.sendTagged_pins (s : State) (e : Nat) (u : TagUse) (addr len : Nat) : (s.sendTagged e u addr len).pins = s.pins := by
  simp only [State.sendTagged]
  (repeat' split) <;> simp

@[simp] theorem State.request_pins (s : State) (e : Nat) (u : TagUse) (addr len : Nat) :
    (s.request e u addr len).pins = s.pins := by simp [State.request]

@[simp] theorem State.xferDone_pins (s : State) (x : Xfer) (e : XferEnd) : (s.xferDone x e).pins = s.pins := rfl

@[simp] theorem State.ask_pins (s : State) (x : Xfer) : (s.ask x).pins = s.pins := rfl

@[simp] theorem State.endXfer_pins (s : State) (x : Xfer) (e : XferEnd) : (s.endXfer x e).pins = s.pins := rfl

@[simp] theorem State.returned_pins (s : State) (id : Nat) (e : XferEnd) : (s.returned id e).pins = s.pins := by
  simp only [State.returned]
  (repeat' split) <;> simp

@[simp] theorem State.tlbKeep_pins (s : State) (agent : Nat) (t : TlbEntry) : (s.tlbKeep agent t).pins = s.pins := rfl

@[simp] theorem State.capture1_pins (s : State) (agent cause lvl asid va : Nat) (write user : Bool) :
    (s.capture1 agent cause lvl asid va write user).pins = s.pins := rfl

@[simp] theorem State.dropXfer_pins (s : State) (id : Nat) : (s.dropXfer id).pins = s.pins := rfl

@[simp] theorem State.walkFault_pins (s : State) (x : Xfer) (cause lvl : Nat) : (s.walkFault x cause lvl).pins = s.pins := by
  simp only [State.walkFault]
  split <;> simp

@[simp] theorem State.walkRead_pins (s : State) (x : Xfer) (t lvl : Nat) (again : Bool) : (s.walkRead x t lvl again).pins = s.pins := by
  simp only [State.walkRead]
  split <;> simp

@[simp] theorem State.walkStart_pins (s : State) (x : Xfer) (again : Bool) : (s.walkStart x again).pins = s.pins := by
  simp only [State.walkStart]
  (repeat' split) <;> simp

@[simp] theorem State.fillHost_pins (s : State) (agent asid va : Nat) : (s.fillHost agent asid va).pins = s.pins := by
  simp only [State.fillHost]
  split <;> simp

@[simp] theorem State.streamed_pins (s : State) (x : Xfer) (n : Nat) : (s.streamed x n).pins = s.pins := by
  simp only [State.streamed]
  split <;> simp

@[simp] theorem State.translated_pins (s : State) (x : Xfer) (ep pa : Nat) : (s.translated x ep pa).pins = s.pins := by
  simp only [State.translated]
  (repeat' split) <;> simp

@[simp] theorem State.useLeaf_pins (s : State) (x : Xfer) (lvl e : Nat) : (s.useLeaf x lvl e).pins = s.pins := by
  simp only [State.useLeaf]
  split <;> simp

@[simp] theorem State.startPiece_pins (s : State) (x : Xfer) : (s.startPiece x).pins = s.pins := by
  simp only [State.startPiece]
  (repeat' split) <;> simp

@[simp] theorem State.writePiece_pins (s : State) (x : Xfer) (pa : Nat) : (s.writePiece x pa).pins = s.pins := by
  simp only [State.writePiece]
  split <;> simp

@[simp] theorem State.runHost_pins (s : State) (id fuel : Nat) : (s.runHost id fuel).pins = s.pins := by
  induction fuel generalizing s with
  | zero => rfl
  | succ n ih =>
    simp only [State.runHost]
    (repeat' split) <;> simp [ih]

@[simp] theorem State.issue_pins (s : State) (use : XferUse) (ctx : Nat) (space : Space) (write : Bool) (data : List Byte) (len : Nat)
    (atomic : Option AtomicReq) (poisoned : Bool) :
    (s.issue use ctx space write data len atomic poisoned).pins = s.pins := rfl

@[simp] theorem State.hbmServes_pins (s : State) (x : Xfer) (pa : Nat) : (s.hbmServes x pa).pins = s.pins := by simp [State.hbmServes]

/-! ### Completion, ledgers and chains (R374 to R401) -/

@[simp] theorem State.writeCqe_pins (s : State) (c : Nat) : (s.writeCqe c).pins = s.pins := by
  simp only [State.writeCqe]
  (repeat' split) <;> simp

@[simp] theorem State.postEntry_pins (s : State) (c : Nat) (e : List Byte) : (s.postEntry c e).pins = s.pins := by
  simp only [State.postEntry]
  split <;> simp

@[simp] theorem State.sendCqInt_pins (s : State) (c : Nat) : (s.sendCqInt c).pins = s.pins := by
  simp only [State.sendCqInt]
  split <;> simp

@[simp] theorem State.coalesce_pins (s : State) (c : Nat) : (s.coalesce c).pins = s.pins := by
  simp only [State.coalesce]
  split <;> simp

@[simp] theorem State.drained_pins (s : State) (c : Nat) : (s.drained c).pins = s.pins := by simp [State.drained]

@[simp] theorem State.entryWritten_pins (s : State) (c : Nat) : (s.entryWritten c).pins = s.pins := by
  simp only [State.entryWritten]
  split <;> simp

@[simp] theorem State.writeBacklog_pins (s : State) (c fuel : Nat) : (s.writeBacklog c fuel).pins = s.pins := by
  induction fuel generalizing s with
  | zero => rfl
  | succ n ih =>
    simp only [State.writeBacklog]
    (repeat' split) <;> simp [ih]

@[simp] theorem State.postUnsolicited_pins (s : State) (c : Nat) (e : List Byte) : (s.postUnsolicited c e).pins = s.pins := by
  simp only [State.postUnsolicited]
  split <;> simp

@[simp] theorem State.ctxEvent_pins (s : State) (c ev : Nat) (data : List Byte) (ext : Nat) : (s.ctxEvent c ev data ext).pins = s.pins := by
  simp only [State.ctxEvent]
  split <;> simp

@[simp] theorem State.modChain_pins (s : State) (c serial : Nat) (f : Chain → Chain) :
    (s.modChain c serial f).pins = s.pins := by simp [State.modChain]

@[simp] theorem State.passEntry_pins (s : State) (c serial : Nat) : (s.passEntry c serial).pins = s.pins := by
  unfold State.passEntry
  (repeat' split) <;> simp [foldl_pins]

@[simp] theorem State.chainDone_pins (s : State) (c serial code : Nat) : (s.chainDone c serial code).pins = s.pins := by simp [State.chainDone]

@[simp] theorem State.chainDoneWith_pins (s : State) (c serial code value a b id flags : Nat) :
    (s.chainDoneWith c serial code value a b id flags).pins = s.pins := by simp [State.chainDoneWith]

@[simp] theorem State.wakeHeld_pins (s : State) (c : Nat) (h : Chain) : (s.wakeHeld c h).pins = s.pins := by simp [State.wakeHeld]

@[simp] theorem State.testWaiter_pins (s : State) (g : Ledger) (c : Nat) (h : Chain) :
    (s.testWaiter g c h).pins = s.pins := by simp [State.testWaiter]

@[simp] theorem State.testWaiters_pins (s : State) (l : Nat) (g : Ledger) : (s.testWaiters l g).pins = s.pins :=
  foldl_pins (fun s e => by split <;> simp) _ s

@[simp] theorem State.ledgerSetTo_pins (s : State) (l : Nat) (g : Ledger) : (s.ledgerSetTo l g).pins = s.pins := by simp [State.ledgerSetTo]

@[simp] theorem State.ledgerAdd_pins (s : State) (l n : Nat) (poison : Bool) : (s.ledgerAdd l n poison).pins = s.pins := by
  simp only [State.ledgerAdd]
  split <;> simp

@[simp] theorem State.drain_pins (s : State) (c : Nat) : (s.drain c).pins = s.pins := by
  simp only [State.drain]
  split
  · rfl
  · rw [State.modCtx_pins]
    exact foldl_pins (fun s h => by split <;> simp) _ s

@[simp] theorem State.fenceCtx_pins (s : State) (c cause : Nat) : (s.fenceCtx c cause).pins = s.pins := by
  simp only [State.fenceCtx]
  split <;> simp

@[simp] theorem State.accept1_pins (s : State) (c : Nat) (timing : Option (List Byte)) (work : List Byte) (ok : Bool) :
    (s.accept1 c timing work ok).pins = s.pins := by simp [State.accept1]

@[simp] theorem State.readEntry_pins (s : State) (c : Nat) (e : List Byte) : (s.readEntry c e).pins = s.pins := by
  simp only [State.readEntry]
  (repeat' split) <;> simp

@[simp] theorem State.readEntries_pins (s : State) (c : Nat) (data : List Byte) (fuel : Nat) : (s.readEntries c data fuel).pins = s.pins := by
  induction fuel generalizing s data with
  | zero => rfl
  | succ n ih =>
    simp only [State.readEntries]
    (repeat' split) <;> simp [ih]

@[simp] theorem State.fetchEntries_pins (s : State) (c n tries : Nat) : (s.fetchEntries c n tries).pins = s.pins := by
  simp only [State.fetchEntries]
  split <;> simp

/-! ### The requester (R163 to R202) -/

@[simp] theorem State.buildPacket_pins (s : State) (q : Qp) (h : RouteHdr) (t : TransHdr) (ext payload : List Byte) (eseq : Nat) :
    (s.buildPacket q h t ext payload eseq).1.pins = s.pins := by
  simp only [State.buildPacket]
  split <;> simp

@[simp] theorem State.keptPath_pins (s : State) (qpn slot : Nat) (own : Option Nat) (r : PathReq) : (s.keptPath qpn slot own r).2.pins = s.pins := by
  simp only [State.keptPath]
  (repeat' split) <;> simp

@[simp] theorem State.chargeCtx_pins (s : State) (c : Nat) (h : RouteHdr) : (s.chargeCtx c h).pins = s.pins := by simp [State.chargeCtx]

@[simp] theorem State.sendOn_pins (s : State) (q : Qp) (t : Nat) (r : PathReq) (p : Option Path) (vn copy : Nat) (ordered : Bool) (th : TransHdr)
    (ext payload : List Byte) (eseq : Nat) :
    (s.sendOn q t r p vn copy ordered th ext payload eseq).pins = s.pins := by
  simp only [State.sendOn]
  split <;> simp

@[simp] theorem State.sendTrack_pins (s : State) (qpn slot : Nat) (k : Track) : (s.sendTrack qpn slot k).pins = s.pins := by
  simp only [State.sendTrack]
  split <;> simp

@[simp] theorem State.psnTurn_pins (s : State) (qpn slot : Nat) : (s.psnTurn qpn slot).pins = s.pins := by
  simp only [State.psnTurn]
  split <;> simp

@[simp] theorem State.sendNext_pins (s : State) (qpn slot : Nat) (m : Msg) (payload : List Byte) : (s.sendNext qpn slot m payload).pins = s.pins := by
  simp only [State.sendNext]
  split <;> simp

@[simp] theorem State.pump_pins (s : State) (qpn slot fuel : Nat) : (s.pump qpn slot fuel).pins = s.pins := by
  induction fuel generalizing s with
  | zero => rfl
  | succ n ih =>
    simp only [State.pump]
    (repeat' split) <;> simp [ih]

@[simp] theorem State.addMsg_pins (s : State) (qpn slot : Nat) (m : Msg) : (s.addMsg qpn slot m).2.pins = s.pins := by
  simp only [State.addMsg]
  (repeat' split) <;> simp

@[simp] theorem State.answerPeer_pins (s : State) (qpn : Nat) (q : Qp) (slot op psn retry eseq psnInput : Nat) (ext payload : List Byte) :
    (s.answerPeer qpn q slot op psn retry eseq psnInput ext payload).pins = s.pins := by
  simp only [State.answerPeer]
  split <;> simp

@[simp] theorem State.takeAsn_pins (s : State) (qpn slot : Nat) : (s.takeAsn qpn slot).2.pins = s.pins := by simp [State.takeAsn]

@[simp] theorem State.sendAck_pins (s : State) (qpn slot : Nat) : (s.sendAck qpn slot).pins = s.pins := by
  simp only [State.sendAck]
  split <;> simp

@[simp] theorem State.ackEvent_pins (s : State) (qpn slot : Nat) : (s.ackEvent qpn slot).pins = s.pins := by
  simp only [State.ackEvent]
  split <;> simp

@[simp] theorem State.ackMark_pins (s : State) (qpn slot : Nat) : (s.ackMark qpn slot).pins = s.pins := by simp [State.ackMark]

@[simp] theorem State.ackFlush_pins (s : State) (qpn slot : Nat) : (s.ackFlush qpn slot).pins = s.pins := by
  simp only [State.ackFlush]
  split <;> simp

/-! ### Match domains (R217 to R247) -/

@[simp] theorem State.takeEntry_pins (s : State) : s.takeEntry.2.pins = s.pins := rfl

@[simp] theorem State.modInMsg_pins (s : State) (c id : Nat) (f : InMsg → InMsg) : (s.modInMsg c id f).pins = s.pins := by simp [State.modInMsg]

@[simp] theorem State.freeGranules_pins (s : State) (c id : Nat) : (s.freeGranules c id).pins = s.pins := by simp [State.freeGranules]

@[simp] theorem State.copyPart_pins (s : State) (c id off len : Nat) : (s.copyPart c id off len).pins = s.pins := by
  simp only [State.copyPart]
  (repeat' split) <;> simp

@[simp] theorem State.rndvGet_pins (s : State) (c : Nat) (m : InMsg) (g : Msg) : (s.rndvGet c m g).pins = s.pins := by simp [State.rndvGet]

@[simp] theorem State.rendezvous_pins (s : State) (c : Nat) (m : InMsg) (r : Posted) :
    (s.rendezvous c m r).pins = s.pins := by simp [State.rendezvous]

@[simp] theorem State.bind_pins (s : State) (c id : Nat) (r : Posted) : (s.bind c id r).pins = s.pins := by
  simp only [State.bind]
  (repeat' split) <;> simp [foldl_pins]

@[simp] theorem State.receiveDone_pins (s : State) (c : Nat) (m : InMsg) (r : Posted) : (s.receiveDone c m r).pins = s.pins := by
  simp only [State.receiveDone]
  split <;> simp

@[simp] theorem State.completeReceives_pins (s : State) (c fuel : Nat) : (s.completeReceives c fuel).pins = s.pins := by
  induction fuel generalizing s with
  | zero => rfl
  | succ n ih =>
    simp only [State.completeReceives]
    (repeat' split) <;> simp [ih]

@[simp] theorem State.completeAll_pins (s : State) (c : Nat) : (s.completeAll c).pins = s.pins := by
  simp only [State.completeAll]
  split <;> simp

@[simp] theorem State.present_pins (s : State) (c id : Nat) : (s.present c id).pins = s.pins := by
  simp only [State.present]
  (repeat' split) <;> simp

@[simp] theorem State.post_pins (s : State) (c serial : Nat) : (s.post c serial).pins = s.pins := by
  simp only [State.post]
  (repeat' split) <;> simp

@[simp] theorem State.probe_pins (s : State) (c serial : Nat) : (s.probe c serial).pins = s.pins := by
  simp only [State.probe]
  (repeat' split) <;> simp

@[simp] theorem State.receiveAborted_pins (s : State) (c : Nat) (r : Posted) : (s.receiveAborted c r).pins = s.pins := by
  simp only [State.receiveAborted]
  split <;> simp

@[simp] theorem State.cancel_pins (s : State) (c serial : Nat) : (s.cancel c serial).pins = s.pins := by
  simp only [State.cancel]
  (repeat' split) <;> simp

@[simp] theorem State.dropEnded_pins (s : State) (c : Nat) : (s.dropEnded c).pins = s.pins := by simp [State.dropEnded]

/-! ### Collective nodes at work (R248 to R287) -/

@[simp] theorem State.modInst_pins (s : State) (n num : Nat) (f : Inst → Inst) : (s.modInst n num f).pins = s.pins := by simp [State.modInst]

@[simp] theorem State.edgePut_pins (s : State) (n what num seg qpn rkey off : Nat) (payload : List Byte) (z : Nat) :
    (s.edgePut n what num seg qpn rkey off payload z).2.pins = s.pins := by simp [State.edgePut]

@[simp] theorem State.notices_pins (s : State) (n : Nat) (x : Node) (rank : Nat) : (s.notices n x rank).pins = s.pins := by
  simp [State.notices, foldl_pins]

@[simp] theorem State.collFail_pins (s : State) (lead code rank : Nat) : (s.collFail lead code rank).pins = s.pins := by
  simp [State.collFail, foldl_pins]

@[simp] theorem State.collFailSelf_pins (s : State) (n code : Nat) : (s.collFailSelf n code).pins = s.pins := by
  simp only [State.collFailSelf]
  split <;> simp

@[simp] theorem State.sendPackets_pins (s : State) (n what num seg qpn rkey dir : Nat) (l : List (Nat × List Byte)) :
    (s.sendPackets n what num seg qpn rkey dir l).2.pins = s.pins :=
  foldl_snd_pins (fun a q => by simp) l (true, s)

@[simp] theorem State.fanOut_pins (s : State) (n num elem0 z : Nat) (data : List Byte) : (s.fanOut n num elem0 z data).pins = s.pins := by
  simp only [State.fanOut]
  (repeat' split) <;> simp [foldl_snd_pins]

@[simp] theorem State.countCu_pins (s : State) (x : Node) (i : Inst) (n : Nat) : (s.countCu x i n).pins = s.pins := by simp [State.countCu]

@[simp] theorem State.takeParts_pins (s : State) (n num who elem0 : Nat) (vals : List CVal) : (s.takeParts n num who elem0 vals).pins = s.pins := by
  simp only [State.takeParts]
  (repeat' split) <;> simp

@[simp] theorem State.wholeElems_pins (s : State) (z : Nat) (data : List Byte) : (s.wholeElems z data).2.pins = s.pins := by
  simp only [State.wholeElems]
  split <;> simp

@[simp] theorem State.takePartial_pins (s : State) (n num who elem0 : Nat) (data : List Byte) :
    (s.takePartial n num who elem0 data).pins = s.pins := by
  simp only [State.takePartial]
  (repeat' split) <;> simp

@[simp] theorem State.placeResult_pins (s : State) (n num elem0 : Nat) (data : List Byte) : (s.placeResult n num elem0 data).pins = s.pins := by
  simp only [State.placeResult]
  (repeat' split) <;> simp

@[simp] theorem State.takeDown_pins (s : State) (n num elem0 : Nat) (data : List Byte) : (s.takeDown n num elem0 data).pins = s.pins := by
  simp only [State.takeDown]
  (repeat' split) <;> simp [foldl_snd_pins]

@[simp] theorem State.takeUp_pins (s : State) (n num who elem0 : Nat) (data : List Byte) : (s.takeUp n num who elem0 data).pins = s.pins := by
  simp only [State.takeUp]
  split <;> simp

@[simp] theorem State.keepEarly_pins (s : State) (n num qpn elem0 : Nat) (data : List Byte) :
    (s.keepEarly n num qpn elem0 data).pins = s.pins := by simp [State.keepEarly]

@[simp] theorem State.windowPut_pins (s : State) (n qpn off : Nat) (data : List Byte) : (s.windowPut n qpn off data).2.pins = s.pins := by
  simp only [State.windowPut]
  (repeat' split) <;> simp

@[simp] theorem State.countWindowNak_pins (s : State) (n : Nat) : (s.countWindowNak n).pins = s.pins := by
  simp only [State.countWindowNak]
  split <;> simp

@[simp] theorem State.finishSeg_pins (s : State) (n num seg : Nat) : (s.finishSeg n num seg).pins = s.pins := by
  simp only [State.finishSeg]
  (repeat' split) <;> simp

@[simp] theorem State.readOwn_pins (s : State) (n num fuel : Nat) : (s.readOwn n num fuel).pins = s.pins := by
  induction fuel generalizing s with
  | zero => rfl
  | succ n ih =>
    simp only [State.readOwn]
    (repeat' split) <;> simp [ih]

@[simp] theorem State.readBcast_pins (s : State) (n : Nat) (x : Node) (i : Inst) : (s.readBcast n x i).pins = s.pins := by
  simp only [State.readBcast]
  (repeat' split) <;> simp

@[simp] theorem State.barrierGo_pins (s : State) (n : Nat) (x : Node) (i : Inst) : (s.barrierGo n x i).pins = s.pins := by
  simp only [State.barrierGo]
  (repeat' split) <;> simp [foldl_snd_pins]

@[simp] theorem State.completeColl_pins (s : State) (lead num code value flags : Nat) : (s.completeColl lead num code value flags).pins = s.pins := by
  unfold State.completeColl
  (repeat' split) <;> simp [foldl_pins]

@[simp] theorem State.lateRelease_pins (s : State) (x : Node) (t : U64) : (s.lateRelease x t).pins = s.pins := rfl

@[simp] theorem State.stepInst_pins (s : State) (n num : Nat) : (s.stepInst n num).pins = s.pins := by
  unfold State.stepInst
  (repeat' split) <;> simp [foldl_pins]

@[simp] theorem State.tryComplete_pins (s : State) (lead num : Nat) : (s.tryComplete lead num).pins = s.pins := by
  simp only [State.tryComplete]
  split <;> simp

@[simp] theorem State.collSync_pins (s : State) : s.collSync.pins = s.pins := by
  simp [State.collSync, foldl_pins]

@[simp] theorem State.collReadDone_pins (s : State) (n num seg : Nat) (e : XferEnd) : (s.collReadDone n num seg e).pins = s.pins := by
  simp only [State.collReadDone]
  (repeat' split) <;> simp

@[simp] theorem State.collSendDone_pins (s : State) (n num elem0 : Nat) (e : XferEnd) : (s.collSendDone n num elem0 e).pins = s.pins := by
  simp only [State.collSendDone]
  (repeat' split) <;> simp

@[simp] theorem State.forward_pins (s : State) (n num seg : Nat) : (s.forward n num seg).pins = s.pins := by
  simp only [State.forward]
  (repeat' split) <;> simp

@[simp] theorem State.collPlaceDone_pins (s : State) (n num elem0 len : Nat) (e : XferEnd) : (s.collPlaceDone n num elem0 len e).pins = s.pins := by
  unfold State.collPlaceDone
  (repeat' split) <;> simp [foldl_pins]

@[simp] theorem State.collPutDone_pins (s : State) (n num what seg : Nat) :
    (s.collPutDone n num what seg).pins = s.pins := by simp [State.collPutDone]

/-! ### Atomic units -/

@[simp] theorem State.boost_pins (s : State) (rkey off w : Nat) : (s.boost rkey off w).pins = s.pins := by
  simp only [State.boost]
  (repeat' split) <;> simp

@[simp] theorem State.atomicUnit_pins (s : State) (master ep da aop : Nat) (op0 op1 : U64) (rkey off : Nat) :
    (s.atomicUnit master ep da aop op0 op1 rkey off).1.pins = s.pins := by
  simp only [State.atomicUnit]
  (repeat' split) <;> simp

/-! ### Messages at their end -/

@[simp] theorem State.msgEnded_pins (s : State) (qpn : Nat) (m : Msg) : (s.msgEnded qpn m).pins = s.pins := by
  simp only [State.msgEnded]
  split <;> simp

@[simp] theorem State.completeMsgs_pins (s : State) (qpn slot fuel : Nat) : (s.completeMsgs qpn slot fuel).pins = s.pins := by
  induction fuel generalizing s with
  | zero => rfl
  | succ n ih =>
    simp only [State.completeMsgs]
    (repeat' split) <;> simp [ih]

@[simp] theorem State.qpSync_pins (s : State) : s.qpSync.pins = s.pins := by
  simp [State.qpSync, foldl_pins]

/-! ### The target of requests (R179 to R209) -/

@[simp] theorem State.nak_pins (s : State) (qpn slot psn reason cause backoff : Nat) : (s.nak qpn slot psn reason cause backoff).pins = s.pins := by
  simp only [State.nak]
  split <;> simp

@[simp] theorem State.bareNak_pins (s : State) (t : Nat) (k : Packet) (th : TransHdr) (reason cause backoff : Nat) :
    (s.bareNak t k th reason cause backoff).pins = s.pins := by
  simp only [State.bareNak]
  (repeat' split) <;> simp

@[simp] theorem State.violation_pins (s : State) (t : Nat) (k : Packet) (th : TransHdr) (owner : Option Nat) (cause : Nat) :
    (s.violation t k th owner cause).pins = s.pins := by
  unfold State.violation
  split <;> simp

@[simp] theorem State.refuse_pins (s : State) (r : Req) (cause : Nat) : (s.refuse r cause).pins = s.pins := by simp [State.refuse]

@[simp] theorem State.modSlot_pins (s : State) (qpn slot psn : Nat) (f : ReqSlot → ReqSlot) :
    (s.modSlot qpn slot psn f).pins = s.pins := by simp [State.modSlot]

@[simp] theorem State.takeSlot_pins (s : State) (r : Req) : (s.takeSlot r).pins = s.pins := by simp [State.takeSlot]

@[simp] theorem State.freeSlot_pins (s : State) (qpn slot psn : Nat) : (s.freeSlot qpn slot psn).pins = s.pins := by simp [State.freeSlot]

@[simp] theorem State.targetOpcode_pins (s : State) (op : Nat) : (s.targetOpcode op).2.pins = s.pins := by
  simp only [State.targetOpcode]
  (repeat' split) <;> simp

@[simp] theorem State.endMessage_pins (s : State) (qpn slot : Nat) (x : ReqSlot) (bytes : Nat) : (s.endMessage qpn slot x bytes).pins = s.pins := by
  simp only [State.endMessage]
  split <;> simp

@[simp] theorem State.advance_pins (s : State) (qpn slot fuel : Nat) : (s.advance qpn slot fuel).pins = s.pins := by
  induction fuel generalizing s with
  | zero => rfl
  | succ n ih =>
    simp only [State.advance]
    (repeat' split) <;> simp [ih]

@[simp] theorem State.placed_pins (s : State) (qpn slot psn : Nat) : (s.placed qpn slot psn).pins = s.pins := by
  simp only [State.placed]
  split <;> simp

@[simp] theorem State.retryNak_pins (s : State) (t : Nat) (k : Packet) : (s.retryNak t k).pins = s.pins := by
  simp only [State.retryNak]
  split <;> simp

@[simp] theorem State.hold_pins (s : State) (t : Nat) (k : Packet) (why : SuspWhy) : (s.hold t k why).pins = s.pins := by simp [State.hold]

@[simp] theorem State.suspend_pins (s : State) (r : Req) (why : SuspWhy) : (s.suspend r why).pins = s.pins := by simp [State.suspend]

@[simp] theorem State.sendGetRsps_pins (s : State) (r : Req) (retry : Nat) (data : List Byte) : (s.sendGetRsps r retry data).pins = s.pins := by
  unfold State.sendGetRsps
  (repeat' split) <;> simp [foldl_pins]

@[simp] theorem State.sendAtomicRsp_pins (s : State) (r : Req) (retry : Nat) (result : U64) (status : Nat) :
    (s.sendAtomicRsp r retry result status).pins = s.pins := by
  simp only [State.sendAtomicRsp]
  split <;> simp

@[simp] theorem State.atomicDone_pins (s : State) (r : Req) (x : ReqSlot) (result : U64) (status : Nat) :
    (s.atomicDone r x result status).pins = s.pins := by simp [State.atomicDone]

@[simp] theorem State.execGet_pins (s : State) (r : Req) : (s.execGet r).pins = s.pins := by
  simp only [State.execGet]
  (repeat' split) <;> simp

@[simp] theorem State.askAtomic_pins (s : State) (r : Req) : (s.askAtomic r).pins = s.pins := by
  simp only [State.askAtomic]
  split <;> simp

@[simp] theorem State.execAtomic_pins (s : State) (r : Req) : (s.execAtomic r).pins = s.pins := by
  simp only [State.execAtomic]
  (repeat' split) <;> simp

@[simp] theorem State.redo_pins (s : State) (r : Req) (x : ReqSlot) : (s.redo r x).pins = s.pins := by
  simp only [State.redo]
  (repeat' split) <;> simp

@[simp] theorem State.placeDirect_pins (s : State) (c : Nat) (m : InMsg) (p : Posted) (r : Req) : (s.placeDirect c m p r).pins = s.pins := by
  simp only [State.placeDirect]
  (repeat' split) <;> simp

@[simp] theorem State.placePool_pins (s : State) (c : Nat) (d : Domain) (m : InMsg) (r : Req) : (s.placePool c d m r).pins = s.pins := by
  simp only [State.placePool]
  split <;> simp

@[simp] theorem State.placeSend_pins (s : State) (c id : Nat) (r : Req) : (s.placeSend c id r).pins = s.pins := by
  simp only [State.placeSend]
  (repeat' split) <;> simp

@[simp] theorem State.nakSend_pins (s : State) (d : Domain) (r : Req) : (s.nakSend d r).pins = s.pins := by simp [State.nakSend]

@[simp] theorem State.takeSend_pins (s : State) (r : Req) : (s.takeSend r).pins = s.pins := by
  simp only [State.takeSend]
  (repeat' split) <;> simp

@[simp] theorem State.doOp_pins (s : State) (c : Nat) (a : MatchOp) : (s.doOp c a).pins = s.pins := by
  simp only [State.doOp]
  split <;> simp

@[simp] theorem State.countProbes_pins (s : State) (c n : Nat) : (s.countProbes c n).pins = s.pins := rfl

@[simp] theorem State.queuedOp_pins (s : State) (c : Nat) (o : MatchOp) : (s.queuedOp c o).pins = s.pins := by
  simp only [State.queuedOp]
  split <;> simp

@[simp] theorem State.submitOp_pins (s : State) (c : Nat) (o : MatchOp) : (s.submitOp c o).pins = s.pins := by
  simp only [State.submitOp]
  split <;> simp

@[simp] theorem State.acceptSend_pins (s : State) (r : Req) : (s.acceptSend r).pins = s.pins := by
  simp only [State.acceptSend]
  (repeat' split) <;> simp

@[simp] theorem State.acceptPut_pins (s : State) (q : Qp) (r : Req) : (s.acceptPut q r).pins = s.pins := by
  simp only [State.acceptPut]
  split <;> simp

@[simp] theorem State.acceptExec_pins (s : State) (r : Req) : (s.acceptExec r).pins = s.pins := by simp [State.acceptExec]

@[simp] theorem State.authFailed_pins (s : State) (t : Nat) : (s.authFailed t).pins = s.pins := by simp [State.authFailed]

@[simp] theorem State.sequence_pins (s : State) (q : Qp) (r : Req) (opened : Option (List Byte)) : (s.sequence q r opened).pins = s.pins := by
  obtain ⟨f, hf⟩ := State.sequence_fun
  rw [hf]
  delta State.sequence at hf
  subst hf
  cases hcls : seqClass (q.chan r.slot).rcvBase r.psn (2 ^ q.winLog2) with
  | stale => simp only [hcls, State.ackEvent_pins, State.tpCount_pins]
  | recent =>
    simp only [hcls]
    (repeat' split) <;> simp
  | inWindow =>
    simp only [hcls]
    (repeat' split) <;> simp

@[simp] theorem State.discard_pins (s : State) (t : Nat) (k : Packet) (reason : Option Nat) : (s.discard t k reason).pins = s.pins := by
  simp only [State.discard]
  split <;> simp

@[simp] theorem State.touch_pins (s : State) (qpn : Nat) : (s.touch qpn).pins = s.pins := rfl

@[simp] theorem State.fetchSpilled_pins (s : State) (qpn : Nat) (q : Qp) : (s.fetchSpilled qpn q).pins = s.pins := by
  simp only [State.fetchSpilled]
  (repeat' split) <;> simp

@[simp] theorem State.request2_pins (s : State) (t : Nat) (k : Packet) (q : Qp) : (s.request2 t k q).pins = s.pins := by
  simp only [State.request2]
  (repeat' split) <;> simp

@[simp] theorem State.request1_pins (s : State) (t : Nat) (k : Packet) : (s.request1 t k).pins = s.pins := by
  simp only [State.request1]
  (repeat' split) <;> simp

@[simp] theorem State.releaseEarly_pins (s : State) (t fuel : Nat) : (s.releaseEarly t fuel).pins = s.pins := by
  induction fuel generalizing s with
  | zero => rfl
  | succ n ih =>
    simp only [State.releaseEarly]
    (repeat' split) <;> simp [ih]

@[simp] theorem State.suspSync_pins (s : State) : s.suspSync.pins = s.pins := by
  simp [State.suspSync, foldl_pins]

/-! ### Answers at the requester (R191, R201, R202) -/

@[simp] theorem State.rspIn_pins (s : State) (qpn slot rpsn : Nat) : (s.rspIn qpn slot rpsn).pins = s.pins := by simp [State.rspIn]

@[simp] theorem State.codeMsg_pins (s : State) (qpn slot id code : Nat) : (s.codeMsg qpn slot id code).pins = s.pins := by simp [State.codeMsg]

/-! ### The agents of tellers and bursars -/

@[simp] theorem State.engineFault_pins (s : State) (w : EngineWalk) (cause lvl : Nat) :
    (s.engineFault w cause lvl).pins = s.pins := by simp [State.engineFault]

@[simp] theorem State.engineRead_pins (s : State) (w : EngineWalk) (t lvl : Nat) : (s.engineRead w t lvl).pins = s.pins := by simp [State.engineRead]

@[simp] theorem State.engineStart_pins (s : State) (w : EngineWalk) : (s.engineStart w).pins = s.pins := by
  simp only [State.engineStart]
  (repeat' split) <;> simp

@[simp] theorem State.engineUse_pins (s : State) (w : EngineWalk) (lvl e : Nat) : (s.engineUse w lvl e).pins = s.pins := by simp [State.engineUse]

@[simp] theorem State.engineEntry_pins (s : State) (w : EngineWalk) (e : XferEnd) : (s.engineEntry w e).pins = s.pins := by
  simp only [State.engineEntry]
  (repeat' split) <;> simp

@[simp] theorem State.engineAccessed_pins (s : State) (w : EngineWalk) (pte : Nat) (e : XferEnd) : (s.engineAccessed w pte e).pins = s.pins := by
  simp only [State.engineAccessed]
  split <;> simp

/-! ### Links that go down -/

@[simp] theorem State.portInt_pins (s : State) (p i : Nat) : (s.portInt p i).pins = s.pins := by simp [State.portInt]

@[simp] theorem State.syncTc0_pins (s : State) (p : Nat) : (s.syncTc0 p).pins = s.pins := rfl

@[simp] theorem State.enterPort_pins (s : State) (p : Nat) (st : PortSt) : (s.enterPort p st).pins = s.pins := rfl

@[simp] theorem State.dropDown_pins (s : State) (p : Nat) (k : Packet) : (s.dropDown p k).pins = s.pins := by simp [State.dropDown]

@[simp] theorem State.declareDown_pins (s : State) (p : Nat) (c : DownCause) : (s.declareDown p c).pins = s.pins := by
  simp [State.declareDown, foldl_pins]

@[simp] theorem State.stopPort_pins (s : State) (p : Nat) (c : DownCause) : (s.stopPort p c).pins = s.pins := by simp [State.stopPort]

@[simp] theorem State.stopPorts_pins (s : State) (c : DownCause) : (s.stopPorts c).pins = s.pins := by
  simp [State.stopPorts, foldl_pins]

/-! ### The torus at work (R121 to R128) -/

@[simp] theorem State.reachHbm_pins (s : State) (x : Xfer) (da : Nat) : (s.reachHbm x da).pins = s.pins := by
  simp only [State.reachHbm]
  split <;> simp

@[simp] theorem State.reachUnit_pins (s : State) (x : Xfer) (node off : Nat) : (s.reachUnit x node off).pins = s.pins := by
  simp only [State.reachUnit]
  split <;> simp

@[simp] theorem State.reachGate_pins (s : State) (id : Nat) : (s.reachGate id).pins = s.pins := by
  simp only [State.reachGate]
  (repeat' split) <;> simp

@[simp] theorem State.deliver_pins (s : State) (l : Load) : (s.deliver l).pins = s.pins := by
  simp only [State.deliver]
  split <;> simp

@[simp] theorem State.dropLoad_pins (s : State) (l : Load) : (s.dropLoad l).pins = s.pins := by
  simp only [State.dropLoad]
  (repeat' split) <;> simp

@[simp] theorem State.dropPlane_pins (s : State) (plane : Nat) : (s.dropPlane plane).pins = s.pins := by
  simp [State.dropPlane, foldl_pins]

@[simp] theorem State.planeDown_pins (s : State) (plane : Nat) : (s.planeDown plane).pins = s.pins := by
  simp [State.planeDown, foldl_pins]

@[simp] theorem State.linkErr_pins (s : State) (t : Nat) : (s.linkErr t).pins = s.pins := by simp [State.linkErr]

@[simp] theorem State.spoilBeat_pins (s : State) (key out : Nat) (i : Injection) : (s.spoilBeat key out i).pins = s.pins := by simp [State.spoilBeat]

@[simp] theorem State.checkBeat_pins (s : State) (key out : Nat) : (s.checkBeat key out).pins = s.pins := by
  simp only [State.checkBeat]
  split <;> simp

@[simp] theorem State.countBeat_pins (s : State) (key : Nat) (b : Beat) : (s.countBeat key b).pins = s.pins := by simp [State.countBeat]

@[simp] theorem State.moveBeat_pins (s : State) (key : Nat) : (s.moveBeat key).pins = s.pins := by
  simp only [State.moveBeat]
  (repeat' split) <;> simp

@[simp] theorem State.holdBack_pins (s : State) (t id : Nat) : (s.holdBack t id).pins = s.pins := by
  simp only [State.holdBack]
  split <;> simp

theorem State.netRound_pins (s : State) {t : State} (h : s.netRound = some t) : t.pins = s.pins := by
  simp only [State.netRound] at h
  split at h
  · cases h
  · cases h
    refine (foldl_pins ?_ _ _).trans (foldl_pins State.moveBeat_pins _ _)
    intro s id
    rfl

@[simp] theorem State.holdBacks_pins (s : State) : s.holdBacks.pins = s.pins := by
  simp [State.holdBacks, foldl_pins]

theorem State.waitRound_pins (s : State) {t : State} (h : s.waitRound = some t) : t.pins = s.pins := by
  simp only [State.waitRound] at h
  (repeat' split at h) <;> cases h <;> simp

theorem State.netStep_pins (s : State) {t : State} (h : s.netStep = some t) : t.pins = s.pins := by
  simp only [State.netStep] at h
  split at h
  · next hwait => exact State.waitRound_pins s (hwait.trans h)
  · exact State.netRound_pins s h

/-! ### What follows a command -/

@[simp] theorem State.walkEvent_pins (s : State) (x : Xfer) (cause lvl : Nat) : (s.walkEvent x cause lvl).pins = s.pins := by
  simp only [State.walkEvent]
  split <;> simp

@[simp] theorem State.sqFetched_pins (s : State) (x : Xfer) (c n tries : Nat) (e : XferEnd) : (s.sqFetched x c n tries e).pins = s.pins := by
  simp only [State.sqFetched]
  (repeat' split) <;> simp

@[simp] theorem State.cqeEnded_pins (s : State) (c : Nat) (e : XferEnd) : (s.cqeEnded c e).pins = s.pins := by
  simp only [State.cqeEnded]
  split <;> simp

@[simp] theorem State.msgDataRead_pins (s : State) (qpn slot id : Nat) (e : XferEnd) : (s.msgDataRead qpn slot id e).pins = s.pins := by
  simp only [State.msgDataRead]
  (repeat' split) <;> simp

@[simp] theorem State.prepRead_pins (s : State) (c serial : Nat) (e : XferEnd) : (s.prepRead c serial e).pins = s.pins := by
  simp only [State.prepRead]
  split <;> simp

@[simp] theorem State.prepSeg_pins (s : State) (c serial n : Nat) (e : XferEnd) : (s.prepSeg c serial n e).pins = s.pins := by
  simp only [State.prepSeg]
  split <;> simp

@[simp] theorem State.placeEnded_pins (s : State) (qpn slot psn : Nat) (e : XferEnd) : (s.placeEnded qpn slot psn e).pins = s.pins := by
  simp only [State.placeEnded]
  (repeat' split) <;> simp

@[simp] theorem State.windowEnded_pins (s : State) (qpn slot psn : Nat) (e : XferEnd) : (s.windowEnded qpn slot psn e).pins = s.pins := by
  simp only [State.windowEnded]
  split <;> simp

@[simp] theorem State.staged_pins (s : State) (c id off len qpn slot psn : Nat) (e : XferEnd) :
    (s.staged c id off len qpn slot psn e).pins = s.pins := by
  simp only [State.staged]
  split <;> simp

@[simp] theorem State.copyOver_pins (s : State) (c id code : Nat) : (s.copyOver c id code).pins = s.pins := by simp [State.copyOver]

@[simp] theorem State.poolRead_pins (s : State) (c id off : Nat) (e : XferEnd) : (s.poolRead c id off e).pins = s.pins := by
  simp only [State.poolRead]
  (repeat' split) <;> simp

@[simp] theorem State.poolCopied_pins (s : State) (c id : Nat) (e : XferEnd) : (s.poolCopied c id e).pins = s.pins := by simp [State.poolCopied]

@[simp] theorem State.getRead_pins (s : State) (qpn slot psn retry : Nat) (e : XferEnd) : (s.getRead qpn slot psn retry e).pins = s.pins := by
  simp only [State.getRead]
  (repeat' split) <;> simp

@[simp] theorem State.getPlaced_pins (s : State) (qpn slot rpsn : Nat) (e : XferEnd) : (s.getPlaced qpn slot rpsn e).pins = s.pins := by
  simp only [State.getPlaced]
  (repeat' split) <;> simp

@[simp] theorem State.remoteAtomicEnded_pins (s : State) (qpn slot psn : Nat) (e : XferEnd) : (s.remoteAtomicEnded qpn slot psn e).pins = s.pins := by
  simp only [State.remoteAtomicEnded]
  (repeat' split) <;> simp

@[simp] theorem State.localAtomicEnded_pins (s : State) (c serial : Nat) (e : XferEnd) : (s.localAtomicEnded c serial e).pins = s.pins := by
  simp only [State.localAtomicEnded]
  split <;> simp

@[simp] theorem State.spillEnded_pins (s : State) (qpn : Nat) (e : XferEnd) : (s.spillEnded qpn e).pins = s.pins := by
  unfold State.spillEnded
  (repeat' split) <;> simp [foldl_pins]

@[simp] theorem State.sweepEnded_pins (s : State) (x : Xfer) (e : XferEnd) : (s.sweepEnded x e).pins = s.pins := by
  simp only [State.sweepEnded]
  (repeat' split) <;> simp

@[simp] theorem State.bar4Ended_pins (s : State) (e : Nat) (x : Xfer) (r : XferEnd) : (s.bar4Ended e x r).pins = s.pins := by
  simp only [State.bar4Ended]
  (repeat' split) <;> simp

@[simp] theorem State.resume_pins (s : State) (x : Xfer) (e : XferEnd) : (s.resume x e).pins = s.pins := by
  simp only [State.resume]
  (repeat' split) <;> simp

@[simp] theorem State.stopModule_pins (s : State) (src : Nat) : (s.stopModule src).pins = s.pins := by simp [State.stopModule]

@[simp] theorem State.contain_pins (s : State) (d : Due) : (s.contain d).pins = s.pins := by
  simp only [State.contain]
  (repeat' split) <;> simp

@[simp] theorem State.settleN_pins (s : State) (fuel : Nat) : (s.settleN fuel).pins = s.pins := by
  induction fuel generalizing s with
  | zero => rfl
  | succ n ih =>
    simp only [State.settleN]
    split
    · rw [ih]
      simp
    · split
      · rw [ih]
        simp
      · split
        · next t hstep => rw [ih, State.netStep_pins s hstep]
        · split <;> simp [ih]

end Sys2Proof.Machine
end

section
/-! PROOFS. The refutation of what is said of MOD_RESET_N held low (R493): device reset drops PPS_OUT with the rest of the die, and the statement keeps
every pin but MOD_RESET_N. -/
namespace Sys2Proof.Machine

@[simp] theorem State.portSync_pins (s : State) (p : Nat) : (s.portSync p).pins = s.pins := ((s.portSync_port p).only .pins).resolve_left (by decide)

/-- What a command sets off never moves a pin. -/
@[simp] theorem State.settle_pins (s : State) : s.settle.pins = s.pins := by
  rw [State.settle_eq]
  exact (foldl_pins State.portSync_pins _ _).trans (State.settleN_pins _ _)

/-- The module after reset, in the middle of a pulse at PPS_OUT. -/
def pulsing : State := { State.reset with pins := { State.reset.pins with ppsOut := true } }

/-- That module with MOD_RESET_N low. -/
def pulsingHeld : State := { pulsing with pins := { pulsing.pins with modReset := true } }

theorem exec_modResetAssert_pulsing : exec (.modResetAssert 11) pulsing = .next pulsingHeld.enterReset.settle := rfl

/-- Refutes O6: 11 µs of MOD_RESET_N low in the middle of a pulse at PPS_OUT end the pulse with the device reset. -/
theorem not_powerAndDeviceReset : ¬ Obligations.PowerAndDeviceReset := by
  unfold Obligations.PowerAndDeviceReset
  rintro ⟨-, h, -⟩
  obtain ⟨u, hgives, -, hpins, -⟩ := (h 11 pulsing).1 (by decide) rfl rfl
  have hsettled : pulsingHeld.enterReset.settle = u.settle := by
    injection exec_modResetAssert_pulsing.symm.trans hgives
  have hsame : pulsingHeld.enterReset.pins = u.pins := by
    rw [← State.settle_pins, hsettled, State.settle_pins]
  obtain ⟨-, hdropped, -⟩ := (pulsingHeld.enterReset_spec rfl).1.kept
  rw [hdropped, hpins] at hsame
  exact absurd (congrArg Pins.ppsOut hsame) (by decide)

end Sys2Proof.Machine
end
